-- ==== Sys2Proof/Word.lean ====
section
/-! DEFINITION. The plain words of the model and the type of a sparse map: a list of key and value pairs with
the keys strictly rising. -/

namespace Sys2Proof

abbrev Byte := BitVec 8
abbrev W16 := BitVec 16
abbrev W32 := BitVec 32
abbrev W64 := BitVec 64

/-- Sparse data by key; its operations stand in Machine/SparseMap.lean. -/
abbrev SMap (α : Type) := List (Nat × α)

end Sys2Proof
end

