-- ==== Sys2Proof/Syntax.lean ====
section
/-! DEFINITION. The commands of the block: one constructor of Instr for each row of spec/opcode_table.json, with the
operands the row's rules give it. A core instruction carries the fields of its instruction word (04 R99 to R125),
its reserved bits included; an event carries what the event measured; a host command carries its body's fields. -/

namespace Sys2Proof

/-! ### Who and where -/

abbrev CoreId := Fin 576
abbrev ClusterId := Fin 48
abbrev IslandId := Fin 12

/-- A supply rail that can dip: of a cluster region, or of an island's transit or lagoon domain (12 R345, R346). -/
inductive Rail where
  | region (c : ClusterId)
  | transit (i : IslandId)
  | lagoon (i : IslandId)
  deriving DecidableEq, Repr
abbrev NodeId := Fin 48
abbrev StackId := Fin 16
abbrev ChannelId := Fin 32
abbrev EngineId := Fin 24
abbrev PartId := Fin 48
abbrev Reg := Fin 32

/-- A unit with an issue queue (02 R63, 04 R101). -/
inductive QueueId where
  | matrix | vector | ferry0 | ferry1 | sync
  deriving DecidableEq, Repr

/-! ### Core instruction fields -/

/-- Fields of a scalar word (04 R123): IMM32, RS2, RS1, RD; `rsv` holds the reserved bits 31 and 7. -/
structure ScalarF where
  core : CoreId
  rd : Reg
  rs1 : Reg
  rs2 : Reg
  imm : W32
  rsv : BitVec 2
  deriving DecidableEq, Repr

/-- Fields of a vector word (04 R123); `rsv` is bit 7. -/
structure VectorF where
  core : CoreId
  vd : Reg
  vs1 : Reg
  vs2 : Reg
  vs3 : Reg
  rs : Reg
  imm : BitVec 12
  stream : BitVec 4
  fmt : BitVec 4
  round : BitVec 3
  rsv : BitVec 1
  deriving DecidableEq, Repr

/-- The matrix head word (04 R102); `rsv` holds bits 63 to 29. -/
structure MatrixHead where
  core : CoreId
  sigToken : Reg
  sigEn : Bool
  stream : BitVec 4
  round : BitVec 3
  fmtB : BitVec 4
  fmtA : BitVec 4
  rsv : BitVec 35
  deriving DecidableEq, Repr

/-- A matrix part word (04 R103); `rsv` holds bits 63 to 37. -/
structure MatrixPart where
  rd : Reg
  ledgerSlot : BitVec 6
  ledgerEn : Bool
  drainLayout : Bool
  drainRound : BitVec 3
  drainFmt : BitVec 4
  drain : Bool
  carry : Bool
  bank : Bool
  srcB : BitVec 2
  srcA : BitVec 2
  rb : Reg
  ra : Reg
  rsv : BitVec 27
  deriving DecidableEq, Repr

/-- The two words of a ferry instruction (04 R110) but OP; `rsv0` is word 0 [63:48], `rsv1` word 1 [63:21]. -/
structure FerryF where
  core : CoreId
  inbox : BitVec 3
  rn : Reg
  rr : Reg
  rl : Reg
  rsigToken : Reg
  rsigEn : Bool
  sigToken : Reg
  sigEn : Bool
  redOp : BitVec 3
  conv : BitVec 2
  svc : Bool
  port : Bool
  rsv0 : BitVec 16
  rowsM1 : W16
  rs : Reg
  rsv1 : BitVec 43
  deriving DecidableEq, Repr

/-- What an instruction met beside its own beats: quadrant-beats of each class (02 R58) since the core's last report, feed bubbles beyond
those that the operand port's width causes (R56), and the bank-beats that its requests lost (05 R133). Timing that the events
carry. -/
structure Beats where
  conflict : Nat := 0
  feed : Nat := 0
  drain : Nat := 0
  power : Nat := 0
  dummy : Nat := 0
  stopped : Nat := 0
  deriving DecidableEq, Repr

/-! ### Packets -/

/-- A mesh packet (07 R185): the header's fields and the payload. -/
structure MeshPkt where
  addr : W64
  dest : W16
  src : W16
  typ : Byte
  flags : Byte
  seq : W32
  part : W16
  status : W16
  turn : W64
  payload : List Byte
  deriving DecidableEq, Repr

/-- A strait packet (09 R243): the header's fields and the data. -/
structure StraitPkt where
  addr : W64
  destSeat : Byte
  srcSeat : Byte
  typ : Byte
  flags : Byte
  groupId : W32
  seq : W32
  status : W16
  turn : W64
  data : List Byte
  deriving DecidableEq, Repr

/-- A flit (09 R237): KIND, FLAGS, SEQ, ACK, LENGTH, its valid payload bytes, and CRC. -/
structure Flit where
  kind : Byte
  flags : Byte
  seq : W16
  ack : W16
  length : W16
  payload : List Byte
  crc : W64
  deriving DecidableEq, Repr

/-- A word found in error by a scrub: its index in the line, how many bits are wrong (05 R142), and whether its
address fold bit disagrees (06 R161, HBM alone). -/
structure Upset where
  word : Nat
  bits : Nat
  fold : Bool := false
  deriving DecidableEq, Repr

/-! ### Host commands -/

/-- What every command message carries (10 R276, R277): its session, its MSG_SEQ, and whether its length or a
reserved field is wrong (10 R278). -/
structure HostReq where
  sid : W64
  seq : W64
  malformed : Bool
  deriving DecidableEq, Repr

/-- HOST_AUTH (10 R272) but its resume fields; `sigValid` says that its signature verifies (14 R416). -/
structure HostAuth where
  version : W16
  secondAddr : Option (BitVec 128 × W16)
  leaseS : W32
  retentionS : W32
  features : W64
  keyId : W64
  signature : List Byte
  sigValid : Bool
  deriving DecidableEq, Repr

/-- START_JOB's body (10 R280). -/
structure StartJobBody where
  partition : W16
  doubles : Bool
  group : Bool
  commitInterval : W64
  turns : W64
  groupId : W32
  groupMap : W64
  straitQueue : W64
  seed : List Byte
  deriving DecidableEq, Repr

/-- An inbox of a drained snapshot's rank (08 R220, 13 R388): its slots in ring order, a full one with its sender's rank, its
source word and its contents. -/
structure HostInbox where
  inbox : Fin 8
  base : Nat
  slotWords : Nat
  nextTake : Nat
  nextFree : Nat
  slots : List (Option (Nat × Nat × List Byte))
  deriving DecidableEq, Repr

/-- A drained snapshot that stands at the host (13 R392, R393): what its header and stream record say and whether
both signatures and the content digest verify. `pages` are its HBM bytes by offset from PART_HBM_BASE, `lagoon` its
lagoon bytes by device address; by rank stand the bytes of its carried ranges in the order of 08 R212 with the ledger area
first, its registers, its next entry, its live banks with their carry area, and its inboxes. -/
structure HostSnapshot where
  signaturesOk : Bool
  imageDigest : List Byte
  hbmBytes : W64
  doubles : Bool
  ledgerVersionsOk : Bool
  jobId : W64
  dataTurn : W64
  placementEpoch : W32
  streamJobId : W64
  streamTurn : W64
  keys : List (List Byte)
  pages : SMap Byte
  lagoon : SMap Byte
  carried : SMap (List Byte)
  regs : SMap (List W64)
  entries : SMap (BitVec 21)
  banks : SMap (BitVec 2 × Nat)
  inboxes : SMap (List HostInbox)
  deriving DecidableEq, Repr

/-- RESTORE's body (10 R281). -/
structure RestoreBody where
  partition : W16
  rebase : Bool
  fromHost : Option HostSnapshot
  layout : Byte
  snapshotId : W64
  dataTurn : W64
  streamTurn : W64
  qp : W32
  rkey : W32
  remoteAddr : W64
  groupId : W32
  groupMap : W64
  deriving DecidableEq, Repr

/-! ### Configuration memory objects -/

/-- A host key of the Morrik image (11 R326). -/
structure HostKey where
  keyId : W64
  tenant : W16
  operator : Bool
  featureMask : W64
  partitionMask : W64
  deriving DecidableEq, Repr

/-- A sub-port entry of the Morrik image (11 R324). -/
structure SubPortCfg where
  mac : BitVec 48
  prefix6 : Byte
  prefix4 : Byte
  ipv6 : BitVec 128
  ipv4 : W32
  deriving DecidableEq, Repr

/-- A seat entry of the Morrik image (11 R325). -/
structure SeatCfg where
  seat : Byte
  valid : Bool
  eligible : Bool
  serial : BitVec 128
  deriving DecidableEq, Repr

/-- A Morrik image as the module reads it (11 R321 to R326). `signerDigest` is SHAKE256 of SIGNER_PK (R327 check 2),
`sigValid` says that its signature verifies (check 3), `reservedZero` that every reserved byte is zero. -/
structure MorrikImage where
  magic : W32
  formatVersion : W16
  productCode : W16
  version : W64
  serial : BitVec 128
  imageSize : W32
  signerDigest : BitVec 256
  sigValid : Bool
  reservedZero : Bool
  coolingClass : Byte
  hbmMode : Byte
  defaultLayout : Byte
  layoutCount : Byte
  capPriority : List Byte
  operatorCapW : W16
  portMode : List Byte
  udpPort : W16
  vlanId : W16
  dscpCauseway : Byte
  dscpRoce : Byte
  pfcPriority : Byte
  topology : Byte
  archN : Byte
  torusA : Byte
  torusB : Byte
  seat : Byte
  layouts : List (List Byte)
  subPorts : List SubPortCfg
  seats : List SeatCfg
  hostKeys : List HostKey
  digest : BitVec 256
  deriving DecidableEq, Repr

/-- A firmware image (14 R406); `signerDigest`, `sigValid` and `sectionsOk` stand for checks 3, 4 and 5 of R407. -/
structure FwImage where
  magic : W32
  formatVersion : W16
  productCode : W16
  kind : Byte
  version : W64
  minPeer : W64
  size : W32
  signerDigest : BitVec 256
  sigValid : Bool
  sectionsOk : Bool
  digest : BitVec 256
  deriving DecidableEq, Repr

/-- What a staging pulled (11 R331, 14 R420): nothing when the pull could not complete. -/
inductive StagedObject where
  | none
  | image (m : MorrikImage)
  | firmware (f : FwImage)
  deriving DecidableEq, Repr

/-- One slot's result in a roll test (13 R385): its digest and its residue mismatches. -/
structure SlotResult where
  slot : Fin 14
  digest : Nat
  residueFails : Nat
  deriving DecidableEq, Repr

/-- What bring-up found on one island (11 R310, R311): slots and wires newly bad, phases failing. -/
structure IslandFindings where
  island : IslandId
  badSlots : List (Fin 4 × Fin 14)
  wires : List (NodeId × Fin 8 × Bool × Bool × Fin 32 × Fin 130)
  lostPhases : List (Fin 8 × Fin 12)
  failed : Bool
  deriving DecidableEq, Repr

/-- The measured demands of a cap share (12 R354), in W, by consumer code. -/
structure Demands where
  assured : Nat
  hbm : Nat
  compute : Nat
  bulk : Nat
  fixed : Nat
  inputW : Nat
  inputMv : Nat
  deriving DecidableEq, Repr

/-- What the members know of a job group (09 R253 to R256, 13 R398): reported TURNS by seat, durable notices by seat
with turn and digest, the last commit decided and whether its digests differed, snapshot requests, pace reports by
seat, the set point once there is one, this module's last pace report and the members that hold (R256). -/
structure Group where
  map : W64 := 0
  reports : List (Nat × W64) := []
  admitted : Bool := false
  durable : List (Nat × Nat × BitVec 128) := []
  decided : Option (Nat × Bool) := none
  snapAsked : List Nat := []
  pace : List (Nat × Nat) := []
  setPoint : Option Nat := none
  lastReport : Nat := 0
  held : List Nat := []
  deriving DecidableEq, Repr

/-- MEMBERSHIP notices (09 R247 to R258): a join, a leave, the master's new map and whether the seats it leaves out left as planned,
a group report (R253), an admission, a hold or an end (R256), the master's state at a handover (R248), and a descriptor that a
member refuses (R258). -/
inductive MemberNote where
  | join (seat : Fin 64)
  | leave (seat : Fin 64)
  | map (members : W64) (epoch : W16) (master deputy : Fin 64) (planned : Bool)
  | groupReport (seat : Fin 64) (group : W32) (groupMap : W64) (turns : W64)
  | groupAdmit (group : W32)
  | groupHeld (seat : Fin 64) (group : W32) (discarded : Bool)
  | handover (groups : List (W32 × Group))
  | refused (group : W32) (turn : W64) (status : W16)
  deriving DecidableEq, Repr

/-- COMMIT packets (09 R255): durable notices to the master, the master's commit, the copy to the deputy. -/
inductive CommitNote where
  | durable (seat : Fin 64) (group : W32) (map : W64) (turn : W64) (digest : BitVec 128)
  | commit (group : W32) (turn : W64) (mismatch : Bool)
  | decision (group : W32) (turn : W64) (mismatch : Bool) (map : W64)
  | snapshotPoint (group : W32) (turn : W64)
  | snapshotRequest (seat : Fin 64) (group : W32)
  deriving DecidableEq, Repr

/-- The block's commands: one constructor per row of spec/opcode_table.json, in the table's order. -/
inductive Instr where
  -- scalar (04 R124)
  | add (f : ScalarF) | sub (f : ScalarF) | mul (f : ScalarF) | and (f : ScalarF) | or (f : ScalarF)
  | xor (f : ScalarF) | shl (f : ScalarF) | shr (f : ScalarF) | sar (f : ScalarF) | slt (f : ScalarF)
  | sltu (f : ScalarF)
  | addi (f : ScalarF) | subi (f : ScalarF) | muli (f : ScalarF) | andi (f : ScalarF) | ori (f : ScalarF)
  | xori (f : ScalarF) | shli (f : ScalarF) | shri (f : ScalarF) | sari (f : ScalarF) | slti (f : ScalarF)
  | sltui (f : ScalarF)
  | li (f : ScalarF) | lui (f : ScalarF) | ld (f : ScalarF) | st (f : ScalarF)
  | beq (f : ScalarF) | bne (f : ScalarF) | blt (f : ScalarF) | bge (f : ScalarF)
  | jmp (f : ScalarF) | jal (f : ScalarF) | jr (f : ScalarF) | rdspec (f : ScalarF)
  -- vector (04 R125, R477)
  | vadd (f : VectorF) | vsub (f : VectorF) | vmul (f : VectorF) | vfma (f : VectorF) | vmin (f : VectorF)
  | vmax (f : VectorF) | vabs (f : VectorF) | vneg (f : VectorF) | vcmpeq (f : VectorF) | vcmplt (f : VectorF)
  | vcmple (f : VectorF) | vsel (f : VectorF)
  | viadd (f : VectorF) | visub (f : VectorF) | vimul (f : VectorF) | viadds (f : VectorF) | visubs (f : VectorF)
  | viand (f : VectorF) | vior (f : VectorF) | vixor (f : VectorF)
  | vcvtFrom (f : VectorF) | vcvtTo (f : VectorF)
  | vrsum (f : VectorF) | vrmax (f : VectorF) | vrmin (f : VectorF)
  | vrcp (f : VectorF) | vrsqrt (f : VectorF) | vexp (f : VectorF) | vexp2 (f : VectorF) | vlog (f : VectorF)
  | vlog2 (f : VectorF)
  | vdraw (f : VectorF) | vdrop (f : VectorF) | vld (f : VectorF) | vst (f : VectorF)
  | vsplat (f : VectorF) | vmovs (f : VectorF)
  -- matrix (02, 04 R102 to R109)
  | matrixGanged (h : MatrixHead) (p : MatrixPart)
  | matrixApart (h : MatrixHead) (p0 p1 p2 p3 : MatrixPart)
  | matrixFinalise (core : CoreId) (mismatch : Bool) (beats : Beats)
  | drainComplete (core : CoreId)
  -- ferry (04 R110 to R116)
  | ferryGet (f : FerryF) | ferryPut (f : FerryF) | ferryPutReduce (f : FerryF) | ferryRelayPut (f : FerryF)
  | ferryTransferComplete (core : CoreId) (port : Bool)
  | relayCreditArrival (core : CoreId) (port : Bool)
  | reduceHoldAdmit (site : W16)
  -- synchronisation (04 R117)
  | wait (core : CoreId) (token : Reg) (count : W16) (rsv : W64)
  | waitSatisfied (core : CoreId)
  | signal (core : CoreId) (token : Reg) (count : W16) (rsv : W64)
  | signalRemote (core : CoreId) (token rs : Reg) (count : W16) (rsv : W64)
  | tokenTest (core : CoreId) (token rd : Reg) (rsv : W64)
  | tokenClear (core : CoreId) (token : Reg) (rsv : W64)
  | fence (core : CoreId) (units : BitVec 4) (rsv : W64)
  | fenceSatisfied (core : CoreId)
  | inboxOpen (core : CoreId) (inbox : Fin 8) (rs : Reg) (slotsM1 : BitVec 6) (sizeM1 : BitVec 10) (rsv : W64)
  | inboxTake (core : CoreId) (inbox : Fin 8) (rd : Reg) (rsv : W64)
  | inboxTakeSatisfied (core : CoreId)
  | inboxFree (core : CoreId) (inbox : Fin 8) (rsv : W64)
  | inboxClose (core : CoreId) (inbox : Fin 8) (rsv : W64)
  | inboxCloseSatisfied (core : CoreId)
  -- turn and control (04 R119)
  | turnBegin (core : CoreId) (opPoint : BitVec 4) (rsv : W64)
  | turnEnd (core : CoreId) (live : BitVec 2) (rc re : Reg) (rsv : W64)
  | phaseHintInstr (core : CoreId) (lead : Byte) (duration : W16) (load : BitVec 4) (rsv : W64)
  | ledgerOpen (core : CoreId) (slot : BitVec 6) (format : BitVec 4) (histLen : BitVec 5) (margin : BitVec 3)
      (auto : Bool) (appliedExp : Byte) (rsv : W64)
  | ledgerClose (core : CoreId) (slot : BitVec 6) (rsv : W64)
  -- core events
  | queuePlaceFreed (core : CoreId) (q : QueueId)
  | dummyGapExpiry (core : CoreId) (qbeats : Nat)
  | rampStep (core : CoreId) (qbeats : Nat)
  | livenessProbe (cluster : ClusterId)
  | livenessProbeTimeout (core : CoreId)
  | correctedRateExceeded (core : CoreId)
  -- turns and jobs
  | rankDurable (core : CoreId)
  | turnCommit (part : PartId)
  | turnOverrun (core : CoreId)
  | partRebuildDone (core : CoreId)
  | jobLoadDone (part : PartId)
  | backedFillDone (part : PartId) (region : Nat)
  | doublesCompare (part : PartId)
  | thirdCopyDone (part : PartId) (addrDigest dataDigest : BitVec 128)
  -- memory
  | scrubLine (addr : BitVec 48) (upsets : List Upset) (reserve : Option (Fin 14))
  | forcedScrub (addr : BitVec 48) (upsets : List Upset) (loser : Bool)
  | correctedWriteBack (addr : BitVec 48)
  | lagoonGranuleReload (addr : BitVec 48)
  -- mesh
  | meshReadReq (p : MeshPkt) | meshReadData (p : MeshPkt) | meshWrite (p : MeshPkt) | meshReduce (p : MeshPkt)
  | meshRelay (p : MeshPkt) | meshAck (p : MeshPkt) | meshStatus (p : MeshPkt) | meshToken (p : MeshPkt)
  | meshCredit (p : MeshPkt) | parityDelta (p : MeshPkt) | meshControl (p : MeshPkt)
  | linkCrcError (node : NodeId) (port : Fin 8) (half : Bool) (back : Fin 64)
  | wireTest (node : NodeId) (port : Fin 8) (half : Bool)
  | wireTestDone (node : NodeId) (port : Fin 8) (half : Bool) (failing : List (Fin 32 × Fin 130)) (pauseNs : W32)
  | routerHalfInternalError (node : NodeId) (half : Bool)
  | detourInstall (node : NodeId) (port : Fin 8) (half : Bool)
  | bulkResendTimeout (src dest : W16) (seq : W32)
  | assuredResendTimeout (src dest : W16) (seq : W32)
  | busyResend (src dest : W16) (seq : W32)
  | resettingRetry (src dest : W16) (seq : W32)
  -- HBM
  | hbmChannelRetrain (stack : StackId) (ch : ChannelId) (trigger : Fin 4)
  | hbmRetrainComplete (stack : StackId) (ok : Bool) (durationUs : W32)
  | hbmUncorrectableRateRetire (stack : StackId) (ch : ChannelId)
  | hbmStackFault (stack : StackId) (cause : Fin 3)
  | hbmTempRead (stack : StackId) (temp : Byte)
  | hbmPatrol (stack : StackId) (stripe : Nat) (upsets : List Upset)
  | hbmSelfRefreshEntry (stack : StackId)
  | hbmSelfRefreshExit (stack : StackId)
  | hbmClearDone (part : PartId)
  -- strait links and archipelago
  | flitCrcError (e : EngineId) (f : Flit)
  | linkControlFlit (e : EngineId) (missing : W16)
  | laneFailure (e : EngineId) (lane : Fin 9)
  | lanePauseEnd (e : EngineId)
  | engineLinkUp (e : EngineId) (peerSeat : Fin 64) (peerEngine : Fin 24) (serial : BitVec 128) (signed : Bool)
  | straitData (e : EngineId) (p : StraitPkt)
  | straitAck (e : EngineId) (p : StraitPkt)
  | straitReduce (e : EngineId) (p : StraitPkt)
  | membership (e : EngineId) (p : StraitPkt) (note : MemberNote)
  | paceTime (e : EngineId) (p : StraitPkt) (masterTime : W64) (otherHops : W64) (setPoints : List (W32 × W16))
  | paceReport (e : EngineId) (p : StraitPkt) (reports : List (W32 × W16))
  | straitCommit (e : EngineId) (p : StraitPkt) (note : CommitNote)
  | journalMirror (e : EngineId) (p : StraitPkt) (entry : List Byte)
  | mirrorAck (e : EngineId) (p : StraitPkt) (jseq : W64)
  | straitStatus (e : EngineId) (p : StraitPkt)
  | straitBulkResend (destSeat : Fin 64) (seq : W32)
  | straitAssuredResend (destSeat : Fin 64) (seq : W32)
  | paceReportTick
  | paceTimeTick
  | linkDelayMeasure (e : EngineId) (tenthsNs : W64)
  | joinElectionTimeout
  | memberLossTimeout (seat : Fin 64) (unheard : W64)
  | collectiveComplete (group : W32) (turn : W64) (slot : Byte) (status : W16)
  -- Causeway
  | datagramReceive (port : Fin 2) (sid msgSeq : W64) (kind : Byte) (fragIndex fragCount : W16) (secondCopy authOk : Bool)
      (data : List Byte)
  | fragmentTimeout (sid msgSeq : W64)
  | hello (port : Fin 2) (version : W16) (nonce : BitVec 256) (ek : List Byte)
  | hostAuth (hs : W64) (a : HostAuth)
  | hostAuthResume (hs : W64) (a : HostAuth) (resume : W64) (token : BitVec 256)
  | handshakeTimeout (hs : W64)
  | keepalive (r : HostReq)
  | closeSession (r : HostReq) (force : Bool)
  | counters (r : HostReq)
  | bindPartition (r : HostReq) (layout : Byte) (partition : W16) (hbmGib : W32)
  | unbindPartition (r : HostReq) (partition : W16)
  | loadImage (r : HostReq) (partition : W16) (qp : W32) (remoteAddr : W64) (rkey : W32) (length : W64)
  | loadImagePullDone (part : PartId) (image : Option (List Byte))
  | startJob (r : HostReq) (b : StartJobBody)
  | endJob (r : HostReq) (jobId : W64)
  | partitionReset (r : HostReq) (partition : W16) (clearHbm : Bool)
  | partitionResetDone (part : PartId)
  | jobStatus (r : HostReq) (partition : W16)
  | openQp (r : HostReq) (port subport : Byte) (hostQpn : W32) (hostGid : BitVec 128) (hostPsn : W32)
  | closeQp (r : HostReq) (qpn : W32)
  | journalRead (r : HostReq) (fromSeq : W64) (max : W16) (mirror : Bool) (seat : Byte)
  | snapshot (r : HostReq) (partition : W16) (drain : Bool) (qp : W32) (remoteAddr : W64) (rkey : W32) (maxBytes : W64)
  | snapshotCopyDone (part : PartId) (uncorrectable : Bool) (pauseUs copyUs : W32)
  | drainPageAck (part : PartId) (bytes : W64) (last refused : Bool)
  | drainQpWaitTimeout (part : PartId)
  | groupSnapshotTimeout (part : PartId)
  | restore (r : HostReq) (b : RestoreBody)
  | restoreDataDone (part : PartId) (status : W16)
  | rollTest (r : HostReq) (clusters : W64)
  | rollTestClusterDone (cluster : ClusterId) (results again : List SlotResult) (durationUs : W32)
  | attest (r : HostReq) (nonce : BitVec 256)
  | registerRead (r : HostReq) (addrs : List W64)
  | phaseHint (r : HostReq) (partition : W16) (leadUs : W16) (durationUs : W32) (load : Byte)
  | stageUpdateImage (r : HostReq) (qp : W32) (remoteAddr : W64) (rkey : W32) (length : W64)
  | stageUpdateOpfw (r : HostReq) (qp : W32) (remoteAddr : W64) (rkey : W32) (length : W64)
  | stageUpdateTf (r : HostReq) (qp : W32) (remoteAddr : W64) (rkey : W32) (length : W64)
  | stagingPullDone (o : StagedObject)
  | rdmaWriteRequest (qpn rkey : W32) (addr : W64) (data : List Byte)
  | rdmaReadRequest (qpn rkey : W32) (addr : W64) (length : Nat)
  | cnpReceive (qpn : W32)
  | pfcPauseFrame (port : Fin 2) (priority : Fin 8) (quanta : W16)
  | arpRequest (port : Fin 2) (sub : Fin 4) (ipv4 : W32)
  | neighbourSolicitation (port : Fin 2) (sub : Fin 4) (ipv6 : BitVec 128)
  | icmpEchoRequest (port : Fin 2) (sub : Fin 4) (ip : BitVec 128) (payload : List Byte)
  | ptpMessage (port : Fin 2) (sub : Fin 4) (offsetNs : W64)
  | leaseExpiry (sid : W64)
  | retentionExpiry (sid : W64)
  | subportLoss (port : Fin 2) (sub : Fin 4) (fecCause : Bool)
  | subportReturn (port : Fin 2) (sub : Fin 4)
  -- start
  | inputApplied (mv : W32)
  | prechargeDone (bankMv us : W32)
  | inputOutOfRange (mv : W32)
  | stage0End (railMv : W32) (ok : Bool)
  | stage1Firmware (failedPair : Option (Fin 3))
  | stage2Image
  | islandWaveDone (found : List IslandFindings) (durationMs : W16)
  | hbmTrainingDone (failedChannels : List (StackId × ChannelId)) (lostStacks : List StackId)
  | coolingCheck (baselineMilliC pulseMilliC : Nat) (drifted : Bool)
  | hostLinkUpDone (up : Byte) (failingLanes : W16)
  | stageLimitExpiry
  | joinDone (members : W64) (epoch : W16) (master deputy : Fin 64) (masterTime : W64) (engines : BitVec 24)
  | ready (startMs : W32)
  | modResetAssert (lowUs : Nat)
  | modResetRelease
  | latchOpenAssert (heldUs : Nat)
  | removalWritesDone
  | presentBreak
  | sidebandAddressAssign (setdasa : Bool) (addr : BitVec 7)
  | pldmSensorUpdate (lidTemp : Byte)
  | enterStandbyEffecter
  | leaveStandbyEffecter
  | vendorRegisterRead (kind : Byte) (addr : W64)
  | vendorRegisterWrite (kind : Byte) (addr value : W64)
  | registerWrite (addr value : W64)
  -- power and heat
  | phaseFailure (island : IslandId) (domain : Fin 7) (phase : Fin 12)
  | sectorPhaseFailure (island : IslandId) (phase : Fin 4)
  | dipWarning (rail : Rail) (railMv : W16)
  | dipRecovery (rail : Rail) (durationNs : W32) (lowestMv : W16)
  | dipBubbleRelease (c : ClusterId)
  | dipResetLevel (c : ClusterId) (durationNs : W32) (lowestMv : W16)
  | regionOvercurrent (c : ClusterId) (deciAmp : W16)
  | overcurrentRelease (c : ClusterId)
  | overcurrentTrip (c : ClusterId) (hottest : Fin 14)
  | sectorLimit (i : IslandId) (deciAmp : W16)
  | sectorLimitRelease (i : IslandId)
  | junctionSensorRead (c : ClusterId) (transit : Bool) (temp : Byte)
  | throttleRecompute
  | shedRelease (c : ClusterId)
  | capShareTick (d : Demands)
  | capOpPointStep
  | capBackstop (inputW : W16)
  | capBackstopRelease
  | opPointSlewDone (c : ClusterId)
  | wakeRequest (c : ClusterId)
  | wakeHeadroomTimeout (c : ClusterId) (deciAmp : W16)
  | wakeHeaderStage (c : ClusterId)
  | wakeSettled (c : ClusterId)
  | hintPrepare (c : ClusterId)
  | hintDummyRamp (c : ClusterId)
  | hintExpiry (c : ClusterId)
  | pmWatchdogExpiry
  | pmRestartDone
  -- firmware
  | securityWatchdogExpiry
  | schedulerWatchdogExpiry
  | schedulerRestartDone (durationUs : W32)
  | cccWatchdogExpiry (c : ClusterId)
  | lockstepMismatch (pair : Fin 3)
  | logAppendRequest (unit : W64) (source : Byte) (event : W16)
  | logHeadWritten
  | clusterResetDone (c : ClusterId)
  -- low power
  | dozeEntry (c : ClusterId)
  | lagoonRetentionEntry (i : IslandId)
  | lagoonRetentionExit (i : IslandId)
  | harbourEntry
  | harbourExit
  | harbourStackIdle (stack : StackId)
  | standbyExit (up : Byte)
  -- chassis, added rows of the table
  | presentMake
  | latchOpenRelease
  | inputReturnsToRange (mv : W32)
  | mirrorWaitExpiry
  | roceLocalAckTimeout (qpn : W32)
  deriving DecidableEq, Repr

end Sys2Proof
end

