-- ==== Sys2Proof/Decode.lean ====
section
/-! DEFINITION. The command that a word spells by the bits of spec/opcode_table.json, which gives no row any bits; and the core
instruction that words of a core store spell (04 R99 to R125). -/

namespace Sys2Proof

/-- No row of the table has bits: a word spells no command. -/
def decodeTableWord (_nbits _w : Nat) : Option Instr := none

/-! ### Fields of a word -/

/-- n bits of a word from bit lo up. -/
def bitsAt (w : W64) (lo n : Nat) : BitVec n := w.extractLsb' lo n

/-- A register or token number. -/
def regAt (w : W64) (lo : Nat) : Reg := (bitsAt w lo 5).toFin

/-- One bit. -/
def flagAt (w : W64) (i : Nat) : Bool := w.getLsbD i

/-- What is left of a word without fields given by their low bit and width. -/
def without (w : W64) (fields : List (Nat × Nat)) : W64 :=
  fields.foldl (fun v f => v &&& ~~~(BitVec.ofNat 64 ((2 ^ f.2 - 1) * 2 ^ f.1))) w

/-- The reserved bits of a synchronisation or turn-and-control word: all but CLASS, EXT, OP and the fields of its operation (R117,
R119). -/
def spareBits (w : W64) (fields : List (Nat × Nat)) : W64 := without w ([(0, 7), (8, 8)] ++ fields)

/-! ### Scalar and vector words (R123 to R125) -/

def scalarFields (L : CoreId) (w : W64) : ScalarF :=
  { core := L, rd := regAt w 16, rs1 := regAt w 21, rs2 := regAt w 26, imm := bitsAt w 32 32, rsv := bitsAt w 31 1 ++ bitsAt w 7 1 }

/-- The scalar operation of an OP (R124). -/
def scalarOp (op : Nat) : Option (ScalarF → Instr) :=
  match op with
  | 0x01 => some .add | 0x02 => some .sub | 0x03 => some .mul | 0x04 => some .and | 0x05 => some .or | 0x06 => some .xor
  | 0x07 => some .shl | 0x08 => some .shr | 0x09 => some .sar | 0x0A => some .slt | 0x0B => some .sltu
  | 0x11 => some .addi | 0x12 => some .subi | 0x13 => some .muli | 0x14 => some .andi | 0x15 => some .ori | 0x16 => some .xori
  | 0x17 => some .shli | 0x18 => some .shri | 0x19 => some .sari | 0x1A => some .slti | 0x1B => some .sltui
  | 0x20 => some .li | 0x21 => some .lui | 0x30 => some .ld | 0x31 => some .st
  | 0x40 => some .beq | 0x41 => some .bne | 0x42 => some .blt | 0x43 => some .bge
  | 0x44 => some .jmp | 0x45 => some .jal | 0x46 => some .jr | 0x50 => some .rdspec
  | _ => none

def vectorFields (L : CoreId) (w : W64) : VectorF :=
  { core := L, vd := regAt w 16, vs1 := regAt w 21, vs2 := regAt w 26, vs3 := regAt w 31, rs := regAt w 47, imm := bitsAt w 52 12
    stream := bitsAt w 43 4, fmt := bitsAt w 39 4, round := bitsAt w 36 3, rsv := bitsAt w 7 1 }

/-- The vector operation of an OP (R125). -/
def vectorOp (op : Nat) : Option (VectorF → Instr) :=
  match op with
  | 0x01 => some .vadd | 0x02 => some .vsub | 0x03 => some .vmul | 0x04 => some .vfma | 0x05 => some .vmin | 0x06 => some .vmax
  | 0x07 => some .vabs | 0x08 => some .vneg | 0x09 => some .vcmpeq | 0x0A => some .vcmplt | 0x0B => some .vcmple | 0x0C => some .vsel
  | 0x11 => some .viadd | 0x12 => some .visub | 0x13 => some .vimul | 0x14 => some .viadds | 0x15 => some .visubs
  | 0x16 => some .viand | 0x17 => some .vior | 0x18 => some .vixor | 0x20 => some .vcvtFrom | 0x21 => some .vcvtTo
  | 0x30 => some .vrsum | 0x31 => some .vrmax | 0x32 => some .vrmin | 0x38 => some .vrcp | 0x39 => some .vrsqrt | 0x3A => some .vexp
  | 0x3B => some .vexp2 | 0x3C => some .vlog | 0x3D => some .vlog2 | 0x40 => some .vdraw | 0x41 => some .vdrop
  | 0x50 => some .vld | 0x51 => some .vst | 0x60 => some .vsplat | 0x61 => some .vmovs
  | _ => none

/-! ### Matrix words (R102, R103) -/

def matrixHead (L : CoreId) (w : W64) : MatrixHead :=
  { core := L, sigToken := regAt w 24, sigEn := flagAt w 23, stream := bitsAt w 19 4, round := bitsAt w 16 3, fmtB := bitsAt w 12 4
    fmtA := bitsAt w 8 4, rsv := bitsAt w 29 35 }

def matrixPart (w : W64) : MatrixPart :=
  { rd := regAt w 32, ledgerSlot := bitsAt w 26 6, ledgerEn := flagAt w 25, drainLayout := flagAt w 24, drainRound := bitsAt w 21 3
    drainFmt := bitsAt w 17 4, drain := flagAt w 16, carry := flagAt w 15, bank := flagAt w 14, srcB := bitsAt w 12 2
    srcA := bitsAt w 10 2, rb := regAt w 5, ra := regAt w 0, rsv := bitsAt w 37 27 }

/-- MODE 0 goes with EXT 1 and one part word, MODE 1 with EXT 4 and four. -/
def decodeMatrix (L : CoreId) (w : Nat → W64) : Option Instr :=
  match flagAt (w 0) 7, (bitsAt (w 0) 4 3).toNat with
  | false, 1 => some (.matrixGanged (matrixHead L (w 0)) (matrixPart (w 1)))
  | true, 4 => some (.matrixApart (matrixHead L (w 0)) (matrixPart (w 1)) (matrixPart (w 2)) (matrixPart (w 3)) (matrixPart (w 4)))
  | _, _ => none

/-! ### Ferry words (R110) -/

def ferryFields (L : CoreId) (a b : W64) : FerryF :=
  { core := L, inbox := bitsAt a 45 3, rn := regAt a 40, rr := regAt a 35, rl := regAt a 30, rsigToken := regAt a 25
    rsigEn := flagAt a 24, sigToken := regAt a 19, sigEn := flagAt a 18, redOp := bitsAt a 15 3, conv := bitsAt a 13 2
    svc := flagAt a 12, port := flagAt a 7, rsv0 := bitsAt a 48 16, rowsM1 := bitsAt b 5 16, rs := regAt b 0, rsv1 := bitsAt b 21 43 }

/-- OP of a ferry instruction is bits [11:8]. -/
def decodeFerry (L : CoreId) (w : Nat → W64) : Option Instr :=
  let f := ferryFields L (w 0) (w 1)
  match (bitsAt (w 0) 8 4).toNat with
  | 0 => some (.ferryGet f)
  | 1 => some (.ferryPut f)
  | 2 => some (.ferryPutReduce f)
  | 3 => some (.ferryRelayPut f)
  | _ => none

/-! ### Synchronisation, turn and control words (R117, R119) -/

def decodeSync (L : CoreId) (w : W64) : Option Instr :=
  let token := regAt w 16
  let inbox : Fin 8 := (bitsAt w 16 3).toFin
  match (bitsAt w 8 8).toNat with
  | 0x01 => some (.wait L token (bitsAt w 32 16) (spareBits w [(16, 5), (32, 16)]))
  | 0x02 => some (.signal L token (bitsAt w 32 16) (spareBits w [(16, 5), (32, 16)]))
  | 0x03 => some (.signalRemote L token (regAt w 21) (bitsAt w 32 16) (spareBits w [(16, 5), (21, 5), (32, 16)]))
  | 0x04 => some (.tokenTest L token (regAt w 26) (spareBits w [(16, 5), (26, 5)]))
  | 0x05 => some (.tokenClear L token (spareBits w [(16, 5)]))
  | 0x06 => some (.fence L (bitsAt w 48 4) (spareBits w [(48, 4)]))
  | 0x10 => some (.inboxOpen L inbox (regAt w 21) (bitsAt w 32 6) (bitsAt w 38 10) (spareBits w [(16, 3), (21, 5), (32, 6), (38, 10)]))
  | 0x11 => some (.inboxTake L inbox (regAt w 26) (spareBits w [(16, 3), (26, 5)]))
  | 0x12 => some (.inboxFree L inbox (spareBits w [(16, 3)]))
  | 0x13 => some (.inboxClose L inbox (spareBits w [(16, 3)]))
  | _ => none

def decodeTurn (L : CoreId) (w : W64) : Option Instr :=
  match (bitsAt w 8 8).toNat with
  | 0x01 => some (.turnBegin L (bitsAt w 16 4) (spareBits w [(16, 4)]))
  | 0x02 => some (.turnEnd L (bitsAt w 16 2) (regAt w 21) (regAt w 26) (spareBits w [(16, 2), (21, 5), (26, 5)]))
  | 0x04 => some (.phaseHintInstr L (bitsAt w 16 8) (bitsAt w 24 16) (bitsAt w 40 4) (spareBits w [(16, 8), (24, 16), (40, 4)]))
  | 0x05 =>
    some (.ledgerOpen L (bitsAt w 16 6) (bitsAt w 22 4) (bitsAt w 26 5) (bitsAt w 31 3) (flagAt w 34) (bitsAt w 40 8)
      (spareBits w [(16, 6), (22, 4), (26, 5), (31, 3), (34, 1), (40, 8)]))
  | 0x06 => some (.ledgerClose L (bitsAt w 16 6) (spareBits w [(16, 6)]))
  | _ => none

/-! ### An instruction (R99) -/

/-- The instruction of a core whose words are w 0, w 1, …; none for a reserved CLASS, an EXT that the class does not allow, or a
reserved OP. Reserved bits go with the instruction, whose meaning refuses them. -/
def decodeCore (L : CoreId) (w : Nat → W64) : Option Instr :=
  let op := (bitsAt (w 0) 8 8).toNat
  match (bitsAt (w 0) 0 4).toNat, (bitsAt (w 0) 4 3).toNat with
  | 0, 0 => (scalarOp op).map fun mk => mk (scalarFields L (w 0))
  | 1, 0 => (vectorOp op).map fun mk => mk (vectorFields L (w 0))
  | 2, _ => decodeMatrix L w
  | 3, 1 => decodeFerry L w
  | 4, 0 => decodeSync L (w 0)
  | 5, 0 => decodeTurn L (w 0)
  | _, _ => none

/-- Words of an instruction: one more than the EXT of its class. -/
def lengthOf (w : W64) : Nat := if bitsAt w 0 4 = 2 ∨ bitsAt w 0 4 = 3 then (bitsAt w 4 3).toNat + 1 else 1

end Sys2Proof
end

