-- ==== Sys2Proof/Config.lean ====
section
/-! DEFINITION. What the spec leaves open: the free values. Each is an opaque constant, so that a claim about the
model holds for every value of it. The step applies them to its own counter or to the operands. -/

namespace Sys2Proof.Config

/-- A fresh 64-bit value: session IDs, job and snapshot IDs, queue pair numbers, keys (10 R272, R280, 14 R417). Log 6. -/
opaque free64 : Nat → W64

/-- A fresh 256-bit value: nonces, tokens, seeds (10 R272, 14 R417). Log 6. -/
opaque free256 : Nat → BitVec 256

/-- What a read of a word with four or more bits in error does (05 R142): 0 detects it, 1 corrects it to a wrong
value, 2 passes it unseen. Log 15. -/
opaque manyBitOutcome : Nat → Fin 3

/-- The data of a word with four or more bits in error (05 R142). Log 15. -/
opaque manyBitData : Nat → W64

/-- Whether a MOD_RESET# pulse of 100 us to 1 ms starts a module reset (17 R470). Log 6. -/
opaque shortResetTaken : Nat → Bool

/-- Which of the results within 1 ulp a reciprocal takes (03 R89). Log 7. -/
opaque rcpPick : W32 → Fin 2

/-- Which of the results within 1 ulp a reciprocal square root takes (03 R89). Log 7. -/
opaque rsqrtPick : W32 → Fin 2

/-- The same for operation 0 (VRCP) and 1 (VRSQRT) where the true value is itself a number of the format. Log 7. -/
opaque pickExactOne : Nat → W32 → Fin 3

/-- Which of the results within 2 ulp an exponential or logarithm takes, by operation code (03 R89). Log 7. -/
opaque approxPick : Nat → W32 → Fin 4

/-- The same where the true value is itself a number of the format. Log 7. -/
opaque approxPickExact : Nat → W32 → Fin 5

/-- A reciprocal whose true value lies beyond the format: the spec states no result (03 R89). Log 7. -/
opaque rcpBeyond : W32 → W32

/-- The throttle, in 64ths less one, that brings a sector to 80 % of its rating for a wake: the currents that decide it
are measurements (12 R348). Log 6. -/
opaque headroomSteps : Nat → Fin 63

/-- b_cap in 64ths that an announced phase sets in advance where its load would exceed the compute grant, else 0: the
power of a load is a measurement (12 R357). Log 6. -/
opaque hintCap : Nat → Fin 57

/-- Word n of MODULE_PK, the identity key derived from the device secret (14 R415, R421). Log 5. -/
opaque modulePk : Fin 8 → W64

/-- DIE_ID of the fuse map (11 R315). Log 5. -/
opaque dieId : W64

/-- CHECK of the fuse map (11 R315). Log 5. -/
opaque fuseCheck : BitVec 256

/-- Version of the security core's ROM (14 R419). Log 5. -/
opaque romVersion : W32

/-- Where job and snapshot identities start (10 R280, 13 R389): the spec makes them unique and names no value. -/
opaque idBase : W64

/-- The CRC-64 of a flit's bytes 0x00 to 0xF7 (09 R237): the spec names no polynomial. Log 110. -/
opaque flitCrc : List Byte → W64

/-- The ML-KEM-1024 ciphertext that the module answers an encapsulation key with, at one draw of its randomness (10 R272). Log 6. -/
opaque kemCiphertext : Nat → List Byte → List Byte

/-- The shared secret of that encapsulation (10 R273). Log 6. -/
opaque kemSecret : Nat → List Byte → BitVec 256

end Sys2Proof.Config
end

