-- ==== Sys2Proof/Machine/Keccak.lean ====
section
/-! DEFINITION. SHAKE256 over byte strings, as the digests, fingerprints and stream keys of 03 R85, R96, 08 R211,
10 R291 and 13 R380 use it. The spec names the function; its definition is PRESUMED from the published standard
(FIPS 202). Log 9. -/

namespace Sys2Proof.Machine

def rotl64 (x : W64) (n : Nat) : W64 := x.rotateLeft n

/-- The 24 lane numbers (x + 5y) that the lane transposition takes in turn, from lane (1, 0) on: (x, y) to (y, 2x + 3y). -/
def piWalk (n : Nat) (lane : Nat) : List Nat :=
  match n with
  | 0 => []
  | k + 1 => lane :: piWalk k (lane / 5 + 5 * ((2 * (lane % 5) + 3 * (lane / 5)) % 5))

/-- The parity of a column, the five lanes of equal x. -/
def columnParity (a : List W64) (x : Nat) : W64 := ((List.range 5).map fun y => a.getD (x % 5 + 5 * y) 0).foldl (· ^^^ ·) 0

/-- Every lane takes the parities of two columns beside it. -/
def mixColumns (a : List W64) : List W64 :=
  let ps := (List.range 5).map (columnParity a)
  a.zipIdx.map fun e => e.1 ^^^ ps.getD ((e.2 + 4) % 5) 0 ^^^ rotl64 (ps.getD ((e.2 + 1) % 5) 0) 1

/-- The lanes of the walk move one place along it, the t-th turned by the triangular number of t. -/
def turnLanes (a : List W64) : List W64 :=
  let walk := piWalk 24 1
  let moved := walk.zipIdx.map fun e => (walk.getD ((e.2 + 1) % 24) 0, rotl64 (a.getD e.1 0) ((e.2 + 1) * (e.2 + 2) / 2 % 64))
  (List.range 25).map fun i => ((moved.find? fun m => m.1 == i).map Prod.snd).getD (a.getD i 0)

/-- The nonlinear step along each row. -/
def rowStep (a : List W64) : List W64 :=
  a.zipIdx.map fun e =>
    let lane := fun (k : Nat) => a.getD (e.2 / 5 * 5 + (e.2 + k) % 5) 0
    e.1 ^^^ (lane 2 &&& (lane 1 ^^^ BitVec.allOnes 64))

/-- One step of the byte-wide shift register with the polynomial x^8 + x^6 + x^5 + x^4 + 1. -/
def shiftRegister (r : Nat) : Nat := if r < 128 then 2 * r else (2 * r) % 256 ^^^ 0x71

/-- A round constant from the register's state at its start: bit j of seven goes to place 2^j - 1. -/
def roundWord (n r place : Nat) : Nat :=
  match n with
  | 0 => 0
  | k + 1 => r % 2 * 2 ^ (place - 1) + roundWord k (shiftRegister r) (2 * place)

/-- The register seven steps on. -/
def sevenSteps (r : Nat) : Nat := (List.range 7).foldl (fun x _ => shiftRegister x) r

/-- The permutation's rounds, with the register's state. -/
def keccakRounds (n r : Nat) (a : List W64) : List W64 :=
  match n with
  | 0 => a
  | k + 1 =>
    keccakRounds k (sevenSteps r)
      (match rowStep (turnLanes (mixColumns a)) with
       | [] => []
       | h :: t => (h ^^^ BitVec.ofNat 64 (roundWord 7 r 1)) :: t)

def keccakF (a : List W64) : List W64 := keccakRounds 24 1 a

/-- Eight bytes, little-endian, as a word. -/
def leWord (bs : List Byte) : W64 := BitVec.ofNat 64 (bs.foldr (fun b acc => b.toNat + 256 * acc) 0)

/-- The low `n` bytes of a number, little-endian. -/
def leBytes (n v : Nat) : List Byte :=
  match n with
  | 0 => []
  | k + 1 => BitVec.ofNat 8 v :: leBytes k (v / 256)

/-- The words of a block. -/
def wordsOf (n : Nat) (bs : List Byte) : List W64 :=
  match n with
  | 0 => []
  | k + 1 => leWord (bs.take 8) :: wordsOf k (bs.drop 8)

/-- The rate of SHAKE256 in bytes. -/
def shakeRate : Nat := 136

/-- The message with its suffix and padding, a whole number of blocks. -/
def shakePad (m : List Byte) : List Byte :=
  let z := shakeRate - 1 - m.length % shakeRate
  match z with
  | 0 => m ++ [0x9F]
  | k + 1 => m ++ [0x1F] ++ List.replicate k 0 ++ [0x80]

def absorb (n : Nat) (st : List W64) (m : List Byte) : List W64 :=
  match n with
  | 0 => st
  | k + 1 =>
    let ws := wordsOf 17 (m.take shakeRate)
    absorb k (keccakF ((List.range 25).map fun i => st.getD i 0 ^^^ ws.getD i 0)) (m.drop shakeRate)

/-- The first `n` bytes (at most one block's) of SHAKE256 over `m`. -/
def shake256 (m : List Byte) (n : Nat) : List Byte :=
  let p := shakePad m
  let st := absorb (p.length / shakeRate) (List.replicate 25 0) p
  ((st.take 17).foldr (fun w acc => leBytes 8 w.toNat ++ acc) []).take n

/-! ### Random draws (03 R86) -/

def mixRound (k : List W32) (x : W32 × W32 × W32 × W32) (r : Nat) : W32 × W32 × W32 × W32 :=
  let (x0, x1, x2, x3) := x
  let x0 := x0 + x1 + k.getD (r % 4) 0
  let x3 := (x3 ^^^ x0).rotateLeft 16
  let x2 := x2 + x3
  let x1 := (x1 ^^^ x2).rotateLeft 12
  let x0 := x0 + x1
  let x3 := (x3 ^^^ x0).rotateLeft 8
  let x2 := x2 + x3 + k.getD ((r + 1) % 4) 0
  let x1 := (x1 ^^^ x2).rotateLeft 7
  (x0, x1, x2, x3)

/-- The four little-endian words of a stream key. -/
def keyWords (key : List Byte) : List W32 :=
  (List.range 4).map fun i => BitVec.ofNat 32 (leWord ((key.drop (4 * i)).take 4)).toNat

/-- One draw: a pure function of where it occurs (03 R86, R87). -/
def draw (key : List Byte) (index core source stream : Nat) (ts : W64) : W32 :=
  let x1 := BitVec.ofNat 32 (core % 1024 + source % 4 * 1024 + stream % 16 * 4096)
  let x := (List.range 10).foldl (mixRound (keyWords key))
    (BitVec.ofNat 32 index, x1, BitVec.ofNat 32 ts.toNat, BitVec.ofNat 32 (ts.toNat / 2 ^ 32))
  x.1 ^^^ x.2.2.1

end Sys2Proof.Machine
end

