-- ==== Sys2Proof/Machine/SparseMap.lean ====
section
/-! DEFINITION. The operations of a sparse map (a list of key and value pairs, keys strictly rising), and of a run
of consecutive entries of it. A map that leaves out its default value is in ONE canonical form, so that equal contents
are equal data. -/

namespace Sys2Proof

/-- The value at key `k`, or `d` where the map lists none. -/
def SMap.getD {α : Type} (m : SMap α) (k : Nat) (d : α) : α :=
  match m with
  | [] => d
  | (a, v) :: t => if a = k then v else SMap.getD t k d

/-- The value at key `k`, if the map lists one. -/
def SMap.get? {α : Type} (m : SMap α) (k : Nat) : Option α :=
  match m with
  | [] => none
  | (a, v) :: t => if a = k then some v else SMap.get? t k

/-- The map with `v` at key `k`. -/
def SMap.put {α : Type} (m : SMap α) (k : Nat) (v : α) : SMap α :=
  match m with
  | [] => [(k, v)]
  | (a, w) :: t =>
    if k < a then (k, v) :: (a, w) :: t
    else if a = k then (k, v) :: t
    else (a, w) :: SMap.put t k v

/-- The map without key `k`. -/
def SMap.erase {α : Type} (m : SMap α) (k : Nat) : SMap α := m.filter fun p => p.1 ≠ k

/-- The map with `v` at key `k`, where the default `d` is never listed. -/
def SMap.set {α : Type} [DecidableEq α] (m : SMap α) (k : Nat) (v d : α) : SMap α :=
  if v = d then SMap.erase m k else SMap.put m k v

/-- The entries with keys in `lo` to `lo + len - 1`, rebased to key 0. -/
def SMap.slice {α : Type} (m : SMap α) (lo len : Nat) : SMap α :=
  (m.filter fun p => decide (lo ≤ p.1) && decide (p.1 < lo + len)).map fun p => (p.1 - lo, p.2)

/-- The entries with keys outside `lo` to `lo + len - 1`. -/
def SMap.clear {α : Type} (m : SMap α) (lo len : Nat) : SMap α :=
  m.filter fun p => decide (p.1 < lo) || decide (lo + len ≤ p.1)

/-- The map whose entries in `lo` to `lo + len - 1` are those of `es` (keys 0 to `len - 1`) moved up by `lo`. -/
def SMap.splice {α : Type} (m : SMap α) (lo len : Nat) (es : SMap α) : SMap α :=
  (m.filter fun p => decide (p.1 < lo)) ++
    ((es.filter fun p => decide (p.1 < len)).map fun p => (p.1 + lo, p.2)) ++
    (m.filter fun p => decide (lo + len ≤ p.1))

/-- The map that holds `vs` from key `k` on, its default `d` left out. -/
def SMap.ofList {α : Type} [DecidableEq α] (vs : List α) (k : Nat) (d : α) : SMap α :=
  match vs with
  | [] => []
  | v :: t => if v = d then SMap.ofList t (k + 1) d else (k, v) :: SMap.ofList t (k + 1) d

/-- The same contents in the canonical form: where a key stands twice, its first value is the one that counts. -/
def SMap.normal {α : Type} [DecidableEq α] (m : SMap α) (d : α) : SMap α :=
  m.foldr (fun p t => SMap.set t p.1 p.2 d) []

/-- The values at keys `k` to `k + n - 1`, the default `d` filled in. -/
def SMap.toList {α : Type} (m : SMap α) (k n : Nat) (d : α) : List α :=
  (List.range n).map fun i => SMap.getD m (k + i) d

/-- The keys rise strictly, all of them at `lo` or above. -/
def SMap.risingFrom {α : Type} (m : SMap α) (lo : Nat) : Bool :=
  match m with
  | [] => true
  | (a, _) :: t => decide (lo ≤ a) && SMap.risingFrom t (a + 1)

/-- The canonical form: keys strictly rising, the default `d` nowhere listed. -/
def SMap.wf {α : Type} [DecidableEq α] (m : SMap α) (d : α) : Bool :=
  SMap.risingFrom m 0 && m.all fun p => decide (p.2 ≠ d)

/-- Sum of a count over a range of keys. -/
def SMap.countIn {α : Type} (m : SMap α) (lo len : Nat) : Nat := (SMap.slice m lo len).length

end Sys2Proof
end

