-- ==== Sys2Proof/Machine/Flags.lean ====
section
/-! DEFINITION. Number formats, roundings, conversions and binary32 arithmetic (03 R71 to R92), each with the numeric
events it sets (03 R98). Values are exact: a sign, a natural mantissa and a power of two. -/

namespace Sys2Proof.Machine

/-- The bits of NUMERIC_EVENTS that an operation sets (03 R98). -/
abbrev Events := BitVec 8

def evNone : Events := 0
def evNanInput : Events := 0x01
def evNanProduced : Events := 0x02
def evOverflow : Events := 0x04
def evSaturated : Events := 0x08
def evIntSaturated : Events := 0x10
def evScaleNanBlock : Events := 0x20
def evLedgerNonfinite : Events := 0x40
def evNanToInteger : Events := 0x80

/-- A number as the formats of 03 R72 write it; `fin neg m e` is m times 2^e with its sign. -/
inductive Num where
  | nan
  | inf (neg : Bool)
  | fin (neg : Bool) (m : Nat) (e : Int)
  deriving DecidableEq, Repr

/-- A floating format (03 R72): mantissa bits with the hidden one, weight of the smallest subnormal as a power of two,
code of the largest finite magnitude, place of the sign bit, code of infinity and of the canonical NaN. -/
structure FloatFmt where
  p : Nat
  emin : Int
  maxCode : Nat
  signBit : Nat
  infCode : Option Nat
  nanFrom : Nat
  nanCode : Nat
  deriving DecidableEq, Repr

def fmtE2M1 : FloatFmt := ⟨2, -1, 0x7, 3, none, 8, 0⟩
def fmtE2M3 : FloatFmt := ⟨4, -3, 0x1F, 5, none, 0x20, 0⟩
def fmtE3M2 : FloatFmt := ⟨3, -4, 0x1F, 5, none, 0x20, 0⟩
def fmtE4M3 : FloatFmt := ⟨4, -9, 0x7E, 7, none, 0x7F, 0x7F⟩
def fmtE5M2 : FloatFmt := ⟨3, -16, 0x7B, 7, some 0x7C, 0x7D, 0x7F⟩
def fmtBF16 : FloatFmt := ⟨8, -133, 0x7F7F, 15, some 0x7F80, 0x7F81, 0x7FC0⟩
def fmtFP16 : FloatFmt := ⟨11, -24, 0x7BFF, 15, some 0x7C00, 0x7C01, 0x7E00⟩
def fmtFP32 : FloatFmt := ⟨24, -149, 0x7F7FFFFF, 31, some 0x7F800000, 0x7F800001, 0x7FC00000⟩

/-- The format codes of 03 R71; 0xC to 0xF are reserved. -/
inductive Fmt where
  | mxfp4 | e2m3 | e3m2 | e4m3 | e5m2 | mxint8 | int4 | int8 | bf16 | fp16 | fp32 | int32
  deriving DecidableEq, Repr

def fmtOfCode (c : Nat) : Option Fmt :=
  match c with
  | 0 => some .mxfp4 | 1 => some .e2m3 | 2 => some .e3m2 | 3 => some .e4m3 | 4 => some .e5m2
  | 5 => some .mxint8 | 6 => some .int4 | 7 => some .int8 | 8 => some .bf16 | 9 => some .fp16
  | 10 => some .fp32 | 11 => some .int32 | _ => none

def Fmt.code (f : Fmt) : Nat :=
  match f with
  | .mxfp4 => 0 | .e2m3 => 1 | .e3m2 => 2 | .e4m3 => 3 | .e5m2 => 4 | .mxint8 => 5 | .int4 => 6 | .int8 => 7
  | .bf16 => 8 | .fp16 => 9 | .fp32 => 10 | .int32 => 11

def Fmt.isMx (f : Fmt) : Bool := decide (f.code ≤ 5)
def Fmt.isInt (f : Fmt) : Bool := f == .int4 || f == .int8
def Fmt.is16 (f : Fmt) : Bool := f == .bf16 || f == .fp16

/-- Operands of a matrix instruction (03 R71): every format but FP32 and INT32. -/
def Fmt.isOperand (f : Fmt) : Bool := decide (f.code ≤ 9)

/-- Element width in bits in core store and in the operand stream (03 R73: MXFP6 takes the byte form). -/
def Fmt.bits (f : Fmt) : Nat :=
  match f with
  | .mxfp4 | .int4 => 4
  | .e2m3 | .e3m2 | .e4m3 | .e5m2 | .mxint8 | .int8 => 8
  | .bf16 | .fp16 => 16
  | .fp32 | .int32 => 32

/-- Operand width class of 02 R45 in bits: 4, 8 (6-bit counted with 8-bit) or 16. -/
def Fmt.width (f : Fmt) : Nat :=
  match f with
  | .mxfp4 | .int4 => 4
  | .bf16 | .fp16 => 16
  | _ => 8

def Fmt.float? (f : Fmt) : Option FloatFmt :=
  match f with
  | .mxfp4 => some fmtE2M1 | .e2m3 => some fmtE2M3 | .e3m2 => some fmtE3M2 | .e4m3 => some fmtE4M3
  | .e5m2 => some fmtE5M2 | .bf16 => some fmtBF16 | .fp16 => some fmtFP16 | .fp32 => some fmtFP32
  | _ => none

/-- EMAX of 03 R82. -/
def Fmt.emax (f : Fmt) : Int :=
  match f with
  | .mxfp4 | .e2m3 => 2
  | .e3m2 => 4
  | .e4m3 => 8
  | .e5m2 => 15
  | _ => 0

/-- A floating code as a number (03 R72); subnormals are honoured, NaNs of either sign and any payload are NaN (R75). -/
def decodeFloat (f : FloatFmt) (code : Nat) : Num :=
  let neg := code.testBit f.signBit
  let mag := code % 2 ^ f.signBit
  if f.nanFrom ≤ mag then .nan
  else if f.infCode = some mag then .inf neg
  else
    let ex := mag / 2 ^ (f.p - 1)
    let fr := mag % 2 ^ (f.p - 1)
    if ex = 0 then .fin neg fr f.emin else .fin neg (fr + 2 ^ (f.p - 1)) (f.emin + ex - 1)

/-- A two's complement field of `w` bits as an integer. -/
def signedOf (w code : Nat) : Int := if code % 2 ^ w < 2 ^ (w - 1) then code % 2 ^ w else (code % 2 ^ w : Int) - 2 ^ w

/-- An integer as a number times 2^e. -/
def numOfInt (i : Int) (e : Int) : Num := .fin (decide (i < 0)) i.natAbs e

/-- An element of a format as a number (03 R72); MXINT8 has the implicit factor 2^-6, and MXFP6's byte form ignores
bits [7:6] (03 R73). -/
def elemNum (f : Fmt) (code : Nat) : Num :=
  match f with
  | .mxfp4 => decodeFloat fmtE2M1 (code % 16)
  | .e2m3 => decodeFloat fmtE2M3 (code % 64)
  | .e3m2 => decodeFloat fmtE3M2 (code % 64)
  | .e4m3 => decodeFloat fmtE4M3 (code % 256)
  | .e5m2 => decodeFloat fmtE5M2 (code % 256)
  | .mxint8 => numOfInt (signedOf 8 code) (-6)
  | .int4 => numOfInt (signedOf 4 code) 0
  | .int8 => numOfInt (signedOf 8 code) 0
  | .bf16 => decodeFloat fmtBF16 (code % 2 ^ 16)
  | .fp16 => decodeFloat fmtFP16 (code % 2 ^ 16)
  | .fp32 => decodeFloat fmtFP32 (code % 2 ^ 32)
  | .int32 => numOfInt (signedOf 32 code) 0

/-- An element of an integer format as an integer (03 R72). -/
def elemInt (f : Fmt) (code : Nat) : Int :=
  match f with
  | .int4 => signedOf 4 code
  | .int8 => signedOf 8 code
  | _ => signedOf 32 code

/-- The power of two of an E8M0 scale byte; 0xFF is NaN (03 R74). -/
def scaleExp (b : Nat) : Option Int := if b = 0xFF then none else some ((b : Int) - 127)

/-! ### Rounding (03 R80, R84) -/

/-- Whether a magnitude with quotient `q` and remainder `r` of 2^d rounds up, in the mode of 03 R80; under SR the
first 32 discarded bits are compared with the draw (03 R84). -/
def roundsUp (mode : Nat) (neg : Bool) (q r d draw : Nat) : Bool :=
  match mode with
  | 0 => decide (2 ^ d < 2 * r) || (decide (2 * r = 2 ^ d) && decide (q % 2 = 1))
  | 1 => false
  | 2 => neg && decide (r ≠ 0)
  | 3 => !neg && decide (r ≠ 0)
  | _ => decide (draw < r * 2 ^ 32 / 2 ^ d)

/-- m times 2^-d rounded to an integer magnitude. -/
def roundMag (mode : Nat) (neg : Bool) (m d draw : Nat) : Nat :=
  let q := m / 2 ^ d
  let r := m % 2 ^ d
  if roundsUp mode neg q r d draw then q + 1 else q

/-- Bits of a natural number: 0 for 0, else floor(log2) + 1. -/
def bitLen (m : Nat) : Nat := if m = 0 then 0 else Nat.log2 m + 1

/-- The magnitude code of m times 2^e in a floating format, rounded once; it may lie above the largest finite code. -/
def roundCode (f : FloatFmt) (mode : Nat) (neg : Bool) (m : Nat) (e : Int) (draw : Nat) : Nat :=
  if m = 0 then 0
  else
    let u := max f.emin (e + bitLen m - f.p)
    let q := if u ≤ e then m * 2 ^ (e - u).toNat else roundMag mode neg m (u - e).toNat draw
    (u - f.emin).toNat * 2 ^ (f.p - 1) + q

def withSign (f : FloatFmt) (neg : Bool) (mag : Nat) : Nat := if neg then 2 ^ f.signBit + mag else mag

/-- Whether a rounded magnitude beyond the range becomes infinity in FP32, BF16 and FP16 (03 R80). -/
def overflowsToInf (mode : Nat) (neg : Bool) : Bool :=
  match mode with
  | 1 => false
  | 2 => neg
  | 3 => !neg
  | _ => true

/-- A number in FP32, BF16 or FP16 (03 R80, R83). -/
def toIeee (f : FloatFmt) (mode draw : Nat) (v : Num) : Nat × Events :=
  match v with
  | .nan => (f.nanCode, evNone)
  | .inf neg => (withSign f neg (f.infCode.getD f.maxCode), evNone)
  | .fin neg m e =>
    let c := roundCode f mode neg m e draw
    if c ≤ f.maxCode then (withSign f neg c, evNone)
    else if overflowsToInf mode neg then (withSign f neg (f.infCode.getD f.maxCode), evOverflow)
    else (withSign f neg f.maxCode, evSaturated)

/-- A finite number as a floating MX element, saturating (03 R80). -/
def toMxFloat (f : FloatFmt) (mode draw : Nat) (neg : Bool) (m : Nat) (e : Int) : Nat × Events :=
  let c := roundCode f mode neg m e draw
  if c ≤ f.maxCode then (withSign f neg c, evNone) else (withSign f neg f.maxCode, evSaturated)

/-- An integer in `w` bits of two's complement. -/
def twosOf (w : Nat) (i : Int) : Nat := (i % (2 ^ w : Int)).toNat

/-- m times 2^e rounded to an integer in a mode. -/
def roundInt (mode draw : Nat) (neg : Bool) (m : Nat) (e : Int) : Int :=
  let q := if 0 ≤ e then m * 2 ^ e.toNat else roundMag mode neg m (-e).toNat draw
  if neg then -(q : Int) else q

/-- An integer held to `lo` to `hi`, and whether it saturated. -/
def clampInt (lo hi i : Int) : Int × Bool := if i < lo then (lo, true) else if hi < i then (hi, true) else (i, false)

/-- A number in an integer format of `w` bits (03 R83): NaN becomes 0, infinities and overflow saturate. -/
def toIntFmt (w : Nat) (mode draw : Nat) (v : Num) : Nat × Events :=
  let lo : Int := -(2 ^ (w - 1))
  let hi : Int := 2 ^ (w - 1) - 1
  match v with
  | .nan => (0, evNanToInteger)
  | .inf neg => (twosOf w (if neg then lo else hi), evSaturated)
  | .fin neg m e =>
    let r := clampInt lo hi (roundInt mode draw neg m e)
    (twosOf w r.1, if r.2 then evSaturated else evNone)

/-- A finite number as an MX element; MXINT8 saturates to 127 steps of 2^-6 of either sign (03 R80). -/
def toMxElem (f : Fmt) (mode draw : Nat) (neg : Bool) (m : Nat) (e : Int) : Nat × Events :=
  match f.float? with
  | some ff => toMxFloat ff mode draw neg m e
  | none =>
    let r := clampInt (-127) 127 (roundInt mode draw neg m (e + 6))
    (twosOf 8 r.1, if r.2 then evSaturated else evNone)

def Num.isFinite (v : Num) : Bool :=
  match v with
  | .fin _ _ _ => true
  | _ => false

def Num.isNan (v : Num) : Bool :=
  match v with
  | .nan => true
  | _ => false

def Num.neg? (v : Num) : Bool :=
  match v with
  | .nan => false
  | .inf n => n
  | .fin n _ _ => n

/-- Magnitude in units of 2^-300; every finite number of the machine is a whole number of them (03 R77). -/
def magUnits (v : Num) : Nat :=
  match v with
  | .fin _ m e => m * 2 ^ (e + 300).toNat
  | _ => 0

/-- Value in units of 2^-300. -/
def unitsOf (v : Num) : Int := if v.neg? then -(magUnits v : Int) else magUnits v

/-- A signed count of units of 2^-300 as a number; zero takes the sign given. -/
def numOfUnits (i : Int) (zeroNeg : Bool) : Num :=
  if i = 0 then .fin zeroNeg 0 0 else .fin (decide (i < 0)) i.natAbs (-300)

/-- Largest finite magnitude of a block, in units of 2^-300. -/
def amaxUnits (vs : List Num) : Nat := vs.foldl (fun a v => max a (magUnits v)) 0

/-- One MX block (03 R82): its scale byte, its elements and its events. `draws` gives each element's draw. -/
def convertBlock (f : Fmt) (mode : Nat) (vs : List (Num × Nat)) : Nat × List Nat × Events :=
  let amax := amaxUnits (vs.map Prod.fst)
  if vs.any (fun v => !v.1.isFinite) then (0xFF, vs.map (fun _ => 0), evScaleNanBlock)
  else if amax = 0 then (0, vs.map (fun _ => 0), evNone)
  else
    let e : Int := min (max ((Nat.log2 amax : Int) - 300 - f.emax) (-127)) 127
    let cs := vs.map fun v =>
      match v.1 with
      | .fin n m x => toMxElem f mode v.2 n m (x - e)
      | _ => (0, evNone)
    ((e + 127).toNat, cs.map Prod.fst, cs.foldl (fun a c => a ||| c.2) evNone)

/-- A number in a format that is no MX format, in its code's bits (03 R81, R83, 04 R477). -/
def convertPlain (f : Fmt) (mode draw : Nat) (v : Num) : Nat × Events :=
  match f with
  | .int4 => toIntFmt 4 mode draw v
  | .int8 => toIntFmt 8 mode draw v
  | .int32 => toIntFmt 32 mode draw v
  | .bf16 => toIeee fmtBF16 mode draw v
  | .fp16 => toIeee fmtFP16 mode draw v
  | _ => toIeee fmtFP32 mode draw v

/-! ### Binary32 arithmetic (03 R75, R89) -/

def num32 (w : W32) : Num := decodeFloat fmtFP32 w.toNat

/-- NAN_INPUT where an operand is NaN. -/
def nanIn (xs : List W32) : Events := if xs.any (fun x => (num32 x).isNan) then evNanInput else evNone

/-- A number rounded to nearest even into FP32, with NAN_PRODUCED where it is a NaN made of no NaN. -/
def finish32 (xs : List W32) (v : Num) : W32 × Events :=
  let r := toIeee fmtFP32 0 0 v
  let made := if v.isNan && !(xs.any fun x => (num32 x).isNan) then evNanProduced else evNone
  (BitVec.ofNat 32 r.1, r.2 ||| made ||| nanIn xs)

def negNum (v : Num) : Num :=
  match v with
  | .nan => .nan
  | .inf n => .inf !n
  | .fin n m e => .fin (!n) m e

/-- The exact sum of two numbers at one scale; an exact zero is +0 unless both terms are negative (round to nearest). -/
def addNum (x y : Num) : Num :=
  match x, y with
  | .nan, _ => .nan
  | _, .nan => .nan
  | .inf a, .inf b => if a = b then .inf a else .nan
  | .inf a, _ => .inf a
  | _, .inf b => .inf b
  | .fin a m e, .fin b n g =>
    let l := min e g
    let p : Int := m * 2 ^ (e - l).toNat
    let q : Int := n * 2 ^ (g - l).toNat
    let t := (if a then -p else p) + (if b then -q else q)
    if t = 0 then .fin (a && b) 0 0 else .fin (decide (t < 0)) t.natAbs l

def mulNum (x y : Num) : Num :=
  match x, y with
  | .nan, _ => .nan
  | _, .nan => .nan
  | .inf a, .inf b => .inf (a != b)
  | .inf a, .fin b m _ => if m = 0 then .nan else .inf (a != b)
  | .fin a m _, .inf b => if m = 0 then .nan else .inf (a != b)
  | .fin a m e, .fin b n g => .fin (a != b) (m * n) (e + g)

def fadd (x y : W32) : W32 × Events := finish32 [x, y] (addNum (num32 x) (num32 y))
def fsub (x y : W32) : W32 × Events := finish32 [x, y] (addNum (num32 x) (negNum (num32 y)))
def fmul (x y : W32) : W32 × Events := finish32 [x, y] (mulNum (num32 x) (num32 y))

/-- Fused multiply-add: one rounding (03 R89). -/
def ffma (x y z : W32) : W32 × Events := finish32 [x, y, z] (addNum (mulNum (num32 x) (num32 y)) (num32 z))

/-- The order of two numbers that are no NaN: the sign of x - y, infinities outermost. -/
def cmpNum (x y : Num) : Int :=
  match x, y with
  | .inf a, .inf b => if a = b then 0 else if a then -1 else 1
  | .inf a, _ => if a then -1 else 1
  | _, .inf b => if b then 1 else -1
  | _, _ =>
    match addNum x (negNum y) with
    | .fin n m _ => if m = 0 then 0 else if n then -1 else 1
    | _ => 0

/-- A comparison's lane (03 R89): every comparison with a NaN is false, +0 equals -0. -/
def fcmp (ok : Int → Bool) (x y : W32) : W32 × Events :=
  if (num32 x).isNan || (num32 y).isNan then (0, evNanInput)
  else (if ok (cmpNum (num32 x) (num32 y)) then 0xFFFFFFFF else 0, evNone)

def canonicalNan : W32 := 0x7FC00000

/-- VMIN and VMAX (03 R89): NaN when either operand is; of +0 and -0 the minimum is -0 and the maximum +0. -/
def fpick (wantMax : Bool) (x y : W32) : W32 × Events :=
  if (num32 x).isNan || (num32 y).isNan then (canonicalNan, evNanInput)
  else
    let c := cmpNum (num32 x) (num32 y)
    if c = 0 then (if (num32 x).neg? = wantMax then y else x, evNone)
    else (if decide (c < 0) = wantMax then y else x, evNone)

/-- VABS and VNEG: a NaN result is canonical (03 R75). -/
def fabs (x : W32) : W32 × Events := if (num32 x).isNan then (canonicalNan, evNanInput) else (x &&& 0x7FFFFFFF, evNone)
def fneg (x : W32) : W32 × Events := if (num32 x).isNan then (canonicalNan, evNanInput) else (x ^^^ 0x80000000, evNone)

/-- INT32 sum or difference held to the format (04 R125: the saturating forms). -/
def isat (i : Int) : W32 := BitVec.ofInt 32 (clampInt (-(2 ^ 31)) (2 ^ 31 - 1) i).1

/-- The fixed pairwise tree of 03 R89: lane 2i combines with lane 2i + 1, then pairs of pairs. -/
def pairUp {α : Type} (f : α → α → α) (xs : List α) : List α :=
  match xs with
  | a :: b :: t => f a b :: pairUp f t
  | r => r

def treeLevels {α : Type} (f : α → α → α) (n : Nat) (xs : List α) : List α :=
  match n with
  | 0 => xs
  | n + 1 => treeLevels f n (pairUp f xs)

/-- The tree over 512 lanes: nine levels. -/
def tree (f : W32 × Events → W32 × Events → W32 × Events) (xs : List W32) : W32 × Events :=
  (treeLevels f 9 (xs.map fun x => (x, evNone))).headD (0, evNone)

/-- A node of the tree: its operation's events join those of its operands. -/
def treeNode (op : W32 → W32 → W32 × Events) (a b : W32 × Events) : W32 × Events :=
  let r := op a.1 b.1
  (r.1, r.2 ||| a.2 ||| b.2)

/-! ### One cell of the array (03 R76 to R79) -/

/-- What has entered a cell's sum: a NaN, an undefined infinite product, infinities of either sign, and the exact sum
in units of 2^-300 (03 R77). -/
structure CellSum where
  nan : Bool := false
  undef : Bool := false
  posInf : Bool := false
  negInf : Bool := false
  sum : Int := 0
  deriving DecidableEq, Repr

/-- A term enters the sum: a product with its scales applied, or the carried value. -/
def CellSum.add (c : CellSum) (t : Num) (shift : Int) : CellSum :=
  match t with
  | .nan => { c with nan := true }
  | .inf true => { c with negInf := true }
  | .inf false => { c with posInf := true }
  | .fin n m e =>
    let u : Int := m * 2 ^ (e + shift + 300).toNat
    { c with sum := c.sum + (if n then -u else u) }

/-- One product of a floating pair; a NaN element or scale is row 1 of 03 R78, infinity times zero row 2. -/
def CellSum.product (c : CellSum) (a b : Num) (sa sb : Option Int) : CellSum :=
  match sa, sb with
  | some x, some y =>
    if a.isNan || b.isNan then { c with nan := true }
    else if (mulNum a b).isNan then { c with undef := true }
    else c.add (mulNum a b) (x + y)
  | _, _ => { c with nan := true }

/-- Finalisation of a floating pair: the first row of 03 R78 that applies. -/
def CellSum.finalise (c : CellSum) (mode draw : Nat) : W32 × Events :=
  if c.nan then (canonicalNan, evNanInput)
  else if c.undef || (c.posInf && c.negInf) then (canonicalNan, evNanProduced)
  else if c.posInf then (0x7F800000, evNone)
  else if c.negInf then (0xFF800000, evNone)
  else if c.sum = 0 then (if mode = 2 then 0x80000000 else 0, evNone)
  else
    let r := toIeee fmtFP32 mode draw (numOfUnits c.sum false)
    (BitVec.ofNat 32 r.1, r.2)

/-- Finalisation of an integer pair: saturation to INT32 (03 R79). -/
def finaliseInt (sum : Int) : W32 × Events :=
  let r := clampInt (-(2 ^ 31)) (2 ^ 31 - 1) sum
  (BitVec.ofInt 32 r.1, if r.2 then evIntSaturated else evNone)

end Sys2Proof.Machine
end

