-- ==== Sys2Proof/Machine/State.lean ====
section
/-! DEFINITION. The state of the block as plain data: every register, memory, queue, counter, mode and pin that the
spec gives the module, one home for each, and the state at the module's first power-up (log 4, log 5). -/

namespace Sys2Proof.Machine

/-! ### Core (02, 04) -/

/-- SEQ_STATE of CORE_STATUS (02 R68). -/
inductive SeqState where
  | unserved | running | waitToken | heldBoundary | noTurn
  deriving DecidableEq, Repr

/-- A local token (04 R117): a 16-bit count, the error flag with the first status that set it, the overflow flag. -/
structure Token where
  count : Nat := 0
  err : Bool := false
  status : W16 := 0
  overflow : Bool := false
  deriving DecidableEq, Repr

/-- A relay inbox slot (04 R117): written slots wait for their sender's commit, freed ones for their reader's. The
sender's logical core and source word address stand with it (08 R222). -/
inductive SlotState where
  | empty
  | written (sender src : Nat)
  | full (sender src : Nat)
  | taken (sender src : Nat)
  | freed (sender src : Nat)
  deriving DecidableEq, Repr

/-- A relay inbox (02 R66): base word address, slot size in words, slots in ring order and the ring's positions. -/
structure Inbox where
  isOpen : Bool := false
  base : Nat := 0
  slotWords : Nat := 0
  slots : List SlotState := []
  nextTake : Nat := 0
  nextFree : Nat := 0
  deriving DecidableEq, Repr

/-- What an operand stage holds (02 R55): the format and wider width it was loaded under, its quadrant's share of the
slab (in slab layout of 64 rows) and of the scales. -/
structure Stage where
  fmt : Fmt
  wider : Nat
  elems : SMap Byte
  scales : SMap Byte
  deriving DecidableEq, Repr

/-- A part word with the descriptors captured at issue (04 R101, R104). -/
structure PartIssue where
  part : MatrixPart
  da : W64
  db : W64
  dd : W64
  deriving DecidableEq, Repr

/-- An entry of the matrix queue (04 R99, R121). -/
inductive MatItem where
  | work (apart : Bool) (head : MatrixHead) (parts : List PartIssue) (ord drainOrd : Nat)
  | ledgerOpen (slot : Nat) (fmt : Fmt) (hist margin : Nat) (auto : Bool) (applied : Byte)
  | ledgerClose (slot : Nat)
  deriving DecidableEq, Repr

/-- A drain between finalisation and its end (02 R50): its bytes for the tile and for the scales, what its ledger slot
takes from it (largest finite magnitude as an FP32 code, a NaN or infinity seen), and its numeric events. -/
structure DrainOut where
  addr : Nat
  len : Nat
  bytes : SMap Byte
  scaleAddr : Nat
  scaleLen : Nat
  scaleBytes : SMap Byte
  ledger : Option Nat
  amax : Nat
  nonfinite : Bool
  events : Events
  deriving DecidableEq, Repr

/-- A matrix instruction that the array has accepted and not yet completed (04 R101). -/
structure MatRun where
  apart : Bool
  head : MatrixHead
  parts : List PartIssue
  ord : Nat
  drainOrd : Nat
  finalised : Bool := false
  drains : List DrainOut := []
  deriving DecidableEq, Repr

/-- OP of a ferry instruction (04 R110). -/
inductive FerryOp where
  | get | put | putReduce | relayPut
  deriving DecidableEq, Repr

/-- A piece of a ferry row that is still to move (07 R186, 05 R136): its row, its offset in the row's remote bytes, its remote
bytes and address, and the packet that carries it (destination endpoint and SEQ), or none where it crosses the core's own
slot port. -/
structure Piece where
  row : Nat
  off : Nat
  n : Nat
  addr : Nat
  via : Option (W16 × W32)
  deriving DecidableEq, Repr

/-- A ferry transfer from its issue to its completion: registers captured at issue, whether its engine has started it,
the pieces still to move, the status it has met, the inbox slot a RELAY_PUT holds a credit for, and the core whose inbox that is. -/
structure Xfer where
  op : FerryOp
  f : FerryF
  local0 : Nat
  remote : Nat
  peer : Nat := 0
  rowBytes : Nat
  strides : W64
  started : Bool := false
  pieces : List Piece := []
  status : W16 := 0
  slot : Option Nat := none
  deriving DecidableEq, Repr

/-- The synchronisation instruction that holds the sequencer (04 R117). -/
inductive Hold where
  | none
  | wait (token count : Nat)
  | fence (units : BitVec 4)
  | take (inbox rd : Nat)
  | close (inbox : Nat)
  | turnEnd (live : BitVec 2) (carry next : Nat)
  deriving DecidableEq, Repr

/-- A pinned source range of a completed RELAY_PUT (08 R222): words, and the inbox slot whose credit releases it. -/
structure Pin where
  word : Nat
  words : Nat
  dest : Nat
  inbox : Nat
  slot : Nat
  deriving DecidableEq, Repr

/-- The first failure of a part (04 R127): its status, word address and place in the instruction stream. -/
structure Failure where
  status : W16
  addr : Nat
  ordinal : Nat
  deriving DecidableEq, Repr

/-- What the cluster control core keeps of a part's attempts in one turn (04 R127, 08 R223, R224, 13 R373, R374). `again`: the
part had begun, so its next start is a replay (08 R220). `spared`: its core has been substituted in this turn (08 R235). -/
structure Attempt where
  issued : Nat := 0
  first : Option Failure := none
  wordFault : Bool := false
  remoteFault : Bool := false
  ended : Bool := false
  durable : Bool := false
  rebuild : Bool := false
  cleared : Bool := false
  again : Bool := false
  spared : Bool := false
  deriving DecidableEq, Repr

/-- The core's counters (02 R69, 05 R148), 64 bits each, wrapping. -/
structure CoreCounters where
  valid : W64 := 0
  feed : W64 := 0
  drain : W64 := 0
  power : W64 := 0
  dummy : W64 := 0
  stopped : W64 := 0
  matrix : W64 := 0
  selfCheck : W64 := 0
  corrected : W64 := 0
  uncorrectable : W64 := 0
  bankConflict : W64 := 0
  scrubPasses : W64 := 0
  deriving DecidableEq, Repr

/-- One logical core (04 R100). Registers, vector registers (512 lanes each) and banks (16,384 cells each) are sparse
maps in canonical form, 0 where nothing is listed. `closedSlots` are the slots (inbox, slot, sender) freed in this turn of inboxes
closed since (04 R117). -/
structure Core where
  pc : Nat := 0
  regs : SMap W64 := []
  vregs : SMap W32 := []
  banks : SMap W32 := []
  stages : SMap Stage := []
  stageTags : SMap (Nat × Nat) := []
  tokens : SMap Token := []
  startTokens : SMap Nat := []
  inboxes : SMap Inbox := []
  closedSlots : List (Nat × Nat × Nat) := []
  matQ : List MatItem := []
  matRun : List MatRun := []
  vecQ : Nat := 0
  syncQ : Nat := 0
  ferry0 : List Xfer := []
  ferry1 : List Xfer := []
  hold : Hold := .none
  inTurn : Bool := false
  live : BitVec 2 := 0
  carry : Nat := 0
  entry : Nat := 0
  nextEntry : Nat := 0
  opPoint : BitVec 4 := 0
  attempt : Attempt := {}
  matOrd : Nat := 0
  drainOrd : Nat := 0
  vecOrd : Nat := 0
  ledgers : SMap Fmt := []
  signals : List (Nat × Nat × Nat) := []
  addrLog : List Byte := []
  dataLog : List Byte := []
  pins : List Pin := []
  lastStatus : W16 := 0
  arrayState : BitVec 4 := 0
  apart : Bool := false
  seq : SeqState := .unserved
  counters : CoreCounters := {}
  events : Events := 0
  ramp : Nat := 0
  probe : Bool := false
  unanswered : Nat := 0
  deriving DecidableEq, Repr

/-! ### Partitions and jobs (08, 13) -/

/-- A core store range declaration (08 R212): kind 0 resident, 1 carried, 2 inbox. -/
structure RangeDecl where
  word : Nat
  words : Nat
  kind : Nat
  rankFirst : Nat
  rankLast : Nat
  master : Nat
  stride : Nat
  deriving DecidableEq, Repr

/-- A backed lagoon region (05 R146); `master` is an offset from PART_HBM_BASE. -/
structure Backed where
  addr : Nat
  master : Nat
  length : Nat
  filled : Bool := false
  deriving DecidableEq, Repr

/-- The loaded program image as the scheduler core reads it (08 R211). -/
structure Image where
  elastic : Bool
  relay : Bool
  ranks : Nat
  turns : Nat
  codeOffset : Nat
  codeSize : Nat
  codeWord : Nat
  jobBlockWord : Nat
  ranges : List RangeDecl
  backed : List Backed
  hbmMinGib : Nat
  size : Nat
  digest : List Byte
  deriving DecidableEq, Repr

/-- JOB_STATE (08 R227). -/
inductive JobState where
  | none | loading | running | holding | completed | discarded
  deriving DecidableEq, Repr

/-- A generation header of a rank in the turn shadow (08 R220): registers, next entry, inbox and ledger slot states, the bank
declaration of TURN_END, which generation the header stands in, and the map of the 4 KiB carried pages, in the order of the carried
ranges, whose committed copy stands in generation 1. The pages of a job stand in HBM; `pages` holds a snapshot's own copies, as bytes of
core store by offset (13 R388). -/
structure RankShadow where
  regs : SMap W64 := []
  entry : Nat := 0
  inboxes : SMap Inbox := []
  ledgers : SMap Fmt := []
  gen : Bool := false
  gens : SMap Bool := []
  pages : SMap Byte := []
  live : BitVec 2 := 0
  carry : Nat := 0
  deriving DecidableEq, Repr

/-- A START_JOB that has been accepted (08 R210, 10 R280). -/
structure JobReq where
  id : W64
  sid : W64
  tenant : W16
  body : StartJobBody
  deriving DecidableEq, Repr

/-- What a doubles vote is about (13 R381): the ranks whose copies differ, and whether both copies run again. -/
structure Vote where
  ranks : List Nat
  third : Option Nat
  rerun : Bool
  rewriting : Bool := false
  deriving DecidableEq, Repr

/-- The present job of a partition. `placement` gives copy A's core by rank, `placementB` copy B's. A group's job (09 R253,
R255) is `loaded` while it waits for admission, has `reported` its turn as durable, and takes the master's commit in `go`
(with whether the digests differed). `lost`: a member of its group is gone, and it holds once the commit that it has reported for is
settled (R256). `moved`: its placement has changed since its job blocks were written (08 R214). -/
structure Job where
  req : JobReq
  keys : List (List Byte)
  turns : Nat
  td : Nat
  ts : Nat
  firstTurn : Nat
  state : JobState
  waiting : Bool := false
  holdLease : Bool := false
  holdStatus : Bool := false
  holdCapacity : Bool := false
  reason : Nat := 0
  placement : List Nat
  placementB : List Nat := []
  epoch : Nat := 0
  shadow : SMap RankShadow := []
  pendingShadow : SMap RankShadow := []
  replayedParts : Nat := 0
  replayedTurns : Nat := 0
  rankMoves : Nat := 0
  turnReplays : Nat := 0
  turnMoves : Nat := 0
  absorbers : SMap (List Byte) := []
  steps : SMap Nat := []
  fills : Nat := 0
  vote : Option Vote := none
  compared : Bool := false
  leaseDue : Bool := false
  resumed : Bool := false
  moved : Bool := false
  loaded : Bool := false
  reported : Bool := false
  go : Option Bool := none
  lost : Bool := false
  deriving DecidableEq, Repr

/-- A snapshot (13 R388 to R395): what it holds, the pages still protected, those in the pool, and its drain. -/
inductive SnapPhase where
  | requested | copying | draining | kept
  deriving DecidableEq, Repr

structure Snapshot where
  id : W64
  sid : W64
  cmdSeq : W64
  acceptedSeq : Nat
  drain : Bool
  phase : SnapPhase
  jobId : W64
  doubles : Bool := false
  td : Nat := 0
  ts : Nat := 0
  epoch : Nat := 0
  keys : List (List Byte) := []
  digest : List Byte := []
  hbmBytes : Nat := 0
  hbm : SMap Byte := []
  lagoon : SMap Byte := []
  shadow : SMap RankShadow := []
  slots : SMap (List Byte) := []
  placement : List Nat := []
  areaMib : Nat := 0
  guarded : List Nat := []
  pooled : List Nat := []
  sendNext : List Nat := []
  qp : W32 := 0
  remote : W64 := 0
  rkey : W32 := 0
  maxBytes : W64 := 0
  sent : Nat := 0
  waitQp : Bool := false
  groupAsked : Bool := false
  groupTurn : Option Nat := none
  pauseUs : W32 := 0
  copyUs : W32 := 0
  deriving DecidableEq, Repr

/-- A pull by RDMA READ that the module has under way (10 R288, R289): its queue pair, and the host's address and length. -/
structure Pull where
  qp : W32
  addr : W64
  length : W64
  deriving DecidableEq, Repr

/-- A restore whose checks have passed (13 R397). `placement` gives the cores that stood for the ranks when the snapshot was
taken, by whose numbers its inbox slots name their senders; `pull` is that of a drained image. -/
structure Restore where
  sid : W64
  cmdSeq : W64
  acceptedSeq : Nat
  snapId : W64
  jobId : W64
  td : Nat
  ts : Nat
  epoch : Nat
  keys : List (List Byte)
  doubles : Bool
  group : Bool
  groupId : W32
  groupMap : W64
  hbm : SMap Byte
  lagoon : SMap Byte
  shadow : SMap RankShadow
  slots : SMap (List Byte)
  placement : List Nat
  pull : Option Pull := none
  deriving DecidableEq, Repr

/-- A LOAD_IMAGE whose pull runs (10 R280). -/
structure PendingLoad where
  sid : W64
  cmdSeq : W64
  body : List Byte
  length : Nat
  pull : Pull
  deriving DecidableEq, Repr

/-- What ends a partition reset (15 R428): whether it clears HBM, whether the partition is then unbound, and the cause of
SESSION_ENDED where the session ends with it (10 R285, R287). -/
structure Clearing where
  hbm : Bool
  unbind : Bool
  ended : Option Nat
  session : W64
  tenant : W16
  deriving DecidableEq, Repr

/-- One partition of the active layout (08 R207 to R210, R233, R234). -/
structure Part where
  session : Option W64 := none
  tenant : W16 := 0
  baseGib : Nat := 0
  sizeGib : Nat := 0
  image : Option Image := none
  job : Option Job := none
  queue : List JobReq := []
  load : Option PendingLoad := none
  clearing : Option Clearing := none
  hbmClearing : Bool := false
  snap : Option Snapshot := none
  restore : Option Restore := none
  lastStatus : W16 := 0
  turnData : Nat := 0
  turnStream : Nat := 0
  replayedParts : Nat := 0
  rankMoves : Nat := 0
  deriving DecidableEq, Repr

/-- The scheduler core: the active layout, the image's layouts (48 bytes each, 0xFF for no partition), and the partitions whose ranks are
all durable, in the order they became so (08 R230). -/
structure Sched where
  active : Nat := 0
  layouts : List (List Byte) := []
  restarting : Bool := false
  durable : List Nat := []
  parts : SMap Part := []
  deriving DecidableEq, Repr

/-! ### Journal and field defect log (10 R291 to R293, 11 R317 to R319) -/

/-- A journal entry (10 R292). -/
structure JEntry where
  seq : Nat
  time : W64
  sid : W64
  job : W64
  cmd : W64
  turn : W64
  kind : Byte
  code : W16
  part : W16
  tenant : W16
  seat : Byte
  assured : Bool
  detail : List Byte
  check : List Byte
  deriving DecidableEq, Repr

/-- The journal ring by slot (10 R291). -/
structure Journal where
  id : W64 := 0
  next : Nat := 1
  ring : SMap JEntry := []
  lastCheck : List Byte := List.replicate 16 0
  deriving DecidableEq, Repr

/-- A field defect log entry (11 R318). -/
structure LogEntry where
  startCount : Nat
  time : W64
  unit : W64
  source : Byte
  event : W16
  detail : List Byte
  chain : List Byte
  deriving DecidableEq, Repr

/-- The field defect log: entries that a head covers, entries that wait for one, and the head's generation. -/
structure DefectLog where
  entries : List LogEntry := []
  waiting : List LogEntry := []
  generation : Nat := 1
  full : Bool := false
  deriving DecidableEq, Repr

/-! ### HBM (06) -/

/-- Bits in error standing in a 64-bit word, and a wrong address fold bit (05 R142, 06 R161). -/
structure WordErr where
  bits : Nat := 0
  fold : Bool := false
  deriving DecidableEq, Repr

/-- STATE of HBM_STACK_STATUS (06 R177). -/
inductive StackState where
  | inService | training | lost | selfRefresh
  deriving DecidableEq, Repr

/-- One stack and its controller (06 R172, R177, R178). -/
structure Stack where
  state : StackState := .training
  temp : Byte := 0
  thermal : BitVec 2 := 0
  retired : W32 := 0
  retraining : Bool := false
  retrainCh : Nat := 0
  attempts : Nat := 0
  trigger : Nat := 0
  corrected : W64 := 0
  uncorrectable : W64 := 0
  reconstructed : W64 := 0
  foldErrors : W64 := 0
  retrains : W64 := 0
  parityRepairs : W64 := 0
  deriving DecidableEq, Repr

/-- HBM_CONFIG (06 R176), the shares that are not fresh (R171), parity words by stripe * 32 + word (R163), parity
words in error, the deltas that travel to a parity stack (R164, R165), and bytes in the write buffer of each channel (R172, by stack
* 32 + channel). -/
structure Hbm where
  mode : Bool := false
  imageMode : Bool := false
  override : Bool := false
  prevMode : Bool := false
  lost : Option Nat := none
  written : SMap Bool := []
  parity : SMap W64 := []
  parityErr : SMap WordErr := []
  deltas : List (Nat × W64) := []
  buffered : SMap Nat := []
  deriving DecidableEq, Repr

/-! ### Mesh (07) -/

/-- One transfer of a packet on a link half (07 R184): the packet's SRC, DEST, SEQ and FLAGS, and its place in the packet. -/
structure Transfer where
  src : W16
  dest : W16
  seq : W32
  flags : Byte
  index : Nat
  deriving DecidableEq, Repr

/-- A port set (07 R203 to R205): states of the two halves (0 in service, 1 paused, 2 lost), repair groups, the wire that each
spared group steers around (group * 256 + wire), counters, the times of the last 100 ms of replays on each half, when its last wire
test found no failing wire (R196), and the last 64 transfers that each half's transmitter keeps (R184). -/
structure PortSet where
  half0 : BitVec 2 := 0
  half1 : BitVec 2 := 0
  borrowed : Bool := false
  spared0 : W32 := 0
  spared1 : W32 := 0
  failed0 : W32 := 0
  failed1 : W32 := 0
  usedSpare0 : W32 := 0
  usedSpare1 : W32 := 0
  steered0 : List Nat := []
  steered1 : List Nat := []
  retries : W64 := 0
  bulk : W64 := 0
  assured : W64 := 0
  wireTests : W64 := 0
  replays0 : List Nat := []
  replays1 : List Nat := []
  clean0 : Option Nat := none
  clean1 : Option Nat := none
  store0 : List Transfer := []
  store1 : List Transfer := []
  deriving DecidableEq, Repr

/-- Receive window of a source endpoint, destination and class (07 R194): the highest SEQ received in order and the
SEQs received above it. -/
structure Window where
  next : Nat := 0
  above : List Nat := []
  deriving DecidableEq, Repr

/-- What one packet of a PUT_REDUCE contributes at one reduction site (04 R115, 03 R96): its data by address, and the packet that
brought it (destination endpoint and SEQ). -/
structure Contribution where
  site : Nat
  core : Nat
  seat : Nat
  part : Nat
  turn : Nat
  op : Nat
  data : List (Nat × List Byte)
  dest : W16
  seq : W32
  deriving DecidableEq, Repr

/-- A packet under way (07 R182, R189, R190): the half that it was injected on, and the virtual-channel buffers on its way, each
link as node, port, half and channel. -/
structure Flight where
  pkt : MeshPkt
  half : Bool
  links : List (Nat × Nat × Bool × Nat)
  deriving DecidableEq, Repr

/-- The mesh: next SEQs, packets sent and not acknowledged, packets that wait for space in their sender's replay store (07
R194, R195), packets under way (R190), receive windows, packets that met a busy or a resetting destination, reduce holds and the
contributions waiting for them, credits of each inbox (02 R66), detours, router halves out of service, the packets in each
cluster's ejection buffer (07 R201), and those that wait at a memory for a retrain, a hold, a reload or retention to end (05 R152,
R153, 06 R172, R173). -/
structure Mesh where
  seqs : SMap Nat := []
  sent : List MeshPkt := []
  queued : List MeshPkt := []
  flights : List Flight := []
  windows : SMap Window := []
  busy : List (W16 × W16 × W32 × Bool) := []
  retry : List (W16 × W16 × W32) := []
  holds : List Contribution := []
  waiting : List Contribution := []
  credits : SMap Nat := []
  detours : List (Nat × Nat × Bool) := []
  routersOut : List (Nat × Bool) := []
  ejection : SMap (List MeshPkt) := []
  held : List MeshPkt := []
  deriving DecidableEq, Repr

/-! ### Clusters and islands (01, 12) -/

/-- A cluster region (01 R36). -/
inductive Region where
  | running | gated | dark | waking
  deriving DecidableEq, Repr

/-- A phase hint in force on a region (12 R357): sixteenths of full current, the core it names or every core. -/
structure Hint where
  load : Nat
  lead : Nat
  duration : Nat
  core : Option Nat := none
  prepared : Bool := false
  deriving DecidableEq, Repr

/-- The counters of a region (12 R365). -/
structure RegionCounters where
  dips : W64 := 0
  dipResets : W64 := 0
  trips : W64 := 0
  sheds : W64 := 0
  deferred : W64 := 0
  isolations : W64 := 0
  honoured : W64 := 0
  ignored : W64 := 0
  deriving DecidableEq, Repr

/-- The boost bank of a region (12 R344): its own, in reserve for the other regions of its island while its region wakes, or on the tie switch
to region k of the island. -/
inductive Bank where
  | own
  | reserve
  | supports (k : Nat)
  deriving DecidableEq, Repr

/-- One cluster: its slots (01 R37), spare table row (R38), control core (R25), region and its power state (12 R338 to
R358). Bubble fractions are in 64ths. `shed` and `doze` say why a region is gated; `resetting` that a cluster reset runs
(15 R429); `skips` the ring's skip links closed around slots out of service (01 R24); `scrub` the scrub pointers of the slots by slot * 128
+ bank (05 R145); `dipping` that the rail stands below its warning level (12 R345); `zeroOnWake` that its core stores were lost (15 R433);
`failing` the positions whose substitution waits for a third copy, with its cause (13 R400). -/
structure Cluster where
  slots : SMap (BitVec 2) := []
  map : List Nat := List.replicate 12 0xF
  active : Nat := 0
  reserves : Nat := 0
  cccDown : Bool := false
  skips : List Nat := []
  scrub : SMap Nat := []
  region : Region := .dark
  shed : Bool := false
  released : Bool := false
  doze : Bool := false
  resetting : Bool := false
  zeroOnWake : Bool := false
  isolated : BitVec 12 := 0
  op : Nat := 0
  ceilingDrop : Nat := 0
  failing : List (Nat × Nat) := []
  dipTimes : List Nat := []
  tripTime : Option Nat := none
  bOver : Nat := 0
  bDip : Nat := 0
  dipping : Bool := false
  bThrottle : Nat := 0
  current : Nat := 0
  temp : Nat := 0
  wake : Option Nat := none
  bank : Bank := .own
  hint : Option Hint := none
  counters : RegionCounters := {}
  deriving DecidableEq, Repr

/-- One island (01 R31, R36, 05 R147, 12 R335 to R350, R366, R367). `lagoon` is 0 on, 1 retention, 2 off; `wakes` is the
sector's wake queue (R348); `transitRail` and `lagoonRail` are 0 from the warning level up, 1 below it, 2 where the domain's oscillators pause
(R346); `bSector` and `bHeadroom` are bubble fractions in 64ths. -/
structure Island where
  corrected : W64 := 0
  uncorrectable : W64 := 0
  reloads : W64 := 0
  scrubPasses : W64 := 0
  scrub : SMap Nat := []
  reloading : List Nat := []
  lagoon : Nat := 0
  transitIsolated : BitVec 4 := 0
  lagoonIsolated : BitVec 6 := 0
  transitRail : Nat := 0
  lagoonRail : Nat := 0
  attachIsolated : BitVec 8 := 0
  sectorIsolated : BitVec 4 := 0
  sectorCurrent : Nat := 0
  transitTemp : Nat := 0
  bSector : Nat := 0
  bHeadroom : Nat := 0
  wakes : List Nat := []
  deriving DecidableEq, Repr

/-- The module's power (12 R351 to R363): latched cap, input, b_cap, grants by consumer code, operating points taken off
by the cap (R354), the backstop, the safe floor and the expiries of the power-management pair (14 R414). -/
structure Power where
  capW : Nat := 0
  inputW : Nat := 0
  inputMv : Nat := 0
  bCap : Nat := 0
  grants : List Nat := [0, 0, 0, 0]
  underUsed : Bool := false
  capCut : Nat := 0
  backstop : Bool := false
  safeFloor : Bool := false
  expiries : List Nat := []
  deriving DecidableEq, Repr

/-! ### Archipelago (09) -/

/-- An optical engine (09 R236 to R242, R264): `state` 0 down, 1 training, 2 in service, 3 out of service; lanes that
carry traffic, lanes that are good, the failed lanes that have paused the link (R239) and the packets that the pause holds, the SEQs of
the next flit sent and of the next one expected, the flit that the receiver waits for while it discards, and the last 4,096 flits sent
(R238). -/
structure Engine where
  state : Nat := 0
  laneUse : BitVec 9 := 0
  good : BitVec 9 := 0x1FF
  peerSeat : Nat := 0
  peerEngine : Nat := 0
  trunk : Nat := 0
  paused : List Nat := []
  waiting : List StraitPkt := []
  next : W16 := 0
  expect : W16 := 0
  missing : Option W16 := none
  store : List Flit := []
  retries : W64 := 0
  fecCorrected : W64 := 0
  fecUncorrectable : W64 := 0
  bulk : W64 := 0
  assured : W64 := 0
  delay : Nat := 0
  deriving DecidableEq, Repr

/-- A descriptor as the strait port reads it (09 R257): OP, RED_OP, LAG, ROOT, SRC, DST, LENGTH. -/
structure Descriptor where
  op : Nat
  red : Nat
  lag : Nat
  root : Nat
  src : Nat
  dst : Nat
  len : Nat
  deriving DecidableEq, Repr

/-- A partial block that has reached this member's reduction engine and waits to be combined (09 R259): its address, its sender's seat, the
engine, and the data. -/
structure PartialBlock where
  addr : Nat
  seat : Nat
  engine : Nat
  data : List Byte
  deriving DecidableEq, Repr

/-- A collective that runs (09 R257, R258): its group, the descriptor with its turn and slot, the packets that each engine has combined
for it (03 R96), and the partial blocks that wait. -/
structure Collective where
  group : W32
  turn : Nat
  slot : Nat
  desc : Descriptor
  steps : SMap Nat := []
  arrived : List PartialBlock := []
  deriving DecidableEq, Repr

/-- Membership and strait traffic (09 R240 to R263). `state` 0 not joined, 1 joining, 2 joined, 3 isolated; `role` 0 none,
1 member, 2 deputy, 3 master. Packets sent and not acknowledged with the mesh node that each came from, receive windows, mirror rings by seat, and this
module's entries that wait for their mirror. `prevMembers`, `prevMaster` and `prevDeputy` are the map before the losses that began at
`lossFrom` (R250), `announced` the seats that this join's notice went to (R247), `slew` the ns by which the time base is yet to be held
back (R252). -/
structure Arch where
  topology : Nat := 0
  size : Nat := 0
  torusA : Nat := 0
  torusB : Nat := 0
  seat : Nat := 0
  eligible : List Nat := []
  state : Nat := 0
  role : Nat := 0
  epoch : W16 := 0
  members : W64 := 0
  master : Nat := 0
  deputy : Nat := 0
  timeOffset : W64 := 0
  engines : SMap Engine := []
  seqs : SMap Nat := []
  sent : List (Nat × StraitPkt) := []
  windows : SMap Window := []
  groups : SMap Group := []
  collectives : List Collective := []
  mirrors : SMap (List (List Byte)) := []
  mirrorWait : List Nat := []
  electing : Bool := false
  prevMembers : W64 := 0
  prevMaster : Nat := 0
  prevDeputy : Nat := 0
  lossFrom : Option Nat := none
  announced : W64 := 0
  slew : Nat := 0
  deriving DecidableEq, Repr

/-! ### Hosts (10) -/

/-- A host port (10 R266, R267, R288, R298): mode, sub-ports in service, paused time in quanta, counters. -/
structure HostPort where
  mode : Nat := 0
  up : BitVec 4 := 0
  training : Bool := false
  paused : Nat := 0
  rx : W64 := 0
  tx : W64 := 0
  drops : W64 := 0
  rdmaRx : W64 := 0
  rdmaTx : W64 := 0
  naks : W64 := 0
  fecCorrected : W64 := 0
  fecUncorrectable : W64 := 0
  failovers : W64 := 0
  deriving DecidableEq, Repr

/-- A message of which some fragments have arrived (10 R270). -/
structure Partial where
  sid : W64
  seq : W64
  kind : Byte
  count : Nat
  parts : SMap (List Byte)
  deriving DecidableEq, Repr

/-- A handshake in progress (10 R272, R273): its provisional session ID, the port of its HELLO, the host nonce, the MODULE_HELLO that it keeps,
but for the signature, the transcript digest T, the
shared secret and the handshake keys, the host-to-module key first. -/
structure Handshake where
  id : W64
  port : Nat
  nonce : BitVec 256
  hello : List Byte := []
  transcript : List Byte := []
  secret : BitVec 256 := 0
  keys : List Byte := []
  deriving DecidableEq, Repr

/-- A response as the module keeps it (10 R276 to R278). -/
structure Response where
  opcode : W16
  status : W16
  detail : W16
  journalSeq : W64
  cmdSeq : W64
  body : List Byte
  deriving DecidableEq, Repr

/-- A session (10 R272 to R287): its host key and its session keys (R273), granted features, lease and retention, present token, the last 64 responses by
MSG_SEQ, on two paths when each command's first copy came (R271), wrong resume tokens by time, and the lock that follows eight of them (R286). -/
structure Session where
  keyId : W64
  tenant : W16
  operator : Bool
  partitionMask : W64
  features : W64
  lease : Nat
  retention : Nat
  held : Bool := false
  leaseFrom : Nat := 0
  token : BitVec 256
  dual : Bool := false
  keys : List Byte := []
  port : Nat := 0
  lastCmd : Nat := 0
  kept : SMap Response := []
  arrived : SMap Nat := []
  wrongTokens : List Nat := []
  lockedUntil : Nat := 0
  deriving DecidableEq, Repr

/-- A RoCEv2 queue pair (10 R289): `failed` once its sub-port is lost (R288). `rate` is the DCQCN rate, a free value. -/
structure Qp where
  sid : W64
  port : Nat
  sub : Nat
  hostQpn : W32
  hostGid : BitVec 128
  hostPsn : W32
  psn : W32
  rkey : W32
  failed : Bool := false
  rate : W64 := 0
  retries : Nat := 0
  deriving DecidableEq, Repr

/-- A staging in progress (11 R331, 14 R420): KIND as STAGE_UPDATE gives it, session, ACCEPTED entry, pull. -/
structure Staging where
  kind : Nat
  sid : W64
  cmdSeq : W64
  acceptedSeq : Nat
  pull : Pull
  deriving DecidableEq, Repr

/-- A cluster that a roll test waits for or tests (13 R384): the session and command that asked. -/
structure RollTest where
  cluster : Nat
  sid : W64
  cmdSeq : W64
  running : Bool := false
  seed : BitVec 256 := 0
  deriving DecidableEq, Repr

/-- Ports, datagrams, sessions and queue pairs, staging, roll tests, responses that wait for a mirror, and commands that wait
for the end of an operating-firmware restart (14 R424). `answered` are the handshakes whose SESSION_READY has gone: their MODULE_HELLO is kept
for its 2 s (10 R272). -/
structure HostSide where
  ports : SMap HostPort := []
  partials : List Partial := []
  handshakes : List Handshake := []
  answered : List Handshake := []
  sessions : SMap Session := []
  qps : SMap Qp := []
  ptpOffset : W64 := 0
  ptpHeard : Bool := false
  staging : Option Staging := none
  stagingOutcome : W16 := 0
  delayed : List (Nat × W64 × Response) := []
  rollTests : List RollTest := []
  waiting : List Instr := []
  deriving DecidableEq, Repr

/-! ### Start, firmware, configuration memory (11, 14) -/

/-- Fuses and configuration memory but the log (11 R313 to R316, 14 R406). `pending` and `proven` hold one bit each for
trusted firmware, operating firmware and Morrik image (R314); slots of each kind are keyed 0 and 1. -/
structure Nv where
  fuseVersion : W16 := 1
  productCode : W16 := 0x0576
  serial : BitVec 128 := 0
  fusesOk : Bool := true
  vendorDigest : BitVec 256 := 0
  ownerDigest0 : BitVec 256 := 0
  ownerDigest1 : BitVec 256 := 0
  slotBad : SMap (BitVec 14) := []
  sramRepairs : SMap W64 := []
  seamSpares : SMap W32 := []
  generation : W32 := 1
  tfActive : Nat := 0
  opfwActive : Nat := 0
  imageActive : Nat := 0
  pending : BitVec 3 := 0
  proven : BitVec 3 := 0
  startCount : Nat := 0
  tf : SMap FwImage := []
  opfw : SMap FwImage := []
  images : SMap MorrikImage := []
  deriving DecidableEq, Repr

/-- The present start and the firmware that runs (11 R301 to R333, 14 R408 to R423). `stage` is the stage in progress,
`ready` that stage 7 has ended, `active` that a start runs. Time zero is `before` ns ahead of the time base's `zero`, and
`begun` counts from it. `affected` and `unit` are the units that the stage leaves out, `again` its repeated attempts;
`trained` and `cooled` are the two works of stage 4, `drifted` a first baseline that drifted. Outcomes are those of OPFW_OUTCOME. -/
structure Start where
  active : Bool := false
  ready : Bool := false
  failed : Bool := false
  stage : Nat := 0
  kind : Nat := 0
  zero : Nat := 0
  before : Nat := 0
  begun : Nat := 0
  prechargeUs : Nat := 0
  wave : Nat := 0
  waveMs : List Nat := []
  affected : Nat := 0
  unit : Option W64 := none
  code : W16 := 0
  spared : Nat := 0
  again : Nat := 0
  trained : Bool := false
  cooled : Bool := false
  drifted : Bool := false
  reports : SMap (List Byte) := []
  prevReports : SMap (List Byte) := []
  tfSlot : Nat := 0
  opfwSlot : Nat := 0
  imageSlot : Nat := 0
  tfVersion : W64 := 0
  opfwVersion : W64 := 0
  tfOutcome : Nat := 0
  opfwOutcome : Nat := 0
  tfRefused : W64 := 0
  opfwRefused : W64 := 0
  tfTrial : Bool := false
  opfwTrial : Bool := false
  stagedApplied : Bool := false
  image : Option MorrikImage := none
  coolingInForce : Nat := 0
  response : Nat := 0
  noClassFits : Bool := false
  resetCause : Byte := 0
  deferred : List JEntry := []
  deriving DecidableEq, Repr

/-- The firmware counters (14 R423) and the pairs' recent expiries (R414). -/
structure Firmware where
  schedRestarts : W64 := 0
  pmRestarts : W64 := 0
  adoptions : W64 := 0
  mismatches : W64 := 0
  refused : W64 := 0
  schedExpiries : List Nat := []
  schedCause : Nat := 0
  deriving DecidableEq, Repr

/-! ### Chassis (16) and the module's state (15) -/

/-- Pins, hot-swap controller and CHASSIS_STATUS (16 R448 to R456). `main` is the main switch, `tripped` the latch of the
120 C trip (15 R426), `removal` REMOVAL, `leaving` the SEQ of MODULE_LEFT that waits for its
mirror, `standby` that the module stands in standby or leaves it. STATE of MODULE_STATE stands in `mode` once the module is ready (15 R440). -/
structure Chassis where
  present : Bool := false
  latchOpen : Bool := true
  modReset : Bool := false
  inputMv : Nat := 0
  applied : Bool := false
  main : Bool := false
  tripped : Bool := false
  fellBelow : Bool := false
  removal : Nat := 0
  removing : Bool := false
  indicator : Bool := false
  alerts : BitVec 6 := 0
  lidTemp : Byte := 0
  dynAddr : Option (BitVec 7) := none
  leaving : Option Nat := none
  mode : Nat := 0
  standby : Bool := false
  harbourEntries : Nat := 0
  deriving DecidableEq, Repr

/-! ### What the module sends -/

/-- An output of the block, in the order they leave it (log 10). -/
inductive Output where
  | notice (sid : W64) (e : JEntry)
  | mesh (p : MeshPkt)
  | strait (engine : Nat) (p : StraitPkt)
  | moduleHello (hs : W64) (body : List Byte)
  | sessionReady (hs : W64) (body : List Byte)
  | response (sid : W64) (r : Response)
  | sideband (status : W16) (value : W64)
  | sensors (values : List Nat)
  | access (status : W16)
  | effecter (accepted : Bool)
  | frame (port sub : Nat) (kind : Nat) (data : List Byte)
  | rdmaData (qpn : W32) (data : List Byte)
  | rdmaAck (qpn : W32)
  | rdmaNak (qpn : W32) (status : W16)
  | rdmaWrite (qpn : W32) (addr : W64) (length : W64)
  | rdmaRead (qpn : W32) (addr : W64) (length : W64)
  | linkReplay (unit : W64)
  | flits (engine : Nat) (flits : List Flit)
  | transferReplay (unit : W64) (transfers : List Transfer)
  | paceTime (seat : Nat) (time : W64) (setPoints : List (W32 × W16))
  | paceReport (seat : Nat) (reports : List (W32 × W16))
  | membership (seat : Nat) (note : MemberNote)
  | commit (seat : Nat) (note : CommitNote)
  deriving DecidableEq, Repr

/-! ### The whole -/

structure State where
  timeBase : W64 := 0
  freeCtr : Nat := 0
  mem : SMap Byte := []
  wordErr : SMap WordErr := []
  writeBack : List Nat := []
  out : List Output := []
  cores : SMap Core := []
  clusters : SMap Cluster := []
  islands : SMap Island := []
  hbm : Hbm := {}
  hbmStacks : SMap Stack := []
  links : SMap PortSet := []
  mesh : Mesh := {}
  sched : Sched := {}
  power : Power := {}
  arch : Arch := {}
  host : HostSide := {}
  nv : Nv := {}
  start : Start := {}
  firmware : Firmware := {}
  chassis : Chassis := {}
  eventCounts : SMap W64 := []
  journal : Journal := {}
  log : DefectLog := {}
  pending : List Instr := []
  deriving DecidableEq, Repr

/-- What stops the machine. -/
inductive Fault where
  /-- Raised by INPUT_OUT_OF_RANGE alone: stress beyond the limits of 17 R462 and R475, for which the spec gives no
  behaviour at all. Safe: the machine stops where the hardware has no guarantee. -/
  | outsideGuarantee
  deriving DecidableEq, Repr

/-- A command the model does not take. -/
inductive Refusal where
  /-- Raised by an arm of Dispatch.lean whose command has no meaning yet. Safe: the machine stops. -/
  | notModelled (mnemonic : String)
  deriving DecidableEq, Repr

/-- The firmware that the model's configuration memory holds at its first power-up (log 5). -/
def firmwareAtShipment (kind : Byte) : FwImage :=
  { magic := 0x57465A50, formatVersion := 1, productCode := 0x0576, kind := kind, version := 1, minPeer := 1, size := 32768
    signerDigest := 0, sigValid := true, sectionsOk := true, digest := 0 }

/-- The Morrik image of the model's configuration memory (log 5): protected HBM, air class, one layout that gives every
cluster to partition 0, no topology, one operator key that may bind every partition. -/
def imageAtShipment : MorrikImage :=
  { magic := 0x4B52524D, formatVersion := 1, productCode := 0x0576, version := 1, serial := 0
    imageSize := 0x1E00 + 96 + 29792, signerDigest := 0, sigValid := true, reservedZero := true, coolingClass := 0, hbmMode := 0
    defaultLayout := 0, layoutCount := 1, capPriority := [0, 1, 2, 3], operatorCapW := 0, portMode := [0, 0], udpPort := 0
    vlanId := 0, dscpCauseway := 0xFF, dscpRoce := 0xFF, pfcPriority := 0xFF, topology := 0, archN := 0, torusA := 0
    torusB := 0, seat := 0, layouts := [List.replicate 48 0]
    subPorts := [⟨0x010000000002, 64, 0, 1, 0⟩, ⟨0, 0, 0, 0, 0⟩, ⟨0, 0, 0, 0, 0⟩, ⟨0, 0, 0, 0, 0⟩,
      ⟨0x020000000002, 64, 0, 2, 0⟩, ⟨0, 0, 0, 0, 0⟩, ⟨0, 0, 0, 0, 0⟩, ⟨0, 0, 0, 0, 0⟩]
    seats := [], hostKeys := [⟨1, 1, true, 0x3FFF, 0xFFFFFFFFFFFF⟩], digest := 0 }

/-- The module before its first power-up: unseated, its fuses and configuration memory as log 5 names them (log 4). -/
def State.reset : State :=
  { nv := { tf := [(0, firmwareAtShipment 1)], opfw := [(0, firmwareAtShipment 2)], images := [(0, imageAtShipment)] } }

end Sys2Proof.Machine
end

