-- ==== Sys2Proof/Machine/Access.lean ====
section
/-! DEFINITION. Access to the state's parts: status and event codes, cores, clusters, partitions, registers and tokens, free values,
and memory by device address. -/

namespace Sys2Proof.Machine

open Sys2Proof

/-! ### Status and event codes (00 R16) -/

def stOk : W16 := 0x0000
def stAuthFailed : W16 := 0x0101
def stFeature : W16 := 0x0104
def stSessionUnknown : W16 := 0x0105
def stLeaseExpired : W16 := 0x0106
def stResumeToken : W16 := 0x0107
def stUnmapped : W16 := 0x0201
def stResetting : W16 := 0x0302
def stLedgerVersion : W16 := 0x0401
def stStreamSkew : W16 := 0x0402
def stIllegal : W16 := 0x0501
def stMisaligned : W16 := 0x0502
def stOverrun : W16 := 0x0503
def stImageSignature : W16 := 0x0601

def evUnitSubstituted : W16 := 0x8001
def evCapacityChanged : W16 := 0x8002
def evSchedulerRestarted : W16 := 0x8003
def evPhaseReserveLost : W16 := 0x8010
def evSupplyDip : W16 := 0x8011
def evThermalShed : W16 := 0x8012
def evCoolingFallback : W16 := 0x8013
def evWakeDeferred : W16 := 0x8014
def evSessionHeld : W16 := 0x8020
def evJobDiscarded : W16 := 0x8021
def evMemoryScrubbed : W16 := 0x8022
def evPortFailover : W16 := 0x8023
def evMasterTakeover : W16 := 0x8030
def evLaneSpared : W16 := 0x8031
def evWireSpared : W16 := 0x8032
def evHalfLost : W16 := 0x8033
def evModuleLeft : W16 := 0x8034
def evStackLost : W16 := 0x8040
def evChannelRetrained : W16 := 0x8041
def evWordUncorrectable : W16 := 0x8042
def evDoublesMismatch : W16 := 0x8050
def evRollTestDone : W16 := 0x8051

/-! ### Access -/

def State.core (s : State) (L : Nat) : Core := SMap.getD s.cores L {}
def State.setCore (s : State) (L : Nat) (c : Core) : State := { s with cores := SMap.put s.cores L c }
def State.modCore (s : State) (L : Nat) (f : Core → Core) : State := s.setCore L (f (s.core L))
def State.cluster (s : State) (c : Nat) : Cluster := SMap.getD s.clusters c {}
def State.setCluster (s : State) (c : Nat) (x : Cluster) : State := { s with clusters := SMap.put s.clusters c x }
def State.modCluster (s : State) (c : Nat) (f : Cluster → Cluster) : State := s.setCluster c (f (s.cluster c))
def State.island (s : State) (i : Nat) : Island := SMap.getD s.islands i {}
def State.setIsland (s : State) (i : Nat) (x : Island) : State := { s with islands := SMap.put s.islands i x }
def State.modIsland (s : State) (i : Nat) (f : Island → Island) : State := s.setIsland i (f (s.island i))
def State.part (s : State) (p : Nat) : Part := SMap.getD s.sched.parts p {}
def State.setPart (s : State) (p : Nat) (x : Part) : State :=
  { s with sched := { s.sched with parts := SMap.put s.sched.parts p x } }
def State.modPart (s : State) (p : Nat) (f : Part → Part) : State := s.setPart p (f (s.part p))
def State.modJob (s : State) (p : Nat) (f : Job → Job) : State :=
  s.modPart p fun x => { x with job := x.job.map f }
def State.emit (s : State) (o : Output) : State := { s with out := s.out ++ [o] }

/-- A core's counters count while its position is served and its region runs (02 R69, R70). -/
def State.counting (s : State) (L : Nat) : Bool :=
  (s.cluster (L / 12)).region == .running && (s.cluster (L / 12)).map.getD (L % 12) 0xF != 0xF

/-- A change of a core's counters, where they count. -/
def State.countCore (s : State) (L : Nat) (f : CoreCounters → CoreCounters) : State :=
  if s.counting L then s.modCore L fun c => { c with counters := f c.counters } else s

/-- A free value: the opaque constant at the model's own counter, which advances (log 6). -/
def State.fresh (s : State) : W64 × State := (Config.free64 s.freeCtr, { s with freeCtr := s.freeCtr + 1 })

/-- A scalar register; s0 reads as zero (04 R100). -/
def Core.reg (c : Core) (r : Nat) : W64 := if r = 0 then 0 else SMap.getD c.regs r 0

/-- A write of a scalar register; writes to s0 are discarded (04 R100). -/
def Core.setReg (c : Core) (r : Nat) (v : W64) : Core := if r = 0 then c else { c with regs := SMap.set c.regs r v 0 }

def Core.lane (c : Core) (v i : Nat) : W32 := SMap.getD c.vregs (v * 512 + i) 0
def Core.vreg (c : Core) (v : Nat) : List W32 := SMap.toList c.vregs (v * 512) 512 0

/-- A vector register takes 512 lanes; lanes the list does not give are zero. -/
def Core.setVreg (c : Core) (v : Nat) (ls : List W32) : Core :=
  { c with vregs := SMap.splice c.vregs (v * 512) 512 (SMap.ofList ls 0 0) }

def Core.token (c : Core) (t : Nat) : Token := SMap.getD c.tokens t {}
def Core.setToken (c : Core) (t : Nat) (k : Token) : Core := { c with tokens := SMap.set c.tokens t k {} }
def Core.inbox (c : Core) (i : Nat) : Inbox := SMap.getD c.inboxes i {}
def Core.setInbox (c : Core) (i : Nat) (x : Inbox) : Core := { c with inboxes := SMap.set c.inboxes i x {} }
def Core.addEvents (c : Core) (e : Events) : Core := { c with events := c.events ||| e }

/-- A signal: the count stays at 65,535 and sets the overflow flag where it would pass it (04 R117). -/
def Token.signal (k : Token) (n : Nat) : Token :=
  if 65535 < k.count + n then { k with count := 65535, overflow := true } else { k with count := k.count + n }

/-- A transfer's error on a token: the first status stands (04 R116). -/
def Token.fail (k : Token) (st : W16) : Token := if k.err then k else { k with err := true, status := st }

def Core.signal (c : Core) (t n : Nat) : Core := c.setToken t ((c.token t).signal n)

/-- The next instruction's word address; fetch wraps at the end of core store (04 R100). -/
def Core.advance (c : Core) (n : Nat) : Core := { c with pc := (c.pc + n) % 2 ^ 21 }

/-! ### Memory by device address (00 R11) -/

def csBase (L : Nat) : Nat := 0x050000000000 + 2 ^ 24 * L
def lagoonBase (i : Nat) : Nat := 0x040000000000 + 2 ^ 28 * i

/-- Quarter k of an island's lagoon: the home slices of its cluster k (05 R137). -/
def quarterBase (c : Nat) : Nat := lagoonBase (c / 4) + 2 ^ 26 * (c % 4)

/-- Where a device address lies (00 R11). -/
inductive Place where
  | hbm (a : Nat)
  | lagoon (island quarter : Nat)
  | coreStore (L word : Nat)
  | islandReg (island off : Nat)
  | moduleReg (off : Nat)
  | reserved
  deriving DecidableEq, Repr

def placeOf (a : Nat) : Place :=
  if a < 2 ^ 41 then .hbm a
  else if 0x040000000000 ≤ a ∧ a < 0x0400C0000000 then
    .lagoon ((a - 0x040000000000) / 2 ^ 28) ((a - 0x040000000000) / 2 ^ 26 % 4)
  else if 0x050000000000 ≤ a ∧ a < 0x050240000000 then
    .coreStore ((a - 0x050000000000) / 2 ^ 24) ((a - 0x050000000000) % 2 ^ 24 / 8)
  else if 0x070000000000 ≤ a ∧ a < 0x07000C000000 then
    .islandReg ((a - 0x070000000000) / 2 ^ 24) ((a - 0x070000000000) % 2 ^ 24)
  else if 0x07F000000000 ≤ a ∧ a < 0x07F001000000 then .moduleReg (a - 0x07F000000000)
  else .reserved

/-- One byte; a byte that nothing has written reads zero (15 R437, log 3). -/
def State.readByte (s : State) (a : Nat) : Byte := SMap.getD s.mem a 0

/-- Eight bytes, little-endian (00 R13). -/
def State.readWord (s : State) (a : Nat) : W64 := leWord (SMap.toList s.mem a 8 0)

def State.readBytes (s : State) (a n : Nat) : List Byte := SMap.toList s.mem a n 0

/-- A little-endian field of `n` bytes. -/
def State.readNat (s : State) (a n : Nat) : Nat :=
  (s.readBytes a n).foldr (fun b acc => b.toNat + 256 * acc) 0

/-- The bytes of a range as a sparse map from offset 0. -/
def State.slice (s : State) (a n : Nat) : SMap Byte := SMap.slice s.mem a n

/-- The one way memory changes: the bytes of `es` replace the range, the errors standing in its words go, and so do
their queued write-backs (05 R142). -/
def State.store (s : State) (a n : Nat) (es : SMap Byte) : State :=
  { s with
    mem := SMap.splice s.mem a n (SMap.normal es 0)
    wordErr := SMap.clear s.wordErr (a / 8) ((n + 7) / 8)
    writeBack := s.writeBack.filter fun w => decide (w < a / 8) || decide (a / 8 + (n + 7) / 8 ≤ w) }

def State.writeBytes (s : State) (a : Nat) (bs : List Byte) : State := s.store a bs.length (SMap.ofList bs 0 0)
def State.writeWord (s : State) (a : Nat) (w : W64) : State := s.writeBytes a (leBytes 8 w.toNat)

/-- A range reads zero with valid check bits (05 R139, 15 R429). -/
def State.zero (s : State) (a n : Nat) : State := s.store a n []

/-- Bytes of one range copied to another. -/
def State.copy (s : State) (src dst n : Nat) : State := s.store dst n (s.slice src n)

/-- The canonical form of memory: addresses strictly rising, no byte equal to what an unlisted address reads as. -/
def memoryWf (m : SMap Byte) : Bool := SMap.wf m 0


end Sys2Proof.Machine
end

