-- ==== Sys2Proof/Machine/MeshNet.lean ====
section
/-! DEFINITION. The mesh between its endpoints: nodes and attach nodes, ports and links, default routes and what leaves them, the
two halves with their virtual channels, packets sent in both classes and kept until acknowledged, and receive windows (01 R18,
R19, 07 R180 to R198). -/

namespace Sys2Proof

/-! ### A packet's marks (07 R185, R186) -/

/-- CLASS of FLAGS. -/
def MeshPkt.assuredClass (p : MeshPkt) : Bool := p.flags.getLsbD 0

/-- COPY of FLAGS. -/
def MeshPkt.copyB (p : MeshPkt) : Bool := p.flags.getLsbD 1

/-- RESEND of FLAGS. -/
def MeshPkt.resent (p : MeshPkt) : Bool := p.flags.getLsbD 3

/-- Two packets of one type, source, destination, class and SEQ: one packet, whatever its copy and marks. -/
def MeshPkt.same (p q : MeshPkt) : Bool :=
  p.typ == q.typ && p.src == q.src && p.dest == q.dest && p.assuredClass == q.assuredClass && p.seq == q.seq

/-- Transfers of a packet (R186): the header and up to 480 B are one. -/
def MeshPkt.transfers (p : MeshPkt) : Nat := (32 + p.payload.length + 511) / 512

/-- The device address of a packet: bits [47:0] of ADDR. -/
def MeshPkt.address (p : MeshPkt) : Nat := p.addr.toNat % 2 ^ 48

/-- A little-endian field of the payload. -/
def MeshPkt.payloadNat (p : MeshPkt) (i n : Nat) : Nat := ((p.payload.drop i).take n).foldr (fun b acc => b.toNat + 256 * acc) 0

/-- PART of a packet. -/
def MeshPkt.job (p : MeshPkt) : Nat := p.part.toNat

end Sys2Proof

namespace Sys2Proof.Machine

/-! ### Where an HBM address lies (06 R158, R159) -/

def State.stack (s : State) (i : Nat) : Stack := SMap.getD s.hbmStacks i {}
def State.setStack (s : State) (i : Nat) (x : Stack) : State := { s with hbmStacks := SMap.put s.hbmStacks i x }
def State.modStack (s : State) (i : Nat) (f : Stack → Stack) : State := s.setStack i (f (s.stack i))

/-- Where a granule of HBM stands (06 R158, R159). -/
structure GranulePlace where
  stripe : Nat
  parityStack : Nat
  stack : Nat
  ch : Nat
  loc : Nat
  deriving DecidableEq, Repr

/-- Parity stack of a stripe. -/
def parityStackOf (t : Nat) : Nat := (t % 16 + t / 32 % 16) % 16

/-- Channel of a stripe: the fold of its number. -/
def channelOf (t : Nat) : Nat :=
  (t % 32) ^^^ (t / 2 ^ 5 % 32) ^^^ (t / 2 ^ 10 % 32) ^^^ (t / 2 ^ 15 % 32) ^^^ (t / 2 ^ 20 % 32) ^^^ (t / 2 ^ 25 % 16)

/-- Stripe and position of a user address: protected mode 15 data granules a stripe, else 16. -/
def State.stripeOf (s : State) (a : Nat) : Nat × Nat :=
  let g := a / 256
  if s.hbm.mode then (g / 16, g % 16) else (g / 15, g % 15)

/-- Stack of position j of a stripe. -/
def State.stackAt (s : State) (t j : Nat) : Nat :=
  if s.hbm.mode then (parityStackOf t + j) % 16 else (parityStackOf t + 1 + j) % 16

def State.granulePlace (s : State) (a : Nat) : GranulePlace :=
  let t := (s.stripeOf a).1
  ⟨t, parityStackOf t, s.stackAt t (s.stripeOf a).2, channelOf t, t / 32⟩

/-! ### Nodes and endpoints (00 R6, 01 R18, R19, 07 R185) -/

/-- Node n = x + 6y of a cluster (00 R6). -/
def nodeOf (c : Nat) : Nat :=
  let i := c / 4
  let k := c % 4
  ((i % 3) * 2 + k % 2) + 6 * ((i / 3) * 2 + k / 2)

/-- Cluster of a node (00 R6). -/
def clusterAt (n : Nat) : Nat :=
  let x := n % 6
  let y := n / 6
  (x / 2 + 3 * (y / 2)) * 4 + (y % 2) * 2 + x % 2

/-- A unit that enters the mesh at an attach node (01 R18, R19). -/
inductive Attached where
  | stack (k : Nat)
  | engine (e : Nat)
  | firmwarePairs
  | hostPort (i : Nat)
  | configMemory
  deriving DecidableEq, Repr

/-- The mesh node of engine e (01 R18). -/
def engineNode (e : Nat) : Nat := if e < 12 then e / 2 else (e - 12) / 2 + 42

/-- Stack k in 0 to 7 attaches at (0, k), in 8 to 15 at (5, k - 8) (01 R18). -/
def attachNode (stack : Nat) : Nat := if stack < 8 then 6 * stack else 5 + 6 * (stack - 8)

/-- The attach node of a unit (01 R18, R19): the security, power-management and scheduler pairs at (2,1), host port 0 at (2,0) and
port 1 at (3,0), the configuration memory interface and the crystal input at (3,1). -/
def Attached.node (u : Attached) : Nat :=
  match u with
  | .stack k => attachNode k
  | .engine e => engineNode e
  | .firmwarePairs => 2 + 6 * 1
  | .hostPort i => 2 + i
  | .configMemory => 3 + 6 * 1

/-- Where the time base's beacon trees have their root: the crystal input (01 R19). -/
def beaconRoot : Nat := Attached.configMemory.node

/-- An endpoint: node in [5:0], endpoint in [9:6] (07 R185). -/
def endpoint (n e : Nat) : W16 := BitVec.ofNat 16 (n + e * 64)

/-- The node port behind which an attached unit lies (07 R185: endpoint 15). -/
def Attached.port (u : Attached) : W16 := endpoint u.node 15

def coreEndpoint (L : Nat) : W16 := endpoint (nodeOf (L / 12)) (L % 12)
def engineEndpoint (c p : Nat) : W16 := endpoint (nodeOf c) (12 + p)

/-- The node of an endpoint. -/
def nodeAt (e : W16) : Nat := e.toNat % 64

/-- The logical core whose slot stop an endpoint names. -/
def coreOfEndpoint (e : W16) : Option Nat :=
  let n := e.toNat % 64
  let k := e.toNat / 64 % 16
  if k < 12 ∧ n < 48 then some (clusterAt n * 12 + k) else none

/-- SEQ runs per source endpoint, destination endpoint and class (07 R185). -/
def seqKey (src dest : W16) (assured : Bool) : Nat :=
  (src.toNat * 65536 + dest.toNat) * 2 + (if assured then 1 else 0)

/-- The endpoint that owns a device address (07 R185, 01 R18, R19): slot stop, node port of the lagoon quarter or of the stack's
controller; an island register block answers at its island's first node, the module registers at the firmware pairs. -/
def State.ownerOf (s : State) (a : Nat) : W16 :=
  match placeOf a with
  | .coreStore L _ => coreEndpoint L
  | .lagoon i q => endpoint (nodeOf (i * 4 + q)) 15
  | .hbm x => (Attached.stack (s.granulePlace x).stack).port
  | .islandReg i _ => endpoint (nodeOf (i * 4)) 15
  | _ => Attached.firmwarePairs.port

/-! ### Ports and links (07 R180, R181, R203) -/

/-- The node that a link port of a node reaches, where the port has a link (R180). -/
def peerNode (n d : Nat) : Option Nat :=
  let x := n % 6
  let y := n / 6
  let express := x % 2 == 0 && y % 2 == 0
  match d with
  | 0 => if x < 5 then some (n + 1) else none
  | 1 => if y < 7 then some (n + 6) else none
  | 2 => if 0 < x then some (n - 1) else none
  | 3 => if 0 < y then some (n - 6) else none
  | 4 => if express && x < 4 then some (n + 2) else none
  | 5 => if express && y < 6 then some (n + 12) else none
  | 6 => if express && 0 < x then some (n - 2) else none
  | 7 => if express && 0 < y then some (n - 12) else none
  | _ => none

/-- The port at the far end of a link: the opposite direction. -/
def farPort (d : Nat) : Nat := d / 4 * 4 + (d + 2) % 4

/-- A link that crosses a seam: every express link, and a nearest-neighbour link between two islands (R181). -/
def isSeam (n d : Nat) : Bool :=
  match d with
  | 0 => n % 2 == 1
  | 1 => n / 6 % 2 == 1
  | 2 => n % 2 == 0
  | 3 => n / 6 % 2 == 0
  | _ => true

def State.portSet (s : State) (n d : Nat) : PortSet := SMap.getD s.links (n * 8 + d) {}
def State.setPort (s : State) (n d : Nat) (x : PortSet) : State := { s with links := SMap.put s.links (n * 8 + d) x }
def State.modPort (s : State) (n d : Nat) (f : PortSet → PortSet) : State := s.setPort n d (f (s.portSet n d))

def PortSet.half (x : PortSet) (h : Bool) : BitVec 2 := if h then x.half1 else x.half0
def PortSet.setHalf (x : PortSet) (h : Bool) (v : BitVec 2) : PortSet := if h then { x with half1 := v } else { x with half0 := v }
def PortSet.store (x : PortSet) (h : Bool) : List Transfer := if h then x.store1 else x.store0
def PortSet.setStore (x : PortSet) (h : Bool) (ts : List Transfer) : PortSet :=
  if h then { x with store1 := ts } else { x with store0 := ts }

/-! ### Routes (07 R187, R188) -/

/-- Hops of a segment from coordinate `v` to `w` (R188): an express hop wherever the line carries one between 2m and 2m + 2
of the segment, else a nearest-neighbour hop. Answers their directions and whether each is express. -/
def segmentHops (n v w : Nat) (line : Bool) (top : Nat) : List (Bool × Bool) :=
  match n with
  | 0 => []
  | k + 1 =>
    if v = w then []
    else
      let up := decide (v < w)
      let big := line && v % 2 == 0 && (if up then decide (v + 2 ≤ w ∧ v + 2 ≤ top) else decide (w + 2 ≤ v ∧ v ≤ top))
      let step := if big then 2 else 1
      (up, big) :: segmentHops k (if up then v + step else v - step) w line top

/-- The links of a segment as node and port. -/
def walkHops (start : Nat) (hops : List (Bool × Bool)) (alongY : Bool) : List (Nat × Nat) :=
  (hops.foldl (fun (acc : Nat × List (Nat × Nat)) h =>
    let d := (if alongY then 1 else 0) + (if h.1 then 0 else 2) + (if h.2 then 4 else 0)
    ((peerNode acc.1 d).getD acc.1, acc.2 ++ [(acc.1, d)])) (start, [])).2

/-- The links of a route, along y first or along x first (R187, R188); `express` off leaves it nearest-neighbour hops alone. -/
def routeOf (express : Bool) (src dst : Nat) (yFirst : Bool) : List (Nat × Nat) :=
  let sx := src % 6
  let sy := src / 6
  let dx := dst % 6
  let dy := dst / 6
  if yFirst then
    walkHops src (segmentHops 8 sy dy (express && sx % 2 == 0) 6) true ++
      walkHops (sx + 6 * dy) (segmentHops 8 sx dx (express && dy % 2 == 0) 4) false
  else
    walkHops src (segmentHops 8 sx dx (express && sy % 2 == 0) 4) false ++
      walkHops (dx + 6 * sy) (segmentHops 8 sy dy (express && dx % 2 == 0) 6) true

/-- The default route (R187, R188). -/
def routeLinks (src dst : Nat) (yFirst : Bool) : List (Nat × Nat) := routeOf true src dst yFirst

/-- Whether a bulk packet runs along y first: on the column of the endpoint nearer the die's centre line (R187). -/
def bulkYFirst (src dst : Nat) : Bool :=
  let e := fun (x : Nat) => if x = 0 ∨ x = 5 then 5 else if x = 1 ∨ x = 4 then 3 else 1
  decide (e (src % 6) < e (dst % 6))

/-- The virtual channel of a default route (R190). -/
def defaultChannel (assured yFirst : Bool) : Nat := if assured then 2 else if yFirst then 1 else 0

/-! ### Off the default route (07 R190, R197) -/

/-- A half of a link is out of service. -/
def State.lostOn (s : State) (h : Bool) (l : Nat × Nat) : Bool := (s.portSet l.1 l.2).half h == 2

/-- A lost half of a link with a detour installed for it (R197 step 3). -/
def State.detoured (s : State) (h : Bool) (l : Nat × Nat) : Bool :=
  s.mesh.detours.contains (l.1, l.2, h) ||
    (match peerNode l.1 l.2 with
     | some m => s.mesh.detours.contains (m, farPort l.2, h)
     | none => false)

/-- The node at which a run of links ends. -/
def runEnd (start : Nat) (run : List (Nat × Nat)) : Nat := run.foldl (fun m l => (peerNode l.1 l.2).getD m) start

/-- From node u past lost links to node w (R197 step 3): one hop to the parallel line toward +x or +y, or toward -x or -y on the
die's last line, along it, and back; where a turn of the route is lost, along the other two sides. None where that is lost too. -/
def State.bypass (s : State) (h : Bool) (u w : Nat) : Option (List (Nat × Nat)) :=
  let beside := fun (out : Nat) (alongY : Bool) =>
    let a := (peerNode u out).getD u
    let b := (peerNode w out).getD w
    [(u, out)] ++ routeOf false a b alongY ++ [(b, farPort out)]
  let path :=
    if u % 6 = w % 6 then beside (if u % 6 < 5 then 0 else 2) true
    else if u / 6 = w / 6 then beside (if u / 6 < 7 then 1 else 3) false
    else
      let r := routeOf false u w true
      if r.any (s.lostOn h) then routeOf false u w false else r
  if path.any (s.lostOn h) then none else some path

/-- A route as a copy or a bulk packet takes it from half h (R197): each link with its half and whether the packet is off its default
route there. A bulk packet crosses to the other half at a lost link and stays on it; an assured copy crosses for that link alone
until a detour stands, then passes it on its own half. Where both halves of a link are lost, any packet passes it. None where
no way is left. -/
def State.pass (s : State) (assured : Bool) (fuel : Nat) (h off : Bool) (r : List (Nat × Nat)) :
    Option (List (Nat × Nat × Bool × Bool)) :=
  match fuel, r with
  | _, [] => some []
  | 0, _ => none
  | k + 1, l :: t =>
    if s.lostOn h l = false then (State.pass s assured k h off t).map fun x => (l.1, l.2, h, off) :: x
    else
      let around := fun (_ : Unit) =>
        let run := l :: t.takeWhile (s.lostOn h)
        match s.bypass h l.1 (runEnd l.1 run) with
        | none => none
        | some path =>
          (State.pass s assured k h true (t.dropWhile (s.lostOn h))).map fun x => (path.map fun m => (m.1, m.2, h, true)) ++ x
      let cross := fun (_ : Unit) =>
        if s.lostOn (!h) l then none
        else if assured then (State.pass s assured k h true t).map fun x => (l.1, l.2, !h, true) :: x
        else State.pass s assured k (!h) true r
      if assured && s.detoured h l then
        match around () with
        | some x => some x
        | none => cross ()
      else
        match cross () with
        | some x => some x
        | none => around ()

/-- The links of a packet with half and virtual channel (R190): channel 3 from where it has left its default route. -/
def onChannels (dflt : Nat) (r : List (Nat × Nat × Bool × Bool)) : List (Nat × Nat × Bool × Nat) :=
  r.map fun l => (l.1, l.2.1, l.2.2.1, if l.2.2.2 then 3 else dflt)

/-- The way of an assured copy on its half (R189, R197 step 3): its default route, the other dimension order on its own half where a
detour stands and that order avoids every lost link, or past what is lost. -/
def State.copyWay (s : State) (src dst : Nat) (copyB : Bool) : Option (List (Nat × Nat × Bool × Nat)) :=
  let r := routeLinks src dst !copyB
  let o := routeLinks src dst copyB
  if r.any (fun l => s.lostOn copyB l && s.detoured copyB l) && src % 6 != dst % 6 && src / 6 != dst / 6 &&
      !o.any (s.lostOn copyB) then
    some (o.map fun l => (l.1, l.2, copyB, 3))
  else (s.pass true 64 copyB false r).map (onChannels 2)

/-- The way of a bulk packet from the half on which it enters (R189, R197 step 1). -/
def State.bulkWay (s : State) (src dst : Nat) (h : Bool) : Option (List (Nat × Nat × Bool × Nat)) :=
  (s.pass false 64 h false (routeLinks src dst (bulkYFirst src dst))).map (onChannels (defaultChannel false (bulkYFirst src dst)))

/-- The dependences of virtual channel 3 over the packets between every two nodes (R190): each pair of channels that one packet
holds one after the other, a channel being a link and a half. -/
def State.channelDeps (s : State) : List (Nat × Nat) :=
  let chan := fun (l : Nat × Nat × Bool × Nat) => (l.1 * 8 + l.2.1) * 2 + (if l.2.2.1 then 1 else 0)
  let pairs := fun (w : Option (List (Nat × Nat × Bool × Nat))) =>
    match w with
    | none => []
    | some ls => ((ls.zip ls.tail).filter fun e => e.1.2.2.2 == 3 && e.2.2.2.2 == 3).map fun e => (chan e.1, chan e.2)
  let all := (List.range 48).flatMap fun a => (List.range 48).flatMap fun b =>
    pairs (s.copyWay a b false) ++ pairs (s.copyWay a b true) ++ pairs (s.bulkWay a b false) ++ pairs (s.bulkWay a b true)
  all.foldl (fun m e => if m.contains e then m else e :: m) []

/-- A relation without a cycle: taking away, again and again, the pairs whose second has no successor leaves none. -/
def noCycle (fuel : Nat) (es : List (Nat × Nat)) : Bool :=
  match fuel with
  | 0 => es.isEmpty
  | k + 1 =>
    let rest := es.filter fun e => es.any fun f => f.1 == e.2
    if rest.length = es.length then es.isEmpty else noCycle k rest

/-! ### Packets on the links (07 R184, R186, R189, R205) -/

/-- Transfers counted at every port through which a way leaves (R205). -/
def State.countWay (s : State) (assured : Bool) (n : Nat) (way : List (Nat × Nat × Bool × Nat)) : State :=
  way.foldl (fun t l => t.modPort l.1 l.2.1 fun x =>
    if assured then { x with assured := x.assured + BitVec.ofNat 64 n } else { x with bulk := x.bulk + BitVec.ofNat 64 n }) s

/-- The transmitter of every half on a way keeps its last 64 transfers (R184). -/
def State.keepTransfers (s : State) (p : MeshPkt) (way : List (Nat × Nat × Bool × Nat)) : State :=
  let ts := (List.range p.transfers).map fun i => (⟨p.src, p.dest, p.seq, p.flags, i⟩ : Transfer)
  way.foldl (fun t l => t.modPort l.1 l.2.1 fun x =>
    let all := x.store l.2.2.1 ++ ts
    x.setStore l.2.2.1 (all.drop (all.length - 64))) s

/-- One packet on its way: its transfers pass every link, DETOUR is set where it leaves its default route (R185), and it is under way
until it arrives. A packet with no way left is lost on the mesh. -/
def State.launch (s : State) (p : MeshPkt) (h : Bool) (way : Option (List (Nat × Nat × Bool × Nat))) : State :=
  match way with
  | none => s
  | some ls =>
    let q := if ls.any (fun l => l.2.2.2 == 3) then { p with flags := p.flags ||| 4 } else p
    let s1 := ((s.emit (.mesh q)).countWay q.assuredClass q.transfers ls).keepTransfers
      q ls
    { s1 with mesh := { s1.mesh with flights := s1.mesh.flights ++ [⟨q, h, ls⟩] } }

/-- The half that a bulk packet enters (R189, R196): a half in service before a paused one and that before a lost one; between equals
the one with more free buffer credits toward the first hop, half 0 on a tie. How many credits are free is timing: a free
value (log 6). -/
def State.bulkHalf (s : State) (src dst : Nat) : State × Bool :=
  match routeLinks src dst (bulkYFirst src dst) with
  | [] => (s, false)
  | l :: _ =>
    let x := s.portSet l.1 l.2
    if x.half1.toNat < x.half0.toNat then (s, true)
    else if x.half0.toNat < x.half1.toNat then (s, false)
    else
      let r := s.fresh
      (r.2, decide (r.1.toNat % 2 ^ 32 < r.1.toNat / 2 ^ 32))

/-- A packet leaves: one bulk packet, or copy A along YX on half 0 and copy B along XY on half 1 (R187, R189, R195). -/
def State.inject (s : State) (p : MeshPkt) : State :=
  let a := nodeAt p.src
  let b := nodeAt p.dest
  if p.assuredClass then
    (s.launch p false (s.copyWay a b false)).launch { p with flags := p.flags ||| 2 } true (s.copyWay a b true)
  else
    let r := s.bulkHalf a b
    r.1.launch p r.2 (s.bulkWay a b r.2)

/-- Other traffic of the mesh between two nodes, counted in its class on every link that it passes (R193, R205): its packets take
effect with the command that causes them and are not held one by one (log 19). -/
def State.traffic (s : State) (assured : Bool) (src dst bytes : Nat) : State :=
  let n := if assured then (bytes + 479) / 480 else bytes / 4032 * 8 + (if bytes % 4032 = 0 then 0 else (bytes % 4032 + 543) / 512)
  if bytes = 0 then s
  else if assured then
    (s.countWay true n ((s.copyWay src dst false).getD [])).countWay true n ((s.copyWay src dst true).getD [])
  else
    let r := s.bulkHalf src dst
    r.1.countWay false n ((s.bulkWay src dst r.2).getD [])

/-! ### Sending (07 R194, R195) -/

/-- Bytes of bulk packets that a source keeps unacknowledged. -/
def State.replayBytes (s : State) (src : W16) : Nat :=
  s.mesh.sent.foldl (fun n q =>
    if q.src == src && !q.assuredClass then n + 32 + q.payload.length else n) 0

/-- A bulk packet finds space in its sender's replay store of 256 KiB (R194). -/
def State.replayRoom (s : State) (p : MeshPkt) : Bool := decide (s.replayBytes p.src + 32 + p.payload.length ≤ 262144)

/-- A packet takes its SEQ, leaves, and is kept until it is acknowledged; a bulk packet that finds its sender's replay store full, or
others of its sender waiting, waits (R194, R195). -/
def State.sendPacket (s : State) (p : MeshPkt) : State :=
  let cls := p.assuredClass
  let k := seqKey p.src p.dest cls
  let n := SMap.getD s.mesh.seqs k 0
  let q := { p with seq := BitVec.ofNat 32 n }
  let s1 := { s with mesh := { s.mesh with seqs := SMap.put s.mesh.seqs k (n + 1) } }
  if cls || (s1.replayRoom q && !s1.mesh.queued.any fun w => w.src == q.src) then
    { s1 with mesh := { s1.mesh with sent := s1.mesh.sent ++ [q] } }.inject q
  else { s1 with mesh := { s1.mesh with queued := s1.mesh.queued ++ [q] } }

/-- The SEQ that a packet sent now takes. -/
def State.nextSeq (s : State) (src dest : W16) (assured : Bool) : W32 :=
  BitVec.ofNat 32 (SMap.getD s.mesh.seqs (seqKey src dest assured) 0)

/-- Packets that waited for replay space leave in order, as far as it reaches (R194). -/
def State.sendQueued (s : State) (src : W16) : State :=
  (s.mesh.queued.filter fun w => w.src == src).foldl (fun t q =>
    if t.replayRoom q && (t.mesh.queued.find? fun w => w.src == src) == some q then
      { t with mesh := { t.mesh with queued := t.mesh.queued.filter fun w => !w.same q, sent := t.mesh.sent ++ [q] } }.inject q
    else t) s

/-- A packet of memory traffic before it takes its SEQ. -/
def meshPkt (typ : Nat) (assured : Bool) (addr : Nat) (dest src part : W16) (turn : Nat) (payload : List Byte) : MeshPkt :=
  { addr := BitVec.ofNat 64 addr, dest := dest, src := src, typ := BitVec.ofNat 8 typ
    flags := if assured then 1 else 0, seq := 0, part := part, status := 0, turn := BitVec.ofNat 64 turn
    payload := payload }

/-- A TOKEN packet: token number and count. The spec gives it no payload layout (log 19). -/
def tokenPacket (src dest token count : Nat) (part : W16) : MeshPkt :=
  meshPkt 0x08 true 0 (coreEndpoint dest) (coreEndpoint src) part 0 ([BitVec.ofNat 8 token, 0] ++ leBytes 2 count)

/-- A CREDIT packet: from an inbox's core to a sender's; kind 0 a credit, 1 a full-slot notice; inbox and slot
(log 19). -/
def creditPacket (src dest kind inbox slot : Nat) (part : W16) : MeshPkt :=
  meshPkt 0x09 true 0 (coreEndpoint dest) (coreEndpoint src) part 0
    [BitVec.ofNat 8 kind, BitVec.ofNat 8 inbox, BitVec.ofNat 8 slot, 0]

/-- ACK (0x06) or STATUS (0x07) that answers a packet, in its class (R193, R195). It names the packet by its SEQ and takes none of its
own, since nobody sends it again (log 19). -/
def State.answer (s : State) (p : MeshPkt) (typ : Nat) (st : W16) : State :=
  s.inject { meshPkt typ p.assuredClass 0 p.src p.dest p.part 0 [] with seq := p.seq, status := st }

/-! ### Arrival (07 R194, R195) -/

/-- SEQs received in order move the window on; after 2^32 - 1 comes 0 (log 99). -/
def Window.slide (fuel : Nat) (w : Window) : Window :=
  match fuel with
  | 0 => w
  | f + 1 =>
    if w.above.contains w.next then Window.slide f ⟨(w.next + 1) % 2 ^ 32, w.above.filter (· != w.next)⟩ else w

/-- A SEQ that the window takes: one of the 256 above the highest received in order, and not received before (R194). -/
def Window.accept (w : Window) (n : Nat) : Option Window :=
  if 256 ≤ (2 ^ 32 + n - w.next) % 2 ^ 32 ∨ w.above.contains n then none
  else some (Window.slide 257 { w with above := n :: w.above })

def State.window (s : State) (p : MeshPkt) : Window :=
  SMap.getD s.mesh.windows (seqKey p.src p.dest p.assuredClass) {}

/-- A SEQ that the endpoint has received: above the window's base, or behind it. -/
def Window.had (w : Window) (n : Nat) : Bool := w.above.contains n || decide ((2 ^ 32 - 1 + w.next - n) % 2 ^ 32 < 2 ^ 31)

/-- The endpoint has received a packet before (R194, R195). -/
def State.hadBefore (s : State) (p : MeshPkt) : Bool := (s.window p).had p.seq.toNat

/-- The endpoint has received a packet before, or has it out of its window. -/
def State.stale (s : State) (p : MeshPkt) : Bool := ((s.window p).accept p.seq.toNat).isNone

/-- A packet leaves the mesh at its destination. -/
def State.arrived (s : State) (p : MeshPkt) : State :=
  match s.mesh.flights.findIdx? fun f => f.pkt.same p && f.pkt.copyB == p.copyB with
  | some i => { s with mesh := { s.mesh with flights := s.mesh.flights.eraseIdx i } }
  | none => s

/-- An endpoint counts a packet as received: its SEQ enters the window (R194, R195). Answers whether it is new. -/
def State.receive (s : State) (p : MeshPkt) : State × Bool :=
  let k := seqKey p.src p.dest p.assuredClass
  match (s.window p).accept p.seq.toNat with
  | none => (s, false)
  | some w => ({ s with mesh := { s.mesh with windows := SMap.put s.mesh.windows k w } }, true)

/-- The packet that an answer names, at its sender. -/
def State.sentPacket (s : State) (src dest : W16) (assured : Bool) (seq : Nat) : Option MeshPkt :=
  s.mesh.sent.find? fun q =>
    q.src == src && q.dest == dest && q.assuredClass == assured && q.seq.toNat == seq

/-- The packet an acknowledgement names leaves the sender's store, and packets that waited for its space leave (R194, R195). -/
def State.acknowledged (s : State) (src dest : W16) (assured : Bool) (seq : Nat) : State :=
  { s with mesh := { s.mesh with
    sent := s.mesh.sent.filter fun q =>
      !(q.src == src && q.dest == dest && q.assuredClass == assured && q.seq.toNat == seq)
    busy := s.mesh.busy.filter fun b => b != (src, dest, BitVec.ofNat 32 seq, assured)
    retry := s.mesh.retry.filter fun b => !assured || b != (src, dest, BitVec.ofNat 32 seq) } }.sendQueued src

/-- Packets that a predicate names are given up: kept, waiting, under way, or held at their destination. -/
def State.dropPackets (s : State) (f : MeshPkt → Bool) : State :=
  { s with mesh := { s.mesh with
    sent := s.mesh.sent.filter fun q => !f q
    queued := s.mesh.queued.filter fun q => !f q
    flights := s.mesh.flights.filter fun x => !f x.pkt
    held := s.mesh.held.filter fun q => !f q
    ejection := s.mesh.ejection.map fun e => (e.1, e.2.filter fun q => !f q) } }

end Sys2Proof.Machine
end

