-- ==== Sys2Proof/Machine/StraitNet.lean ====
section
/-! DEFINITION. The strait links and what moves on them (09 R236 to R246): trunks, flits and their link sequence numbers, the
routes of bulk packets and of both assured copies. -/

namespace Sys2Proof.Machine

def State.engine (s : State) (e : Nat) : Engine := SMap.getD s.arch.engines e {}
def State.modEngine (s : State) (e : Nat) (f : Engine → Engine) : State :=
  { s with arch := { s.arch with engines := SMap.put s.arch.engines e (f (s.engine e)) } }

/-! ### Trunks and routes (R241, R244, R245) -/

/-- Trunk, peer seat and peer engine of an engine (R241); none for an engine that stays dark. -/
def Arch.trunkOf (a : Arch) (e : Nat) : Option (Nat × Nat × Nat) :=
  let n := a.size
  match a.topology with
  | 1 => if e % 12 < 6 then some (0, (a.seat + 1) % n, e + 6) else some (1, (a.seat + n - 1) % n, e - 6)
  | 2 =>
    let x := a.seat % a.torusA
    let y := a.seat / a.torusA
    match e % 12 / 3 with
    | 0 => some (0, (x + 1) % a.torusA + y * a.torusA, e + 3)
    | 1 => some (1, (x + a.torusA - 1) % a.torusA + y * a.torusA, e - 3)
    | 2 => some (2, x + (y + 1) % a.torusB * a.torusA, e + 3)
    | _ => some (3, x + (y + a.torusB - 1) % a.torusB * a.torusA, e - 3)
  | 3 =>
    let p := if n ≤ 13 then e % 12 else e
    if p + 2 ≤ n then some (p, (a.seat + p + 1) % n, if n ≤ 13 ∧ 12 ≤ e then n + 10 - p else n - 2 - p) else none
  | _ => none

/-- The engines in service of a trunk. -/
def Arch.trunkEngines (a : Arch) (t : Nat) : List Nat :=
  (a.engines.filter fun e => e.2.state == 2 && e.2.trunk == t).map Prod.fst

/-- Those among them whose link no lane failure pauses (R239). -/
def Arch.readyEngines (a : Arch) (t : Nat) : List Nat :=
  (a.engines.filter fun e => e.2.state == 2 && e.2.trunk == t && e.2.paused.isEmpty).map Prod.fst

/-- The relay seat of a full mesh: the first present seat after the destination that is not the source (R245). -/
def Arch.relaySeat (a : Arch) (dest : Nat) : Nat :=
  (((List.range a.size).map fun k => (dest + 1 + k) % a.size).find? fun k => a.members.getLsbD k && k != a.seat && k != dest).getD dest

/-- Full mesh: the trunk to a seat (R241). -/
def Arch.meshTrunk (a : Arch) (dest : Nat) : Nat := (dest + a.size - a.seat - 1) % a.size

/-- Torus: the shorter way round each ring, +1 on a tie; none where the coordinate matches (R244). -/
def Arch.torusWays (a : Arch) (dest : Nat) : Option Nat × Option Nat :=
  let dx := (dest % a.torusA + a.torusA - a.seat % a.torusA) % a.torusA
  let dy := (dest / a.torusA + a.torusB - a.seat / a.torusA) % a.torusB
  (if dx = 0 then none else some (if 2 * dx ≤ a.torusA then 0 else 1),
   if dy = 0 then none else some (if 2 * dy ≤ a.torusB then 2 else 3))

/-- Trunks of copy A, which bulk packets take too, and of copy B (R244, R245). In one row or column of a torus the alternative bulk route,
for which y first has no leg, is copy B's: the other way round that ring (log 114). -/
def Arch.copyTrunks (a : Arch) (dest : Nat) : Nat × Nat :=
  match a.topology with
  | 1 =>
    let d := (dest + a.size - a.seat) % a.size
    if 2 * d ≤ a.size then (0, 1) else (1, 0)
  | 2 =>
    match a.torusWays dest with
    | (some x, some y) => (x, y)
    | (some x, none) => (x, 1 - x)
    | (none, some y) => (y, 5 - y)
    | (none, none) => (0, 1)
  | _ => (a.meshTrunk dest, if a.size ≤ 13 then a.meshTrunk dest else a.meshTrunk (a.relaySeat dest))

/-- The trunk of the alternative bulk route (R244). -/
def Arch.otherTrunk (a : Arch) (dest : Nat) : Nat := if a.topology = 3 then a.meshTrunk (a.relaySeat dest) else (a.copyTrunks dest).2

/-! ### Packets and flits (R237, R238, R243) -/

def StraitPkt.assuredClass (p : StraitPkt) : Bool := p.flags.getLsbD 0

/-- The 32-byte header and the data (R243). -/
def StraitPkt.bytes (p : StraitPkt) : List Byte :=
  leBytes 8 p.addr.toNat ++ [p.destSeat, p.srcSeat, p.typ, p.flags] ++ leBytes 4 p.groupId.toNat ++ leBytes 4 p.seq.toNat ++
    leBytes 2 p.data.length ++ leBytes 2 p.status.toNat ++ leBytes 8 p.turn.toNat ++ p.data

/-- Flits of a packet: its bytes in 240-byte payloads. -/
def StraitPkt.flitCount (p : StraitPkt) : Nat := (32 + p.data.length + 239) / 240

/-- Bytes 0x00 to 0xF7 of a flit (R237). -/
def Flit.body (f : Flit) : List Byte :=
  [f.kind, f.flags] ++ leBytes 2 f.seq.toNat ++ leBytes 2 f.ack.toNat ++ leBytes 2 f.length.toNat ++ (f.payload ++ List.replicate 240 0).take 240

/-- KIND of flit i of n: 1 first, 2 middle, 3 last, 4 only. -/
def flitKind (i n : Nat) : Byte := if n = 1 then 4 else if i = 0 then 1 else if i + 1 = n then 3 else 2

/-- A flit with its CRC. -/
def Flit.sealed (f : Flit) : Flit := { f with crc := Config.flitCrc (Sys2Proof.Machine.Flit.body f) }

/-- The flits of a packet from a link SEQ on, each with the SEQ of the last flit received in order (R237). -/
def StraitPkt.flits (p : StraitPkt) (seq ack : W16) : List Flit :=
  let bs := Sys2Proof.Machine.StraitPkt.bytes p
  let n := Sys2Proof.Machine.StraitPkt.flitCount p
  (List.range n).map fun i =>
    let d := (bs.drop (240 * i)).take 240
    Sys2Proof.Machine.Flit.sealed
      { kind := flitKind i n, flags := if Sys2Proof.Machine.StraitPkt.assuredClass p then 1 else 0, seq := seq + BitVec.ofNat 16 i, ack := ack
        length := BitVec.ofNat 16 d.length, payload := d, crc := 0 }

/-- What the receiver finds wrong with a flit: its CRC, a reserved KIND, or a SEQ out of order. An idle or a link control flit carries the
SEQ of the last flit sent and takes none (R237, R238; log 110). -/
def Flit.bad (f : Flit) (expect : W16) : Bool :=
  f.crc != Config.flitCrc (Sys2Proof.Machine.Flit.body f) || f.kind.toNat == 0 || decide (6 < f.kind.toNat) ||
    (if f.kind.toNat ≤ 4 then f.seq != expect else f.seq + 1 != expect)

/-- A packet's flits go out on an engine's link, counted by class and kept among the last 4,096 (R238, R264). -/
def State.sendFlits (s : State) (e : Nat) (p : StraitPkt) : State :=
  let n := BitVec.ofNat 64 (Sys2Proof.Machine.StraitPkt.flitCount p)
  (s.modEngine e fun x =>
    let all := x.store ++ Sys2Proof.Machine.StraitPkt.flits p x.next (x.expect - 1)
    let y := { x with next := x.next + n.truncate 16, store := all.drop (all.length - 4096) }
    if Sys2Proof.Machine.StraitPkt.assuredClass p then { y with assured := x.assured + n } else { y with bulk := x.bulk + n }).emit (.strait e p)

/-- A packet crosses the mesh from a node to an engine in its class and leaves through it (R243); a paused link holds it (R239). -/
def State.leaveEngine (s : State) (src e : Nat) (p : StraitPkt) : State :=
  let t := s.traffic (Sys2Proof.Machine.StraitPkt.assuredClass p) src (engineNode e) (32 + p.data.length)
  if (t.engine e).paused.isEmpty then t.sendFlits e p else t.modEngine e fun x => { x with waiting := x.waiting ++ [p] }

/-- A packet leaves through one of the engines, the one with the most free flit credits: a free choice (R244, log 6). With
none it is lost. -/
def State.leaveAny (s : State) (src : Nat) (es : List Nat) (p : StraitPkt) : State :=
  match es with
  | [] => s
  | [e] => s.leaveEngine src e p
  | _ =>
    let r := s.fresh
    r.2.leaveEngine src (es.getD (r.1.toNat % es.length) 0) p

/-- The first list that is not empty. -/
def firstOf (xs ys : List Nat) : List Nat := if xs.isEmpty then ys else xs

/-- A bulk packet's engines: those of its trunk, then those of the alternative route, then those whose link is paused (R244, R265). -/
def Arch.bulkEngines (a : Arch) (t other : Nat) : List Nat := firstOf (firstOf (a.readyEngines t) (a.readyEngines other)) (a.trunkEngines t)

/-- Both copies of an assured packet, or a bulk packet on its route or the alternative one (R244, R245). -/
def State.leaveStrait (s : State) (src : Nat) (p : StraitPkt) : State :=
  let d := p.destSeat.toNat
  let a := s.arch
  let t := a.copyTrunks d
  if Sys2Proof.Machine.StraitPkt.assuredClass p then
    let near := fun (far : Bool) (es : List Nat) => if a.topology = 3 ∧ a.size ≤ 13 then es.filter fun e => decide (12 ≤ e) == far else es
    let ea := firstOf (near false (a.readyEngines t.1)) (near false (a.trunkEngines t.1))
    let eb := firstOf (near true (a.readyEngines t.2)) (near true (a.trunkEngines t.2))
    (s.leaveAny src ea p).leaveAny src eb { p with flags := p.flags ||| 2 }
  else s.leaveAny src (a.bulkEngines t.1 (a.otherTrunk d)) p

def straitKey (src dest : Nat) (assured : Bool) : Nat := (src * 64 + dest) * 2 + (if assured then 1 else 0)

/-- A strait packet from a mesh node takes its SEQ, leaves, and is kept until it is acknowledged (R244, R245). -/
def State.sendStrait (s : State) (src typ : Nat) (assured : Bool) (dest : Nat) (group : W32) (turn addr : Nat) (status : W16)
    (data : List Byte) : State :=
  let k := straitKey s.arch.seat dest assured
  let n := SMap.getD s.arch.seqs k 0
  let p : StraitPkt :=
    { addr := BitVec.ofNat 64 addr, destSeat := BitVec.ofNat 8 dest, srcSeat := BitVec.ofNat 8 s.arch.seat
      typ := BitVec.ofNat 8 typ, flags := if assured then 1 else 0, groupId := group, seq := BitVec.ofNat 32 n
      status := status, turn := BitVec.ofNat 64 turn, data := data }
  ({ s with arch := { s.arch with seqs := SMap.put s.arch.seqs k (n + 1), sent := s.arch.sent ++ [(src, p)] } }).leaveStrait src p

/-- The answer to a packet from the node that took it, in its class, with the packet's own SEQ: it takes none and is not kept (log 19). -/
def State.straitAnswer (s : State) (src : Nat) (p : StraitPkt) (typ : Nat) (st : W16) : State :=
  s.leaveStrait src
    { addr := 0, destSeat := p.srcSeat, srcSeat := BitVec.ofNat 8 s.arch.seat, typ := BitVec.ofNat 8 typ
      flags := if Sys2Proof.Machine.StraitPkt.assuredClass p then 1 else 0, groupId := p.groupId, seq := p.seq, status := st, turn := 0
      data := [] }

/-- A packet for another seat goes on: round the same ring until its coordinate matches, then the other dimension; a full
mesh's relay seat sends it to its destination. A bulk packet takes the alternative route where its own has no engine (R244, R245). -/
def State.forward (s : State) (e : Nat) (p : StraitPkt) : State :=
  let d := p.destSeat.toNat
  let a := s.arch
  let t := (s.engine e).trunk
  let on := if t % 2 = 0 then t + 1 else t - 1
  let go := fun (out other : Nat) (q : StraitPkt) =>
    s.leaveAny (engineNode e)
      (if Sys2Proof.Machine.StraitPkt.assuredClass p then firstOf (a.readyEngines out) (a.trunkEngines out) else a.bulkEngines out other) q
  match a.topology with
  | 1 => go on t p
  | 2 =>
    let ways := a.torusWays d
    match (if t < 2 then (if ways.1.isSome then some on else ways.2) else (if ways.2.isSome then some on else ways.1)) with
    | some k => go k ((if k < 2 then ways.2 else ways.1).getD (if k % 2 = 0 then k + 1 else k - 1)) p
    | none => s
  | 3 => go (a.meshTrunk d) (a.meshTrunk (a.relaySeat d)) { p with flags := p.flags ||| 8 }
  | _ => s

/-! ### Arrival (R238, R243 to R245) -/

/-- A packet's flits have arrived in order: the link expects the next, and what it waited for is there (R238). -/
def State.straitArrive (s : State) (e : Nat) (p : StraitPkt) : State :=
  s.modEngine e fun x => { x with expect := x.expect + BitVec.ofNat 16 (Sys2Proof.Machine.StraitPkt.flitCount p), missing := none }

/-- A packet of a TYPE arrives on an engine in service. One of another TYPE, a reserved one, is discarded (R243); one for another seat goes
on; for this seat it crosses the mesh to its endpoint and `act` takes it. -/
def State.straitPacket (s : State) (e : Nat) (p : StraitPkt) (typ : Nat) (act : State → State) : State :=
  if s.arch.topology = 0 ∨ (s.engine e).state ≠ 2 then s
  else
    let t := s.straitArrive e p
    if p.typ.toNat ≠ typ then t
    else if p.destSeat.toNat ≠ s.arch.seat then t.forward e p
    else act t

/-- The receive window of a packet's source, as on the mesh: the packet is noted. Answers whether it is new. -/
def State.straitFresh (s : State) (p : StraitPkt) : State × Bool :=
  let k := straitKey p.srcSeat.toNat p.destSeat.toNat (Sys2Proof.Machine.StraitPkt.assuredClass p)
  match (SMap.getD s.arch.windows k {}).accept p.seq.toNat with
  | none => (s, false)
  | some w => ({ s with arch := { s.arch with windows := SMap.put s.arch.windows k w } }, true)

/-- A packet has been received before: a duplicate, which is acknowledged again (R244, R245). -/
def State.straitHad (s : State) (p : StraitPkt) : Bool :=
  (SMap.getD s.arch.windows (straitKey p.srcSeat.toNat p.destSeat.toNat (Sys2Proof.Machine.StraitPkt.assuredClass p)) {}).had p.seq.toNat

/-- A message in assured class for the firmware: it is taken once, and every copy is acknowledged (R245). -/
def State.straitTake (s : State) (e : Nat) (p : StraitPkt) (typ : Nat) (f : State → State) : State :=
  s.straitPacket e p typ fun t =>
    let u := t.traffic (Sys2Proof.Machine.StraitPkt.assuredClass p) (engineNode e) Attached.firmwarePairs.node (32 + p.data.length)
    let v := u.straitFresh p
    if v.2 then (f v.1).straitAnswer Attached.firmwarePairs.node p 0x02 stOk
    else if u.straitHad p then u.straitAnswer Attached.firmwarePairs.node p 0x02 stOk
    else u

/-- What an answer names leaves the packets that wait for one. -/
def State.straitDone (s : State) (p : StraitPkt) : State :=
  { s with arch := { s.arch with sent := s.arch.sent.filter fun q =>
      !(q.2.destSeat == p.srcSeat && Sys2Proof.Machine.StraitPkt.assuredClass q.2 == Sys2Proof.Machine.StraitPkt.assuredClass p &&
        q.2.seq == p.seq) } }

/-! ### Notices between members -/

/-- The seats of a map. -/
def seatsOf (m : W64) : List Nat := (List.range 64).filter fun k => m.getLsbD k

/-- The seats present but this one. -/
def State.otherSeats (s : State) : List Nat := (seatsOf s.arch.members).filter fun k => k != s.arch.seat

/-- A MEMBERSHIP notice in assured class; its data has no layout in the spec (log 19). -/
def State.sendMember (s : State) (seat : Nat) (n : MemberNote) : State :=
  (s.sendStrait Attached.firmwarePairs.node 0x04 true seat 0 0 0 0 []).emit (.membership seat n)

/-- A COMMIT packet in assured class; its data has no layout in the spec (log 19). TURN is zero but for DATA and REDUCE (R243). -/
def State.sendCommit (s : State) (seat : Nat) (g : W32) (n : CommitNote) : State :=
  (s.sendStrait Attached.firmwarePairs.node 0x07 true seat g 0 0 0 []).emit (.commit seat n)

end Sys2Proof.Machine
end

