-- ==== Sys2Proof/Machine/Ops.lean ====
section
/-! DEFINITION. The named operations that the meanings share: partitions and ranks, the journal and the field defect
log, holds, substitution and what follows a status (04 R127). -/

namespace Sys2Proof.Machine

open Sys2Proof

/-! ### Partitions, ranks and their memory (08) -/

/-- The partition of a cluster in the active layout (08 R207). -/
def State.partOf (s : State) (c : Nat) : Option Nat :=
  let b := ((s.sched.layouts.getD s.sched.active []).getD c 0xFF).toNat
  if b < 48 then some b else none

def State.clustersOf (s : State) (p : Nat) : List Nat :=
  (List.range 48).filter fun c => s.partOf c = some p

/-- ACTIVE in 01 R37 reads 12 (08 R215). -/
def State.inService (s : State) (c : Nat) : Bool := (s.cluster c).active == 12

/-- The orders of 08 R215. -/
def relayOrder : List Nat :=
  [0, 1, 2, 5, 4, 3, 6, 7, 8, 11, 10, 9].flatMap fun i => [0, 1, 3, 2].map fun k => i * 4 + k

def State.clusterOrder (s : State) (p : Nat) (relay : Bool) : List Nat :=
  ((if relay then relayOrder else List.range 48).filter fun c => s.partOf c = some p).filter s.inService

/-- Where a logical core stands in a job: partition, rank, and whether it is copy B (13 R378). -/
structure Stand where
  part : Nat
  rank : Nat
  copyB : Bool
  deriving DecidableEq, Repr

def State.standOf (s : State) (L : Nat) : Option Stand :=
  match s.partOf (L / 12) with
  | none => none
  | some p =>
    match (s.part p).job with
    | none => none
    | some j =>
      match j.placement.idxOf? L with
      | some r => some ⟨p, r, false⟩
      | none =>
        match j.placementB.idxOf? L with
        | some r => some ⟨p, r, true⟩
        | none => none

/-- The cores of a job, both copies. -/
def Job.cores (j : Job) : List Nat := j.placement ++ j.placementB

def Part.base (x : Part) : Nat := x.baseGib * 2 ^ 30
def Part.bytes (x : Part) : Nat := x.sizeGib * 2 ^ 30

/-- Bytes of a rank's turn shadow: two generations of a header page and 2 MiB (08 R220). -/
def shadowBytes (ranks : Nat) : Nat := 4202496 * ranks

/-- Program space (08 R213): from the image area's end, rounded up to 4 KiB, to the turn shadow; the whole binding
while no image is loaded. -/
def Part.programSpace (x : Part) : Nat × Nat :=
  match x.image with
  | none => (x.base, x.base + x.bytes)
  | some i => (x.base + (i.size + 4095) / 4096 * 4096, x.base + x.bytes - shadowBytes i.ranks)

/-- The declarations of a rank (08 R212, R213), the code, the job block and the ledger area among them. -/
def Image.rangesOf (i : Image) (rank : Nat) : List RangeDecl :=
  [⟨i.codeWord, i.codeSize / 8, 0, rank, rank, i.codeOffset, 0⟩, ⟨i.jobBlockWord, 512, 0, rank, rank, 0, 0⟩,
   ⟨0x1FFC00, 0x400, 1, rank, rank, 0, 0⟩] ++
    i.ranges.filter fun d => decide (d.rankFirst ≤ rank) && decide (rank ≤ d.rankLast)

def overlaps (a n b m : Nat) : Bool := decide (a < b + m) && decide (b < a + n) && decide (0 < n) && decide (0 < m)
def within (a n b m : Nat) : Bool := decide (b ≤ a) && decide (a + n ≤ b + m)

/-- A word range touches a range of a kind. -/
def Image.touches (i : Image) (rank kind w n : Nat) : Bool :=
  (i.rangesOf rank).any fun d => d.kind == kind && overlaps w n d.word d.words

/-- A word range lies in one range of a kind. -/
def Image.holds (i : Image) (rank kind w n : Nat) : Bool :=
  (i.rangesOf rank).any fun d => d.kind == kind && within w n d.word d.words

/-- The image under which a core runs, with its rank. -/
def State.imageOf (s : State) (L : Nat) : Option (Image × Nat) :=
  match s.standOf L with
  | none => none
  | some st => (s.part st.part).image.map fun i => (i, st.rank)

/-- A write into a resident range of the core (08 R213). -/
def State.resident (s : State) (L w n : Nat) : Bool :=
  match s.imageOf L with
  | none => false
  | some (i, r) => i.touches r 0 w n

/-- A record of an open ledger slot (03 R90): 16 words at 0x1F_FC00 + 16 slot. -/
def ledgerWord (slot : Nat) : Nat := 0x1FFC00 + slot * 16

/-! ### Journal (10 R291 to R297) -/

/-- SEAT of an entry: the module's seat, or 0 for a single module (10 R292). -/
def State.seatByte (s : State) : Byte := if s.arch.topology = 0 then 0 else BitVec.ofNat 8 s.arch.seat

/-- The event counters of COUNTERS (10 R281). -/
def State.countEvent (s : State) (code : W16) : State :=
  { s with eventCounts := SMap.set s.eventCounts code.toNat (SMap.getD s.eventCounts code.toNat 0 + 1) 0 }

/-- The seat that holds this module's mirror: the deputy, or the master for the deputy's own entries (09 R260). -/
def State.mirrorHolder (s : State) : Option Nat :=
  if s.arch.topology = 0 ∨ s.arch.state ≠ 2 then none
  else if s.arch.role = 2 then some s.arch.master
  else if s.arch.deputy = s.arch.seat ∨ s.arch.deputy = s.arch.master then none
  else some s.arch.deputy

def pad48 (d : List Byte) : List Byte := (d ++ List.replicate 48 0).take 48

/-- Bytes 0x00 to 0x6F of an entry (10 R292). -/
def JEntry.head (e : JEntry) : List Byte :=
  leBytes 8 e.seq ++ leBytes 8 e.time.toNat ++ leBytes 8 e.sid.toNat ++ leBytes 8 e.job.toNat ++
    leBytes 8 e.cmd.toNat ++ leBytes 8 e.turn.toNat ++ [e.kind] ++ [0] ++ leBytes 2 e.code.toNat ++
    leBytes 2 e.part.toNat ++ leBytes 2 e.tenant.toNat ++ [e.seat] ++ [if e.assured then 1 else 0] ++
    List.replicate 6 0 ++ e.detail

/-- The 128 bytes of an entry. -/
def JEntry.bytes (e : JEntry) : List Byte := e.head ++ e.check

/-- An assured entry goes to the mirror and waits for its acknowledgement (09 R260). -/
def State.mirrorOut (s : State) (e : JEntry) : State :=
  match s.mirrorHolder with
  | none => s
  | some k =>
    let s1 := s.sendStrait Attached.firmwarePairs.node 0x08 true k 0 0 0 0 e.bytes
    { s1 with arch := { s1.arch with mirrorWait := s1.arch.mirrorWait ++ [e.seq] } }

/-- Events whose entries travel in bulk class and are not mirrored (10 R293). -/
def bulkEvents : List W16 :=
  [evPhaseReserveLost, evSupplyDip, evWakeDeferred, evLaneSpared, evWireSpared, evHalfLost, evChannelRetrained]

/-- Kinds whose entries go to the session's host as notices (10 R297). -/
def noticeKinds : List Nat := [0x03, 0x22, 0x24, 0x25, 0x30, 0x31, 0x32, 0x33]

/-- Whom an entry concerns. -/
structure Concern where
  sid : W64 := 0
  job : W64 := 0
  cmd : W64 := 0
  part : W16 := 0xFFFF
  tenant : W16 := 0
  deriving DecidableEq, Repr

/-- The home island's attach domain has no phase left, and the firmware pairs no supply (01 R31, 12 R339). -/
def State.pairsOff (s : State) : Bool := (s.island (clusterAt Attached.firmwarePairs.node / 4)).attachIsolated == 0xFF

/-- What the scheduler core does on being told. While it restarts it does nothing, and the command comes again after the restart; the lease
and retention timers stop meanwhile (10 R283, 14 R413, R424, 15 R441; log 120). -/
def State.scheduled (s t : State) : State := if s.sched.restarting then s else t

/-- The journal takes entries: the module is ready and its scheduler core runs (11 R301, 14 R413). -/
def State.journalOpen (s : State) : Bool := s.start.ready && !s.sched.restarting

def State.hostPort (s : State) (i : Nat) : HostPort := SMap.getD s.host.ports i {}
def State.modHostPort (s : State) (i : Nat) (f : HostPort → HostPort) : State :=
  { s with host := { s.host with ports := SMap.put s.host.ports i (f (s.hostPort i)) } }
def State.session? (s : State) (sid : W64) : Option Session := SMap.get? s.host.sessions sid.toNat

/-- Causeway datagrams leave by a session's port, or by both under DUAL_PATH (10 R269, R271, R298). -/
def State.countTx (s : State) (sid : W64) (bytes : Nat) : State :=
  match s.session? sid with
  | none => s
  | some x =>
    let n := BitVec.ofNat 64 ((bytes + 1403) / 1404)
    let up := fun (t : State) (i : Nat) => t.modHostPort i fun h => { h with tx := h.tx + n }
    if x.dual then up (up s 0) 1 else up s x.port

/-- An entry enters the ring: the next SEQ, its chained CHECK, its mirror and its notice (10 R291, R292, R297). -/
def State.journalPut (s : State) (e0 : JEntry) : State :=
  let e1 := { e0 with seq := s.journal.next, seat := s.seatByte }
  let e := { e1 with check := shake256 (e1.head ++ s.journal.lastCheck) 16 }
  let s1 := { s with journal := { s.journal with
    next := s.journal.next + 1, ring := SMap.put s.journal.ring (e.seq % 1048576) e, lastCheck := e.check } }
  let s2 := if e.assured then s1.mirrorOut e else s1
  if noticeKinds.contains e.kind.toNat && decide (e.sid ≠ 0) then (s2.emit (.notice e.sid e)).countTx e.sid 136 else s2

/-- A journal entry is written, or kept with its own TIME while the journal takes none (11 R301, 14 R413). -/
def State.journalWrite (s : State) (kind : Nat) (code : W16) (turn : Nat) (who : Concern) (detail : List Byte) :
    State :=
  let e : JEntry :=
    { seq := 0, time := s.timeBase, sid := who.sid, job := who.job, cmd := who.cmd
      turn := BitVec.ofNat 64 turn, kind := BitVec.ofNat 8 kind, code := code, part := who.part
      tenant := who.tenant, seat := 0, assured := !(kind == 0x30 && bulkEvents.contains code)
      detail := pad48 detail, check := [] }
  if s.journalOpen then s.journalPut e
  else { s with start := { s.start with deferred := s.start.deferred ++ [e] } }

/-- Entries that waited for the journal enter it in the order raised (11 R301, 14 R413). -/
def State.flushDeferred (s : State) : State :=
  s.start.deferred.foldl State.journalPut { s with start := { s.start with deferred := [] } }

/-- The concern of a partition's job, or of no job. -/
def State.concernOf (s : State) (p : Option Nat) : Concern :=
  match p with
  | none => {}
  | some p =>
    let x := s.part p
    match x.job with
    | none => {}
    | some j => { sid := j.req.sid, job := j.req.id, part := BitVec.ofNat 16 p, tenant := j.req.tenant }

/-- An EVENT entry (10 R293): with the session and partition of the one job it concerns, its T_d in TURN. -/
def State.event (s : State) (code : W16) (p : Option Nat) (detail : List Byte) : State :=
  let turn := match p with
    | some p => (s.part p).job.elim 0 Job.td
    | none => 0
  (s.countEvent code).journalWrite 0x30 code turn (s.concernOf p) detail

/-! ### Field defect log (11 R318, R319) -/

/-- A unit code (11 R306). -/
def unitCode (kind a b c : Nat) : W64 := BitVec.ofNat 64 (kind + a * 256 + b * 65536 + c * 16777216)

def unitBytes (u : W64) : List Byte := leBytes 8 u.toNat

/-- An append is asked for: no entry for a unit that the log already holds, and none when it is full. The entry waits
for the next head (LOG_HEAD_WRITTEN). -/
def State.logRequest (s : State) (unit : W64) (source : Byte) (ev : W16) : State :=
  let held := (s.log.entries ++ s.log.waiting).any fun e => e.unit == unit
  if held then s
  else if 260096 ≤ s.log.entries.length + s.log.waiting.length then { s with log := { s.log with full := true } }
  else
    let prev := ((s.log.entries ++ s.log.waiting).getLast?.map LogEntry.chain).getD (List.replicate 16 0)
    let n := s.log.entries.length + s.log.waiting.length
    let raw := leBytes 4 n ++ leBytes 4 s.nv.startCount ++ leBytes 8 s.timeBase.toNat ++ unitBytes unit ++ [source, 0] ++
      leBytes 2 ev.toNat ++ List.replicate 20 0
    let e : LogEntry :=
      { startCount := s.nv.startCount, time := s.timeBase, unit := unit, source := source, event := ev
        detail := List.replicate 16 0, chain := shake256 (raw ++ prev) 16 }
    { s with log := { s.log with waiting := s.log.waiting ++ [e] } }

/-! ### Lanes that fail (09 R239, R242) -/

/-- WIDTH: lanes that carry traffic (R264). -/
def Engine.width (x : Engine) : Nat := ((List.range 9).filter fun l => x.laneUse.getLsbD l).length

/-- STRAIT_LANE_SPARED with its DETAIL (10 R476). -/
def State.laneEvent (s : State) (e lane outcome : Nat) : State :=
  let x := s.engine e
  s.event evLaneSpared none
    (unitBytes (if outcome = 3 then unitCode 0x0B e 0 0 else unitCode 0x0A e lane 0) ++
      [BitVec.ofNat 8 outcome, BitVec.ofNat 8 x.width, BitVec.ofNat 8 x.peerSeat, BitVec.ofNat 8 x.peerEngine])

/-- An engine leaves service (R239 step 4): no lane carries traffic. -/
def State.engineOut (s : State) (e : Nat) : State :=
  let x := s.engine e
  if x.state = 2 then
    let lane := ((List.range 9).find? fun l => x.laneUse.getLsbD l).getD 0
    (s.modEngine e fun y => { y with state := 3, laneUse := 0, paused := [], waiting := [] }).laneEvent e lane 2
  else if x.state = 1 then s.modEngine e fun y => { y with state := 3 }
  else s

/-! ### Holds (08 R228) -/

/-- What a turn leaves behind on a core (02 R65): stages, vector registers, queues, tokens and banks are empty. -/
def Core.clear (c : Core) : Core :=
  { c with
    stages := [], stageTags := [], vregs := [], matQ := [], matRun := [], vecQ := 0, syncQ := 0
    ferry0 := [], ferry1 := [], tokens := [], banks := [], hold := .none, inTurn := false
    seq := .noTurn, signals := [], closedSlots := [], addrLog := [], dataLog := [] }

/-- A core reset (15 R430): what a turn leaves behind, and the array stops. -/
def Core.reset (c : Core) : Core := { c.clear with arrayState := 0, ramp := 0 }

/-- The core's part of the turn has begun. -/
def Core.begun (c : Core) : Bool := c.inTurn || c.attempt.ended || c.seq == .running || c.seq == .waitToken

/-- A core stops: a durable part keeps the signals that its commit releases and what its digests absorbed (08 R224). -/
def Core.stop (c : Core) : Core :=
  if c.attempt.durable then { c.reset with signals := c.signals, closedSlots := c.closedSlots, addrLog := c.addrLog, dataLog := c.dataLog }
  else { c.reset with attempt := { c.attempt with again := c.attempt.again || c.begun } }

/-- A replay or an abandoned part withdraws the contributions that its turn still holds (04 R115): those of one core,
or of a whole partition. -/
def State.withdrawHeld (s : State) (p : Nat) (L : Option Nat) : State :=
  let keep := fun (x : Contribution) => !(x.part == p && decide (L = none ∨ L = some x.core))
  { s with mesh := { s.mesh with holds := s.mesh.holds.filter keep, waiting := s.mesh.waiting.filter keep } }

/-- The inbox slots that a core's transfers of the turn hold are empty again, with their credits, and the pins of their sources go (04
R128: the replay writes the same slots again). -/
def State.withdrawSlots (s : State) (L : Nat) : State :=
  s.cores.foldl (fun t e =>
    e.2.inboxes.foldl (fun u b =>
      let mine := fun (x : SlotState) =>
        match x with
        | .written snd _ => snd == L
        | _ => false
      if b.2.slots.any mine then
        let n := (b.2.slots.filter mine).length
        let key := e.1 * 8 + b.1
        let u0 := u.modCore e.1 fun c =>
          c.setInbox b.1 { b.2 with slots := b.2.slots.map fun x => if mine x then .empty else x }
        let u1 := u0.modCore L fun c => { c with pins := c.pins.filter fun q =>
          !(q.dest == e.1 && q.inbox == b.1 && mine (b.2.slots.getD q.slot .empty)) }
        { u1 with mesh := { u1.mesh with credits := SMap.put u1.mesh.credits key (SMap.getD u1.mesh.credits key 0 + n) } }
      else u) t) s

/-- Packets of a core's transfers that are still on their way are given up with the attempt that sent them: its requests and data,
and the data that would reach it (07 R194, 04 R127). -/
def State.dropTraffic (s : State) (L : Nat) : State :=
  s.dropPackets fun q =>
    (q.src == coreEndpoint L && (q.typ == 0x01 || q.typ == 0x03 || q.typ == 0x04 || q.typ == 0x05)) ||
      (q.dest == coreEndpoint L && q.typ == 0x02)

/-- A part's effects that await a commit are withdrawn: contributions, inbox slots and traffic under way. -/
def State.withdrawPart (s : State) (p L : Nat) : State := ((s.withdrawHeld p (some L)).withdrawSlots L).dropTraffic L

/-- A turn's parts are abandoned, durable ones with them (08 R228): nothing runs, and what the turn still holds, sends and would
release is withdrawn. -/
def State.abandonParts (s : State) (p : Nat) : State :=
  match (s.part p).job with
  | none => s
  | some j =>
    let s1 := j.cores.foldl (fun t L => t.withdrawPart p L) s
    let s2 := j.cores.foldl (fun t L => t.modCore L fun c => { c.reset with attempt := {}, seq := .heldBoundary }) s1
    let s3 := s2.modJob p fun j => { j with pendingShadow := [], vote := none, compared := false, reported := false, go := none }
    { s3 with sched := { s3.sched with durable := s3.sched.durable.filter (· != p) } }

/-- The reason shown: the highest-ranked cause, in the order Status, Capacity, Lease (08 R228). -/
def Job.topReason (j : Job) : Nat := if j.holdStatus then 2 else if j.holdCapacity then 3 else if j.holdLease then 1 else 0

/-- Rank of a reason in that order. -/
def reasonRank (r : Nat) : Nat :=
  match r with
  | 2 => 3 | 3 => 2 | 1 => 1 | _ => 0

/-- A group job's hold or end is told to the other members (09 R256). -/
def State.tellGroup (s : State) (p : Nat) (ended : Bool) : State :=
  match (s.part p).job with
  | none => s
  | some j =>
    if j.req.body.group && s.arch.state == 2 then
      ((seatsOf j.req.body.groupMap).filter fun k => k != s.arch.seat).foldl (fun t k =>
        t.sendMember k (.groupHeld (Fin.ofNat 64 s.arch.seat) j.req.body.groupId ended)) s
    else s

/-- The job stands in Holding under its highest cause; a new or higher reason writes JOB_HELD (08 R228, R371). -/
def State.enterHold (s : State) (p : Nat) : State :=
  match (s.part p).job with
  | none => s
  | some j =>
    let r := j.topReason
    if j.state = .holding ∧ reasonRank r ≤ reasonRank j.reason then s
    else
      let s1 := s.modJob p fun j => { j with state := .holding, reason := r }
      (s1.journalWrite 0x22 (BitVec.ofNat 16 r) j.td (s.concernOf (some p)) (leBytes 2 (s.part p).lastStatus.toNat)).tellGroup p false

/-- A turn ends with a status, or a job loses data or a vote (08 R228, 13 R371): the hold begins at once. A job that holds for Status
already shows the first. -/
def State.holdStatus (s : State) (p : Nat) (st : W16) : State :=
  let s1 := s.abandonParts p
  let s2 := if ((s.part p).job.map Job.holdStatus).getD false then s1 else s1.modPart p fun x => { x with lastStatus := st }
  let s3 := s2.modJob p fun j => { j with holdStatus := true }
  s3.enterHold p

/-- A hosting cluster leaves service and no move is possible (08 R228). -/
def State.holdCapacity (s : State) (p : Nat) : State :=
  let s1 := s.abandonParts p
  let s2 := s1.modJob p fun j => { j with holdCapacity := true }
  s2.enterHold p

/-! ### Regions that sleep (12 R348, 15 R431 to R433) -/

/-- A wake joins its sector's queue (12 R348 step 1). -/
def State.queueWake (s : State) (c : Nat) : State :=
  let x := s.cluster c
  if x.region = .running ∨ x.shed ∨ !s.inService c ∨ (s.island (c / 4)).wakes.contains c then s
  else s.modIsland (c / 4) fun i => { i with wakes := i.wakes ++ [c] }

/-- A region that a turn brings back (15 R431, R433): in doze, or dark after harbour. -/
def Cluster.wakeable (x : Cluster) : Bool := (x.doze || x.zeroOnWake) && !x.resetting

/-! ### Moves, loss of a cluster, substitution (01 R27, R28, 08 R217, R218, 13 R376, R377) -/

/-- The clusters on which a job's ranks stand. -/
def Job.hosts (j : Job) (c : Nat) : Bool := j.cores.any fun L => L / 12 == c

/-- A roll test runs on a cluster (13 R384). -/
def State.testing (s : State) (c : Nat) : Bool := s.host.rollTests.any fun r => r.running && r.cluster == c

/-- The region of a cluster runs, or comes back for a turn: it wakes, dozes or is dark after harbour (15 R431). -/
def Cluster.usable (x : Cluster) : Bool := (x.region == .running || x.region == .waking || x.wakeable) && !x.shed

/-- The first cluster free of ranks and in service whose region can run, in the order of 08 R215. -/
def State.freeCluster (s : State) (p : Nat) (j : Job) : Option Nat :=
  let relay := ((s.part p).image.map Image.relay).getD false
  (s.clusterOrder p relay).find? fun c => !j.hosts c && (s.cluster c).usable && !s.testing c

/-- A part waits to be rebuilt and started again (08 R220, R226): what it had sent and no commit has released is
withdrawn, unless it was durable. -/
def State.awaitRebuild (s : State) (L : Nat) (cleared : Bool) : State :=
  let s1 := match s.standOf L with
    | some st => if (s.core L).attempt.durable then s else s.withdrawPart st.part L
    | none => s
  s1.modCore L fun c =>
    { c.stop with
      attempt := { c.stop.attempt with rebuild := true, ended := false, cleared := c.attempt.cleared || cleared, issued := 0 } }

/-- Names of moved cores in inbox slots follow their ranks. -/
def Inbox.rename (mv : Nat → Nat) (b : Inbox) : Inbox :=
  { b with slots := b.slots.map fun x =>
      match x with
      | .empty => .empty
      | .written snd src => .written (mv snd) src
      | .full snd src => .full (mv snd) src
      | .taken snd src => .taken (mv snd) src
      | .freed snd src => .freed (mv snd) src }

def renameInboxes (mv : Nat → Nat) (m : SMap Inbox) : SMap Inbox := m.map fun b => (b.1, b.2.rename mv)

/-- The core that plays a peer for a sender: copy B names copy B's core of the same rank. -/
def Job.peer (j : Job) (fromB : Bool) (dest : Nat) : Nat :=
  if fromB then
    match j.placement.idxOf? dest with
    | some r => j.placementB.getD r dest
    | none => dest
  else dest

/-- The name that a doubles job's programs know a core by: copy A's core of its rank (13 R378). -/
def Job.nameOf (j : Job) (L : Nat) : Nat :=
  match j.placementB.idxOf? L with
  | some r => j.placement.getD r L
  | none => L

/-- Senders, pins, signals, credits and shadows of a job name its ranks' cores after a move (08 R218, R222). -/
def State.renameCores (s : State) (p : Nat) (moved : List Nat) (mv : Nat → Nat) : State :=
  match (s.part p).job with
  | none => s
  | some j =>
    let s1 := j.cores.foldl (fun t L => t.modCore L fun c => { c with
      inboxes := renameInboxes mv c.inboxes
      pins := c.pins.map fun q => { q with dest := mv q.dest }
      signals := c.signals.map fun g => (mv g.1, g.2) }) s
    let ren := fun (m : SMap RankShadow) => m.map fun e => (e.1, { e.2 with inboxes := renameInboxes mv e.2.inboxes })
    let s2 := s1.modJob p fun j => { j with shadow := ren j.shadow, pendingShadow := ren j.pendingShadow }
    let credits := moved.foldl (fun (m : SMap Nat) L => (List.range 8).foldl (fun (m : SMap Nat) i =>
      match SMap.get? s.mesh.credits (L * 8 + i) with
      | some n => SMap.put (SMap.erase m (L * 8 + i)) (mv L * 8 + i) n
      | none => m) m) s.mesh.credits
    { s2 with mesh := { s2.mesh with credits := credits } }

/-- Signals that a commit released reach a core's token: they belong to the state its turn starts from (02 R65, 04 R114). -/
def Core.startSignal (c : Core) (k n : Nat) : Core :=
  { (c.signal k n) with startTokens := SMap.put c.startTokens k (SMap.getD c.startTokens k 0 + n) }

/-- TOKEN packets on their way to a core. -/
def State.tokensDue (s : State) (L : Nat) : List MeshPkt :=
  s.mesh.sent.filter fun q => q.typ == 0x08 && q.dest == coreEndpoint L && !s.stale q

/-- TOKEN packets on their way to a core reach it now. -/
def State.landTokens (s : State) (L : Nat) : State :=
  (s.tokensDue L).foldl (fun t q =>
    ((t.receive q).1.acknowledged q.src q.dest true q.seq.toNat).modCore L fun c =>
      c.startSignal (q.payloadNat 0 1 % 32) (q.payloadNat 2 2)) s

/-- Every rank of cluster `c` moves to cluster `d`, each keeping its position (08 R218). PLACEMENT_EPOCH rises once a
turn, RANK_MOVES by the ranks moved. -/
def State.moveRanks (s : State) (p c d : Nat) : State :=
  match (s.part p).job with
  | none => s
  | some j =>
    let old := j.cores.filter fun L => L / 12 == c
    let mv := fun L => if L / 12 = c then d * 12 + L % 12 else L
    let s1 := s.modJob p fun j =>
      { j with
        placement := j.placement.map mv, placementB := j.placementB.map mv
        epoch := if j.turnMoves = 0 then j.epoch + 1 else j.epoch
        rankMoves := j.rankMoves + old.length, turnMoves := j.turnMoves + old.length, moved := true }
    let s2 := s1.modPart p fun x => { x with rankMoves := x.rankMoves + old.length }
    let s3 := old.foldl (fun t' L =>
      let t := t'.landTokens L
      let o := t.core L
      let n := t.core (mv L)
      let t0 := if o.attempt.durable then t else t.withdrawPart p L
      let t1 := t0.setCore (mv L)
        { n with events := 0, startTokens := o.startTokens, closedSlots := o.closedSlots, entry := o.entry, nextEntry := o.nextEntry
                 attempt := o.stop.attempt, pins := o.pins, signals := o.signals, addrLog := o.addrLog, dataLog := o.dataLog
                 inboxes := o.inboxes, seq := .heldBoundary }
      let t2 := t1.awaitRebuild (mv L) true
      t2.modCore L fun x => { x.reset with attempt := {}, startTokens := [], pins := [], inboxes := [] }) s2
    let s4 := s3.renameCores p old mv
    if (s4.cluster d).wakeable then s4.queueWake d else s4

/-- A part of the job's present turn has begun on some core. -/
def State.turnBegun (s : State) (j : Job) : Bool :=
  j.cores.any fun L => (s.core L).begun || (s.core L).attempt.durable || (s.core L).attempt.again

/-- A job loses the use of a cluster: an elastic program's ranks move, a fixed one waits (`shed`) or holds with
reason Capacity (08 R217, R218). Where the job holds or is about to, at a boundary, the hold takes effect first and the ranks move before
the first turn after it (R235). -/
def State.clusterUnusable (s : State) (c : Nat) (shed : Bool) : State :=
  match s.partOf c with
  | none => s
  | some p =>
    match (s.part p).job with
    | none => s
    | some j =>
      if !j.hosts c || !(j.state == .running || j.state == .holding || j.state == .loading) then s
      else
        let elastic := ((s.part p).image.map Image.elastic).getD false
        match (if elastic then s.freeCluster p j else none) with
        | some d => if (j.state == .holding || j.leaseDue) && !s.turnBegun j then s else s.moveRanks p c d
        | none =>
          if shed then
            let s1 := s.modJob p fun j => { j with waiting := true }
            (j.cores.filter fun L => L / 12 == c).foldl (fun t L =>
              if (t.core L).attempt.durable || !(t.core L).inTurn then t else t.awaitRebuild L false) s1
          else s.holdCapacity p

def State.clustersInService (s : State) : Nat := ((List.range 48).filter s.inService).length

/-- A cluster leaves service (01 R28): all positions unserved, CAPACITY_CHANGED (13 R377) with its cause. Its slots keep their states and
RESERVES its count, whatever reserves it leaves with: the spec does not say what they read then (log 103). -/
def State.loseCluster (s : State) (c cause : Nat) : State :=
  let s1 := s.modCluster c fun x => { x with map := List.replicate 12 0xF, active := 0, failing := [] }
  let s2 := (List.range 12).foldl (fun t p => t.modCore (c * 12 + p) fun x => { x.stop with seq := .unserved }) s1
  let n := s2.clustersInService
  let host := match s.partOf c with
    | some p => if ((s.part p).job.map fun j => j.hosts c).getD false then some p else none
    | none => none
  let s3 := s2.event evCapacityChanged host
    ([BitVec.ofNat 8 c, BitVec.ofNat 8 cause] ++ leBytes 2 (n * 12) ++ [BitVec.ofNat 8 n])
  s3.clusterUnusable c false

def Cluster.slotState (x : Cluster) (i : Nat) : BitVec 2 := SMap.getD x.slots i 0

/-- The lowest-numbered reserve slot (01 R27). -/
def Cluster.lowestReserve (x : Cluster) : Option Nat := (List.range 14).find? fun i => x.slotState i == 1

/-- A slot leaves service: field-bad, with the ring's skip link around its stop closed (01 R24, R27). -/
def Cluster.failSlot (x : Cluster) (i : Nat) : Cluster := { x with slots := SMap.put x.slots i 3, skips := x.skips ++ [i] }

/-- The stops of a cluster ring: slot stops 0 to 13, and 14 the node stop (01 R24). A stop whose slot has left service is passed by the
skip link around it, unless its neighbour has left too: a gap of two that no skip link bridges. -/
def Cluster.ringGap (x : Cluster) (k : Nat) : Bool := x.skips.contains k && x.skips.contains ((k + 1) % 15)

/-- The stops from `a` to `b` in one direction round the ring. -/
def ringStops (a b : Nat) (up : Bool) : List Nat :=
  (List.range (if up then (b + 15 - a) % 15 else (a + 15 - b) % 15)).map fun i => if up then (a + i) % 15 else (a + 15 - (i + 1)) % 15

/-- The way of a packet between two stops of the ring: the stops it passes, those of failed slots skipped, the other way round where a gap
of two lies in the first (01 R24). -/
def Cluster.ringWay (x : Cluster) (a b : Nat) : List Nat :=
  let up := decide (2 * ((b + 15 - a) % 15) ≤ 15)
  let first := ringStops a b up
  (if first.any x.ringGap then ringStops a b (!up) else first).filter fun k => !x.skips.contains k

/-- A part that was running starts again under 08 R220. -/
def State.partRunning (s : State) (L : Nat) : Bool :=
  let c := s.core L
  (s.standOf L).isSome && !c.attempt.durable && (c.inTurn || c.attempt.rebuild || c.seq == .running || c.seq == .waitToken)

/-- A vote's third copy runs on a reserve slot of this cluster (13 R381). -/
def State.thirdRuns (s : State) (c : Nat) : Bool :=
  s.sched.parts.any fun e => (e.2.job.bind fun j => j.vote.bind Vote.third) == some c

/-- Reserve slots of a cluster. -/
def Cluster.reserveSlots (x : Cluster) : List Nat := (List.range 14).filter fun i => x.slotState i == 1

/-- A core is failed and substituted (13 R376), or its cluster leaves service when it has no reserve (01 R28). The new
slot's core store was written to zero at its start. The substitution waits while a vote's third copy runs on the one reserve slot
(R400). -/
def State.failCore (s : State) (L cause : Nat) : State :=
  let c := L / 12
  let x := s.cluster c
  let old := x.map.getD (L % 12) 0xF
  if old = 0xF then s
  else
    let unit := unitCode 0x02 c old 0
    match x.lowestReserve with
    | none => ((s.logRequest unit 1 evCapacityChanged).modCluster c fun y => y.failSlot old).loseCluster c 0
    | some n =>
      if s.thirdRuns c ∧ x.reserveSlots.length = 1 then
        let t := s.modCluster c fun y => { y with failing := if y.failing.any (fun e => e.1 == L % 12) then y.failing else y.failing ++ [(L % 12, cause)] }
        let t1 := t.modCore L Core.stop
        if (s.standOf L).isSome then t1.awaitRebuild L true else t1
      else
      let s1 := s.setCluster c
        { x.failSlot old with
          map := x.map.set (L % 12) n
          slots := SMap.put (x.failSlot old).slots n 0
          reserves := x.reserves - 1 }
      let s2 := s1.logRequest unit (if cause = 8 then 6 else 1) evUnitSubstituted
      let s3 := s2.event evUnitSubstituted ((s.standOf L).map Stand.part)
        (unitBytes unit ++ leBytes 2 L ++ [BitVec.ofNat 8 n, BitVec.ofNat 8 cause, BitVec.ofNat 8 (x.reserves - 1)])
      let s4 := s3.zero (csBase L) (2 ^ 24)
      let s5 := s4.modCore L fun k =>
        { k.stop with
          seq := if (s.standOf L).isSome then .heldBoundary else .noTurn
          probe := false, unanswered := 0
          attempt := { k.stop.attempt with
            cleared := true, wordFault := false, spared := true
            first := if (k.attempt.first.map Failure.status) = some stOverrun then k.attempt.first else none } }
      if (s.standOf L).isSome then s5.awaitRebuild L true else s5

/-! ### What follows a status (04 R127) -/

/-- The sequencer stops with a status: the queues are abandoned, the turn replays once on the same slot, the same
status at the same address ends the turn, anything else fails the core. A second TURN_OVERRUN ends the turn wherever
it arises (08 R223), and one on the replay after a substitution ends it too (08 R235). -/
def State.raise (s : State) (L : Nat) (st : W16) : State :=
  let c := s.core L
  let s1 := s.modCore L fun c => { c with lastStatus := st }
  match s.standOf L with
  | none => s1.modCore L Core.reset
  | some pl =>
    match c.attempt.first with
    | none =>
      if st = stOverrun ∧ c.attempt.spared then s1.holdStatus pl.part st
      else
        let s2 := s1.modCore L fun c =>
          { c with attempt := { c.attempt with first := some ⟨st, c.pc, c.attempt.issued⟩ } }
        s2.awaitRebuild L false
    | some f =>
      if f.status = st ∧ (f.addr = c.pc ∨ st = stOverrun) then s1.holdStatus pl.part st
      else s1.failCore L 6

/-- An instruction has issued: a replay that runs past the point of its first failure fails the core (04 R127 step
5); TURN_OVERRUN is no such point (08 R223). -/
def State.countIssue (s : State) (L : Nat) : State :=
  let s1 := s.modCore L fun c => { c with attempt := { c.attempt with issued := c.attempt.issued + 1 } }
  match (s1.core L).attempt.first with
  | none => s1
  | some f =>
    if f.status ≠ stOverrun ∧ f.ordinal < (s1.core L).attempt.issued then s1.failCore L 6 else s1

end Sys2Proof.Machine
end

