-- ==== Sys2Proof/Machine/HbmOps.lean ====
section
/-! DEFINITION. HBM metadata, what answers and what waits, reconstruction, parity, fresh shares and the write of a device address
(06), and what a read meets in a word in error (05 R142, 06 R162). -/

namespace Sys2Proof.Machine

/-- The user address of position j of a stripe. -/
def State.granuleAddr (s : State) (t j : Nat) : Nat := if s.hbm.mode then (t * 16 + j) * 256 else (t * 15 + j) * 256

/-- The granules that a range touches. -/
def granulesOf (a n : Nat) : List Nat :=
  if n = 0 then [] else (List.range ((a + n + 255) / 256 - a / 256)).map fun i => (a / 256 + i) * 256

/-- Data between a host port and a range of memory crosses the mesh in bulk class, granule by granule (07 R193, R205). -/
def State.hostTraffic (s : State) (port a n : Nat) (toMemory : Bool) : State :=
  (granulesOf a n).foldl (fun t g =>
    let unit := nodeAt (t.ownerOf g)
    let host := (Attached.hostPort port).node
    let bytes := min (a + n) (g + 256) - max a g
    if toMemory then t.traffic false host unit bytes else t.traffic false unit host bytes) s

/-! ### Metadata (06 R161) -/

/-- The XOR of the low bits of a number. -/
def xorBits (n v : Nat) : Bool := (List.range n).foldl (fun b i => b != v.testBit i) false

/-- The address fold bit of a physical location: the XOR of its 38 bits, stack [3:0], channel [4:0], local granule [23:0] and word
[4:0] (R161). -/
def foldBit (stack ch loc word : Nat) : Bool := xorBits 38 (stack + ch * 2 ^ 4 + loc * 2 ^ 9 + word * 2 ^ 33)

/-- The fold bit of the location of a data word, and of word k of a stripe's parity granule. -/
def State.foldOf (s : State) (w : Nat) : Bool :=
  let pl := s.granulePlace (w * 8)
  foldBit pl.stack pl.ch pl.loc (w % 32)

def parityFold (t k : Nat) : Bool := foldBit (parityStackOf t) (channelOf t) (t / 32) k

/-- The fold bit that stands with a data word: the one of its location, which every write stores, unless an error has turned it. -/
def State.storedFold (s : State) (w : Nat) : Bool := s.foldOf w != (SMap.getD s.wordErr w {}).fold

/-- A read compares the stored fold bit with the fold of the location it read (R161). -/
def State.foldMismatch (s : State) (w : Nat) : Bool := s.storedFold w != s.foldOf w

/-- The same of a parity word. -/
def State.parityFoldMismatch (s : State) (t k : Nat) : Bool :=
  (parityFold t k != (SMap.getD s.hbm.parityErr (t * 32 + k) {}).fold) != parityFold t k

/-! ### What answers (06 R166 to R173) -/

/-- A granule at this stack and channel is out of reach for good: its stack is lost or its channel retired (R166, R167). -/
def State.gone (s : State) (stack ch : Nat) : Bool := (s.stack stack).state == .lost || (s.stack stack).retired.getLsbD ch

/-- It is out of reach for a time: its channel retrains or its stack is held (R172, R173). -/
def State.busy (s : State) (stack ch : Nat) : Bool :=
  let x := s.stack stack
  x.state != .lost && ((x.retraining && x.retrainCh == ch) || x.thermal == 3)

/-- A stack in self-refresh: an access waits until it is brought out (R175, 15 R434). -/
def State.asleep (s : State) (stack : Nat) : Bool := (s.stack stack).state == .selfRefresh

/-- The share of a stack in a block is fresh (R171). -/
def State.shareFresh (s : State) (stack block : Nat) : Bool := !SMap.getD s.hbm.written (stack * 2 ^ 20 + block) false

/-- A granule stands in a fresh share: it reads as zero and touches no DRAM (R171). -/
def State.granuleFresh (s : State) (g : Nat) : Bool := s.shareFresh (s.granulePlace g).stack ((s.granulePlace g).stripe / 512)

/-- Positions of a protected stripe besides j: the other data granules. -/
def otherPositions (j : Nat) : List Nat := (List.range 15).filter fun i => i != j

/-- The stacks of the other granules of a protected stripe: the other data granules and the parity. -/
def State.otherStacks (s : State) (t j : Nat) : List Nat := parityStackOf t :: (otherPositions j).map (s.stackAt t)

/-- A word of a granule passes its own check, correction allowed (R163): one of a fresh share does. -/
def State.wordPasses (s : State) (w : Nat) : Bool :=
  s.granuleFresh (w * 8) || (!s.foldMismatch w && decide ((SMap.getD s.wordErr w {}).bits ≤ 2))

/-- A parity word passes its own check; in a fresh share it counts as zero (R163, R171). -/
def State.parityPasses (s : State) (t k : Nat) : Bool :=
  s.shareFresh (parityStackOf t) (t / 512) ||
    (!s.parityFoldMismatch t k && decide ((SMap.getD s.hbm.parityErr (t * 32 + k) {}).bits ≤ 2))

/-- Whether word k (0 to 31) of position j of stripe t can be reconstructed (R163, R169): protected mode, and every other data
word and the parity word in reach and sound. -/
def State.reconstructible (s : State) (t j k : Nat) : Bool :=
  !s.hbm.mode && !s.gone (parityStackOf t) (channelOf t) && s.parityPasses t k &&
    (otherPositions j).all fun i => !s.gone (s.stackAt t i) (channelOf t) && s.wordPasses (s.granuleAddr t i / 8 + k)

/-- Parity of word k of stripe t with the deltas that travel to it (R164, R165). -/
def State.parityWord (s : State) (t k : Nat) : W64 :=
  (s.hbm.deltas.filter fun d => d.1 == t * 32 + k).foldl (fun acc d => acc ^^^ d.2) (SMap.getD s.hbm.parity (t * 32 + k) 0)

/-- The XOR of the parity word and the other data words (R163). -/
def State.reconstructed (s : State) (t j k : Nat) : W64 :=
  (otherPositions j).foldl (fun acc i => acc ^^^ s.readWord (s.granuleAddr t i + 8 * k)) (s.parityWord t k)

/-- A read of a granule waits (R172, R173, R179): its channel is busy and no reconstruction serves it now, or it is gone and a
granule that its reconstruction needs is busy. One whose stack is in self-refresh waits for it (15 R434, R441). A fresh share of any
other stack never waits. -/
def State.granuleWaits (s : State) (g : Nat) : Bool :=
  let pl := s.granulePlace g
  let others := s.otherStacks pl.stripe (s.stripeOf g).2
  let away := fun (k : Nat) => s.busy k pl.ch || s.asleep k
  if s.asleep pl.stack then true
  else if s.granuleFresh g then false
  else if s.gone pl.stack pl.ch then !s.hbm.mode && others.any away && !others.any (fun k => s.gone k pl.ch)
  else s.busy pl.stack pl.ch && (s.hbm.mode || others.any fun k => away k || s.gone k pl.ch)

/-- A write of a granule waits (R172): in unprotected mode while its channel is busy; in protected mode once the channel's 64 KiB
buffer is full, or where its parity needs a granule that is busy. One whose stack, or whose parity's stack, is in self-refresh waits for
it (15 R434). -/
def State.granuleWriteWaits (s : State) (g : Nat) : Bool :=
  let pl := s.granulePlace g
  if s.asleep pl.stack || !s.hbm.mode && s.asleep pl.parityStack then true
  else if s.gone pl.stack pl.ch then
    !s.hbm.mode && (otherPositions (s.stripeOf g).2).any fun i =>
      s.busy (s.stackAt pl.stripe i) pl.ch || s.asleep (s.stackAt pl.stripe i)
  else
    s.busy pl.stack pl.ch &&
      (s.hbm.mode || decide (65536 < SMap.getD s.hbm.buffered (pl.stack * 32 + pl.ch) 0 + 256))

/-- An access to a range of HBM waits. -/
def State.hbmWaits (s : State) (a n : Nat) (write : Bool) : Bool :=
  decide (a < 2 ^ 41) && (List.range 16).any (fun k => (s.stack k).retraining || (s.stack k).thermal == 3 || s.asleep k) &&
    (granulesOf a n).any fun g => if write then s.granuleWriteWaits g else s.granuleWaits g

/-! ### Writes and parity (06 R163 to R165, R167, R171) -/

/-- Shares of the blocks that a range of granules touches become written; in protected mode the parity's shares too
(R171). Key: stack * 2^20 + block. -/
def State.markWritten (s : State) (a n : Nat) : State :=
  let mark := fun (m : SMap Bool) (g : Nat) =>
    let pl := s.granulePlace g
    let m1 := SMap.put m (pl.stack * 2 ^ 20 + pl.stripe / 512) true
    if s.hbm.mode then m1 else SMap.put m1 (pl.parityStack * 2 ^ 20 + pl.stripe / 512) true
  { s with hbm := { s.hbm with written := (granulesOf a n).foldl mark s.hbm.written } }

/-- Writes into a busy channel of protected mode wait in its buffer (R172). -/
def State.bufferWrite (s : State) (a n : Nat) : State :=
  { s with hbm := { s.hbm with buffered := (granulesOf a n).foldl (fun m g =>
      let pl := s.granulePlace g
      let k := pl.stack * 32 + pl.ch
      if !s.hbm.mode && s.busy pl.stack pl.ch then SMap.put m k (SMap.getD m k 0 + 256) else m) s.hbm.buffered } }

/-- The words of a range whose contents a write of `es` changes, with old XOR new. -/
def State.deltasOf (s : State) (a n : Nat) (es : SMap Byte) : List (Nat × W64) :=
  let keys := ((s.slice a n).map fun p => (a + p.1) / 8) ++ (es.map fun p => (a + p.1) / 8)
  let words := keys.foldl (fun (m : SMap Bool) w => SMap.put m w true) []
  let s' := s.store a n es
  words.filterMap fun p =>
    let d := s.readWord (p.1 * 8) ^^^ s'.readWord (p.1 * 8)
    if d = 0 then none else some (p.1, d)

/-- Parity index of a word by word address. -/
def State.parityKey (s : State) (w : Nat) : Nat := (s.stripeOf (w * 8)).1 * 32 + w % 32

/-- Changes applied to their parity words by whoever writes the stripe's parity itself. -/
def State.foldParity (s : State) (ds : List (Nat × W64)) : State :=
  { s with hbm := { s.hbm with parity := ds.foldl (fun m d =>
      SMap.set m (s.parityKey d.1) (SMap.getD m (s.parityKey d.1) 0 ^^^ d.2) 0) s.hbm.parity } }

/-- A PARITY_DELTA packet for one granule (R164): from the data stack's controller to the parity stack's. The spec gives its payload
no layout: the granule's 32 words, old XOR new (log 19). -/
def State.deltaPacket (s : State) (g : Nat) (ds : List (Nat × W64)) : MeshPkt :=
  let pl := s.granulePlace g
  meshPkt 0x0A true g (Attached.stack pl.parityStack).port (Attached.stack pl.stack).port 0xFFFF 0
    ((List.range 32).flatMap fun k => leBytes 8 (((ds.find? fun d => d.1 == g / 8 + k).map Prod.snd).getD 0).toNat)

/-- The parity of one granule written in part (R164): its delta travels in assured class. A stripe whose parity is out of reach takes
data alone, and a granule that is out of reach is written by its parity alone (R166, R167). -/
def State.sendDelta (s : State) (g : Nat) (ds : List (Nat × W64)) : State :=
  let pl := s.granulePlace g
  if s.gone pl.parityStack pl.ch then s
  else if s.gone pl.stack pl.ch then s.foldParity ds
  else
    let s1 := { s with hbm := { s.hbm with deltas := s.hbm.deltas ++ ds.map (fun (d : Nat × W64) => (s.parityKey d.1, d.2)) } }
    s1.sendPacket (s.deltaPacket g ds)

/-- Every delta in flight is applied and its packet acknowledged (R165). -/
def State.settleDeltas (s : State) : State :=
  let s1 : State := { s with hbm := { s.hbm with
    parity := s.hbm.deltas.foldl (fun m d => SMap.set m d.1 (SMap.getD m d.1 0 ^^^ d.2) 0) s.hbm.parity
    deltas := [] } }
  (s1.mesh.sent.filter fun q => q.typ == 0x0A).foldl (fun t q => (t.receive q).1.acknowledged q.src q.dest true q.seq.toNat) s1

/-- Stripe t lies wholly in a range of protected mode. -/
def stripeWithin (t lo hi : Nat) : Bool := decide (lo ≤ t * 3840) && decide ((t + 1) * 3840 ≤ hi)

/-- The stripes of protected mode that a range touches. -/
def stripesOf (a n : Nat) : List Nat :=
  if n = 0 then [] else (List.range ((a + n + 3839) / 3840 - a / 3840)).map (· + a / 3840)

/-- Fresh parity of a stripe stands without error. -/
def State.freshParity (s : State) (ts : List Nat) : State :=
  { s with hbm := { s.hbm with parityErr := s.hbm.parityErr.filter fun e => !ts.contains (e.1 / 32) } }

/-- A write by device address. HBM keeps its parity: a transfer row, from `row.1` to `row.2`, carries that of the stripes it covers
wholly; every other granule's goes by a delta (R164). -/
def State.rowWrite (s : State) (a n : Nat) (es : SMap Byte) (row : Nat × Nat) : State :=
  if a < 2 ^ 41 then
    let s1 := ((s.markWritten a n).bufferWrite a n).store a n es
    if s.hbm.mode then s1
    else
      let ds := s.deltasOf a n es
      let whole := fun (x : Nat) => stripeWithin (s.stripeOf x).1 row.1 row.2
      let s2 := (s1.freshParity ((stripesOf a n).filter fun t => stripeWithin t row.1 row.2)).foldParity (ds.filter fun d => whole (d.1 * 8))
      ((granulesOf a n).filter fun g => !whole g).foldl (fun t g => t.sendDelta g (ds.filter fun d => d.1 / 32 == g / 256)) s2
  else s.store a n es

def State.deviceWrite (s : State) (a n : Nat) (es : SMap Byte) : State := s.rowWrite a n es (a, a + n)

/-- A write by firmware or a controller, whose parity is complete when it ends. -/
def State.firmwareWrite (s : State) (a n : Nat) (es : SMap Byte) : State :=
  if a < 2 ^ 41 then
    let s1 := (s.markWritten a n).store a n es
    if s.hbm.mode then s1 else s1.foldParity (s.deltasOf a n es)
  else s.store a n es

/-- User bytes of a block: 512 stripes (R171). -/
def State.blockBytes (s : State) : Nat := if s.hbm.mode then 512 * 4096 else 512 * 3840

/-- The blocks wholly inside a range: the first, and the one past the last. -/
def State.blocksOf (s : State) (a n : Nat) : Nat × Nat :=
  let lo := (a + s.blockBytes - 1) / s.blockBytes
  (lo, max lo ((a + n) / s.blockBytes))

/-- The parts of a range at its two ends, outside the blocks wholly inside it. -/
def State.rangeEnds (s : State) (a n : Nat) : List (Nat × Nat) :=
  let b := s.blocksOf a n
  if b.1 < b.2 then [(a, b.1 * s.blockBytes - a), (b.2 * s.blockBytes, a + n - b.2 * s.blockBytes)] else [(a, n)]

/-- A clear's first part, at once (R171, R179): every block wholly inside the range is fresh, with its zeros and its parity counting as
zero. -/
def State.clearBlocks (s : State) (a n : Nat) : State :=
  let b := s.blocksOf a n
  let lo := b.1 * s.blockBytes
  let len := (b.2 - b.1) * s.blockBytes
  let s1 := s.store lo len []
  let s2 := if s.hbm.mode then s1 else s1.foldParity (s.deltasOf lo len [])
  { s2 with hbm := { s2.hbm with
      written := s2.hbm.written.filter fun p => decide (p.1 % 2 ^ 20 < b.1) || decide (b.2 ≤ p.1 % 2 ^ 20)
      parityErr := s2.hbm.parityErr.filter fun p => decide (p.1 / 32 / 512 < b.1) || decide (b.2 ≤ p.1 / 32 / 512) } }

/-- A clear's second part: zeros written to the parts of the blocks at the range's two ends (R171). -/
def State.clearEnds (s : State) (a n : Nat) : State :=
  (s.rangeEnds a n).foldl (fun t e => if e.2 = 0 then t else t.firmwareWrite e.1 e.2 []) s

/-- A clear of a range (R171). -/
def State.clearHbm (s : State) (a n : Nat) : State := (s.clearBlocks a n).clearEnds a n

/-! ### Words in error -/

/-- The backed region of the job of partition p that holds an address (05 R146, R151). -/
def State.backedAt (s : State) (a : Nat) : Option (Nat × Backed) :=
  match placeOf a with
  | .lagoon i q =>
    match s.partOf (i * 4 + q) with
    | none => none
    | some p =>
      match (s.part p).image, (s.part p).job with
      | some im, some j =>
        if j.state = .none ∨ j.state = .completed ∨ j.state = .discarded then none
        else (im.backed.find? fun b => decide (b.addr ≤ a) && decide (a < b.addr + b.length)).map fun b => (p, b)
      | _, _ => none
  | _ => none

/-- WORD_UNCORRECTABLE with its DETAIL (13 R375). -/
def State.wordEvent (s : State) (a path found core : Nat) (p : Option Nat) : State :=
  let mem := match placeOf a with
    | .coreStore _ _ => 0
    | .lagoon _ _ => 1
    | _ => 2
  s.event evWordUncorrectable p
    (leBytes 8 a ++ [BitVec.ofNat 8 mem, BitVec.ofNat 8 path, BitVec.ofNat 8 found, 0] ++ leBytes 2 core)

/-- What meeting a word in error brings: the word is delivered, its granule reloads from its master, or the requester
gets no data. -/
inductive Fate where
  | delivered
  | reload
  | lost
  deriving DecidableEq, Repr

/-- One corrected word is counted where it lies, and its write-back queued; several reads before the write-back count
it once (05 R142). HBM writes it back at once (06 R162). -/
def State.correctWord (s : State) (w : Nat) : State :=
  match placeOf (w * 8) with
  | .hbm _ =>
    let st := (s.granulePlace (w * 8)).stack
    ({ s with wordErr := SMap.erase s.wordErr w }).modStack st fun x => { x with corrected := x.corrected + 1 }
  | .coreStore L _ =>
    if s.writeBack.contains w then s
    else ({ s with writeBack := s.writeBack ++ [w] }).countCore L fun k => { k with corrected := k.corrected + 1 }
  | .lagoon i _ =>
    if s.writeBack.contains w then s
    else ({ s with writeBack := s.writeBack ++ [w] }).modIsland i fun x => { x with corrected := x.corrected + 1 }
  | _ => s

/-- An uncorrectable word is counted where it lies (05 R147, R148, 06 R178). -/
def State.countLost (s : State) (w : Nat) : State :=
  match placeOf (w * 8) with
  | .hbm _ =>
    s.modStack (s.granulePlace (w * 8)).stack fun x => { x with uncorrectable := x.uncorrectable + 1 }
  | .coreStore L _ => s.countCore L fun k => { k with uncorrectable := k.uncorrectable + 1 }
  | .lagoon i _ => s.modIsland i fun x => { x with uncorrectable := x.uncorrectable + 1 }
  | _ => s

/-- A word that the code cannot correct: HBM in protected mode reconstructs and rewrites it (06 R162); a backed lagoon
word reloads (05 R152); any other is lost to its requester. -/
def State.uncorrectable (s : State) (w : Nat) (fold : Bool) : State × Fate :=
  match placeOf (w * 8) with
  | .hbm a =>
    let t := (s.stripeOf a).1
    let j := (s.stripeOf a).2
    let k := w % 32
    let st := (s.granulePlace a).stack
    let s1 := if fold then s.modStack st fun x => { x with foldErrors := x.foldErrors + 1 } else s
    if s.reconstructible t j k then
      let v := s.reconstructed t j k
      ((s1.writeWord (w * 8) v).modStack st fun x => { x with reconstructed := x.reconstructed + 1 }, .delivered)
    else (s1.countLost w, .lost)
  | .lagoon _ _ =>
    match s.backedAt (w * 8) with
    | some _ => (s.countLost w, .reload)
    | none => (s.countLost w, .lost)
  | _ => (s.countLost w, .lost)

/-- A word of HBM in a fresh share, which reads as zero whatever its DRAM holds (06 R171). -/
def State.freshWord (s : State) (w : Nat) : Bool := decide (w * 8 < 2 ^ 41) && s.granuleFresh (w * 8)

/-- A read or a scrub meets a word (05 R142, 06 R162). Four or more bits in error take the free outcome. -/
def State.meetWord (s : State) (w : Nat) : State × Fate :=
  let e := SMap.getD s.wordErr w {}
  if s.freshWord w then (s, .delivered)
  else if s.foldMismatch w && decide (w * 8 < 2 ^ 41) then s.uncorrectable w true
  else if e.bits = 0 then (s, .delivered)
  else if e.bits ≤ 2 then (s.correctWord w, .delivered)
  else if e.bits = 3 then s.uncorrectable w false
  else
    let pick := Config.manyBitOutcome s.freeCtr
    let data := Config.manyBitData s.freeCtr
    let s1 := { s with freeCtr := s.freeCtr + 1 }
    if pick = 0 then s1.uncorrectable w false
    else
      let s2 := { s1.writeWord (w * 8) data with
        wordErr := if pick = 1 then SMap.put s1.wordErr w ⟨1, false⟩ else s1.wordErr }
      if pick = 1 then (s2.correctWord w, .delivered) else (s2, .delivered)

/-- A granule of HBM that only reconstruction can serve now (06 R162, R166, R167, R172, R173). -/
def State.granuleAbsent (s : State) (g : Nat) : Bool :=
  let pl := s.granulePlace g
  decide (g < 2 ^ 41) && !s.granuleFresh g && (s.gone pl.stack pl.ch || s.busy pl.stack pl.ch)

/-- Every stack answers for every channel. -/
def State.allAnswer (s : State) : Bool :=
  (List.range 16).all fun k =>
    let x := s.stack k
    x.state != .lost && x.state != .selfRefresh && x.retired == 0 && !x.retraining && x.thermal != 3

/-- The words of a range that stand in absent granules: served by reconstruction, which counts in HBM_RECONSTRUCTED, or lost where it
is impossible, which counts in HBM_UNCORRECTABLE (06 R162, R169, R178). -/
def State.serveAbsent (s : State) (a n : Nat) : State × List Nat :=
  if 2 ^ 41 ≤ a ∨ s.allAnswer then (s, [])
  else
    (((granulesOf a n).filter s.granuleAbsent).flatMap fun g =>
      ((List.range 32).map (· + g / 8)).filter fun w => decide (a / 8 ≤ w) && decide (w < (a + n + 7) / 8)).foldl
      (fun (acc : State × List Nat) w =>
        let st := (s.granulePlace (w * 8)).stack
        if s.reconstructible (s.stripeOf (w * 8)).1 (s.stripeOf (w * 8)).2 (w % 32) then
          (acc.1.modStack st fun x => { x with reconstructed := x.reconstructed + 1 }, acc.2)
        else (acc.1.countLost w, acc.2 ++ [w])) (s, [])

/-- Lagoon words of a range wait: their domain is in retention or off, or their granule is under reload (05 R152, R153). -/
def State.lagoonWaits (s : State) (a n : Nat) (write : Bool) : Bool :=
  match placeOf a with
  | .lagoon i _ =>
    (s.island i).lagoon != 0 || (s.island i).lagoonRail == 2 ||
      (!write && (s.island i).reloading.any fun g => overlaps a n g 65536)
  | _ => false

/-- An access to a range of memory waits (05 R152, R153, 06 R172, R173, R179). -/
def State.accessWaits (s : State) (a n : Nat) (write : Bool) : Bool := s.hbmWaits a n write || s.lagoonWaits a n write

/-- The words of a range in HBM are met (06 R162, R169); some give no data. -/
def State.meetRange (s : State) (a n : Nat) : State × Bool :=
  let bad := (s.wordErr.filter fun q =>
    decide (a / 8 ≤ q.1) && decide (q.1 < (a + n) / 8) && !s.granuleAbsent (q.1 / 32 * 256)).map Prod.fst
  let h := s.serveAbsent a n
  bad.foldl (fun (acc : State × Bool) w =>
    let m := acc.1.meetWord w
    (m.1, acc.2 || m.2 == .lost)) (h.1, !h.2.isEmpty)

/-- A lagoon granule takes its master's bytes, in bulk class (05 R152, 07 R193). -/
def State.refill (s : State) (src g n : Nat) : State :=
  ((s.copy src g n).traffic false (nodeAt (s.ownerOf src)) (nodeAt (s.ownerOf g)) n).modIsland ((g - 0x040000000000) / 2 ^ 28) fun x =>
    { x with reloads := x.reloads + 1, reloading := x.reloading.filter fun y => y != g }

/-- The 64 KiB granule of a backed region reloads from its master (05 R152): LAGOON_RELOADS counts one and
WORD_UNCORRECTABLE records path 0. A master that is itself unreadable leaves the word lost. -/
def State.reloadGranule (s : State) (a found core : Nat) : State × Bool :=
  match s.backedAt a with
  | none => (s, false)
  | some (p, b) =>
    let g := a / 65536 * 65536
    let src := (s.part p).base + b.master + (g - b.addr)
    let r := s.meetRange src 65536
    if r.2 then (r.1, false) else ((r.1.refill src g 65536).wordEvent a 0 found core (some p), true)

/-- A read of a range meets its words in order: counts, corrections, reconstructions and reloads happen, and the
words that give no data are listed by word address. -/
def State.readRange (s : State) (a n found core : Nat) : State × List Nat :=
  let ws := (s.wordErr.filter fun q =>
    decide (a / 8 ≤ q.1) && decide (q.1 < (a + n + 7) / 8) && !s.granuleAbsent (q.1 / 32 * 256)).map Prod.fst
  let r := ws.foldl (fun (acc : State × List Nat) w =>
    let m := acc.1.meetWord w
    match m.2 with
    | .delivered => (m.1, acc.2)
    | .lost => (m.1, acc.2 ++ [w])
    | .reload =>
      let q := m.1.reloadGranule (w * 8) found core
      (q.1, if q.2 then acc.2 else acc.2 ++ [w])) (s, [])
  let x := r.1.serveAbsent a n
  (x.1, r.2 ++ x.2)

/-! ### Losing a channel or a stack (06 R166, R167) -/

/-- A stack is lost: HBM_STACK_LOST with its DETAIL (10 R476) and a log entry. LOST_STACK keeps the first one lost where two are: the
spec does not say which it names (log 100). -/
def State.loseStack (s : State) (k cause : Nat) : State :=
  if (s.stack k).state = .lost then s
  else
    let s1 := s.modStack k fun x => { x with state := .lost, retraining := false }
    let s2 := { s1 with hbm := { s1.hbm with lost := s1.hbm.lost.or (some k) } }
    let unit := unitCode 0x09 k 0 0
    (s2.logRequest unit 3 evStackLost).event evStackLost none
      (unitBytes unit ++ [BitVec.ofNat 8 cause, if s.hbm.mode then 1 else 0])

/-- HBM_CHANNEL_RETRAINED with its DETAIL (10 R476). -/
def State.channelEvent (s : State) (k ch outcome trigger attempts us : Nat) : State :=
  s.event evChannelRetrained none
    (unitBytes (unitCode 0x08 k ch 0) ++ [BitVec.ofNat 8 outcome, BitVec.ofNat 8 trigger, BitVec.ofNat 8 attempts, 0] ++ leBytes 4 us)

/-- A channel retires; a fifth one takes its stack (R166, R167). -/
def State.retireChannel (s : State) (k ch trigger attempts us : Nat) : State :=
  let x := s.stack k
  if x.retired.getLsbD ch ∨ x.state = .lost then s
  else
    let bits := x.retired ||| BitVec.ofNat 32 (2 ^ ch)
    let s1 := s.modStack k fun y => { y with
      retired := bits, retraining := if y.retrainCh = ch then false else y.retraining }
    let s2 := (s1.channelEvent k ch 1 trigger attempts us).logRequest (unitCode 0x08 k ch 0) 3 evChannelRetrained
    if 5 ≤ ((List.range 32).filter fun i => bits.getLsbD i).length then s2.loseStack k 0 else s2

end Sys2Proof.Machine
end

