-- ==== Sys2Proof/Machine/Operands.lean ====
section
/-! DEFINITION. How a core's instructions find and check their operands: the issue rule of the sequencer, descriptors
and slab layout (04 R104 to R108), stages, ledger records, the range interlock (02 R64), and how a part's state is
rebuilt (08 R220). -/

namespace Sys2Proof.Machine

/-! ### A part's carried state -/

/-- The job block of a rank (08 R214). -/
def jobBlock (x : Part) (j : Job) (p rank : Nat) : List Byte :=
  leBytes 8 x.base ++ leBytes 8 x.bytes ++ leBytes 2 rank ++ leBytes 2 j.placement.length ++ leBytes 2 p ++ [0, 0] ++
    leBytes 8 j.firstTurn ++ leBytes 4 j.epoch ++ List.replicate 28 0 ++
    (List.range 576).flatMap fun r => leBytes 2 (j.placement.getD r 0xFFFF)

/-- The job block is written (08 R214): 4 KiB at JOB_BLOCK_WORD. -/
def State.writeJobBlock (s : State) (p rank L : Nat) : State :=
  match (s.part p).image, (s.part p).job with
  | some im, some j =>
    s.store (csBase L + im.jobBlockWord * 8) 4096 (SMap.ofList (jobBlock (s.part p) j p rank) 0 0)
  | _, _ => s

/-- A checked copy (05 R142): the words of the source that give no data are listed, and with one of them nothing is copied. -/
def State.copyRead (s : State) (src dst n : Nat) : State × List Nat :=
  let r := s.readRange src n 0 0xFFFF
  (if r.2.isEmpty then r.1.copy src dst n else r.1, r.2)

/-- Checked copies one after another, from source to destination with their lengths. -/
def State.copyAll (s : State) (cs : List (Nat × Nat × Nat)) : State × List Nat :=
  cs.foldl (fun (acc : State × List Nat) c =>
    let r := acc.1.copyRead c.1 c.2.1 c.2.2
    (r.1, acc.2 ++ r.2)) (s, [])

/-- Code and resident ranges come from their masters (08 R213, R220). -/
def State.loadResident (s : State) (p rank L : Nat) : State × List Nat :=
  match (s.part p).image with
  | none => (s, [])
  | some im =>
    let base := (s.part p).base
    s.copyAll ((base + im.codeOffset, csBase L + im.codeWord * 8, im.codeSize) ::
      (im.ranges.filter fun d => d.kind == 0 && decide (d.rankFirst ≤ rank) && decide (rank ≤ d.rankLast)).map fun d =>
        (base + d.master + (rank - d.rankFirst) * d.stride, csBase L + d.word * 8, d.words * 8))

/-- The carried ranges of a rank (08 R213), as word address and length. -/
def Image.carried (im : Image) (rank : Nat) : List (Nat × Nat) :=
  ((im.rangesOf rank).filter fun d => d.kind == 1).map fun d => (d.word, d.words)

/-- The 4 KiB carried pages of a rank by their word addresses, in the order of its carried ranges (08 R220). -/
def Image.carriedPages (im : Image) (rank : Nat) : List Nat :=
  (im.carried rank).flatMap fun d => (List.range ((d.2 + 511) / 512)).map fun i => d.1 + i * 512

/-- Where carried page k of a rank's generation stands in HBM (08 R220): the turn shadow is at the top of the binding, two generations a
rank, each a 4 KiB header and 2 MiB of pages. -/
def Part.pageAt (x : Part) (ranks rank : Nat) (gen : Bool) (k : Nat) : Nat :=
  4096 + (if gen then 2101248 else 0) + (4202496 * rank + 4096 * k) + (x.base + x.bytes - shadowBytes ranks)

/-- The carried pages of a rank with the places of their committed copies. -/
def Part.committed (x : Part) (im : Image) (rank : Nat) (sh : RankShadow) : List (Nat × Nat) :=
  (im.carriedPages rank).zipIdx.map fun e => (e.1, x.pageAt im.ranks rank (SMap.getD sh.gens e.2 false) e.2)

/-- Carried ranges come from the committed generation (08 R220). -/
def State.loadCarried (s : State) (im : Image) (p rank L : Nat) (sh : RankShadow) : State × List Nat :=
  s.copyAll (((s.part p).committed im rank sh).map fun e => (e.2, csBase L + e.1 * 8, 4096))

/-- The committed carried bytes of a rank, by core store offset (13 R388). -/
def State.committedBytes (s : State) (x : Part) (im : Image) (rank : Nat) (sh : RankShadow) : SMap Byte :=
  (x.committed im rank sh).foldl (fun m e => SMap.splice m (e.1 * 8) 4096 (s.slice e.2 4096)) []

/-- Source rows of the slab in a slot of core L, as word address and length in row order (08 R222): those its sender's pins hold, or
those of the transfer that still fills it. -/
def State.slabRows (s : State) (L inbox slot snd : Nat) : List (Nat × Nat) :=
  let c := s.core snd
  match (c.pins.filter fun q => q.dest == L && q.inbox == inbox && q.slot == slot).map fun q => (q.word, q.words) with
  | [] =>
    match (c.ferry0 ++ c.ferry1).find? fun x =>
        x.op == .relayPut && x.slot == some slot && x.f.inbox.toNat == inbox && x.peer == L with
    | some x => (List.range (x.f.rowsM1.toNat + 1)).map fun i => (x.local0 + i * (x.strides.toNat % 2 ^ 24), x.rowBytes / 8)
    | none => []
  | rows => rows

/-- A slab comes again: its rows one after another from the start of the slot (08 R220, 04 R111). Every word is checked (05 R142); the
ones that give no data are listed with the core that holds them. -/
def State.resendRows (s : State) (snd at' : Nat) (rows : List (Nat × Nat)) : State × List (Nat × Nat) :=
  let r := rows.foldl (fun (acc : State × List (Nat × Nat) × Nat) q =>
    let m := acc.1.readRange (csBase snd + q.1 * 8) (q.2 * 8) 0 snd
    let t := if m.2.isEmpty then m.1.copy (csBase snd + q.1 * 8) (at' + acc.2.2) (q.2 * 8) else m.1
    (t, acc.2.1 ++ m.2.map (fun w => (snd, w)), acc.2.2 + q.2 * 8)) (s, [], 0)
  (r.1, r.2.1)

/-- Full, untaken slots, and those written in this turn, come again from their senders' pinned sources (08 R220, R222). -/
def State.resendSlots (s : State) (L : Nat) (inboxes : SMap Inbox) : State × List (Nat × Nat) :=
  inboxes.foldl (fun acc b =>
    (List.range b.2.slots.length).foldl (fun (acc : State × List (Nat × Nat)) i =>
      match b.2.slots.getD i .empty with
      | .full snd _ | .written snd _ =>
        let r := acc.1.resendRows snd (csBase L + (b.2.base + i * b.2.slotWords) * 8) (acc.1.slabRows L b.1 i snd)
        (r.1, acc.2 ++ r.2)
      | _ => acc) acc) (s, [])

/-- Token counts at a turn's start (02 R65): the signals the last commit released, held at 65,535. -/
def tokensFrom (m : SMap Nat) : SMap Token :=
  m.filterMap fun p => if p.2 = 0 then none else some (p.1, ({} : Token).signal p.2)

/-- The sequencer stands at the entry of the part (04 R121): everything that does not cross the boundary is empty. The array's dummy
activity goes on by its own timer (02 R60, 08 R225). -/
def Core.enterTurn (c : Core) : Core :=
  { c.clear with
    tokens := tokensFrom c.startTokens, pc := c.entry, seq := .running
    matOrd := 0, drainOrd := 0, vecOrd := 0, nextEntry := c.entry }

/-- A job whose turns may run: state running, not waiting. -/
def Job.runs (j : Job) : Bool := j.state == .running && !j.waiting

/-- Inbox states of the committed generation, slots that senders of the present turn have written kept as they are. -/
def mergeInboxes (now sh : SMap Inbox) : SMap Inbox :=
  sh.map fun b =>
    let cur := SMap.getD now b.1 {}
    (b.1, { b.2 with slots := (List.range b.2.slots.length).map fun i =>
      match cur.slots.getD i .empty with
      | .written snd src => .written snd src
      | _ => b.2.slots.getD i .empty })

/-- Where the 4 KiB page of a core store comes from (08 R220, 13 R373 step 2): the checked copies that rewrite it. -/
def pageSource (x : Part) (im : Image) (j : Job) (rank page at' : Nat) : List (Nat × Nat × Nat) :=
  if within page 512 im.codeWord ((im.codeSize + 4095) / 4096 * 512) then
    [(x.base + im.codeOffset + (page - im.codeWord) * 8, at', min 4096 (im.codeSize - (page - im.codeWord) * 8))]
  else
    match (im.rangesOf rank).find? fun d => within page 512 d.word d.words with
    | some d =>
      match d.kind with
      | 0 => [(x.base + d.master + (rank - d.rankFirst) * d.stride + (page - d.word) * 8, at', 4096)]
      | 1 => ((x.committed im rank (SMap.getD j.shadow rank {})).filter fun e => e.1 == page).map fun e => (e.2, at', 4096)
      | _ => []
    | none => []

/-- The 4 KiB page of core store that holds a word is rewritten from the source of its kind (13 R373 step 2). -/
def State.rewritePage (s : State) (L w : Nat) : State :=
  let page := w / 512 * 512
  let at' := csBase L + page * 8
  let s0 := s.zero at' 4096
  match s.standOf L with
  | none => s0
  | some pl =>
    match (s.part pl.part).image, (s.part pl.part).job with
    | some im, some j =>
      if page = im.jobBlockWord then s0.writeJobBlock pl.part pl.rank L
      else
        let r := s0.copyAll (pageSource (s.part pl.part) im j pl.rank page at')
        let s1 := r.2.foldl (fun u k => u.wordEvent (k * 8) 4 0 0xFFFF none) r.1
        if im.touches pl.rank 2 page 512 then
          let q := s1.resendSlots L (s.core L).inboxes
          q.2.foldl (fun u e => u.wordEvent (e.2 * 8) 4 0 e.1 none) q.1
        else s1
    | _, _ => s0

/-- An uncorrectable word of a core store is found (13 R373): while a part runs, the page is rewritten and the part
replays, and a second one fails the core; while none runs, the page is rewritten alone. `reader` is the core that read it,
or 0xFFFF. -/
def State.coreWordFound (s : State) (L w found reader : Nat) : State :=
  if s.partRunning L then
    let p := (s.standOf L).map Stand.part
    let s1 := s.wordEvent (w * 8) 1 found reader p
    if (s.core L).attempt.wordFault then s1.failCore L 7
    else
      let s2 := s1.rewritePage L (w % 2 ^ 21)
      let s3 := s2.modCore L fun c => { c with attempt := { c.attempt with wordFault := true } }
      s3.awaitRebuild L false
  else (s.wordEvent (w * 8) 4 found reader ((s.standOf L).map Stand.part)).rewritePage L (w % 2 ^ 21)

/-- A part meets an uncorrectable word of its own core store (13 R373). -/
def State.coreWordLost (s : State) (L w : Nat) : State := s.coreWordFound L w 0 L

/-- The rank's state is rebuilt (08 R220, R226): its part starts again at once where the turn runs, else with the next turn. A source
word of a sender that gives no data takes its own core's path (13 R373), and the rebuild waits to run again; with one of a master or of
the shadow the job holds for lost data (13 R371; log 104). -/
def State.rebuildCore (s : State) (L : Nat) : State :=
  match s.standOf L with
  | none => s
  | some pl =>
    match (s.part pl.part).image, (s.part pl.part).job with
    | some im, some j =>
      let sh := SMap.getD j.shadow pl.rank {}
      let cleared := (s.core L).attempt.cleared
      let boxes := mergeInboxes (s.core L).inboxes (renameInboxes (j.peer pl.copyB) sh.inboxes)
      let a := if cleared then (s.zero (csBase L) (2 ^ 24)).loadResident pl.part pl.rank L else (s, [])
      let b := a.1.loadCarried im pl.part pl.rank L sh
      match a.2 ++ b.2 with
      | w :: _ => (b.1.wordEvent (w * 8) 3 0 0xFFFF (some pl.part)).holdStatus pl.part evWordUncorrectable
      | [] =>
        let r := if cleared then b.1.resendSlots L boxes else (b.1, [])
        let s2 := r.1.writeJobBlock pl.part pl.rank L
        let s3 := s2.modCore L fun c =>
          let d := { c with
            regs := sh.regs, inboxes := boxes, ledgers := sh.ledgers, live := sh.live, carry := sh.carry
            entry := sh.entry
            attempt := { c.attempt with rebuild := false, cleared := false, again := false, issued := 0 } }
          if j.runs && s.turnBegun j then d.enterTurn else { d.clear with seq := .heldBoundary }
        match r.2 with
        | [] => s3
        | (snd, w) :: _ => (s3.coreWordFound snd w 0 snd).awaitRebuild L true
    | _, _ => s

/-! ### The sequencer's issue rule -/

/-- The sequencer of a core can take an instruction: it runs, nothing holds it, its region runs and its position is
served (04 R117, 01 R36; log 11). -/
def State.coreReady (s : State) (L : Nat) : Bool :=
  let c := s.core L
  c.seq == .running && c.hold == .none && !c.attempt.rebuild && (s.cluster (L / 12)).region == .running &&
    decide ((s.cluster (L / 12)).map.getD (L % 12) 0xF ≠ 0xF)

/-- What the checks of an instruction come to: the sequencer waits with it, it raises a status, it runs and leaves this
state, or its part stops on a word that gives no data. -/
inductive Verdict where
  | wait
  | raise (st : W16)
  | run (s : State)
  | stop (s : State)
  deriving DecidableEq, Repr

/-- One instruction at the sequencer of core L. Outside a turn only TURN_BEGIN is taken (04 R121). -/
def State.issue (s : State) (L : Nat) (v : Verdict) : State :=
  if s.coreReady L then
    if (s.core L).inTurn then
      match v with
      | .wait => s
      | .raise st => s.raise L st
      | .run t => t.countIssue L
      | .stop t => t
    else s.raise L stIllegal
  else s

/-- A synchronisation instruction waits while its queue of 16 is full (04 R101). -/
def State.syncGate (s : State) (L : Nat) (v : Verdict) : Verdict := if 16 ≤ (s.core L).syncQ then .wait else v

/-- It takes a place there, which it gives up when the synchronisation unit begins it (04 R101). -/
def Core.enterSync (c : Core) : Core := { c with syncQ := c.syncQ + 1 }

/-- One that holds the queue begins after every earlier one has (04 R101, R117). -/
def Core.beginSync (c : Core) : Core := { c with syncQ := 0 }

/-- The first status of 04 R126 that applies. -/
def firstStatus (illegal misaligned unmapped : Bool) : Option W16 :=
  if illegal then some stIllegal
  else if misaligned then some stMisaligned
  else if unmapped then some stUnmapped
  else none

/-! ### Formats, slabs and descriptors (02 R45, R47, 04 R104 to R108) -/

/-- Multiply-accumulates per cell and beat by the wider width (02 R45). -/
def macs (wider : Nat) : Nat := if wider = 4 then 4 else if wider = 8 then 2 else 1

/-- K-slab by the wider width (02 R45). -/
def kSlab (wider : Nat) : Nat := 32 * macs wider

/-- Bytes that one row or column of an operand consumes per beat (04 R105). -/
def rowBeatBytes (f : Fmt) (wider : Nat) : Nat := macs wider * f.bits / 8

def slabBytes (f : Fmt) (wider n : Nat) : Nat := 32 * n * rowBeatBytes f wider

/-- Blocks of a K-slab, one scale byte each per row (04 R106). -/
def kBlocks (wider : Nat) : Nat := kSlab wider / 32

def scaleBytes (wider n : Nat) : Nat := kBlocks wider * n

/-- The allowed pairs of 02 R47. -/
def pairAllowed (a b : Fmt) : Bool := (a.isMx && b.isMx) || (a.isInt && b.isInt) || (a.is16 && b.is16)

def widerOf (a b : Fmt) : Nat := max a.width b.width

def descElem (d : W64) : Nat := d.toNat % 2 ^ 21
def descScale (d : W64) : Nat := d.toNat / 2 ^ 21 % 2 ^ 21

/-- A byte range from a word address that runs past the end of core store (04 R108). -/
def pastEnd (word bytes : Nat) : Bool := decide (2 ^ 24 < word * 8 + bytes)

/-- The address rules of a slab, or of a drain, with its scales (04 R108). -/
def descMisaligned (f : Fmt) (d : W64) : Bool :=
  decide (descElem d % 32 ≠ 0) || (f.isMx && decide (descScale d % 8 ≠ 0))

def descPastEnd (f : Fmt) (d : W64) (elems scales : Nat) : Bool :=
  pastEnd (descElem d) elems || (f.isMx && pastEnd (descScale d) scales)

/-- Element of the 64-row share of an operand slab (04 R105): row r, index k along K. -/
def shareElem (f : Fmt) (wider : Nat) (sh : SMap Byte) (r k : Nat) : Nat :=
  let o := k / macs wider * 64 * rowBeatBytes f wider + r * rowBeatBytes f wider
  let i := k % macs wider
  match f.bits with
  | 4 => (SMap.getD sh (o + i / 2) 0).toNat / 16 ^ (i % 2) % 16
  | 16 => (SMap.getD sh o 0).toNat + 256 * (SMap.getD sh (o + 1) 0).toNat
  | _ => (SMap.getD sh (o + i) 0).toNat

/-- Scale byte of block b of row r in a 64-row share (04 R106). -/
def shareScale (sh : SMap Byte) (r b : Nat) : Nat := (SMap.getD sh (b * 64 + r) 0).toNat

/-- The share of one half of an n-row array whose rows take `w` bytes per step. -/
def shareOf (n w half : Nat) (es : SMap Byte) : SMap Byte :=
  es.filterMap fun p =>
    let row := p.1 % (n * w) / w
    if row / 64 = half then some (p.1 / (n * w) * (64 * w) + row % 64 * w + p.1 % w, p.2) else none

/-- An operand share read from core store (02 R55, 04 R105, R106). -/
def State.streamShare (s : State) (L : Nat) (f : Fmt) (wider n half : Nat) (d : W64) : SMap Byte × SMap Byte :=
  (shareOf n (rowBeatBytes f wider) half (s.slice (csBase L + descElem d * 8) (slabBytes f wider n)),
   if f.isMx then shareOf n 1 half (s.slice (csBase L + descScale d * 8) (scaleBytes wider n)) else [])

/-- Bytes of a drained n x n tile and of its scales (04 R107); both layouts take the same. -/
def drainBytes (f : Fmt) (n : Nat) : Nat := n * n * f.bits / 8
def drainScaleBytes (n : Nat) : Nat := n * n / 32

/-- Byte offset of a tile's element in the drain (04 R107), and which nibble for a 4-bit format. -/
def drainOffset (f : Fmt) (slab : Bool) (n r k : Nat) : Nat × Nat :=
  if slab then
    let K := kSlab f.width
    let E := macs f.width
    let o := k / K * slabBytes f f.width n + k % K / E * n * 2 + r * 2
    if f.bits = 4 then (o + k % E / 2, k % 2) else (o + k % E * f.bits / 8, 0)
  else ((r * n + k) * f.bits / 8, if f.bits = 4 then k % 2 else 0)

/-- Byte offset of a block's scale in the drain (04 R107). -/
def drainScaleOffset (f : Fmt) (slab : Bool) (n r b : Nat) : Nat :=
  if slab then
    let B := kBlocks f.width
    b / B * (n * B) + b % B * n + r
  else r * (n / 32) + b

/-! ### Ledger slots as the instruction stream sees them (03 R90, 04 R121) -/

/-- FORMAT of a slot if it is open once every queued ledger instruction has taken effect. -/
def Core.ledgerView (c : Core) (slot : Nat) : Option Fmt :=
  c.matQ.foldl (fun v it =>
    match it with
    | .ledgerOpen k f _ _ _ _ => if k = slot then some f else v
    | .ledgerClose k => if k = slot then none else v
    | _ => v) (SMap.get? c.ledgers slot)

/-- A word range touches the record of an open slot. -/
def Core.touchesLedger (c : Core) (w n : Nat) : Bool :=
  (List.range 64).any fun k => (c.ledgerView k).isSome && overlaps w n (ledgerWord k) 16

/-- Formats that a drain through a ledger slot may take (03 R91). -/
def ledgerFormat (f : Fmt) : Bool := f.isMx || f.isInt || f == .fp16

/-! ### Ranges in flight in the matrix array (02 R64) -/

def headFmts (h : MatrixHead) : Fmt × Fmt :=
  ((fmtOfCode h.fmtA.toNat).getD .int8, (fmtOfCode h.fmtB.toNat).getD .int8)

def partSide (apart : Bool) : Nat := if apart then 64 else 128

def wordsOfBytes (n : Nat) : Nat := (n + 7) / 8

/-- Words that a part streams: its operands and their scales. -/
def partReads (apart : Bool) (h : MatrixHead) (p : PartIssue) : List (Nat × Nat) :=
  let n := partSide apart
  let wd := widerOf (headFmts h).1 (headFmts h).2
  let side := fun (f : Fmt) (d : W64) (src : BitVec 2) =>
    if src = 2 then []
    else (descElem d, wordsOfBytes (slabBytes f wd n)) ::
      (if f.isMx then [(descScale d, wordsOfBytes (scaleBytes wd n))] else [])
  side (headFmts h).1 p.da p.part.srcA ++ side (headFmts h).2 p.db p.part.srcB

/-- Words that a part drains to: its tile, its scales, and the record of the ledger slot that it passes through (03 R92). -/
def partWrites (apart : Bool) (p : PartIssue) : List (Nat × Nat) :=
  if p.part.drain then
    let n := partSide apart
    let f := (fmtOfCode p.part.drainFmt.toNat).getD .fp32
    (descElem p.dd, wordsOfBytes (drainBytes f n)) ::
      ((if f.isMx then [(descScale p.dd, wordsOfBytes (drainScaleBytes n))] else []) ++
        (if p.part.ledgerEn then [(ledgerWord p.part.ledgerSlot.toNat, 16)] else []))
  else []

def Core.matReads (c : Core) : List (Nat × Nat) :=
  (c.matQ.flatMap fun it =>
    match it with
    | .work a h ps _ _ => ps.flatMap (partReads a h)
    | _ => []) ++
  (c.matRun.filter fun r => !r.finalised).flatMap fun r => r.parts.flatMap (partReads r.apart r.head)

def Core.matWrites (c : Core) : List (Nat × Nat) :=
  (c.matQ.flatMap fun it =>
    match it with
    | .work a _ ps _ _ => ps.flatMap (partWrites a)
    | .ledgerOpen k _ _ _ _ _ => [(ledgerWord k, 16)]
    | .ledgerClose k => [(ledgerWord k, 16)]) ++ c.matRun.flatMap fun r => r.parts.flatMap (partWrites r.apart)

/-- A read of a word range waits for an earlier drain of it (02 R64). -/
def Core.readBlocked (c : Core) (w n : Nat) : Bool := c.matWrites.any fun q => overlaps w n q.1 q.2

/-- A word range touches a pinned source line (08 R222): lines are 8 words. -/
def Core.pinned (c : Core) (w n : Nat) : Bool :=
  c.pins.any fun p => overlaps w n (p.word / 8 * 8) ((p.word % 8 + p.words + 7) / 8 * 8)

/-- A write of a word range waits for earlier drains and operand streams of it, and for pins (02 R64, 08 R222). -/
def Core.writeBlocked (c : Core) (w n : Nat) : Bool :=
  c.readBlocked w n || (c.matReads.any fun q => overlaps w n q.1 q.2) || c.pinned w n

/-- A local write that 08 R213 and 03 R90 refuse: a resident range, or the record of an open ledger slot. -/
def State.writeRefused (s : State) (L w n : Nat) : Bool := s.resident L w n || (s.core L).touchesLedger w n

/-! ### The end of a turn (04 R120) -/

/-- Nothing of the turn is left in the units: queues empty, transfers and drains complete. -/
def Core.quiet (c : Core) : Bool :=
  c.matQ.isEmpty && c.matRun.isEmpty && c.vecQ == 0 && c.syncQ == 0 && c.ferry0.isEmpty && c.ferry1.isEmpty

/-- A bank as the bytes of its tile, row-major (04 R120). -/
def Core.bankTile (c : Core) (b : Nat) : SMap Byte :=
  (SMap.slice (SMap.normal c.banks 0) (b * 16384) 16384).foldl (fun m v =>
    m ++ (SMap.ofList (leBytes 4 v.2.toNat) 0 0).map fun x => (v.1 * 4 + x.1, x.2)) []

/-- Live banks go to the carry area, bank 0 first (04 R120). -/
def State.saveBanks (s : State) (L : Nat) (live : BitVec 2) (carry : Nat) : State :=
  let a := csBase L + carry * 8
  let c := s.core L
  let s1 := if live.getLsbD 0 then s.store a 65536 (c.bankTile 0) else s
  if live.getLsbD 1 then s1.store (if live.getLsbD 0 then a + 65536 else a) 65536 (c.bankTile 1) else s1

/-- TURN_END completes once nothing is left: live banks are written, SEQ_STATE shows the boundary (04 R120). -/
def State.settleTurnEnd (s : State) (L : Nat) : State :=
  let c := s.core L
  match c.hold with
  | .turnEnd live carry next =>
    if c.quiet then
      (s.saveBanks L live carry).modCore L fun c =>
        { c with
          hold := .none, seq := .heldBoundary, inTurn := false, live := live, carry := carry, nextEntry := next
          attempt := { c.attempt with ended := true } }
    else s
  | _ => s

/-! ### Draws (03 R86, R87) -/

/-- The key of a stream and the stream turn index under which a core draws. -/
def State.drawEnv (s : State) (L stream : Nat) : List Byte × Nat :=
  match s.standOf L with
  | none => ([], 0)
  | some pl =>
    match (s.part pl.part).job with
    | none => ([], 0)
    | some j => (j.keys.getD stream [], j.ts)

/-- A draw of core L: source 0 finalisation, 1 drain, 2 vector. -/
def State.drawAt (s : State) (L stream source index : Nat) : Nat :=
  let env := s.drawEnv L stream
  (draw env.1 index L source stream (BitVec.ofNat 64 env.2)).toNat

/-! ### Ledger records (03 R91 to R93) -/

def recordAddr (L slot : Nat) : Nat := 0xFFE000 + 0x80 * slot + csBase L

/-- FMT_MAX of 03 R93 in units of 2^-300. -/
def fmtMaxUnits (f : Fmt) : Nat :=
  match f with
  | .mxfp4 => 6 * 2 ^ 300
  | .e2m3 => 15 * 2 ^ 299
  | .e3m2 => 28 * 2 ^ 300
  | .e4m3 => 448 * 2 ^ 300
  | .e5m2 => 57344 * 2 ^ 300
  | .mxint8 => 127 * 2 ^ 294
  | .int4 => 7 * 2 ^ 300
  | .int8 => 127 * 2 ^ 300
  | _ => 65504 * 2 ^ 300

/-- floor(log2(a / b)) of two positive numbers. -/
def floorLog2Ratio (a b : Nat) : Int :=
  let g : Int := (Nat.log2 a : Int) - Nat.log2 b
  let fits := if 0 ≤ g then decide (b * 2 ^ g.toNat ≤ a) else decide (b ≤ a * 2 ^ (-g).toNat)
  if fits then g else g - 1

/-- A signed 16-bit field. -/
def s16 (i : Int) : List Byte := leBytes 2 (twosOf 16 i)

/-- The commit's update of one open slot (03 R93). -/
def State.ledgerCommit (s : State) (L slot : Nat) (f : Fmt) (td : Nat) : State :=
  let a := recordAddr L slot
  let flags := s.readNat (a + 3) 1
  let len := s.readNat (a + 4) 1
  let pos := s.readNat (a + 5) 1
  let margin : Int := s.readNat (a + 6) 1
  let amax := s.readNat (a + 0xC) 4
  let s1 := s.writeBytes (a + 0x20 + 4 * pos) (leBytes 4 amax)
  let s2 := s1.writeBytes (a + 5) (leBytes 1 ((pos + 1) % len))
  let top := (List.range len).foldl (fun m h => max m (s2.readNat (a + 0x20 + 4 * h) 4)) 0
  let s3 :=
    if top = 0 then s2
    else s2.writeBytes (a + 0xA)
      (s16 (clampInt (-127) 127 (floorLog2Ratio (fmtMaxUnits f) (magUnits (decodeFloat fmtFP32 top)) - margin)).1)
  let s4 := if flags / 2 % 2 = 1 then s3.writeBytes (a + 8) (s3.readBytes (a + 0xA) 2) else s3
  let s5 := s4.writeBytes (a + 0xC) (leBytes 4 0)
  let s6 := s5.writeBytes (a + 0x10) (leBytes 8 td)
  s6.writeBytes (a + 0x18) (leBytes 4 (s6.readNat (a + 0x18) 4 + 1))

/-- What a drain leaves in its slot (03 R92). -/
def State.ledgerTake (s : State) (L : Nat) (d : DrainOut) : State :=
  match d.ledger with
  | none => s
  | some k =>
    let a := recordAddr L k
    let s1 := s.writeBytes (a + 0xC) (leBytes 4 (max (s.readNat (a + 0xC) 4) d.amax))
    if d.nonfinite then s1.writeBytes (a + 3) (leBytes 1 (s1.readNat (a + 3) 1 ||| 4)) else s1

/-- Every bit of the stream's effects outside reads enters a doubles part's absorbers (13 R380): destination, length
and kind into the first, data into the second. The spec gives the kinds no codes: 1 PUT to lagoon or HBM, 2 PUT to a core store,
3 + 16 RED_OP PUT_REDUCE, 4 RELAY_PUT, 5 a signal, 6 an inbox credit, 7 a changed carried page (log 86). -/
def State.absorbEffect (s : State) (L dest len kind : Nat) (data : List Byte) : State :=
  match s.standOf L with
  | none => s
  | some pl =>
    if ((s.part pl.part).job.map fun j => j.req.body.doubles).getD false then
      s.modCore L fun c =>
        { c with
          addrLog := c.addrLog ++ leBytes 8 dest ++ leBytes 8 len ++ leBytes 1 kind
          dataLog := c.dataLog ++ data }
    else s

/-- A signal to another core's token is such an effect. -/
def State.absorbSignal (s : State) (L dest token count : Nat) : State :=
  s.absorbEffect L dest 4 5 (leBytes 2 token ++ leBytes 2 count)

/-- So is an inbox credit: its sender by the name that both copies know it by, and the slot. -/
def State.absorbCredit (s : State) (L sender inbox slot : Nat) : State :=
  let name := match s.standOf L with
    | some pl => ((s.part pl.part).job.map fun j => j.nameOf sender).getD sender
    | none => sender
  s.absorbEffect L name 2 6 (leBytes 1 inbox ++ leBytes 1 slot)

end Sys2Proof.Machine
end

