-- ==== Sys2Proof/Machine/MeshOps.lean ====
section
/-! DEFINITION. Memory as the mesh's endpoints give it: rights at a destination, regions that sleep, writes under copy-on-write, and
the reduce holds (04 R115, R116, 07 R200, R201, 13 R390). -/

namespace Sys2Proof.Machine

/-! ### Rights at a destination (04 R116, 05 R139, R150, 06 R157, 08 R213) -/

/-- The top of user space, and the start of the module-reserved region (06 R157). -/
def State.userTop (s : State) : Nat := if s.hbm.mode then 2 ^ 41 else 0x01E000000000
def State.reservedBase (s : State) : Nat := if s.hbm.mode then 0x01FB00000000 else 0x01DB00000000

/-- A range cut at the multiples of a unit; an empty one is one empty piece. -/
def cutAt (unit a n : Nat) : List (Nat × Nat) :=
  if n = 0 then [(a, 0)]
  else (List.range ((a + n - 1) / unit - a / unit + 1)).map fun i =>
    (max a ((a / unit + i) * unit), min (a + n) ((a / unit + i + 1) * unit) - max a ((a / unit + i) * unit))

/-- A range by owner: one core store, one lagoon quarter, or HBM (05 R137). -/
def ownedRanges (a n : Nat) : List (Nat × Nat) :=
  match placeOf a with
  | .coreStore _ _ => cutAt (2 ^ 24) a n
  | .lagoon _ _ => cutAt (2 ^ 26) a n
  | _ => [(a, n)]

/-- The master range of a backed region of a partition's job (05 R150). -/
def Part.inMaster (x : Part) (a n : Nat) : Bool :=
  match x.image, x.job with
  | some im, some _ => im.backed.any fun b => overlaps a n (x.base + b.master) b.length
  | _, _ => false

/-- One owner's range bound to partition p, with the job's own limits: program space of its binding, quarters of its clusters, core
stores of its served positions; a write keeps out of backed regions, their masters and resident ranges. -/
def State.allowedUnit (s : State) (p a n : Nat) (write : Bool) : Bool :=
  let x := s.part p
  match placeOf a with
  | .hbm _ =>
    let sp := x.programSpace
    x.session.isSome && decide (sp.1 ≤ a) && decide (a + n ≤ sp.2) && decide (a + n ≤ s.reservedBase) && !(write && x.inMaster a n)
  | .lagoon i q =>
    s.partOf (i * 4 + q) == some p &&
      !(write && ((x.image.map Image.backed).getD []).any fun b => overlaps a n b.addr b.length)
  | .coreStore L w =>
    s.partOf (L / 12) == some p && (s.cluster (L / 12)).map.getD (L % 12) 0xF != 0xF && !(write && s.resident L w ((n + 7) / 8))
  | _ => false

/-- A range of memory bound to partition p, every owner that it touches (04 R116). -/
def State.allowed (s : State) (p a n : Nat) (write : Bool) : Bool := (ownedRanges a n).all fun r => s.allowedUnit p r.1 r.2 write

/-- The partition under reset whose memory an address is (07 R200). -/
def State.resettingAt (s : State) (a : Nat) : Bool :=
  match placeOf a with
  | .coreStore L _ => ((s.partOf (L / 12)).map fun p => (s.part p).clearing.isSome).getD false
  | .lagoon i q => ((s.partOf (i * 4 + q)).map fun p => (s.part p).clearing.isSome).getD false
  | .hbm _ =>
    s.sched.parts.any fun e =>
      e.2.clearing.isSome && e.2.hbmClearing && decide (e.2.base ≤ a) && decide (a < e.2.base + e.2.bytes)
  | _ => false

/-- Some owner that a range touches is under reset. -/
def State.resettingIn (s : State) (a n : Nat) : Bool := (ownedRanges a n).any fun r => s.resettingAt r.1

/-- What an access by partition p meets (04 R116): nothing, ADDRESS_UNMAPPED or TARGET_RESETTING. Another partition's address is
answered as an unmapped one, under reset too. -/
def State.accessStatus (s : State) (p a n : Nat) (write : Bool) : W16 :=
  if s.resettingIn a n ∧ (s.allowed p a n write ∨ (s.part p).clearing.isSome) then stResetting
  else if s.allowed p a n write then stOk
  else stUnmapped

/-- What module traffic meets (00 R11, R12, 07 R185, R200, R201): it is not checked by partition; a reserved address, the parity range in
protected mode and a position with no serving slot are ADDRESS_UNMAPPED. -/
def State.moduleStatus (s : State) (a n : Nat) : W16 :=
  let ok := (ownedRanges a n).all fun r =>
    match placeOf r.1 with
    | .hbm _ => decide (r.1 + r.2 ≤ s.userTop)
    | .lagoon _ _ => true
    | .coreStore L _ => (s.cluster (L / 12)).map.getD (L % 12) 0xF != 0xF
    | _ => false
  if !ok then stUnmapped else if s.resettingIn a n then stResetting else stOk

/-! ### Regions that sleep (07 R201, 15 R432) -/

/-- A destination region that does not run keeps the packets waiting (07 R201). -/
def State.targetSleeps (s : State) (a : Nat) : Bool :=
  match placeOf a with
  | .coreStore L _ => (s.cluster (L / 12)).region != .running
  | _ => false

/-- A core store whose region does not run: a dozing one is woken (15 R432). -/
def State.wakeFor (s : State) (a : Nat) : State :=
  match placeOf a with
  | .coreStore L _ => if (s.cluster (L / 12)).doze then s.queueWake (L / 12) else s
  | _ => s

/-! ### Writes under copy-on-write (13 R390, R395) -/

def pageOf (a : Nat) : Nat := a / 2 ^ 21

/-- Pages in the copy-on-write pool, all partitions (13 R390). -/
def State.poolUsed (s : State) : Nat :=
  s.sched.parts.foldl (fun n e => n + (e.2.snap.map fun x => x.pooled.length).getD 0) 0

/-- The first write into a protected page copies it to the pool (13 R390); with the pool full a kept snapshot is
dropped with its SNAPSHOT_DONE entry (R395), and a draining one sends the page next. -/
def State.cowPage (s : State) (p page : Nat) : State :=
  match (s.part p).snap with
  | none => s
  | some x =>
    if !x.guarded.contains page then s
    else if s.poolUsed < 2048 then
      s.modPart p fun y => { y with snap := some { x with
        guarded := x.guarded.filter (· != page), pooled := x.pooled ++ [page] } }
    else if x.phase = .kept then
      let s1 := s.modPart p fun y => { y with snap := none }
      s1.journalWrite 0x32 stUnmapped x.td { sid := x.sid, job := x.jobId, cmd := x.cmdSeq, part := BitVec.ofNat 16 p, tenant := (s.part p).tenant }
        (leBytes 8 x.acceptedSeq ++ leBytes 8 x.id.toNat ++ leBytes 8 0 ++ leBytes 4 x.pauseUs.toNat ++ leBytes 4 x.copyUs.toNat)
    else s.modPart p fun y => { y with snap := some { x with
      guarded := x.guarded.filter (· != page), sendNext := x.sendNext ++ [page] } }

/-- A write of partition p's job or host into memory, as part of a transfer row. -/
def State.partWriteRow (s : State) (p a n : Nat) (es : SMap Byte) (row : Nat × Nat) : State :=
  let pages := if a < 2 ^ 41 ∧ 0 < n then (List.range ((a + n - 1) / 2 ^ 21 - a / 2 ^ 21 + 1)).map (· + a / 2 ^ 21) else []
  (pages.foldl (fun t g => t.cowPage p g) s).rowWrite a n es row

/-- A write of partition p's job or host into memory. -/
def State.partWrite (s : State) (p a n : Nat) (es : SMap Byte) : State := s.partWriteRow p a n es (a, a + n)

/-! ### Reduce holds (04 R115) -/

/-- The destination engine's site number for an address (03 R96, 04 R115). -/
def State.siteOf (s : State) (a : Nat) : Nat :=
  match placeOf a with
  | .coreStore L _ => L / 12 * 2
  | .lagoon i q => (i * 4 + q) * 2 + 1
  | .hbm x => 0x80 + (s.granulePlace x).stack
  | _ => 0

/-- Data bytes of a contribution. -/
def Contribution.bytes (c : Contribution) : Nat := c.data.foldl (fun n d => n + d.2.length) 0

/-- Bytes that a list of contributions takes at a site. -/
def heldBytes (cs : List Contribution) (site : Nat) : Nat :=
  cs.foldl (fun n c => if c.site = site then n + c.bytes else n) 0

/-- Whether an engine admits a contribution: 1 MiB for one turn of one job, 2 MiB in all (04 R115). -/
def State.holdAdmits (s : State) (c : Contribution) : Bool :=
  decide (heldBytes s.mesh.holds c.site + c.bytes ≤ 2 ^ 21) &&
    decide (heldBytes (s.mesh.holds.filter fun x => x.part == c.part && x.turn == c.turn) c.site + c.bytes ≤ 2 ^ 20)

def State.addContribution (s : State) (c : Contribution) : State :=
  if s.holdAdmits c then { s with mesh := { s.mesh with holds := s.mesh.holds ++ [c] } }
  else { s with mesh := { s.mesh with waiting := s.mesh.waiting ++ [c] } }

/-- The data of a packet by reduction site: an HBM address by its granule's stack, a lagoon one by its quarter, a core store one by its
cluster (R115). -/
def State.bySite (s : State) (a : Nat) (data : List Byte) : List (Nat × List (Nat × List Byte)) :=
  let unit := match placeOf a with
    | .hbm _ => 256
    | .lagoon _ _ => 2 ^ 26
    | _ => 2 ^ 24
  let parts := (cutAt unit a data.length).map fun r => (s.siteOf r.1, r.1, (data.drop (r.1 - a)).take r.2)
  let sites := parts.foldl (fun (l : List Nat) q => if l.contains q.1 then l else l ++ [q.1]) []
  sites.map fun k => (k, (parts.filter fun q => q.1 == k).map Prod.snd)

/-- Two BF16 values added, to nearest even. -/
def bf16Add (x y : Nat) : Nat := (toIeee fmtBF16 0 0 (addNum (decodeFloat fmtBF16 x) (decodeFloat fmtBF16 y))).1

/-- One 64-bit word combined under a RED_OP (04 R110, R115): FP32 add, BF16 add, FP32 maximum, INT32 add. -/
def combineWord (op : Nat) (d v : W64) : W64 :=
  let lo := fun (x : W64) => x.truncate 32
  let hi := fun (x : W64) => (x >>> 32).truncate 32
  let two := fun (f : W32 → W32 → W32) => (f (hi d) (hi v) ++ f (lo d) (lo v) : BitVec 64)
  match op with
  | 0 => two fun a b => (fadd a b).1
  | 1 => BitVec.ofNat 64 ((List.range 4).foldl (fun acc i =>
      acc + bf16Add (d.toNat / 2 ^ (16 * i) % 65536) (v.toNat / 2 ^ (16 * i) % 65536) * 2 ^ (16 * i)) 0)
  | 2 => two fun a b => (fpick true a b).1
  | _ => two fun a b => a + b

/-- A run of a contribution's data enters its destination (04 R115): a destination word that gives no data stays as it stood and
raises WORD_UNCORRECTABLE with FOUND_BY 3 and PATH 4. -/
def State.combineRun (s : State) (p op a : Nat) (data : List Byte) : State :=
  let r := s.readRange a data.length 3 0xFFFF
  let s1 := r.2.foldl (fun t w => t.wordEvent (w * 8) 4 3 0xFFFF (some p)) r.1
  let words := (List.range (data.length / 8)).filter fun i => !r.2.contains (a / 8 + i)
  words.foldl (fun t i =>
    let b := a + 8 * i
    t.partWrite p b 8 (SMap.ofList (leBytes 8 (combineWord op (t.readWord b) (leWord ((data.drop (8 * i)).take 8))).toNat) 0 0)) s1

/-- A contribution enters its destination. -/
def State.combine (s : State) (c : Contribution) : State := c.data.foldl (fun t d => t.combineRun c.part c.op d.1 d.2) s

/-- A fingerprint record (03 R96). -/
def fingerprintRecord (c : Contribution) (step : Nat) : List Byte :=
  leBytes 8 c.turn ++ leBytes 2 c.site ++ leBytes 2 (step % 65536) ++ leBytes 4 (c.seat % 64 * 65536 + c.core % 1024)

end Sys2Proof.Machine
end

