-- ==== Sys2Proof/Machine/Transfers.lean ====
section
/-! DEFINITION. Ferry transfers on their way (04 R110 to R116, 05 R136, 07 R185, R186): rows and the pieces they are cut into, the
packets that carry them, what a packet meets at its destination, and what its answer does at its sender. -/

namespace Sys2Proof.Machine

/-! ### Rows (04 R111) -/

def Xfer.rows (x : Xfer) : Nat := x.f.rowsM1.toNat + 1
def Xfer.localStride (x : Xfer) : Nat := x.strides.toNat % 2 ^ 24
def Xfer.remoteStride (x : Xfer) : Nat := x.strides.toNat / 2 ^ 24

/-- Byte address of row i in the core's own store. -/
def Xfer.localAt (x : Xfer) (i : Nat) : Nat := csBase x.f.core.val + (x.local0 + i * x.localStride) * 8

def Xfer.remoteAt (x : Xfer) (i : Nat) : Nat := x.remote + i * x.remoteStride

/-- Remote bytes of a row: 24 for every 32 local ones under CONV (R111). -/
def Xfer.remoteBytes (x : Xfer) : Nat := if x.f.conv = 0 then x.rowBytes else x.rowBytes / 32 * 24

def Xfer.total (x : Xfer) : Nat := x.rows * x.rowBytes

/-- Local bytes that remote ones stand for under CONV. -/
def Xfer.localCount (x : Xfer) (n : Nat) : Nat := if x.f.conv = 0 then n else n / 24 * 32

/-- Words that a row touches locally. -/
def Xfer.localWords (x : Xfer) : List (Nat × Nat) :=
  (List.range x.rows).map fun i => (x.local0 + i * x.localStride, x.rowBytes / 8)

/-- MXFP6 byte form to packed form: four elements in three bytes (03 R73). -/
def packSix (n : Nat) (bs : List Byte) : List Byte :=
  match n with
  | 0 => []
  | k + 1 =>
    let v := (bs.take 4).foldr (fun b acc => b.toNat % 64 + 64 * acc) 0
    leBytes 3 v ++ packSix k (bs.drop 4)

/-- Packed form to byte form, bits [7:6] zero. -/
def unpackSix (n : Nat) (bs : List Byte) : List Byte :=
  match n with
  | 0 => []
  | k + 1 =>
    let v := (leWord (bs.take 3)).toNat
    (List.range 4).map (fun i => BitVec.ofNat 8 (v / 64 ^ i % 64)) ++ unpackSix k (bs.drop 3)

/-- The remote bytes of row i as a map from its first byte. -/
def State.rowOut (s : State) (x : Xfer) (i : Nat) : SMap Byte :=
  if x.f.conv = 1 then SMap.ofList (packSix (x.rowBytes / 4) (s.readBytes (x.localAt i) x.rowBytes)) 0 0
  else s.slice (x.localAt i) x.rowBytes

/-! ### Copies and peers (13 R379) -/

/-- The core that a RELAY_PUT, or a write into a core store, reaches: copy B's sends go to copy B. -/
def State.peerOf (s : State) (L dest : Nat) : Nat :=
  match s.standOf L with
  | none => dest
  | some pl => ((s.part pl.part).job.map fun j => j.peer pl.copyB dest).getD dest

/-- Where row i of a transfer lands remotely: copy B's core store writes go to copy B. -/
def State.remoteRow (s : State) (x : Xfer) (i : Nat) : Nat :=
  let a := x.remoteAt i
  match placeOf a with
  | .coreStore d _ =>
    match x.op with
    | .get => a
    | _ => a - csBase d + csBase (s.peerOf x.f.core.val d)
  | _ => a

/-- Copy B digests and discards its writes into lagoon and HBM. -/
def State.discards (s : State) (x : Xfer) : Bool :=
  match s.standOf x.f.core.val with
  | none => false
  | some pl => pl.copyB && (match x.op, placeOf x.remote with
    | .put, .coreStore _ _ => false
    | .putReduce, .coreStore _ _ => false
    | .put, _ => true
    | .putReduce, _ => true
    | _, _ => false)

/-! ### Words that give no data (13 R373, R374) -/

/-- A part's transfer meets a word that gives no data outside its core store (13 R374): the part replays once on its
own slot, and a second time the job holds with 0x8042. -/
def State.remoteWordLost (s : State) (L w : Nat) : State :=
  match s.standOf L with
  | none => s.wordEvent (w * 8) 4 0 L none
  | some pl =>
    if (s.core L).attempt.remoteFault then
      (s.wordEvent (w * 8) 3 0 L (some pl.part)).holdStatus pl.part evWordUncorrectable
    else
      let s1 := s.wordEvent (w * 8) 2 0 L (some pl.part)
      let s2 := s1.modCore L fun c => { c with attempt := { c.attempt with remoteFault := true } }
      s2.awaitRebuild L false

/-- A read through the mesh meets a word that gives no data: another core's store takes the path of 13 R373 and the
reader's part replays; lagoon and HBM take that of R374. -/
def State.readLost (s : State) (L w : Nat) : State :=
  match placeOf (w * 8) with
  | .coreStore d _ =>
    if d = L then s.coreWordLost L w
    else
      let s1 := s.coreWordFound d w 0 L
      if s1.partRunning L then s1.awaitRebuild L false else s1
  | _ => s.remoteWordLost L w

/-! ### A core's transfers -/

def Core.port (c : Core) (port : Bool) : List Xfer := if port then c.ferry1 else c.ferry0
def Core.setPort (c : Core) (port : Bool) (xs : List Xfer) : Core := if port then { c with ferry1 := xs } else { c with ferry0 := xs }

/-- A change of every transfer, both ports. -/
def Core.mapXfers (c : Core) (f : Xfer → Xfer) : Core := { c with ferry0 := c.ferry0.map f, ferry1 := c.ferry1.map f }

/-- The piece of a transfer that a packet carries, by its destination, class and SEQ. -/
def Xfer.pieceOf (x : Xfer) (p : MeshPkt) : Option Piece :=
  if x.f.svc == p.assuredClass then x.pieces.find? fun q => q.via == some (p.dest, p.seq) else none

/-- The transfer and the piece of it that a core's packet carries. -/
def State.carried (s : State) (p : MeshPkt) : Option (Xfer × Piece) :=
  match coreOfEndpoint p.src with
  | none => none
  | some L => ((s.core L).ferry0 ++ (s.core L).ferry1).findSome? fun x => (x.pieceOf p).map fun q => (x, q)

/-! ### Pieces and their packets (05 R136, 07 R185, R186) -/

/-- Chunks of a row: 4,032 bytes in bulk class, 480 in assured (R186). -/
def chunksOf (assured : Bool) (n : Nat) : List (Nat × Nat) :=
  let unit := if assured then 480 else 4032
  (List.range ((n + unit - 1) / unit)).map fun i => (i * unit, min unit (n - i * unit))

/-- Access to the lagoon of the core's own island crosses its slot's crossbar port and not the mesh (05 R136, 07 R180). -/
def Xfer.direct (x : Xfer) (a : Nat) : Bool :=
  match x.op, placeOf a with
  | .get, .lagoon i _ => i == x.f.core.val / 48
  | .put, .lagoon i _ => i == x.f.core.val / 48
  | _, _ => false

/-- The endpoint that a piece's packet goes to (04 R115, 07 R185): a reduction's engine, a relay's core, or the address's owner. -/
def State.pieceDest (s : State) (x : Xfer) (a : Nat) : W16 :=
  match x.op, placeOf a with
  | .relayPut, _ => coreEndpoint x.peer
  | .putReduce, .coreStore L _ => engineEndpoint (L / 12) 0
  | .putReduce, .lagoon i q => engineEndpoint (i * 4 + q) 1
  | _, _ => s.ownerOf a

/-- The packet of a chunk of row i. A READ_REQ's payload, for which the spec gives no layout, is the length asked for. REDUCE and RELAY
packets carry data alone: the operation, and the inbox slot with the offset in it, stand with the transfer (log 19). -/
def State.piecePacket (s : State) (x : Xfer) (i : Nat) (ch : Nat × Nat) (a : Nat) (dest : W16) : MeshPkt :=
  let L := x.f.core.val
  let pl := (s.standOf L).getD ⟨0xFFFF, 0, false⟩
  let part := BitVec.ofNat 16 pl.part
  let td := ((s.part pl.part).job.map Job.td).getD 0
  let data := SMap.toList (s.rowOut x i) ch.1 ch.2 0
  match x.op with
  | .get => meshPkt 0x01 x.f.svc a dest (coreEndpoint L) part 0 (leBytes 4 ch.2)
  | .put => meshPkt 0x03 x.f.svc a dest (coreEndpoint L) part 0 data
  | .putReduce => meshPkt 0x04 false a dest (coreEndpoint L) part td data
  | .relayPut => meshPkt 0x05 false 0 dest (coreEndpoint L) part td data

/-- A chunk leaves: as a packet, or as a piece that crosses the slot port by itself. -/
def State.sendPiece (s : State) (x : Xfer) (i : Nat) (ch : Nat × Nat) : State × Piece :=
  let a := if x.op = .relayPut then 0 else s.remoteRow x i + ch.1
  if x.direct a then (s, ⟨i, ch.1, ch.2, a, none⟩)
  else
    let d := s.pieceDest x a
    (s.sendPacket (s.piecePacket x i ch a d),
      ⟨i, ch.1, ch.2, a, some (d, s.nextSeq (coreEndpoint x.f.core.val) d x.f.svc)⟩)

/-- The chunks of a transfer in row order. -/
def Xfer.chunks (x : Xfer) : List (Nat × Nat × Nat) :=
  (List.range x.rows).flatMap fun i =>
    (chunksOf x.f.svc (if x.op = .relayPut then x.rowBytes else x.remoteBytes)).map fun ch => (i, ch)

/-- The source rows of a transfer are read (05 R142): the words that give no data are listed. -/
def State.readSource (s : State) (x : Xfer) : State × List Nat :=
  match x.op with
  | .get => (s, [])
  | _ => (List.range x.rows).foldl (fun acc i =>
      let r := acc.1.readRange (x.localAt i) x.rowBytes 0 x.f.core.val
      (r.1, acc.2 ++ r.2)) (s, [])

/-- Transfer k of a port moves its data, unless it is a RELAY_PUT that still wants a credit: its source is read, and its pieces leave. A
source word that gives no data takes the path of 13 R373. -/
def State.sendXfer (s : State) (L : Nat) (port : Bool) (k : Nat) : State :=
  match ((s.core L).port port)[k]? with
  | none => s
  | some x =>
    if x.op = .relayPut ∧ x.slot.isNone then s
    else
      let r := s.readSource x
      match r.2 with
      | w :: _ => r.1.coreWordLost L w
      | [] =>
        if s.discards x then r.1
        else
          let m := x.chunks.foldl (fun (acc : State × List Piece) c =>
            let q := acc.1.sendPiece x c.1 c.2
            (q.1, acc.2 ++ [q.2])) (r.1, [])
          m.1.modCore L fun c => c.setPort port ((c.port port).set k { x with pieces := m.2 })

/-! ### At the destination: what a packet meets (04 R116, 07 R200, R201) -/

/-- The address, length and direction of the access that a request packet makes. A RELAY's place is in its sender's slot. -/
def State.reach (s : State) (p : MeshPkt) : Option (Nat × Nat × Bool) :=
  match p.typ.toNat with
  | 0x01 => some (p.address, p.payloadNat 0 4, false)
  | 0x03 => some (p.address, p.payload.length, true)
  | 0x04 => if (s.carried p).isSome then some (p.address, p.payload.length, true) else none
  | 0x05 =>
    match s.carried p, coreOfEndpoint p.dest with
    | some (x, q), some d =>
      let b := (s.core d).inbox x.f.inbox.toNat
      some (csBase d + (b.base + x.slot.getD 0 * b.slotWords) * 8 + q.row * x.rowBytes + q.off, p.payload.length, true)
    | _, _ => none
  | _ => none

/-- A packet of a transfer that is no longer under way: an endpoint takes nothing from it (04 R116, R127). -/
def State.orphan (s : State) (p : MeshPkt) : Bool :=
  (s.reach p).isNone || ((coreOfEndpoint p.src).isSome && (s.carried p).isNone)

/-- What a RELAY meets: the inbox of its job's core is open, its slot stands for this sender and holds the rows (04 R116, 02 R66). -/
def State.relayStatus (s : State) (p : MeshPkt) : W16 :=
  match s.carried p, coreOfEndpoint p.dest with
  | some (x, q), some d =>
    let b := (s.core d).inbox x.f.inbox.toNat
    let mine := match b.slots.getD (x.slot.getD 0) .empty with
      | .written snd _ => snd == x.f.core.val
      | _ => false
    if s.partOf (d / 12) ≠ some p.job ∨ (s.cluster (d / 12)).map.getD (d % 12) 0xF = 0xF then stUnmapped
    else if s.resettingAt (csBase d) then stResetting
    else if b.isOpen = false ∨ !mine ∨ b.slotWords * 8 < q.row * x.rowBytes + q.off + p.payload.length then stUnmapped
    else stOk
  | _, _ => stUnmapped

/-- What a request packet meets: module traffic is not checked by partition (07 R185). -/
def State.requestStatus (s : State) (p : MeshPkt) : W16 :=
  if p.typ = 0x05 then s.relayStatus p
  else
    match s.reach p with
    | none => stUnmapped
    | some (a, n, write) => if p.part = 0xFFFF then s.moduleStatus a n else s.accessStatus p.job a n write

/-- A core store write that touches a pinned line waits for its pin (08 R222). -/
def State.pinnedAt (s : State) (a n : Nat) : Bool :=
  (ownedRanges a n).any fun r =>
    match placeOf r.1 with
    | .coreStore L w => (s.core L).pinned w ((r.1 % 8 + r.2 + 7) / 8)
    | _ => false

/-- A request waits at its memory (05 R152, R153, 06 R172, R173, 08 R222). A contribution only enters its hold. -/
def State.requestWaits (s : State) (p : MeshPkt) : Bool :=
  match s.reach p with
  | none => false
  | some (a, n, write) => p.typ != 0x04 && (s.accessWaits a n write || (write && s.pinnedAt a n))

/-- A packet that its endpoint has received and not yet served. -/
def State.pendingAt (s : State) (p : MeshPkt) : Bool :=
  s.mesh.held.any p.same || (s.mesh.ejection.any fun e => e.2.any p.same) ||
    s.mesh.waiting.any fun c => c.dest == p.dest && c.seq == p.seq && coreEndpoint c.core == p.src

/-! ### Effects of request packets -/

/-- The journal ring's place in the module-reserved region (06 R157). -/
def State.ringBase (s : State) : Nat := s.reservedBase + 18 * 2 ^ 30

/-- Bytes as a read finds them: the journal ring stands in its own range (06 R157, 10 R291). -/
def State.viewBytes (s : State) (a n : Nat) : List Byte :=
  (List.range n).map fun i =>
    let b := a + i
    if s.ringBase ≤ b ∧ b < s.ringBase + 2 ^ 27 then
      match SMap.get? s.journal.ring ((b - s.ringBase) / 128) with
      | some e => e.bytes.getD ((b - s.ringBase) % 128) 0
      | none => 0
    else s.readByte b

/-- READ_REQ: the data goes back; a word that gives no data takes its path (05 R143, 06 R162). -/
def State.serveRead (s : State) (p : MeshPkt) (a n : Nat) : State :=
  let reader := (coreOfEndpoint p.src).getD 0xFFFF
  let r := s.readRange a n 0 reader
  match r.2 with
  | [] => r.1.sendPacket (meshPkt 0x02 p.assuredClass a p.src p.dest p.part 0 (r.1.viewBytes a n))
  | w :: _ => if reader = 0xFFFF then r.1.wordEvent (w * 8) 4 0 0xFFFF none else r.1.readLost reader w

/-- WRITE: the data lands, under copy-on-write where a snapshot protects the page (13 R390). The parity of a stripe that its row covers
wholly goes with it (06 R164). -/
def State.serveWrite (s : State) (p : MeshPkt) (a n : Nat) : State :=
  let es := SMap.ofList p.payload 0 0
  let row := match s.carried p with
    | some (x, q) => (s.remoteRow x q.row, s.remoteRow x q.row + x.remoteBytes)
    | none => (a, a + n)
  if p.part = 0xFFFF then s.rowWrite a n es row else s.partWriteRow p.job a n es row

/-- REDUCE: its contributions enter their engines' holds, or wait for them (04 R115). -/
def State.serveReduce (s : State) (p : MeshPkt) (a : Nat) : State :=
  match s.carried p with
  | none => s
  | some (x, _) =>
    (s.bySite a p.payload).foldl (fun t e =>
      t.addContribution ⟨e.1, x.f.core.val, t.arch.seat, p.job, p.turn.toNat, x.f.redOp.toNat, e.2, p.dest, p.seq⟩) s

/-- The effect of a request, or its wait at its memory; what the endpoint answers, if it answers now. A REDUCE is acknowledged once every
contribution of it stands in a hold (04 R113). -/
def State.serve (s : State) (p : MeshPkt) : State × Option (Nat × W16) :=
  match s.reach p with
  | none => (s, none)
  | some (a, n, _) =>
    if s.requestWaits p then ({ s with mesh := { s.mesh with held := s.mesh.held ++ [p] } }, none)
    else
      match p.typ.toNat with
      | 0x01 => (s.serveRead p a n, some (0x06, stOk))
      | 0x03 => (s.serveWrite p a n, some (0x06, stOk))
      | 0x04 =>
        let t := s.serveReduce p a
        (t, if t.pendingAt p then none else some (0x06, stOk))
      | _ => (s.writeBytes a p.payload, some (0x06, stOk))

/-- Bytes in a cluster's ejection buffer (07 R201). -/
def ejectedBytes (ps : List MeshPkt) : Nat := ps.foldl (fun n q => n + 32 + q.payload.length) 0

/-- A packet for a region that does not run waits in its node stop's 64 KiB; further ones are answered busy (07 R201). -/
def State.eject (s : State) (p : MeshPkt) (a : Nat) : State × Option (Nat × W16) :=
  let c := (a - 0x050000000000) / 2 ^ 24 / 12
  let s1 := s.wakeFor a
  let ps := SMap.getD s1.mesh.ejection c []
  if ejectedBytes (ps ++ [p]) ≤ 65536 then
    let s2 := (s1.receive p).1
    ({ s2 with mesh := { s2.mesh with ejection := SMap.put s2.mesh.ejection c (ps ++ [p]) } }, none)
  else (s1, some (0x07, stOk))

/-- A request packet arrives. A duplicate is discarded, and acknowledged again where it was sent again; TARGET_RESETTING leaves it
unreceived, so that the next attempt can be accepted (07 R194, R195, R200, R202). -/
def State.accept (s0 : State) (p : MeshPkt) : State × Option (Nat × W16) :=
  let s := s0.arrived p
  if s.orphan p then (s, none)
  else if s.stale p then (s, if p.resent && s.hadBefore p && !s.pendingAt p then some (0x06, stOk) else none)
  else
    let st := s.requestStatus p
    if st = stResetting then (s, some (0x07, st))
    else if st ≠ stOk then ((s.receive p).1, some (0x07, st))
    else
      match s.reach p with
      | some (a, _, _) => if s.targetSleeps a then s.eject p a else (s.receive p).1.serve p
      | none => (s, none)

/-! ### READ_DATA (04 R110) -/

/-- The GET and its piece that data answers. -/
def State.awaiting (s : State) (p : MeshPkt) : Option (Nat × Xfer × Piece) :=
  match coreOfEndpoint p.dest with
  | none => none
  | some L => ((s.core L).ferry0 ++ (s.core L).ferry1).findSome? fun x =>
      if x.op == .get && x.f.svc == p.assuredClass then
        (x.pieces.find? fun q => q.addr == p.address && q.n == p.payload.length && (q.via.map Prod.fst) == some p.src).map fun q => (L, x, q)
      else none

/-- Where a piece lies in the core's own store, with its local bytes. -/
def Xfer.pieceLocal (x : Xfer) (q : Piece) : Nat × Nat := (x.localAt q.row + x.localCount q.off, x.localCount q.n)

/-- A piece of a GET lands in the core store (04 R113). -/
def State.landPiece (s : State) (x : Xfer) (q : Piece) (data : List Byte) : State :=
  s.writeBytes (x.pieceLocal q).1 (if x.f.conv = 2 then unpackSix ((x.pieceLocal q).2 / 4) data else data)

/-- A piece of a transfer has moved. -/
def Xfer.without (x : Xfer) (q : Piece) : Xfer := { x with pieces := x.pieces.filter fun r => r != q }

/-- Data that reaches its core: into the core store, or waiting there for a pin. -/
def State.serveData (s : State) (p : MeshPkt) : State × Option (Nat × W16) :=
  match s.awaiting p with
  | none => (s, some (0x06, stOk))
  | some (L, x, q) =>
    if s.pinnedAt (x.pieceLocal q).1 (x.pieceLocal q).2 then ({ s with mesh := { s.mesh with held := s.mesh.held ++ [p] } }, none)
    else
      ((s.landPiece x q p.payload).modCore L fun c => c.mapXfers fun y =>
        if y.op = .get ∧ y.f.svc = p.assuredClass then y.without q else y, some (0x06, stOk))

/-- READ_DATA arrives. -/
def State.acceptData (s0 : State) (p : MeshPkt) : State × Option (Nat × W16) :=
  let s := s0.arrived p
  if s.stale p then (s, if p.resent && s.hadBefore p && !s.pendingAt p then some (0x06, stOk) else none)
  else (s.receive p).1.serveData p

/-! ### Answers, and what waited -/

/-- The endpoint answers, where it answers now. -/
def reply (p : MeshPkt) (r : State × Option (Nat × W16)) : State :=
  match r.2 with
  | none => r.1
  | some (typ, st) => r.1.answer p typ st

/-- A packet that waited at its destination, already received, is served. -/
def State.redeliver (s : State) (p : MeshPkt) : State :=
  if p.typ = 0x02 then reply p (s.serveData p)
  else if s.orphan p then s
  else
    let st := s.requestStatus p
    if st ≠ stOk then s.answer p 0x07 st else reply p (s.serve p)

/-- Packets at memories whose wait is over are served in order. -/
def State.releaseHeld (s : State) : State :=
  s.mesh.held.foldl (fun t p => { t with mesh := { t.mesh with held := t.mesh.held.filter fun q => !q.same p } }.redeliver p) s

/-- The packets of a cluster's ejection buffer are delivered once its region runs (07 R201). -/
def State.releaseEjection (s : State) (c : Nat) : State :=
  (SMap.getD s.mesh.ejection c []).foldl State.redeliver
    { s with mesh := { s.mesh with ejection := SMap.erase s.mesh.ejection c } }

/-! ### At the sender (04 R113, R116, 07 R194, R195, R200, R201) -/

/-- An acknowledgement of a packet: it is done with, and the piece that it carried has moved. -/
def State.settleAck (s : State) (q : MeshPkt) : State :=
  let t := s.acknowledged q.src q.dest q.assuredClass q.seq.toNat
  match coreOfEndpoint q.src with
  | none => t
  | some L =>
    t.modCore L fun c => c.mapXfers fun x =>
      if x.op ≠ .get ∧ x.f.svc = q.assuredClass then { x with pieces := x.pieces.filter fun r => r.via != some (q.dest, q.seq) } else x

/-- A transfer meets an error: it takes the status and writes nothing further (04 R116). -/
def State.failXfer (s : State) (q : MeshPkt) (st : W16) : State :=
  let t := s.acknowledged q.src q.dest q.assuredClass q.seq.toNat
  match coreOfEndpoint q.src, s.carried q with
  | some L, some (x, _) =>
    let t1 := t.dropPackets fun r => (r.src == q.src && (x.pieceOf r).isSome) ||
      (r.typ == 0x02 && r.dest == q.src && x.pieces.any fun k => k.addr == r.address)
    (t1.modCore L fun c => c.mapXfers fun y => if (y.pieceOf q).isSome then { y with pieces := [], status := st } else y).sendQueued q.src
  | _, _ => t

/-- A status answers a packet: OK is busy, and the packet goes again after 1 us (R201); TARGET_RESETTING makes an assured sender try
again every 5 us (R200); any other, and TARGET_RESETTING in bulk class, ends the transfer with it. -/
def State.settleStatus (s : State) (q : MeshPkt) (st : W16) : State :=
  let key := (q.src, q.dest, q.seq)
  let busy := (q.src, q.dest, q.seq, q.assuredClass)
  if st = stOk then { s with mesh := { s.mesh with busy := s.mesh.busy.filter (· != busy) ++ [busy] } }
  else if st = stResetting ∧ q.assuredClass then { s with mesh := { s.mesh with retry := s.mesh.retry.filter (· != key) ++ [key] } }
  else s.failXfer q st

/-- An answer reaches the sender of a packet. -/
def State.settle (s : State) (q : MeshPkt) (typ : Nat) (st : W16) : State :=
  if typ = 0x06 then s.settleAck q else s.settleStatus q st

/-! ### A completion moves what is left (log 14) -/

/-- A packet and its answer go through at once. -/
def State.push (s : State) (q : MeshPkt) : State :=
  let q1 := { q with flags := q.flags ||| 8 }
  let r := if q.typ = 0x02 then s.acceptData q1 else s.accept q1
  match r.2 with
  | none => r.1
  | some (typ, st) => (r.1.answer q typ st).settle q typ st

/-- A change of the first transfer of a port. -/
def Core.modHead (c : Core) (port : Bool) (f : Xfer → Xfer) : Core :=
  match c.port port with
  | [] => c
  | x :: t => c.setPort port (f x :: t)

/-- A piece that crosses the core's own slot port moves, unless its lagoon or a pin makes it wait. -/
def State.moveDirect (s : State) (L : Nat) (port : Bool) (x : Xfer) (q : Piece) : State :=
  let p := ((s.standOf L).map Stand.part).getD 0xFFFF
  let get := x.op == .get
  let st := s.accessStatus p q.addr q.n (!get)
  if st = stResetting ∧ x.f.svc then s
  else if st ≠ stOk then
    s.modCore L fun c => c.modHead port fun y => { y with pieces := [], status := st }
  else if s.accessWaits q.addr q.n (!get) || (get && s.pinnedAt (x.pieceLocal q).1 (x.pieceLocal q).2) then s
  else if get then
    let r := s.readRange q.addr q.n 0 L
    match r.2 with
    | [] => (r.1.landPiece x q (r.1.readBytes q.addr q.n)).modCore L fun c => c.modHead port fun y => y.without q
    | w :: _ => r.1.readLost L w
  else
    let r := s.readRange (x.pieceLocal q).1 (x.pieceLocal q).2 0 L
    match r.2 with
    | [] =>
      (r.1.partWrite p q.addr q.n (SMap.ofList (SMap.toList (r.1.rowOut x q.row) q.off q.n 0) 0 0)).modCore L fun c =>
        c.modHead port fun y => y.without q
    | w :: _ => r.1.coreWordLost L w

/-- One piece of a port's first transfer moves, if it can. -/
def State.movePiece (s : State) (L : Nat) (port : Bool) (q : Piece) : State :=
  match ((s.core L).port port).head? with
  | none => s
  | some x =>
    if x.status ≠ stOk ∨ !x.pieces.contains q then s
    else
      match q.via with
      | none => s.moveDirect L port x q
      | some (d, n) =>
        let s1 := match s.sentPacket (coreEndpoint L) d x.f.svc n.toNat with
          | some k => s.push k
          | none => s
        if x.op = .get then
          match s1.mesh.sent.find? fun r => r.typ == 0x02 && r.src == d && r.dest == coreEndpoint L && r.address == q.addr with
          | some r => s1.push r
          | none => s1
        else s1

end Sys2Proof.Machine
end

