-- ==== Sys2Proof/Machine/Ferry.lean ====
section
/-! DEFINITION. Ferry instructions, the start of their transfers and their completion (04 R110 to R116, 02 R66, 08 R222). A transfer's
packets move its data as they arrive; its completion moves whatever is left (log 14). -/

namespace Sys2Proof.Machine

/-! ### Issue -/

/-- Rules of 04 R110 to R112, R222 and 08 R213 that refuse a ferry instruction. -/
def ferryIllegal (s : State) (op : FerryOp) (f : FerryF) (x : Xfer) (rn : Nat) : Bool :=
  let L := f.core.val
  let toCore := match placeOf x.remote with
    | .coreStore _ _ => true
    | _ => false
  let convertible := match placeOf x.remote with
    | .lagoon _ _ => true
    | .hbm _ => true
    | _ => false
  let red := match op with
    | .putReduce => decide (3 < f.redOp.toNat)
    | _ => f.redOp != 0
  let conv := match op with
    | .put => f.conv != 0 && !(f.conv == 1 && convertible)
    | .get => f.conv != 0 && !(f.conv == 2 && convertible)
    | _ => f.conv != 0
  let svc := match op with
    | .get | .put => f.svc && decide (4096 < x.rows * rn)
    | _ => f.svc
  let rsig := match op with
    | .get => f.rsigEn
    | .relayPut => false
    | _ => f.rsigEn && !toCore
  let own := match op with
    | .relayPut => x.remote / 12 == L / 12
    | .get => (List.range x.rows).any fun i => s.resident L (x.local0 + i * x.localStride) (rn / 8)
    | _ => false
  f.rsv0 != 0 || f.rsv1 != 0 || red || conv || svc || rsig || decide (rn < 8 ∨ 16777216 < rn) || own

/-- Alignment rules of 04 R111. -/
def ferryMisaligned (op : FerryOp) (f : FerryF) (x : Xfer) : Bool :=
  let unit := match op with
    | .putReduce => 64
    | _ => 8
  let remote := match op with
    | .relayPut => false
    | _ => decide (x.remote % unit ≠ 0) || (f.rowsM1 != 0 && decide (x.remoteStride % unit ≠ 0))
  decide (x.rowBytes % unit ≠ 0) || remote || (f.conv != 0 && decide (x.rowBytes % 32 ≠ 0))

def ferryPastEnd (x : Xfer) : Bool :=
  decide (2 ^ 21 < x.local0 + (x.rows - 1) * x.localStride + x.rowBytes / 8)

/-- Where a PUT's RSIG goes: the core that owns its remote address, or the RELAY_PUT's destination (04 R110). -/
def Xfer.rsigCore (x : Xfer) : Nat :=
  match x.op with
  | .relayPut => x.remote
  | _ =>
    match placeOf x.remote with
    | .coreStore L _ => L
    | _ => 0

/-- Effects outside reads of a doubles part enter in issue order, the signal of RSIG behind its rows (13 R379, R380). -/
def State.absorbFerry (s : State) (x : Xfer) : State :=
  match x.op with
  | .get => s
  | _ =>
    let L := x.f.core.val
    let kind := match x.op, placeOf x.remote with
      | .put, .coreStore _ _ => 2
      | .put, _ => 1
      | .putReduce, _ => 3 + 16 * x.f.redOp.toNat
      | _, _ => 4
    let s1 := (List.range x.rows).foldl (fun t i =>
      t.absorbEffect L (if kind = 4 then x.remote else x.remoteAt i) x.remoteBytes kind
        (SMap.toList (s.rowOut x i) 0 x.remoteBytes 0)) s
    if x.f.rsigEn then s1.absorbSignal L x.rsigCore x.f.rsigToken.val 1 else s1

/-- A ferry instruction at the sequencer: checked, its registers captured, into its port's queue (04 R101, R110). A GET
into a pinned line waits for its pin (08 R222). -/
def ferryIssue (op : FerryOp) (f : FerryF) (s : State) : State :=
  let L := f.core.val
  let c := s.core L
  let rn := (c.reg f.rn.val).toNat
  let rr := (c.reg f.rr.val).toNat
  let x : Xfer :=
    { op := op, f := f, local0 := (c.reg f.rl.val).toNat % 2 ^ 21
      remote := if op = .relayPut then rr % 1024 else rr % 2 ^ 48, rowBytes := rn
      strides := if f.rowsM1 = 0 then 0 else c.reg f.rs.val }
  s.issue L
    (match firstStatus (ferryIllegal s op f x rn) (ferryMisaligned op f x) (ferryPastEnd x) with
    | some st => .raise st
    | none =>
      let waits := match op with
        | .get => x.localWords.any fun w => c.pinned w.1 w.2
        | _ => false
      if 16 ≤ ((c.port f.port).filter fun y => !y.started).length || waits then .wait
      else .run ((s.absorbFerry x).modCore L fun c => (c.setPort f.port (c.port f.port ++ [x])).advance 2))

/-- FERRY.GET: remote to local (04 R110). -/
def execFerryGet (f : FerryF) (s : State) : Host.Outcome State Fault Refusal := .next (ferryIssue .get f s)

/-- FERRY.PUT: local to remote (04 R110). -/
def execFerryPut (f : FerryF) (s : State) : Host.Outcome State Fault Refusal := .next (ferryIssue .put f s)

/-- FERRY.PUT_REDUCE: local into a reduction at the destination's engine (04 R110, R115). -/
def execFerryPutReduce (f : FerryF) (s : State) : Host.Outcome State Fault Refusal := .next (ferryIssue .putReduce f s)

/-- FERRY.RELAY_PUT: local into the next slot of another core's inbox (04 R110, 02 R66). -/
def execFerryRelayPut (f : FerryF) (s : State) : Host.Outcome State Fault Refusal := .next (ferryIssue .relayPut f s)

/-! ### Start (04 R101, R113, 02 R66) -/

/-- The first empty slot in ring order from the reader's position (02 R66). -/
def Inbox.fillSlot (b : Inbox) : Option Nat :=
  ((List.range b.slots.length).map fun i => (b.nextTake + i) % b.slots.length).find? fun i => b.slots.getD i .empty == .empty

/-- A RELAY_PUT takes a credit and the slot it stands for, when there is one (02 R66). -/
def State.takeCredit (s : State) (x : Xfer) : State × Xfer :=
  let d := x.peer
  let i := x.f.inbox.toNat
  let key := d * 8 + i
  let n := SMap.getD s.mesh.credits key 0
  let b := (s.core d).inbox i
  match b.fillSlot with
  | some k =>
    if b.isOpen ∧ 0 < n ∧ x.total ≤ b.slotWords * 8 then
      let s1 := s.modCore d fun c => c.setInbox i { b with slots := b.slots.set k (.written x.f.core.val x.local0) }
      ({ s1 with mesh := { s1.mesh with credits := SMap.put s1.mesh.credits key (n - 1) } }, { x with slot := some k })
    else (s, x)
  | none => (s, x)

/-- A RELAY_PUT that has started and waits for a credit of an inbox (02 R66). -/
def Xfer.wants (x : Xfer) (peer inbox : Nat) : Bool :=
  x.started && x.op == .relayPut && x.slot.isNone && x.status == stOk && x.peer == peer && x.f.inbox.toNat == inbox

/-- The first queued transfer of a port starts and gives up its place (04 R101, R113). A RELAY_PUT takes no credit before an earlier one
of its core that waits for the same inbox. -/
def State.startFerry (s : State) (L : Nat) (port : Bool) : State :=
  let xs := (s.core L).port port
  match xs.findIdx? fun y => !y.started with
  | none => s
  | some k =>
    match xs[k]? with
    | none => s
    | some x0 =>
      let x : Xfer := { x0 with started := true, peer := if x0.op = .relayPut then s.peerOf L x0.remote else 0 }
      let earlier := ((s.core L).ferry0 ++ (s.core L).ferry1).any fun y => y.wants x.peer x.f.inbox.toNat
      let r := if x.op = .relayPut ∧ !earlier then s.takeCredit x else (s, x)
      (r.1.modCore L fun c => c.setPort port ((c.port port).set k r.2)).sendXfer L port k

/-- Transfer k of a port, where it waits for a credit, takes it if it has come and moves its data. -/
def State.tryCredit (s : State) (L : Nat) (port : Bool) (k : Nat) : State :=
  match ((s.core L).port port)[k]? with
  | none => s
  | some x =>
    if x.wants x.peer x.f.inbox.toNat then
      let r := s.takeCredit x
      if r.2.slot.isSome then (r.1.modCore L fun c => c.setPort port ((c.port port).set k r.2)).sendXfer L port k else s
    else s

/-- RELAY_CREDIT_ARRIVAL: the port's waiting RELAY_PUTs take the credits that have come, in order, and move their data (02 R66). -/
def relayCreditArrival (L : Nat) (port : Bool) (s : State) : State :=
  (List.range ((s.core L).port port).length).foldl (fun t k => t.tryCredit L port k) s

def execRelayCreditArrival (core : CoreId) (port : Bool) (s : State) : Host.Outcome State Fault Refusal :=
  .next (relayCreditArrival core.val port s)

/-! ### Completion (04 R113 to R116) -/

/-- The transfer leaves its port: SIG_TOKEN is signalled by one and takes its error, RSIG and the pins of its source rows stand for the
commit (04 R113, R114, R116, 08 R222). A transfer that meets an error leaves no RSIG: whether it still signals is open (log 101). -/
def State.finishXfer (s : State) (L : Nat) (port : Bool) (x : Xfer) (st : W16) : State :=
  let s1 := s.modCore L fun c =>
    let c1 := c.setPort port (c.port port).tail
    let c2 := if x.f.sigEn then
        c1.setToken x.f.sigToken.val
          (let k := (c1.token x.f.sigToken.val).signal 1
           if st = stOk then k else k.fail st)
      else c1
    let c3 := if x.f.rsigEn && st == stOk then { c2 with signals := c2.signals ++ [(x.rsigCore, x.f.rsigToken.val, 1)] } else c2
    if x.op = .relayPut ∧ st = stOk then
      { c3 with pins := c3.pins ++ (x.localWords.map fun w => ⟨w.1, w.2, x.peer, x.f.inbox.toNat, x.slot.getD 0⟩) }
    else c3
  s1.settleTurnEnd L

/-- What a RELAY_PUT that waits for a credit meets (04 R116). -/
def State.relayRefusal (s : State) (L : Nat) (x : Xfer) : W16 :=
  let b := (s.core x.peer).inbox x.f.inbox.toNat
  let p := ((s.standOf L).map Stand.part).getD 0xFFFF
  if s.partOf (x.peer / 12) ≠ some p then stUnmapped
  else if s.resettingAt (csBase x.peer) then stResetting
  else if b.isOpen = false ∨ b.slotWords * 8 < x.total then stUnmapped
  else stOk

/-- FERRY_TRANSFER_COMPLETE: the pieces of the port's first transfer that have not moved move now, where they can; with none left, or
with an error met, it is reported (04 R113, R116). A RELAY_PUT without a credit, an assured transfer into a resetting partition, and one
whose destination sleeps, waits or has no room in a hold is not complete. -/
def ferryComplete (L : Nat) (port : Bool) (s : State) : State :=
  match (s.core L).port port with
  | [] => s
  | x :: _ =>
    if !x.started then s
    else if x.op = .relayPut ∧ x.slot.isNone ∧ x.status = stOk then
      if s.relayRefusal L x ≠ stOk then s.finishXfer L port x (s.relayRefusal L x) else s
    else
      let t := x.pieces.foldl (fun u q => u.movePiece L port q) s
      match (t.core L).port port with
      | [] => t
      | y :: _ =>
        if y.started && (y.status != stOk || y.pieces.isEmpty) then (t.settleDeltas).finishXfer L port y y.status
        else t

def execFerryTransferComplete (core : CoreId) (port : Bool) (s : State) : Host.Outcome State Fault Refusal :=
  .next (ferryComplete core.val port s)

/-- REDUCE_HOLD_ADMIT: the contributions that wait at an engine enter its hold in order while they fit, and a packet none of whose
contributions waits any longer is acknowledged (04 R113, R115). -/
def reduceHoldAdmit (site : Nat) (s : State) : State :=
  let mine := s.mesh.waiting.filter fun c => c.site == site
  let s1 := { s with mesh := { s.mesh with waiting := s.mesh.waiting.filter fun c => c.site != site } }
  let s2 := mine.foldl State.addContribution s1
  mine.foldl (fun t c =>
    let p := { meshPkt 0x04 false 0 c.dest (coreEndpoint c.core) (BitVec.ofNat 16 c.part) c.turn [] with seq := c.seq }
    if t.pendingAt p then t else t.answer p 0x06 stOk) s2

def execReduceHoldAdmit (site : W16) (s : State) : Host.Outcome State Fault Refusal := .next (reduceHoldAdmit site.toNat s)

end Sys2Proof.Machine
end

