-- ==== Sys2Proof/Machine/GroupOps.lean ====
section
/-! DEFINITION. Job groups (09 R253 to R258): what a member reports, what the master admits and commits, and the strait queue's
descriptors. -/

namespace Sys2Proof.Machine

/-! ### Groups -/

def State.group (s : State) (g : W32) : Group := SMap.getD s.arch.groups g.toNat {}
def State.setGroup (s : State) (g : W32) (x : Group) : State :=
  { s with arch := { s.arch with groups := SMap.put s.arch.groups g.toNat x } }

/-- The partition whose present job belongs to a group. -/
def State.groupPart (s : State) (g : W32) : Option Nat :=
  (s.sched.parts.find? fun e =>
    match e.2.job with
    | some j => j.req.body.group && j.req.body.groupId == g && j.state != .completed && j.state != .discarded
    | none => false).map Prod.fst

/-- The master admits a group once every seat of its map has reported it with the same TURNS (R253). -/
def State.tryAdmit (s : State) (g : W32) : State :=
  let x := s.group g
  let turns := x.reports.map Prod.snd
  let all := (seatsOf x.map).all fun k => (SMap.get? x.reports k).isSome
  let same := match turns with
    | [] => false
    | t :: r => r.all fun u => u == t
  if x.admitted || !all || !same then s
  else
    let s1 := s.setGroup g { x with admitted := true }
    ((seatsOf x.map).filter fun k => k != s.arch.seat).foldl (fun t k => t.sendMember k (.groupAdmit g)) s1

/-- A member's report of a group reaches the master (R253). -/
def State.noteReport (s : State) (seat : Nat) (g : W32) (map turns : W64) : State :=
  let x := s.group g
  (s.setGroup g { x with map := map, reports := SMap.put x.reports seat turns }).tryAdmit g

/-- A member's scheduler core reports its group's job to the master, or notes it when this module is the master. -/
def State.reportGroup (s : State) (p : Nat) : State :=
  match (s.part p).job with
  | none => s
  | some j =>
    if !j.req.body.group then s
    else
      let g := j.req.body.groupId
      let turns := BitVec.ofNat 64 j.turns
      let s1 := s.setGroup g { s.group g with map := j.req.body.groupMap }
      if s.arch.role = 3 then s1.noteReport s.arch.seat g j.req.body.groupMap turns
      else if s.arch.state = 2 then
        s1.sendMember s.arch.master (.groupReport (Fin.ofNat 64 s.arch.seat) g j.req.body.groupMap turns)
      else s1

/-! ### Strait queue and group commits (R255, R257) -/

/-- Addresses of the strait queue's slots whose TURN equals T_d, with their slot numbers: every such slot, one of zeros at T_d 0 among them
(R257; log 113). -/
def State.queueSlots (s : State) (p td : Nat) : List (Nat × Nat) :=
  match (s.part p).job with
  | none => []
  | some j =>
    if !j.req.body.group then []
    else
      let base := (s.part p).base + j.req.body.straitQueue.toNat
      ((List.range 256).map fun k => (k, base + 64 * k)).filter fun x => s.readNat x.2 8 == td

/-- The collective digest of a turn (R255): slot number and content of every descriptor, in slot order. -/
def State.groupDigest (s : State) (p td : Nat) : BitVec 128 :=
  match s.queueSlots p td with
  | [] => 0
  | l => BitVec.ofNat 128
      ((shake256 (l.flatMap fun x => leBytes 1 x.1 ++ s.readBytes x.2 64) 16).foldr (fun b acc => b.toNat + 256 * acc) 0)

/-- The master holds a durable notice of every seat of the map for a turn. -/
def groupComplete (x : Group) (turn : Nat) : Bool :=
  !(seatsOf x.map).isEmpty && (seatsOf x.map).all fun k => ((SMap.get? x.durable k).map fun d => d.1 == turn).getD false

/-- The master decides a turn once every member reports it: the decision goes to the deputy first, then to every member
(R255), marked where the digests differ (R258). A snapshot that every member asked for takes this commit (13 R398). -/
def State.decideTurn (s : State) (g : W32) (turn : Nat) : State :=
  let x := s.group g
  if !groupComplete x turn then s
  else
    let digests := x.durable.map fun e => e.2.2
    let mismatch := match digests with
      | [] => false
      | d :: r => r.any fun e => e != d
    let snap := !(seatsOf x.map).isEmpty && (seatsOf x.map).all fun k => x.snapAsked.contains k
    let s1 := s.setGroup g { x with
      decided := some (turn, mismatch), durable := [], held := [], snapAsked := if snap then [] else x.snapAsked }
    let note := CommitNote.commit g (BitVec.ofNat 64 turn) mismatch
    let members := (seatsOf x.map).filter fun k => k != s.arch.seat
    let s2 := if s.arch.deputy ≠ s.arch.seat then s1.sendCommit s.arch.deputy g (.decision g (BitVec.ofNat 64 turn) mismatch x.map) else s1
    let s3 := if snap then members.foldl (fun t k => t.sendCommit k g (.snapshotPoint g (BitVec.ofNat 64 (turn + 1)))) s2 else s2
    let s4 := members.foldl (fun t k => t.sendCommit k g note) s3
    match s4.groupPart g with
    | none => s4
    | some p =>
      let s5 := s4.modJob p fun j => { j with go := some mismatch, waiting := false }
      if snap then s5.modPart p fun y => { y with snap := y.snap.map fun k => { k with groupTurn := some (turn + 1) } } else s5

/-- A durable notice reaches the master (R255). One for a turn already decided, sent again after a takeover, is answered with the commit. -/
def State.noteDurable (s : State) (seat : Nat) (g : W32) (map : W64) (turn : Nat) (d : BitVec 128) : State :=
  let x := { s.group g with map := map }
  match x.decided with
  | some (t, mm) =>
    if t = turn ∧ seat ≠ s.arch.seat then s.sendCommit seat g (.commit g (BitVec.ofNat 64 turn) mm)
    else (s.setGroup g { x with durable := SMap.put x.durable seat (turn, d) }).decideTurn g turn
  | none => (s.setGroup g { x with durable := SMap.put x.durable seat (turn, d) }).decideTurn g turn

/-- A member whose ranks are all durable reports its turn (R255 step 1); it then shows WAITING while another member holds
(R256). -/
def State.reportDurable (s : State) (p : Nat) : State :=
  match (s.part p).job with
  | none => s
  | some j =>
    if !j.req.body.group || j.reported then s
    else
      let g := j.req.body.groupId
      let d := s.groupDigest p j.td
      let s1 := s.modJob p fun j => { j with reported := true, waiting := j.waiting || !(s.group g).held.isEmpty }
      if s.arch.role = 3 then s1.noteDurable s.arch.seat g j.req.body.groupMap j.td d
      else s1.sendCommit s.arch.master g (.durable (Fin.ofNat 64 s.arch.seat) g j.req.body.groupMap (BitVec.ofNat 64 j.td) d)

/-- What a member has to tell a new master (R253, R255): the groups whose jobs load, and the turns whose commit it waits for. -/
def State.reportAgain (s : State) : State :=
  (s.sched.parts.map Prod.fst).foldl (fun t p =>
    match (t.part p).job with
    | none => t
    | some j =>
      if !j.req.body.group then t
      else if j.state = .loading then t.reportGroup p
      else if j.reported && j.go.isNone then (t.modJob p fun j => { j with reported := false }).reportDurable p
      else t) s

end Sys2Proof.Machine
end

