-- ==== Sys2Proof/Machine/Collectives.lean ====
section
/-! DEFINITION. Collectives and reduction engines (09 R257 to R259): descriptors, the blocks that members send one another, and the order in
which partial blocks are combined. -/

namespace Sys2Proof.Machine

/-! ### Descriptors (R257, R258) -/

/-- A descriptor's fields that R257 refuses, or none. -/
def State.descriptorIllegal (s : State) (a n : Nat) : Bool :=
  let op := s.readNat (a + 8) 1
  let red := s.readNat (a + 9) 1
  let len := s.readNat (a + 0x20) 8
  decide (op = 0 ∨ 5 < op) || (if op ≤ 2 then decide (2 < red) else decide (red ≠ 0)) || decide (s.readNat (a + 0xA) 1 = 0) ||
    decide (s.readNat (a + 0xC) 4 ≠ 0) || (s.readBytes (a + 0x28) 24).any (fun b => b != 0) ||
    decide (s.readNat (a + 0x10) 8 % 4096 ≠ 0 ∨ s.readNat (a + 0x18) 8 % 4096 ≠ 0 ∨ len % 4096 ≠ 0 ∨ len < 4096 ∨ 2 ^ 38 < len) ||
    (op == 2 && decide (0 < n) && decide (len % (n * 4096) ≠ 0)) || (decide (4 ≤ op) && decide (63 < s.readNat (a + 0xB) 1))

/-- The descriptor at an address (R257). -/
def State.descriptorAt (s : State) (a : Nat) : Descriptor :=
  { op := s.readNat (a + 8) 1, red := s.readNat (a + 9) 1, lag := s.readNat (a + 0xA) 1, root := s.readNat (a + 0xB) 1
    src := s.readNat (a + 0x10) 8, dst := s.readNat (a + 0x18) 8, len := s.readNat (a + 0x20) 8 }

/-- Bytes of the destination range: one block for each seat up to the highest for ALL_GATHER, a seat's share for
REDUCE_SCATTER (R257; log 22). -/
def Descriptor.dstLen (d : Descriptor) (map : W64) (size : Nat) : Nat :=
  if d.op = 3 then ((seatsOf map).foldl max 0 + 1) * d.len else if d.op = 2 then d.len / max 1 size else d.len

/-- A descriptor's ranges lie in program space (R258). -/
def State.descriptorInside (s : State) (p : Nat) (map : W64) (d : Descriptor) : Bool :=
  let x := s.part p
  let sp := x.programSpace
  decide (sp.1 ≤ x.base + d.src) && decide (x.base + d.src + d.len ≤ sp.2) && decide (sp.1 ≤ x.base + d.dst) &&
    decide (x.base + d.dst + d.dstLen map s.arch.size ≤ sp.2)

/-- Where this module's block lands in another member's destination range, for the operations that move it unchanged
(R257): its place by seat in ALL_GATHER, the start in BROADCAST from the root and in SEND to the destination seat. -/
def Descriptor.target (d : Descriptor) (seat other : Nat) : Option Nat :=
  match d.op with
  | 3 => some (d.dst + seat * d.len)
  | 4 => if d.root = seat then some d.dst else none
  | 5 => if d.root = other ∧ seat ≠ other then some d.dst else none
  | _ => none

/-! ### The order of a reduction (R259; log 22) -/

/-- A share of a reduction's data: the seat at which its last combine stands, the direction in which it goes round, its offset in the source
range and its bytes. -/
structure Chunk where
  owner : Nat
  up : Bool
  off : Nat
  len : Nat
  deriving DecidableEq, Repr

/-- The shares of a reduction among a map's seats: for ALL_REDUCE each half, one for each direction, is shared out in words; for
REDUCE_SCATTER a seat's block is its share, in two halves. -/
def Descriptor.chunks (d : Descriptor) (map : W64) (size : Nat) : List Chunk :=
  let seats := seatsOf map
  let n := seats.length
  let words := d.len / 16
  if d.op = 1 then
    [true, false].flatMap fun up => (seats.zip (List.range n)).map fun e =>
      let lo := words * e.2 / n
      ⟨e.1, up, (if up then 0 else words * 8) + 8 * lo, 8 * (words * (e.2 + 1) / n - lo)⟩
  else if d.op = 2 then
    let block := d.len / max 1 size
    seats.flatMap fun k => [⟨k, true, k * block, block / 2⟩, ⟨k, false, k * block + block / 2, block / 2⟩]
  else []

/-- Where a share's result stands in the destination range. -/
def Descriptor.placeOf (d : Descriptor) (size : Nat) (c : Chunk) : Nat :=
  if d.op = 2 then d.dst + (c.off - c.owner * (d.len / max 1 size)) else d.dst + c.off

/-- The positions of a ring of n that end at one, upward or downward. -/
def cycleTo (n o : Nat) (up : Bool) : List Nat := (List.range n).map fun i => if up then (o + 1 + i) % n else (o + n - 1 - i) % n

/-- The chains of a reduction, one for each row of a torus in the order of their rows, each ending at the column nearest the owner's; a ring is
one row (R259: along x and then along y). -/
def Arch.chains (a : Arch) (map : W64) (c : Chunk) : List (List Nat) :=
  let w := if a.topology = 2 then a.torusA else a.size
  let h := if a.topology = 2 then a.torusB else 1
  ((cycleTo h (c.owner / w) c.up).map fun y =>
    ((cycleTo w (c.owner % w) c.up).map (· + y * w)).filter fun k => map.getLsbD k).filter fun l => !l.isEmpty

/-- What stands before a seat in a list. -/
def before (l : List Nat) (k : Nat) : Option Nat := match l.idxOf? k with
  | some (i + 1) => l[i]?
  | _ => none

/-- What stands after a seat in a list. -/
def after (l : List Nat) (k : Nat) : Option Nat := (l.idxOf? k).bind fun i => l[i + 1]?

/-- The seats whose partial blocks a seat combines with its own, in order: in a full mesh the owner those of all others, in a ring or a torus
the one before it in its row, and at a row's end the row before. -/
def Arch.feeders (a : Arch) (map : W64) (c : Chunk) (seat : Nat) : List Nat :=
  if a.topology = 3 then (if seat = c.owner then (seatsOf map).filter (· != seat) else [])
  else
    let cs := a.chains map c
    let heads := cs.filterMap List.getLast?
    ((cs.filterMap fun l => before l seat) ++ (before heads seat).toList)

/-- The seat that takes a seat's result, none at the owner. -/
def Arch.onward (a : Arch) (map : W64) (c : Chunk) (seat : Nat) : Option Nat :=
  if a.topology = 3 then (if seat = c.owner then none else some c.owner)
  else
    let cs := a.chains map c
    ((cs.filterMap fun l => after l seat).head?).or (after (cs.filterMap List.getLast?) seat)

/-- The seats that an ALL_REDUCE's result goes on to: round from the owner, or from the owner to all in a full mesh. -/
def Arch.gathers (a : Arch) (map : W64) (c : Chunk) (seat : Nat) : List Nat :=
  if a.topology = 3 then (if seat = c.owner then (seatsOf map).filter (· != seat) else [])
  else
    let l := (cycleTo 64 c.owner c.up).filter fun k => map.getLsbD k
    (if seat = c.owner then l.head?.toList else (after l seat).toList).filter fun k => k != c.owner

/-! ### Blocks on their way -/

/-- A range of this module's HBM goes to a seat in bulk packets of up to 3,808 bytes (R243), each from the stack that holds it. -/
def State.sendRange (s : State) (typ dest : Nat) (g : W32) (turn src place n : Nat) : State :=
  (List.range ((n + 3807) / 3808)).foldl (fun t i =>
    let a := src + i * 3808
    t.sendStrait (nodeAt (t.ownerOf a)) typ false dest g turn (place + i * 3808) 0 (t.readBytes a (min 3808 (n - i * 3808)))) s

/-- A collective starts here: this module's block goes to the members that take it unchanged; of a reduction, the shares whose chain begins
here go to their next seat, addressed by their place in the source range (log 22). -/
def State.startCollective (s : State) (base : Nat) (g : W32) (map : W64) (td : Nat) (d : Descriptor) : State :=
  if 3 ≤ d.op then
    ((seatsOf map).filter fun k => k != s.arch.seat).foldl (fun t k =>
      match d.target s.arch.seat k with
      | none => t
      | some place => t.sendRange 0x01 k g td (base + d.src) place d.len) s
  else
    (d.chunks map s.arch.size).foldl (fun t c =>
      if !map.getLsbD t.arch.seat || !(t.arch.feeders map c t.arch.seat).isEmpty then t
      else
        match t.arch.onward map c t.arch.seat with
        | some k => t.sendRange 0x03 k g td (base + d.src + c.off) (d.src + c.off) c.len
        | none => t.copy (base + d.src + c.off) (base + d.placeOf t.arch.size c) c.len) s

/-- The descriptors of a committed turn start, unless one is refused or the digests differed: then the group's job is to
hold with that status (R258). -/
def State.startCollectives (s : State) (p td : Nat) (mismatch : Bool) : State × W16 :=
  match (s.part p).job with
  | none => (s, stOk)
  | some j =>
    if mismatch then (s, stIllegal)
    else
      let g := j.req.body.groupId
      let map := j.req.body.groupMap
      let slots := s.queueSlots p td
      let refuse := fun (st : W16) =>
        (((seatsOf map).filter fun k => k != s.arch.seat).foldl (fun t k => t.sendMember k (.refused g (BitVec.ofNat 64 td) st)) s, st)
      if slots.any fun x => s.descriptorIllegal x.2 s.arch.size then refuse stIllegal
      else if slots.any fun x => !s.descriptorInside p map (s.descriptorAt x.2) then refuse stUnmapped
      else
        let s1 := { s with arch := { s.arch with collectives := s.arch.collectives ++
            (slots.map fun x => ⟨g, td, x.1, s.descriptorAt x.2, [], []⟩) } }
        (slots.foldl (fun t x => t.startCollective (s.part p).base g map td (s.descriptorAt x.2)) s1, stOk)

/-- A collective that must complete before this job's next turn still runs (R258). -/
def State.collectiveDue (s : State) (j : Job) : Bool :=
  j.req.body.group && s.arch.collectives.any fun c => c.group == j.req.body.groupId && decide (c.turn + c.desc.lag ≤ j.td)

end Sys2Proof.Machine
end

