-- ==== Sys2Proof/Machine/JobOps.lean ====
section
/-! DEFINITION. Jobs and turns (08): loading a job, starting its turns, what a commit does, completion, holds and
resumption, and the state that a snapshot takes (13 R388). -/

namespace Sys2Proof.Machine

/-- Stream keys of a job (03 R85): the first 16 bytes of SHAKE256(seed || n). -/
def streamKeys (seed : List Byte) : List (List Byte) :=
  (List.range 16).map fun n => shake256 (seed ++ [BitVec.ofNat 8 n]) 16

/-- Clusters that a job needs (08 R216, 13 R378). -/
def clustersNeeded (ranks : Nat) (doubles : Bool) : Nat := (ranks + 11) / 12 * (if doubles then 2 else 1)

/-- Ranks on positions (08 R216), copy B on the clusters that follow (13 R378). -/
def placeRanks (order : List Nat) (ranks first : Nat) : List Nat :=
  (List.range ranks).map fun r => order.getD (first + r / 12) 0 * 12 + r % 12

/-- Every cluster of a job can run parts: none is gated or dark for any other cause, none under a roll test. -/
def State.hostsRun (s : State) (j : Job) : Bool :=
  j.cores.all fun L => (s.cluster (L / 12)).usable && !s.testing (L / 12)

/-- Sleeping regions of a job are woken. -/
def State.wakeHosts (s : State) (j : Job) : State :=
  j.cores.foldl (fun t L => if (t.cluster (L / 12)).wakeable then t.queueWake (L / 12) else t) s

/-- A snapshot in its pause copy: no turn starts (13 R389). -/
def Part.snapCopying (x : Part) : Bool :=
  match x.snap with
  | some k => k.phase == .copying
  | none => false

/-- A snapshot ends (13 R394): SNAPSHOT_DONE, and its protections and room are released. -/
def State.endSnapshot (s : State) (p : Nat) (code : W16) (turn : Nat) : State :=
  match (s.part p).snap with
  | none => s
  | some k =>
    let s1 := s.modPart p fun x => { x with snap := none }
    s1.journalWrite 0x32 code turn
      { sid := k.sid, job := k.jobId, cmd := k.cmdSeq, part := BitVec.ofNat 16 p, tenant := (s.part p).tenant }
      (leBytes 8 k.acceptedSeq ++ leBytes 8 k.id.toNat ++ leBytes 8 k.sent ++ leBytes 4 k.pauseUs.toNat ++ leBytes 4 k.copyUs.toNat)

/-- A snapshot that waits for a commit of a job that is gone ends with ADDRESS_UNMAPPED and leaves nothing (log 25). -/
def State.dropRequested (s : State) (p : Nat) : State :=
  match (s.part p).snap with
  | some k => if k.phase = .requested then s.endSnapshot p stUnmapped 0 else s
  | none => s

/-- Roll tests start (13 R384): the first waiting cluster of each island whose region runs and whose job stands at a turn
boundary; a dozing region is woken. The security core supplies the seed. -/
def State.hostedJob (s : State) (c : Nat) : Option Job :=
  match s.partOf c with
  | none => none
  | some p =>
    match (s.part p).job with
    | some j => if j.hosts c && (j.state == .running || j.state == .holding || j.state == .loading) then some j else none
    | none => none

def State.testCanStart (s : State) (c : Nat) : Bool :=
  let busy := match s.hostedJob c with
    | some j => (j.cores.any fun L => L / 12 == c && ((s.core L).inTurn || (s.core L).attempt.ended || (s.core L).attempt.durable)) ||
        j.state == .loading
    | none => false
  let copying := match s.partOf c with
    | some p => (s.part p).snapCopying
    | none => false
  (s.cluster c).region == .running && !(s.cluster c).resetting && !busy && !copying && !(s.host.rollTests.any fun r => r.running && r.cluster / 4 == c / 4)

def State.startTests (s : State) : State :=
  (s.host.rollTests.filter fun r => !r.running).foldl (fun t r =>
    let c := r.cluster
    if (t.cluster c).wakeable then t.queueWake c
    else if t.testCanStart c then
      let seed := Config.free256 t.freeCtr
      let t1 := { t with
        freeCtr := t.freeCtr + 1
        host := { t.host with rollTests := t.host.rollTests.map (fun (x : RollTest) =>
          if x.cluster = c then { x with running := true, seed := seed } else x) } }
      t1.clusterUnusable c true
    else t) s

/-- The boundary after a commit (02 R65, 08 R224 step 4): the next part's entry and a fresh record of attempts. The signals that the
commit released come with their TOKEN packets. -/
def State.boundary (s : State) (p : Nat) : State :=
  match (s.part p).job with
  | none => s
  | some j =>
    j.cores.foldl (fun t L => t.modCore L fun c =>
      { c with
        entry := if c.attempt.ended then c.nextEntry else c.entry
        startTokens := [], seq := .heldBoundary
        attempt := { rebuild := c.attempt.rebuild, cleared := c.attempt.cleared, again := c.attempt.again } }) s

/-- Before a turn, ranks whose cluster the job cannot use move, wait or hold (08 R217, R218, R235). -/
def State.moveDue (s : State) (p : Nat) : State :=
  match (s.part p).job with
  | none => s
  | some j =>
    ((List.range 48).filter fun c => j.hosts c && (!s.inService c || !(s.cluster c).usable)).foldl (fun t c =>
      t.clusterUnusable c (s.inService c)) s

/-- After a change of placement every rank's job block is written before the next turn (08 R214). -/
def State.rewriteBlocks (s : State) (p : Nat) : State :=
  match (s.part p).job with
  | none => s
  | some j =>
    if j.moved then
      let ranked := (List.range j.placement.length).zip j.placement ++ (List.range j.placementB.length).zip j.placementB
      (ranked.foldl (fun t e => t.writeJobBlock p e.1 e.2) s).modJob p fun j => { j with moved := false }
    else s

/-- The turn's entry on every core that stands at the boundary and has not run its part. -/
def State.enterParts (s : State) (j : Job) : State :=
  j.cores.foldl (fun t L => t.modCore L fun c =>
    if c.attempt.rebuild || c.attempt.ended || c.attempt.durable || c.seq != .heldBoundary then c else c.enterTurn) s

/-- A turn begins, or goes on, on every core of the job that stands at the boundary (08 R224 step 4, 02 R65). None starts while the
scheduler core restarts (R231), while a snapshot copies, or before every core stands rebuilt (R224); a collective that is due, or a region
that does not run, makes the job wait (09 R258, R217). -/
def State.startTurns (s : State) (p : Nat) : State :=
  match (s.part p).job with
  | none => s
  | some j0 =>
    if !j0.runs || (s.part p).snapCopying || s.sched.restarting then s
    else
      let s0 := if s.turnBegun j0 then s else s.moveDue p
      match (s0.part p).job with
      | none => s0
      | some j =>
        if !j.runs then s0
        else if s0.collectiveDue j || !s0.hostsRun j then s0.modJob p fun j => { j with waiting := true }
        else
          let s1 := s0.wakeHosts j
          if s1.turnBegun j then s1.enterParts j
          else if j.cores.any fun L => (s1.core L).attempt.rebuild then s1
          else (s1.rewriteBlocks p).enterParts j

/-- A waiting job goes on once every hosting region runs and no collective is due (08 R217, 09 R258). -/
def State.endWait (s : State) (p : Nat) : State :=
  match (s.part p).job with
  | none => s
  | some j =>
    if j.waiting && s.hostsRun j && !s.collectiveDue j then
      (s.modJob p fun j => { j with waiting := false }).startTurns p
    else s

/-- The parts of the failed or interrupted turn start again from the committed state (13 R397, 08 R227). -/
def State.restartTurn (s : State) (p : Nat) : State :=
  match (s.part p).job with
  | none => s
  | some j => j.cores.foldl (fun t L => (t.awaitRebuild L true)) s

/-- A job leaves Holding when no cause is left (08 R228): the next turn starts. -/
def State.leaveHold (s : State) (p : Nat) : State :=
  match (s.part p).job with
  | none => s
  | some j =>
    if j.state = .holding ∧ j.topReason = 0 then
      let s1 := s.modJob p fun j => { j with state := .running, reason := 0 }
      let s2 := s1.journalWrite 0x23 0 j.td (s1.concernOf (some p)) []
      s2.startTurns p
    else s

/-- The queued job at the front starts loading (08 R210): its START_JOB is checked again against the loaded image. A job that holds
before its first turn loads nothing and has no placement. -/
def State.loadNext (s : State) (p : Nat) : State :=
  let x := s.part p
  match x.queue with
  | [] => s
  | q :: t =>
    let im := x.image
    let ranks := (im.map Image.ranks).getD 0
    let order := s.clusterOrder p ((im.map Image.relay).getD false)
    let half := clustersNeeded ranks false
    let turns := if q.body.turns = 0 then (im.map Image.turns).getD 0 else q.body.turns.toNat
    let few := decide (order.length < clustersNeeded ranks q.body.doubles)
    let long := decide ((im.map Image.turns).getD 0 < turns)
    let j : Job :=
      { req := q, keys := streamKeys q.body.seed, turns := turns, td := 0, ts := 0, firstTurn := 0, state := .loading
        placement := if few || long then [] else placeRanks order ranks 0
        placementB := if q.body.doubles && !(few || long) then placeRanks order ranks half else []
        holdCapacity := few, holdStatus := long
        leaseDue := ((s.session? q.sid).map Session.held).getD false }
    let s1 := s.setPart p { x with
      queue := t, job := some j, lastStatus := if long then stIllegal else 0, turnData := 0, turnStream := 0, replayedParts := 0
      rankMoves := 0, image := im.map fun i => { i with backed := i.backed.map fun b => { b with filled := false } } }
    if few || long then s1.enterHold p
    else
      j.cores.foldl (fun u L => u.modCore L fun c =>
        { c.clear with events := 0, attempt := {}, inboxes := [], ledgers := [], regs := [], startTokens := [], live := 0, pins := []
                       seq := .heldBoundary }) ((s1.reportGroup p).wakeHosts j)

/-- The present job is gone and the next one, if any, starts loading (08 R210). -/
def State.nextJob (s : State) (p : Nat) : State := (s.dropRequested p).loadNext p

/-- Everything a rank starts from is in place (08 R227 Loading): resident ranges, job blocks, carried ranges zero. The words of a master
that give no data are listed. -/
def State.loadRank (s : State) (p : Nat) (im : Image) (rank L : Nat) : State × List Nat :=
  let r := s.loadResident p rank L
  let s2 := (im.carried rank).foldl (fun t d => t.zero (csBase L + d.1 * 8) (d.2 * 8)) (r.1.writeJobBlock p rank L)
  (s2.modCore L fun c => { c with entry := im.codeWord, nextEntry := im.codeWord }, r.2)

/-- Both shadow generations of every rank are zero (08 R227). -/
def State.clearShadow (s : State) (p : Nat) (im : Image) : State :=
  let x := s.part p
  s.clearHbm (x.base + x.bytes - shadowBytes im.ranks) (shadowBytes im.ranks)

/-- Every core has its rank: JOB_STARTED, and the first turn (08 R227, 10 R293). A held job that a restore
brings back goes on with JOB_RESUMED (13 R397). -/
def State.runLoaded (s : State) (p : Nat) : State :=
  match (s.part p).job with
  | none => s
  | some j =>
    let s1 := s.modJob p fun j => { j with state := .running, loaded := false }
    let s2 := if j.resumed then s1.journalWrite 0x23 0 j.td (s1.concernOf (some p)) []
      else s1.journalWrite 0x20 0 j.td (s1.concernOf (some p)) (leBytes 4 j.epoch ++ leBytes 2 j.placement.length)
    if j.leaseDue then (s2.modJob p fun j => { j with holdLease := true, leaseDue := false }).enterHold p
    else s2.startTurns p

/-- A loaded group job runs once the master has admitted its group (09 R253). -/
def State.runAdmitted (s : State) (g : W32) : State :=
  if (s.group g).admitted then
    match s.groupPart g with
    | none => s
    | some p =>
      match (s.part p).job with
      | some j => if j.state = .loading ∧ j.loaded then s.runLoaded p else s
      | none => s
  else s

/-- What a job's cores still have under way ends with it. -/
def State.dropJob (s : State) (j : Job) : State :=
  s.dropPackets fun q => (q.typ == 0x08 || q.typ == 0x09) && j.cores.any fun L => q.src == coreEndpoint L || q.dest == coreEndpoint L

/-- A discarded job (08 R227): JOB_DISCARDED with its cause (10 R293). JOB_STATE reads 5 from then on until the next job or a partition
reset, whether or not its memory is scrubbed (log 106). -/
def State.discardJob (s : State) (p cause : Nat) : State :=
  match (s.part p).job with
  | none => s
  | some j =>
    if j.state = .completed ∨ j.state = .discarded ∨ j.state = .none then s
    else
      let s1 := s.abandonParts p
      let s2 := s1.modJob p fun j => { j with state := .discarded, waiting := false }
      let s3 := j.cores.foldl (fun t L => t.modCore L fun c => { c.clear with attempt := {}, pins := [] }) (s2.dropJob j)
      ((s3.countEvent evJobDiscarded).journalWrite 0x25 evJobDiscarded j.td (s.concernOf (some p)) [BitVec.ofNat 8 cause]).tellGroup p true

/-- Queued jobs are discarded with the same cause. -/
def State.discardQueue (s : State) (p cause : Nat) : State :=
  let s1 := (s.part p).queue.foldl (fun t q =>
    (t.countEvent evJobDiscarded).journalWrite 0x25 evJobDiscarded 0
      { sid := q.sid, job := q.id, part := BitVec.ofNat 16 p, tenant := q.tenant } [BitVec.ofNat 8 cause]) s
  s1.modPart p fun x => { x with queue := [] }

/-- The reduction-order fingerprint (03 R96): the XOR of every site's digest. -/
def Job.fingerprint (j : Job) : W64 :=
  j.absorbers.foldl (fun acc a => acc ^^^ leWord (shake256 a.2 8)) 0

/-- The completion record (10 R294). -/
def completionRecord (j : Job) : List Byte :=
  leBytes 8 j.fingerprint.toNat ++ leBytes 8 j.ts ++ leBytes 4 j.replayedParts ++ leBytes 4 j.replayedTurns ++
    leBytes 4 j.epoch ++ leBytes 4 j.rankMoves ++ leBytes 2 stOk.toNat

/-! ### A commit (08 R224) -/

/-- The effects a turn awaits: contributions combined in arrival order, with their fingerprint records (03 R96). -/
def State.combineTurn (s : State) (p td : Nat) : State :=
  let mine := s.mesh.holds.filter fun c => c.part == p && c.turn == td
  let step := fun (acc : State × SMap Nat) (c : Contribution) =>
    let n := SMap.getD acc.2 c.site 0
    let t := acc.1.combine c
    (t.modJob p fun j => { j with
      absorbers := SMap.put j.absorbers c.site (SMap.getD j.absorbers c.site [] ++ fingerprintRecord c n) },
     SMap.put acc.2 c.site (n + 1))
  let r := mine.foldl step (s, [])
  { r.1 with mesh := { r.1.mesh with holds := r.1.mesh.holds.filter fun c => !(c.part == p && c.turn == td) } }

/-- Signals of a core released at a commit (04 R114): TOKEN packets in assured class. A signal that names a core that serves no rank of
the job is dropped: the spec gives it no status (log 105). -/
def State.releaseSignals (s : State) (p : Nat) (j : Job) (L : Nat) : State :=
  let fromB := j.placementB.contains L
  let s1 := (s.core L).signals.foldl (fun t g =>
    let d := j.peer fromB g.1
    if j.cores.contains d then t.sendPacket (tokenPacket L d g.2.1 g.2.2 (BitVec.ofNat 16 p)) else t) s
  s1.modCore L fun c => { c with signals := [] }

/-- The credit of a freed slot returns to its sender, whose pins of it go (02 R67, 08 R222). -/
def State.freeSlot (s : State) (p L inbox slot sender : Nat) : State :=
  (s.sendPacket (creditPacket L sender 0 inbox slot (BitVec.ofNat 16 p))).modCore sender fun c =>
    { c with pins := c.pins.filter fun q => !(q.dest == L && q.inbox == inbox && q.slot == slot) }

/-- Slots freed in this turn whose inbox has closed since return their credits at the commit too (04 R117). -/
def State.releaseClosed (s : State) (p L : Nat) : State :=
  ((s.core L).closedSlots.foldl (fun t f => t.freeSlot p L f.1 f.2.1 f.2.2) s).modCore L fun c => { c with closedSlots := [] }

/-- Inbox slots at a commit: those the job's senders wrote become full, and those freed return their credits, which
release their senders' pins (02 R67, 04 R114, 08 R222). -/
def State.releaseSlots (s : State) (p : Nat) (j : Job) (L : Nat) : State :=
  (s.core L).inboxes.foldl (fun t b =>
    let freed := (List.range b.2.slots.length).filterMap fun i =>
      match b.2.slots.getD i .empty with
      | .freed snd _ => some (i, snd)
      | _ => none
    let slots := b.2.slots.map fun x =>
      match x with
      | .written snd src => if j.cores.contains snd then .full snd src else x
      | .freed _ _ => .empty
      | y => y
    let t1 := t.modCore L fun c => c.setInbox b.1 { b.2 with slots := slots }
    let t2 := (List.range b.2.slots.length).foldl (fun u i =>
      match b.2.slots.getD i .empty with
      | .written snd _ => if j.cores.contains snd then u.sendPacket (creditPacket snd L 1 b.1 i (BitVec.ofNat 16 p)) else u
      | _ => u) t1
    freed.foldl (fun u f => u.freeSlot p L b.1 f.1 f.2) t2) (s.releaseClosed p L)

/-- JOB_COMPLETED (08 R229, 10 R294); then the next queued job loads (08 R210). -/
def State.completeJob (s : State) (p : Nat) : State :=
  match (s.part p).job with
  | none => s
  | some j =>
    let s1 := s.modJob p fun j => { j with state := .completed, waiting := false }
    let s2 := j.cores.foldl (fun t L => t.modCore L fun c => { c.clear with attempt := {}, pins := [] }) (s1.dropJob j)
    let s3 := s2.journalWrite 0x24 0 j.td (s.concernOf (some p)) (completionRecord j)
    s3.nextJob p

/-- Written pages of program space and shadow that a snapshot protects (13 R388, R390). -/
def State.writtenPages (s : State) (x : Part) : List Nat :=
  let lo := x.programSpace.1
  let hi := x.base + x.bytes
  (List.range (x.bytes / 2 ^ 21)).map (fun i => x.base / 2 ^ 21 + i) |>.filter fun g =>
    let a := max lo (g * 2 ^ 21)
    let b := min hi ((g + 1) * 2 ^ 21)
    decide (a < b) && (s.hbm.written.any fun w =>
      decide (a / s.blockBytes ≤ w.1 % 2 ^ 20) && decide (w.1 % 2 ^ 20 ≤ (b - 1) / s.blockBytes))

/-- Unbacked lagoon bytes of a partition's quarters (13 R388), by device address. -/
def State.lagoonOf (s : State) (p : Nat) (backed : List Backed) : SMap Byte :=
  (s.clustersOf p).foldl (fun m c =>
    let q := (s.slice (quarterBase c) (2 ^ 26)).map fun e => (e.1 + quarterBase c, e.2)
    m ++ q.filter fun e => !backed.any fun b => decide (b.addr ≤ e.1) && decide (e.1 < b.addr + b.length)) []

/-- Contents of the committed generation's full, untaken slots, by (rank * 8 + inbox) * 64 + slot (13 R388). -/
def State.fullSlots (s : State) (j : Job) : SMap (List Byte) :=
  (List.range j.placement.length).foldl (fun m r =>
   let L := j.placement.getD r 0
   (SMap.getD j.shadow r {}).inboxes.foldl (fun m b =>
    (List.range b.2.slots.length).foldl (fun m i =>
      match b.2.slots.getD i .empty with
      | .full _ _ =>
        SMap.put m ((r * 8 + b.1) * 64 + i) (s.readBytes (csBase L + (b.2.base + i * b.2.slotWords) * 8) (b.2.slotWords * 8))
      | _ => m) m) m) []

/-- The snapshot point (13 R388 to R390): the job's state as of its last commit, its written pages protected. -/
def State.snapshotPoint (s : State) (p : Nat) : State :=
  let x := s.part p
  match x.snap, x.job, x.image with
  | some k, some j, some im =>
    let sp := x.programSpace
    s.setPart p { x with snap := some { k with
      phase := .copying, jobId := j.req.id, doubles := j.req.body.doubles, td := j.td, ts := j.ts, epoch := j.epoch
      keys := j.keys, digest := im.digest, hbmBytes := x.bytes
      hbm := (s.slice sp.1 (sp.2 - sp.1)).map fun e => (e.1 + (sp.1 - x.base), e.2)
      lagoon := s.lagoonOf p im.backed
      shadow := j.shadow.map fun e => (e.1, { e.2 with pages := s.committedBytes x im e.1 e.2 }), slots := s.fullSlots j, placement := j.placement
      guarded := s.writtenPages x } }
  | _, _, _ => s

/-- A snapshot point is due at this commit. -/
def Part.snapDue (x : Part) (td : Nat) : Bool :=
  match x.snap with
  | some k => k.phase == .requested && (if k.groupAsked then k.groupTurn == some td else true)
  | none => false

/-- Every rank, both copies, is durable for the turn (08 R224). -/
def State.allDurable (s : State) (j : Job) : Bool := j.cores.all fun L => (s.core L).attempt.durable

/-- The commit itself and what it releases (08 R224 steps 2 to 4). -/
def State.commitTurn (s : State) (p : Nat) : State :=
  match (s.part p).job with
  | none => s
  | some j0 =>
    let td := j0.td
    let s0 := { s with sched := { s.sched with durable := s.sched.durable.filter (· != p) } }
    let s1 := s0.modJob p fun j => { j with shadow := j.pendingShadow, pendingShadow := [] }
    let s2 := s1.combineTurn p td
    let s3 := j0.cores.foldl (fun t L => t.releaseSignals p j0 L) s2
    let s4 := j0.cores.foldl (fun t L => t.releaseSlots p j0 L) s3
    let replays := j0.turnReplays
    let moves := j0.turnMoves
    let s5 := s4.modJob p fun j => { j with
      td := td + 1, ts := j.ts + 1, compared := false, vote := none, turnReplays := 0, turnMoves := 0
      reported := false, go := none
      replayedTurns := if replays = 0 then j.replayedTurns else j.replayedTurns + 1
      shadow := j.shadow.map fun e => (e.1, { e.2 with inboxes := (s4.core (j.placement.getD e.1 0)).inboxes }) }
    let s6 := s5.modPart p fun x => { x with turnData := td + 1, turnStream := j0.ts + 1 }
    let every := if j0.req.body.commitInterval = 0 then 1000 else j0.req.body.commitInterval.toNat
    let s6c := if j0.req.body.group then s6.startCollectives p td (j0.go.getD false) else (s6, stOk)
    let s7 := if (td + 1 - j0.firstTurn) % every = 0 ∨ replays ≠ 0 ∨ moves ≠ 0 then
        s6c.1.journalWrite 0x21 0 (td + 1) (s6c.1.concernOf (some p)) (leBytes 8 (j0.ts + 1) ++ leBytes 4 replays ++ leBytes 4 moves)
      else s6c.1
    let s7b := s7.boundary p
    if s6c.2 ≠ stOk then s7b.holdStatus p s6c.2
    else if td + 1 = j0.turns then s7b.completeJob p
    else
      let s8 := (if (s7b.part p).snapDue (td + 1) then s7b.snapshotPoint p else s7b).startTests
      if j0.lost then (s8.modJob p fun j => { j with lost := false }).holdCapacity p
      else if j0.leaseDue then
        let s9 := s8.modJob p fun j => { j with holdLease := true, leaseDue := false }
        (j0.cores.foldl (fun t L => t.modCore L fun c => { c with seq := .heldBoundary }) s9).enterHold p
      else if (s8.part p).snapCopying then s8
      else s8.startTurns p

end Sys2Proof.Machine
end

