-- ==== Sys2Proof/Machine/PowerOps.lean ====
section
/-! DEFINITION. Power, region states and the resets of regions (12 R338 to R360, 15 R429, R432): operating points and
ceilings, bubble fractions, gating, wakes, cluster reset. -/

namespace Sys2Proof.Machine

/-! ### Operating points (12 R340 to R343, R358) -/

/-- Nominal pace of an operating point in Mbeat/s (R340). -/
def nominalPace (op : Nat) : Nat := [0, 400, 580, 750, 920, 1180, 1300, 1430, 1500].getD op 0

/-- Set point of an operating point in mV (R340). -/
def setPointMv (op : Nat) : Nat := [0, 450, 500, 550, 600, 660, 700, 750, 780].getD op 0

/-- Highest point of a cooling class: air, cold plate, immersion (R340). -/
def classPoint (cls : Nat) : Nat := [4, 6, 8].getD cls 4

/-- A region's class ceiling, lowered by repeated dips (R345). -/
def State.ceiling (s : State) (c : Nat) : Nat := max 1 (classPoint s.start.coolingInForce - (s.cluster c).ceilingDrop)

/-- The program preference of a region (R343). -/
def State.preferred (s : State) (c : Nat) : Nat :=
  let ops := ((List.range 12).filter fun p => (s.core (c * 12 + p)).inTurn).map fun p => (s.core (c * 12 + p)).opPoint.toNat
  match ops with
  | [] => 1
  | _ => ops.foldl (fun m o => max m (if o = 0 then s.ceiling c else min o (s.ceiling c))) 1

/-- The preferred point, raised by a hint under preparation (R357), lowered by the cap's steps (R354). -/
def State.basePoint (s : State) (c : Nat) : Nat :=
  let want := if ((s.cluster c).hint.map Hint.prepared).getD false then s.ceiling c else s.preferred c
  max 1 (want - s.power.capCut)

/-- The set point of the job group on a cluster, none where there is none (09 R254). -/
def State.groupSet (s : State) (c : Nat) : Option Nat :=
  match s.partOf c with
  | none => none
  | some p =>
    match (s.part p).job with
    | some j => if j.req.body.group then (s.group j.req.body.groupId).setPoint else none
    | none => none

/-- The lowest ceiling of levels 2 to 5, in Mbeat/s (R358). -/
def State.ceilingPace (s : State) (c : Nat) : Nat :=
  let n := nominalPace (s.basePoint c)
  let l2 := n * (64 - (s.cluster c).bThrottle) / 64
  let l3 := n * (64 - s.power.bCap) / 64
  let l4 := (s.groupSet c).getD n
  min (min l2 l3) (min l4 n)

/-- The operating point that a region is to take: the lowest whose nominal pace reaches that ceiling (R358), at most 0x2
under the safe floor (R360). -/
def State.targetPoint (s : State) (c : Nat) : Nat :=
  let t := ((List.range 9).find? fun o => decide (1 ≤ o) && decide (s.ceilingPace c ≤ nominalPace o)).getD 8
  if s.power.safeFloor then min t 2 else t

/-- Bubbles that hold a region at its group's set point, in 64ths (09 R254). -/
def State.bSet (s : State) (c : Nat) : Nat :=
  let n := nominalPace (s.cluster c).op
  let g := (s.groupSet c).getD n
  if n ≤ g then 0 else (64 * (n - g) + n - 1) / n

/-- The bubble fraction of level 1: over-current, sector, dip, wake headroom, backstop, safe floor (R358). -/
def State.bLevel1 (s : State) (c : Nat) : Nat :=
  let x := s.cluster c
  let i := SMap.getD s.islands (c / 4) {}
  let p := s.power
  max (max (max x.bOver x.bDip) (max i.bSector i.bHeadroom))
    (max (if p.backstop then 16 else 0) (if p.safeFloor then max 16 p.bCap else 0))

/-- The largest fraction that any level demands; fractions never add (R358). -/
def State.bubbles (s : State) (c : Nat) : Nat :=
  max (max (s.bLevel1 c) (s.cluster c).bThrottle) (max s.power.bCap (s.bSet c))

/-- Pace of a region in Mbeat/s (R341). -/
def State.pace (s : State) (c : Nat) : Nat :=
  if (s.cluster c).region = .running then nominalPace (s.cluster c).op * (64 - s.bubbles c) / 64 else 0

/-- Pace of level 5: of the preferred point, where preference or lowered ceiling holds it below the cooling class's highest point. -/
def State.preferenceLimit (s : State) (c : Nat) : Option Nat :=
  if s.preferred c < classPoint s.start.coolingInForce then some (nominalPace (s.preferred c)) else none

/-- The level whose ceiling is lowest, the higher one where two are equal, 0 where none limits (R358); of a region that does not run
level 2 alone limits, while it is shed (log 35). -/
def State.limiter (s : State) (c : Nat) : Nat :=
  let x := s.cluster c
  let n := nominalPace x.op
  if x.region ≠ .running then (if x.shed then 2 else 0) else
  let cand : List (Nat × Nat) :=
    (if s.bLevel1 c = 0 then [] else [(1, n * (64 - s.bLevel1 c) / 64)]) ++
    (if x.bThrottle = 0 then [] else [(2, n * (64 - x.bThrottle) / 64)]) ++
    (if s.power.bCap = 0 then [] else [(3, n * (64 - s.power.bCap) / 64)]) ++
    (match s.groupSet c with
      | some g => if n ≤ g then [] else [(4, g)]
      | none => []) ++
    (match s.preferenceLimit c with
      | some g => [(5, g)]
      | none => [])
  match cand with
  | [] => 0
  | h :: t => (t.foldl (fun m e => if e.2 < m.2 then e else m) h).1

/-- A region takes its operating point at once: a region that starts, or a limit of the hardware. -/
def State.takePoint (s : State) (c : Nat) : State :=
  let t := s.targetPoint c
  s.modCluster c fun x => { x with op := if x.region = .running then t else 0 }

/-! ### Gating and wakes (12 R344, R347, R348, 15 R432) -/

/-- The unit code of an island whose byte 2 names a region (12 R361). -/
def regionUnit (c : Nat) : W64 := unitCode 0x01 (c / 4) (c % 4) 0

/-- The partition whose job a cluster hosts. -/
def State.hostedBy (s : State) (c : Nat) : Option Nat :=
  match s.partOf c with
  | none => none
  | some p => if ((s.part p).job.map fun j => j.hosts c).getD false then some p else none

/-- A wake leaves its sector's queue: the headroom throttle ends with the last, and the boost bank is its own region's again (R344, R348 step
6). -/
def State.clearWake (s : State) (c : Nat) : State :=
  let s1 := s.modIsland (c / 4) fun i => { i with wakes := i.wakes.filter fun x => x != c }
  let s2 := s1.modCluster c fun x => { x with wake := none, bank := .own }
  if ((s2.island (c / 4)).wakes).isEmpty then s2.modIsland (c / 4) fun i => { i with bHeadroom := 0 } else s2

/-- The arrays of a region stop with it (02 R70). -/
def State.stopArrays (s : State) (c : Nat) : State :=
  (List.range 12).foldl (fun t p => t.modCore (c * 12 + p) fun k => { k with arrayState := 0, ramp := 0 }) s

/-- A region is gated (R347): its core stores stay on the retention supply. -/
def State.gate (s : State) (c : Nat) : State :=
  ((s.clearWake c).stopArrays c).modCluster c fun x => { x with region := .gated, op := 0, hint := none }

/-- THERMAL_SHED with its DETAIL (R361). -/
def State.shedEvent (s : State) (c outcome : Nat) : State :=
  let left := match s.partOf c with
    | some p => ((s.clustersOf p).filter fun k => (s.cluster k).region == .running && s.inService k).length
    | none => 0
  s.event evThermalShed (s.hostedBy c)
    (unitBytes (regionUnit c) ++ [BitVec.ofNat 8 outcome, BitVec.ofNat 8 (s.cluster c).temp] ++ List.replicate 6 0 ++ [BitVec.ofNat 8 left])

/-- A shed region (R352, R353): the parts in flight are lost and the jobs move or wait. A region that was shed and turns
critical is reported again; one in its cluster reset is held gated by the shed (R368). -/
def State.shedRegion (s : State) (c outcome : Nat) : State :=
  let x := s.cluster c
  if (x.region == .dark && !x.resetting) || (x.shed && outcome == 0) then s
  else
    let s1 := (s.gate c).modCluster c fun y => { y with
      shed := true, released := false, doze := false, counters := { y.counters with sheds := y.counters.sheds + 1 } }
    let s2 := s1.shedEvent c outcome
    if x.shed then s2 else s2.clusterUnusable c true

/-- Core stores of a cluster are written to zero with valid check bits, the scrub pointers at line 0 (15 R429). -/
def State.clearStores (s : State) (c : Nat) : State :=
  (List.range 12).foldl (fun t p => t.zero (csBase (c * 12 + p)) (2 ^ 24)) (s.modCluster c fun x => { x with scrub := [] })

/-- A region that runs again: packets that waited at its node stop are delivered and its jobs go on (R348 step 6,
07 R201). -/
def State.regionRuns (s : State) (c : Nat) : State :=
  let zero := (s.cluster c).zeroOnWake
  let s1 := (s.clearWake c).modCluster c fun x => { x with region := .running, doze := false, zeroOnWake := false }
  let s2 := if zero then s1.clearStores c else s1
  let s3 := s2.takePoint c
  let s4 := s3.releaseEjection c
  let s5 := s4.startTests
  match s5.partOf c with
  | some p => s5.endWait p
  | none => s5

/-- A region goes dark for good (R338): its core stores are lost and its cluster leaves service. -/
def State.darken (s : State) (c : Nat) : State :=
  let s1 := ((s.clearWake c).stopArrays c).modCluster c fun x => { x with region := .dark, op := 0, hint := none, shed := false, doze := false
                                                                          resetting := false, zeroOnWake := false }
  let s2 := s1.clearStores c
  if s2.inService c then s2.loseCluster c 1 else s2

/-! ### Hints (12 R357) -/

/-- The arrays that a hint names: one core's, or those of every served position of the region. -/
def State.hintCores (s : State) (c : Nat) (h : Hint) : List Nat :=
  match h.core with
  | some L => [L]
  | none => ((List.range 12).filter fun p => (s.cluster c).map.getD p 0xF != 0xF).map fun p => c * 12 + p

/-- An array at matched current ramps down (02 R60). -/
def Core.rampDown (c : Core) : Core := if c.arrayState = 2 then { c with arrayState := 3, ramp := 20 } else c

/-- A hint ends: the arrays it held ramp down (R357 step 4). -/
def State.endHint (s : State) (c : Nat) : State :=
  match (s.cluster c).hint with
  | none => s
  | some h =>
    ((s.hintCores c h).foldl (fun t L => t.modCore L Core.rampDown) s).modCluster c fun x => { x with hint := none }

/-- A hint reaches the power-management core: it is ignored while that core restarts and for a region gated or dark, and
acted on otherwise (R357). LOAD 0 ends the phase. -/
def State.takeHint (s : State) (c : Nat) (h : Hint) : State :=
  let r := (s.cluster c).region
  if s.power.safeFloor ∨ r = .gated ∨ r = .dark then
    s.modCluster c fun x => { x with counters := { x.counters with ignored := x.counters.ignored + 1 } }
  else
    let s1 := s.modCluster c fun x => { x with counters := { x.counters with honoured := x.counters.honoured + 1 } }
    if h.load = 0 then s1.endHint c else s1.modCluster c fun x => { x with hint := some h }

/-! ### Cluster reset (15 R429) -/

/-- A cluster reset begins: the region is dark, its parts stop and wait to be rebuilt from cleared core stores; a shed
region stays gated (15 R441). In a partition reset nothing replays. -/
def State.clusterReset (s : State) (c : Nat) (replay : Bool) : State :=
  let s1 := s.modCluster c fun x =>
    { x with resetting := true, region := if x.shed then .gated else .dark, op := 0, bOver := 0, bDip := 0, dipping := false
             hint := none }
  let s2 := (List.range 12).foldl (fun t p =>
    let L := c * 12 + p
    let on := (t.core L).seq != .unserved
    let t1 := if replay && (t.standOf L).isSome then t.awaitRebuild L true else t
    t1.modCore L fun k => { k.stop with seq := if on then .noTurn else .unserved }) s1
  s2.queueWake c

/-- The cluster control core reports the reset done (R429 step 5): core stores zero, the region runs unless it is shed. -/
def State.clusterResetDone (s : State) (c : Nat) : State :=
  if (s.cluster c).resetting then
    let s1 := (s.clearStores c).modCluster c fun x => { x with resetting := false }
    if (s1.cluster c).shed then s1
    else
      let s2 := s1.regionRuns c
      s2.modCluster c fun x => { x with op := 1 }
  else s

end Sys2Proof.Machine
end

