-- ==== Sys2Proof/Machine/Mesh.lean ====
section
/-! DEFINITION. Packets at their endpoints, and what happens to links and router halves (07 R184 to R201). Each packet
command is a packet's arrival; the layouts of payloads that the spec does not give are log 19. -/

namespace Sys2Proof.Machine

/-! ### Requests and data (07 R185, R194, R195) -/

/-- A packet with the TYPE of its row; an endpoint discards any other (R185). -/
def State.whenType (s : State) (p : MeshPkt) (typ : Nat) (f : State → State) : State :=
  if p.typ.toNat = typ then f s else s.arrived p

/-- READ_REQ: the data goes back (05 R143, 06 R162). -/
def meshReadReq (p : MeshPkt) (s : State) : State := s.whenType p 0x01 fun t => reply p (t.accept p)

def execMeshReadReq (p : MeshPkt) (s : State) : Host.Outcome State Fault Refusal := .next (meshReadReq p s)

/-- READ_DATA: the GET that asked takes it into its core store (04 R110). -/
def meshReadData (p : MeshPkt) (s : State) : State := s.whenType p 0x02 fun t => reply p (t.acceptData p)

def execMeshReadData (p : MeshPkt) (s : State) : Host.Outcome State Fault Refusal := .next (meshReadData p s)

/-- WRITE: the data lands, under copy-on-write where a snapshot protects the page (13 R390). -/
def meshWrite (p : MeshPkt) (s : State) : State := s.whenType p 0x03 fun t => reply p (t.accept p)

def execMeshWrite (p : MeshPkt) (s : State) : Host.Outcome State Fault Refusal := .next (meshWrite p s)

/-- REDUCE: the contributions enter the destination engines' holds or wait for them (04 R115). -/
def meshReduce (p : MeshPkt) (s : State) : State := s.whenType p 0x04 fun t => reply p (t.accept p)

def execMeshReduce (p : MeshPkt) (s : State) : Host.Outcome State Fault Refusal := .next (meshReduce p s)

/-- RELAY: data of a RELAY_PUT lands in its inbox slot (02 R66). -/
def meshRelay (p : MeshPkt) (s : State) : State := s.whenType p 0x05 fun t => reply p (t.accept p)

def execMeshRelay (p : MeshPkt) (s : State) : Host.Outcome State Fault Refusal := .next (meshRelay p s)

/-! ### Answers -/

/-- The packet that an answer names by its SEQ, at its sender. -/
def State.answered (s : State) (p : MeshPkt) : Option MeshPkt := s.sentPacket p.dest p.src p.assuredClass p.seq.toNat

/-- ACK: the packet is done with, and the piece that it carried has moved (04 R113, 07 R194, R195). -/
def meshAck (p : MeshPkt) (s : State) : State :=
  s.whenType p 0x06 fun t =>
    match t.answered p with
    | none => t.arrived p
    | some q => (t.arrived p).settleAck q

def execMeshAck (p : MeshPkt) (s : State) : Host.Outcome State Fault Refusal := .next (meshAck p s)

/-- STATUS: OK is busy, TARGET_RESETTING makes an assured sender try again, and any other ends the transfer (04 R116, 07 R200,
R201). -/
def meshStatus (p : MeshPkt) (s : State) : State :=
  s.whenType p 0x07 fun t =>
    match t.answered p with
    | none => t.arrived p
    | some q => (t.arrived p).settleStatus q p.status

def execMeshStatus (p : MeshPkt) (s : State) : Host.Outcome State Fault Refusal := .next (meshStatus p s)

/-! ### Tokens, credits, parity, control -/

/-- A packet that its endpoint takes once, and acknowledges; one sent again is acknowledged again (07 R194, R195). -/
def State.takeOnce (s : State) (p : MeshPkt) (f : State → State) : State :=
  let t := s.arrived p
  if t.stale p then (if p.resent && t.hadBefore p then t.answer p 0x06 stOk else t)
  else (f (t.receive p).1).answer p 0x06 stOk

/-- TOKEN: signals of the last commit reach the core before its turn begins (04 R114; log 102). -/
def meshToken (p : MeshPkt) (s : State) : State :=
  s.whenType p 0x08 fun t => t.takeOnce p fun u =>
    match coreOfEndpoint p.dest with
    | none => u
    | some L =>
      if (u.sentPacket p.src p.dest true p.seq.toNat).isSome then
        u.modCore L fun c => c.startSignal (p.payloadNat 0 1 % 32) (p.payloadNat 2 2)
      else u

def execMeshToken (p : MeshPkt) (s : State) : Host.Outcome State Fault Refusal := .next (meshToken p s)

/-- Slots of an inbox that are not empty. -/
def Inbox.occupied (b : Inbox) : Nat := (b.slots.filter fun x => x != .empty).length

/-- A slot's credit comes back to the senders of an inbox, while it is open and has a slot for it (02 R66, R67). -/
def State.returnCredit (s : State) (d i : Nat) : State :=
  let key := d * 8 + i
  let n := SMap.getD s.mesh.credits key 0
  let b := (s.core d).inbox i
  if b.isOpen && decide (n + b.occupied < b.slots.length) then
    { s with mesh := { s.mesh with credits := SMap.put s.mesh.credits key (n + 1) } }
  else s

/-- CREDIT: kind 0 returns a slot's credit to the senders of its inbox; kind 1 says that a slot is full (02 R66, R67). -/
def meshCredit (p : MeshPkt) (s : State) : State :=
  s.whenType p 0x09 fun t => t.takeOnce p fun u =>
    match coreOfEndpoint p.src with
    | none => u
    | some d => if p.payloadNat 0 1 = 0 then u.returnCredit d (p.payloadNat 1 1 % 8) else u

def execMeshCredit (p : MeshPkt) (s : State) : Host.Outcome State Fault Refusal := .next (meshCredit p s)

/-- The deltas without the first that equals `d`. -/
def eraseDelta (ds : List (Nat × W64)) (d : Nat × W64) : List (Nat × W64) :=
  match ds with
  | [] => []
  | x :: t => if x = d then t else x :: eraseDelta t d

/-- The parity stack's controller applies a granule's delta (06 R164); one that is out of reach takes none (06 R166, R167). -/
def State.applyDelta (s : State) (p : MeshPkt) : State :=
  let g := p.address / 256 * 256
  let pl := s.granulePlace g
  let ds := ((List.range 32).map fun k => (pl.stripe * 32 + k, leWord ((p.payload.drop (8 * k)).take 8))).filter fun d => d.2 != 0
  let gone := s.gone pl.parityStack pl.ch
  ds.foldl (fun t d => { t with hbm := { t.hbm with
    deltas := eraseDelta t.hbm.deltas d
    parity := if gone then t.hbm.parity else SMap.set t.hbm.parity d.1 (SMap.getD t.hbm.parity d.1 0 ^^^ d.2) 0 } }) s

/-- PARITY_DELTA: the delta is applied once (06 R164, 07 R195). -/
def parityDelta (p : MeshPkt) (s : State) : State := s.whenType p 0x0A fun t => t.takeOnce p fun u => u.applyDelta p

def execParityDelta (p : MeshPkt) (s : State) : Host.Outcome State Fault Refusal := .next (parityDelta p s)

/-- CONTROL: a message between firmware processors; it names no memory and its content is not given (R185). -/
def meshControl (p : MeshPkt) (s : State) : State := s.whenType p 0x0B fun t => t.takeOnce p fun u => u

def execMeshControl (p : MeshPkt) (s : State) : Host.Outcome State Fault Refusal := .next (meshControl p s)

/-! ### Resends (R194, R195, R200, R201) -/

/-- A packet that its sender keeps goes again, with RESEND set. -/
def State.resend (s : State) (src dest : W16) (assured : Bool) (seq : W32) : State :=
  match s.sentPacket src dest assured seq.toNat with
  | none => s
  | some q => s.inject { q with flags := q.flags ||| 8 }

/-- BULK_RESEND_TIMEOUT: 10 us without acknowledgement; the packet goes again. -/
def execBulkResendTimeout (src dest : W16) (seq : W32) (s : State) : Host.Outcome State Fault Refusal :=
  .next (s.resend src dest false seq)

/-- ASSURED_RESEND_TIMEOUT: 20 us without acknowledgement; both copies go again. -/
def execAssuredResendTimeout (src dest : W16) (seq : W32) (s : State) : Host.Outcome State Fault Refusal :=
  .next (s.resend src dest true seq)

/-- BUSY_RESEND: 1 us after a busy answer the packet goes again, in its class. -/
def busyResend (src dest : W16) (seq : W32) (s : State) : State :=
  [false, true].foldl (fun t cls =>
    if t.mesh.busy.contains (src, dest, seq, cls) then
      { t with mesh := { t.mesh with busy := t.mesh.busy.filter fun b => b != (src, dest, seq, cls) } }.resend src dest cls seq
    else t) s

def execBusyResend (src dest : W16) (seq : W32) (s : State) : Host.Outcome State Fault Refusal :=
  .next (busyResend src dest seq s)

/-- RESETTING_RETRY: 5 us after TARGET_RESETTING the assured message goes again. -/
def resettingRetry (src dest : W16) (seq : W32) (s : State) : State :=
  if s.mesh.retry.contains (src, dest, seq) then
    { s with mesh := { s.mesh with retry := s.mesh.retry.filter fun b => b != (src, dest, seq) } }.resend src dest true seq
  else s

def execResettingRetry (src dest : W16) (seq : W32) (s : State) : Host.Outcome State Fault Refusal :=
  .next (resettingRetry src dest seq s)

/-! ### Links and router halves (R184, R196, R197) -/

/-- Ports of a node whose half is out of service, bit d for port d (10 R476). -/
def State.portsOut (s : State) (n : Nat) (h : Bool) : Nat :=
  ((List.range 8).filter fun d => (peerNode n d).isSome && (s.portSet n d).half h == 2).foldl (fun acc d => acc + 2 ^ d) 0

/-- A change of both port sets of a link (R203). -/
def State.modLink (s : State) (n d : Nat) (f : PortSet → PortSet) : State :=
  let s1 := s.modPort n d f
  match peerNode n d with
  | some m => s1.modPort m (farPort d) f
  | none => s1

/-- An entry of a way lies on one half of a link, in either direction. -/
def onLink (n d : Nat) (h : Bool) (l : Nat × Nat × Bool × Nat) : Bool :=
  l.2.2.1 == h && ((l.1 == n && l.2.1 == d) || peerNode n d == some l.1 && l.2.1 == farPort d)

/-- A packet under way whose half of a link is lost (R197, R198): a bulk packet crosses to the other half there and stays on it, an assured
copy crosses for that link, both on virtual channel 3. With both halves lost it is gone. -/
def Flight.afterLoss (s : State) (n d : Nat) (h : Bool) (f : Flight) : Option Flight :=
  if f.links.any (onLink n d h) then
    if (s.portSet n d).half (!h) = 2 then none
    else
      let past := f.links.dropWhile fun l => !onLink n d h l
      let swap := fun (l : Nat × Nat × Bool × Nat) => (l.1, l.2.1, !h, 3)
      let rest := if f.pkt.assuredClass then past.map fun l => if onLink n d h l then swap l else l else past.map swap
      some { f with
        pkt := { f.pkt with flags := f.pkt.flags ||| 4 }, links := (f.links.takeWhile fun l => !onLink n d h l) ++ rest }
  else some f

/-- Both ends of a link show the half lost; the other half, where it serves, carries both assured copies until a detour
stands (R197), and packets under way on the lost half cross or are gone. -/
def State.markHalfLost (s : State) (n d : Nat) (h : Bool) : State :=
  let s1 := s.modLink n d fun x => { (x.setHalf h 2) with
    borrowed := x.borrowed || (x.half (!h) != 2 && !s.detoured h (n, d)) }
  let s2 := if (s1.portSet n d).half (!h) = 2 then s1.modLink n d fun x => { x with borrowed := false } else s1
  { s2 with mesh := { s2.mesh with flights := s2.mesh.flights.filterMap fun f => f.afterLoss s2 n d h } }

/-- ROUTER_HALF_LOST for one link half (R197, 10 R476). -/
def State.loseLinkHalf (s : State) (n d : Nat) (h : Bool) (cause group : Nat) : State :=
  if (s.portSet n d).half h = 2 then s
  else
    let s1 := s.markHalfLost n d h
    let unit := unitCode 0x05 n d (if h then 1 else 0)
    (s1.logRequest unit 2 evHalfLost).event evHalfLost none
      (unitBytes unit ++ [BitVec.ofNat 8 cause, BitVec.ofNat 8 group, 1, BitVec.ofNat 8 (s1.portsOut n h)])

def PortSet.replays (x : PortSet) (h : Bool) : List Nat := if h then x.replays1 else x.replays0
def PortSet.setReplays (x : PortSet) (h : Bool) (l : List Nat) : PortSet :=
  if h then { x with replays1 := l } else { x with replays0 := l }
def PortSet.clean (x : PortSet) (h : Bool) : Option Nat := if h then x.clean1 else x.clean0
def PortSet.setClean (x : PortSet) (h : Bool) (c : Option Nat) : PortSet := if h then { x with clean1 := c } else { x with clean0 := c }

/-- Replays of a half's receive side in the last `ns`. -/
def PortSet.recent (x : PortSet) (h : Bool) (now ns : Nat) : Nat := ((x.replays h).filter fun t => decide (now - t < ns)).length

/-- The transfers that the transmitter of a half sends again: the last `back` + 1 that it keeps (R184). -/
def State.replayed (s : State) (n d : Nat) (h : Bool) (back : Nat) : List Transfer :=
  match peerNode n d with
  | none => []
  | some m =>
    let all := (s.portSet m (farPort d)).store h
    all.drop (all.length - (back + 1))

/-- LINK_CRC_ERROR: the receive side of a half discards a transfer and the `back` after it, and the transmitter replays them from its
store (R184). Sixty-four replays within 1 ms end the service of a half without spares; sixteen within 100 ms of a test that found
nothing end that of any half (R196). -/
def linkCrcError (n d : Nat) (h : Bool) (back : Nat) (s : State) : State :=
  if (peerNode n d).isNone ∨ (s.portSet n d).half h = 2 then s
  else
    let now := s.timeBase.toNat
    let times := (((s.portSet n d).replays h).filter fun t => decide (now - t < 100000000)) ++ [now]
    let s1 := (s.modPort n d fun x => { (x.setReplays h times) with retries := x.retries + 1 }).emit
      (.transferReplay (unitCode 0x05 n d (if h then 1 else 0)) (s.replayed n d h back))
    if isSeam n d then
      match (s.portSet n d).clean h with
      | some t => if now - t < 100000000 ∧ 16 ≤ times.length then s1.loseLinkHalf n d h 2 0xFF else s1
      | none => s1
    else if 64 ≤ (s1.portSet n d).recent h now 1000000 then s1.loseLinkHalf n d h 3 0xFF
    else s1

def execLinkCrcError (node : NodeId) (port : Fin 8) (half : Bool) (back : Fin 64) (s : State) : Host.Outcome State Fault Refusal :=
  .next (linkCrcError node.val port.val half back.val s)

/-- WIRE_TEST: sixteen replays within 1 ms make a seam interface pause the half and test its wires (R196). Both ends of the link show it
paused (R203). -/
def wireTest (n d : Nat) (h : Bool) (s : State) : State :=
  if (peerNode n d).isNone ∨ !isSeam n d ∨ (s.portSet n d).half h ≠ 0 ∨ (s.portSet n d).recent h s.timeBase.toNat 1000000 < 16 then s
  else (s.modLink n d fun x => x.setHalf h 1).modPort n d fun x => { x with wireTests := x.wireTests + 1 }

def execWireTest (node : NodeId) (port : Fin 8) (half : Bool) (s : State) : Host.Outcome State Fault Refusal :=
  .next (wireTest node.val port.val half s)

def PortSet.spared (x : PortSet) (h : Bool) : W32 := if h then x.spared1 else x.spared0
def PortSet.usedSpare (x : PortSet) (h : Bool) : W32 := if h then x.usedSpare1 else x.usedSpare0
def PortSet.steered (x : PortSet) (h : Bool) : List Nat := if h then x.steered1 else x.steered0

/-- A group's spare carries the signal of a wire from now on. -/
def PortSet.spare (x : PortSet) (h : Bool) (g w : Nat) : PortSet :=
  let bit := BitVec.ofNat 32 (2 ^ g)
  if h then { x with spared1 := x.spared1 ||| bit, steered1 := x.steered1 ++ [g * 256 + w] }
  else { x with spared0 := x.spared0 ||| bit, steered0 := x.steered0 ++ [g * 256 + w] }

/-- A group's spare counts as used: it fails (R196). -/
def PortSet.useSpare (x : PortSet) (h : Bool) (g : Nat) : PortSet :=
  let bit := BitVec.ofNat 32 (2 ^ g)
  if h then { x with usedSpare1 := x.usedSpare1 ||| bit } else { x with usedSpare0 := x.usedSpare0 ||| bit }

/-- A group that could not be repaired (R204). -/
def PortSet.failGroup (x : PortSet) (h : Bool) (g : Nat) : PortSet :=
  let bit := BitVec.ofNat 32 (2 ^ g)
  if h then { x with failed1 := x.failed1 ||| bit } else { x with failed0 := x.failed0 ||| bit }

/-- A group's finding: its working wires that fail, but for the one that it already steers around, and whether its spare fails. -/
def PortSet.finding (x : PortSet) (h : Bool) (failing : List (Fin 32 × Fin 130)) (g : Nat) : List Nat × Bool :=
  let ws := (failing.filter fun f => f.1.val == g).map fun f => f.2.val
  (ws.filter fun w => w != 129 && !(x.steered h).contains (g * 256 + w), ws.contains 129)

/-- The unit code of a seam wire that arrives at a receive side (11 R306). -/
def wireUnit (n d : Nat) (h : Bool) (g w : Nat) : W64 :=
  unitCode 0x07 n d ((if h then 1 else 0) + 2) ||| BitVec.ofNat 64 (g * 2 ^ 32 + w * 2 ^ 40)

/-- One group after a test (R196): nothing, its spare used up, a wire spared, or the half's service ended with a cause: 0 a second
failing wire, the spare in use among the group's wires, 1 one failing wire and no usable spare. The log takes every working wire that
is found failing (01 R23; log 66). -/
def State.testGroup (s : State) (n d : Nat) (h : Bool) (g : Nat) (fs : List (Fin 32 × Fin 130)) (pause replays : Nat) :
    State × Option Nat :=
  let x := s.portSet n d
  let f := x.finding h fs g
  let fail := fun (cause : Nat) =>
    ((f.1.foldl (fun t w => t.logRequest (wireUnit n d h g w) 2 evHalfLost) s).modPort n d fun y => y.failGroup h g, some cause)
  if (x.spared h).getLsbD g then (if f.1.isEmpty && !f.2 then (s, none) else fail 0)
  else
    match f.1 with
    | [] => (if f.2 then s.modPort n d fun y => y.useSpare h g else s, none)
    | [w] =>
      if (x.usedSpare h).getLsbD g || f.2 then fail 1
      else
        let unit := wireUnit n d h g w
        let s1 := s.modPort n d fun y => y.spare h g w
        ((s1.logRequest unit 2 evWireSpared).event evWireSpared none (unitBytes unit ++ leBytes 4 pause ++ leBytes 2 replays), none)
    | _ => fail 0

/-- WIRE_TEST_DONE: wires are spared and the half resumes, or it leaves service (R196). -/
def wireTestDone (n d : Nat) (h : Bool) (fs : List (Fin 32 × Fin 130)) (pause : Nat) (s : State) : State :=
  let x := s.portSet n d
  if x.half h ≠ 1 then s
  else
    let now := s.timeBase.toNat
    let replays := x.recent h now 1002000
    let s0 := (s.modLink n d fun y => y.setHalf h 0).modPort n d fun y =>
      (y.setReplays h []).setClean h (if fs.isEmpty then some now else none)
    let r := (List.range 32).foldl (fun (acc : State × Option (Nat × Nat)) g =>
      let t := acc.1.testGroup n d h g fs pause replays
      (t.1, acc.2.or (t.2.map fun c => (c, g)))) (s0, none)
    match r.2 with
    | none => r.1
    | some (cause, g) => r.1.loseLinkHalf n d h cause g

def execWireTestDone (node : NodeId) (port : Fin 8) (half : Bool) (failing : List (Fin 32 × Fin 130)) (pauseNs : W32)
    (s : State) : Host.Outcome State Fault Refusal :=
  .next (wireTestDone node.val port.val half failing pauseNs.toNat s)

/-- ROUTER_HALF_INTERNAL_ERROR: a router half leaves service on all of its node's ports (R197). -/
def routerHalfError (n : Nat) (h : Bool) (s : State) : State :=
  if s.mesh.routersOut.contains (n, h) then s
  else
    let s1 := ((List.range 8).filter fun d => (peerNode n d).isSome).foldl (fun t d => t.markHalfLost n d h) s
    let s2 := { s1 with mesh := { s1.mesh with routersOut := s1.mesh.routersOut ++ [(n, h)] } }
    let unit := unitCode 0x06 n 0 (if h then 1 else 0)
    (s2.logRequest unit 2 evHalfLost).event evHalfLost none
      (unitBytes unit ++ [4, 0xFF, 0xFF, BitVec.ofNat 8 (s2.portsOut n h)])

def execRouterHalfInternalError (node : NodeId) (half : Bool) (s : State) : Host.Outcome State Fault Refusal :=
  .next (routerHalfError node.val half s)

/-- DETOUR_INSTALL: the operating firmware's detour for a lost half stands, and BORROWED clears at both ends (R197 step 3); a table
under which the dependences of virtual channel 3 would form a cycle is not installed (R190). -/
def detourInstall (n d : Nat) (h : Bool) (s : State) : State :=
  if (peerNode n d).isNone ∨ (s.portSet n d).half h ≠ 2 ∨ s.mesh.detours.contains (n, d, h) then s
  else
    let s1 := { s with mesh := { s.mesh with detours := s.mesh.detours ++ [(n, d, h)] } }
    if noCycle 800 s1.channelDeps then s1.modLink n d fun x => { x with borrowed := false } else s

def execDetourInstall (node : NodeId) (port : Fin 8) (half : Bool) (s : State) : Host.Outcome State Fault Refusal :=
  .next (detourInstall node.val port.val half s)

end Sys2Proof.Machine
end

