-- ==== Sys2Proof/Machine/ResetOps.lean ====
section
/-! DEFINITION. What is left after main power, and the module reset (15 R425 to R427, R437 to R439, 16 R455). -/

namespace Sys2Proof.Machine

/-- An alert bit of CHASSIS_STATUS is set (16 R455): 0 STAGE, 1 THERMAL, 2 COOLING, 3 PHASE, 4 MODE, 5 REMOVAL. -/
def State.alert (s : State) (bit : Nat) : State :=
  { s with chassis := { s.chassis with alerts := s.chassis.alerts ||| BitVec.ofNat 6 (2 ^ bit) } }

/-- The field defect log without what no head covers (11 R319). -/
def DefectLog.covered (l : DefectLog) : DefectLog := { l with waiting := [] }

/-- Everything volatile at its reset value; fuses, configuration memory, the chassis's side, the trace of outputs, the
counter of free values and the queue stay. -/
def State.volatileCleared (s : State) : State :=
  { freeCtr := s.freeCtr, out := s.out, nv := s.nv, log := s.log.covered, pending := s.pending
    chassis := { s.chassis with
      removal := 0, alerts := 0, lidTemp := 0, dynAddr := none, leaving := none, mode := 0
      standby := false, harbourEntries := 0, removing := false } }

/-- Main power goes: the module stops, its registers and memories are lost (15 R426, R437). -/
def State.powerOff (s : State) : State :=
  let t := s.volatileCleared
  { t with chassis := { t.chassis with main := false, applied := false } }

/-- Main power is removed and latched (12 R352, 15 R426): it stays off until the input has fallen below 40 V. -/
def State.tripOff (s : State) : State :=
  let t := s.powerOff
  { t with chassis := { t.chassis with tripped := true, fellBelow := false } }

/-- What a start keeps of a trial that RESET_CAUSE 5 reverted (14 R409, R410): outcome 3 and the version. -/
def revertedStart (st : Start) (cause : Nat) : Start :=
  if cause = 5 then
    { tfOutcome := if st.tfTrial then 3 else 0, tfRefused := if st.tfTrial then st.tfVersion else 0
      opfwOutcome := if st.opfwTrial then 3 else 0, opfwRefused := if st.opfwTrial then st.opfwVersion else 0 }
  else {}

/-- A module reset (15 R427): parity deltas land, RESET_CAUSE and the previous reports are written, every domain resets
and, unless MOD_RESET# holds it, stage 0 begins. Time base, RWS fields and the field defect log stay (R437, R439). -/
def State.moduleReset (s : State) (cause : Nat) : State :=
  if !s.chassis.main then s
  else
    let t := s.settleDeltas.volatileCleared
    { t with
      timeBase := s.timeBase, hbm := { prevMode := s.hbm.prevMode }
      start := { revertedStart s.start cause with
        active := !s.chassis.modReset, stage := 0, kind := 1, zero := s.timeBase.toNat
        prevReports := s.start.reports, resetCause := BitVec.ofNat 8 cause } }

/-! ### Leaving and removal (09 R251, 16 R454) -/

/-- Step 5 of R454: REMOVAL reads finishing writes, and a staging in progress is abandoned. -/
def State.finishWrites (s : State) : State :=
  { s with chassis := { s.chassis with removal := 2, removing := true, leaving := none }, host := { s.host with staging := none } }

end Sys2Proof.Machine
end

