-- ==== Sys2Proof/Machine/Turn.lean ====
section
/-! DEFINITION. Turn instructions (04 R119 to R121) and what turns and jobs go through: durability, commit, overrun,
rebuild, loading, doubles mode (08 R219 to R229, 13 R378 to R382). -/

namespace Sys2Proof.Machine

/-- Words of the carry area (04 R120). -/
def carryWords (live : BitVec 2) : Nat :=
  (if live.getLsbD 0 then 8192 else 0) + (if live.getLsbD 1 then 8192 else 0)

/-- A live bank comes back from the carry area (04 R120). -/
def Core.reload (c : Core) (b : Nat) (tile : List W32) : Core :=
  { c with banks := SMap.splice c.banks (b * 16384) 16384 (SMap.ofList tile 0 0) }

/-- Its 16 beats count as FEED (04 R120). -/
def State.reloadBank (s : State) (L b : Nat) (tile : List W32) : State :=
  (s.modCore L fun c => c.reload b tile).countCore L fun k => { k with feed := k.feed + 64 }

def State.tileAt (s : State) (a : Nat) : List W32 := (List.range 16384).map fun i => BitVec.ofNat 32 (s.readNat (a + 4 * i) 4)

def State.reloadBanks (s : State) (L : Nat) : State × List Nat :=
  let c := s.core L
  let a := csBase L + c.carry * 8
  let r := s.readRange a (carryWords c.live * 8) 0 L
  let s1 := if c.live.getLsbD 0 then r.1.reloadBank L 0 (s.tileAt a) else r.1
  let s2 := if c.live.getLsbD 1 then
      s1.reloadBank L 1 (s.tileAt (if c.live.getLsbD 0 then a + 65536 else a))
    else s1
  (s2, r.2)

/-- TURN_BEGIN: the one instruction taken at a turn's entry; a second one, a reserved OP_POINT or a nonzero reserved
bit is refused (04 R119 to R121). It waits for the signals of the last commit that are still on their way, since they count in this turn
(R114; log 102). The live banks reload, and the attempt's time runs (08 R223). -/
def turnBegin (L : Nat) (opPoint : BitVec 4) (rsv : W64) (s : State) : State :=
  if s.coreReady L then
    if (s.core L).inTurn ∨ rsv ≠ 0 ∨ 8 < opPoint.toNat then s.raise L stIllegal
    else if !(s.tokensDue L).isEmpty then s
    else
      let r := s.reloadBanks L
      match r.2 with
      | w :: _ => r.1.coreWordLost L w
      | [] => (r.1.modCore L fun c => { c.advance 1 with inTurn := true, opPoint := opPoint }).countIssue L
  else s

def execTurnBegin (core : CoreId) (opPoint : BitVec 4) (rsv : W64) (s : State) : Host.Outcome State Fault Refusal :=
  .next (turnBegin core.val opPoint rsv s)

/-- TURN_END's carry area lies in one carried range, clear of open ledger records and inboxes (04 R119, R120,
08 R213). -/
def carryIllegal (s : State) (L w : Nat) (live : BitVec 2) : Bool :=
  let n := carryWords live
  let inCarried := match s.imageOf L with
    | some (im, r) => im.holds r 1 w n
    | none => false
  let c := s.core L
  !inCarried || c.touchesLedger w n ||
    c.inboxes.any fun b => b.2.isOpen && overlaps w n b.2.base (b.2.slots.length * b.2.slotWords)

/-- TURN_END: the sequencer issues nothing further and ends the turn once every unit is quiet (04 R119, R120). -/
def turnEndVerdict (s : State) (L : Nat) (live : BitVec 2) (rc re : Nat) (rsv : W64) : Verdict :=
  let c := s.core L
  let w := (c.reg rc).toNat % 2 ^ 21
  match firstStatus (rsv != 0 || (live != 0 && carryIllegal s L w live)) (live != 0 && w % 512 != 0) false with
  | some st => .raise st
  | none =>
    let next := if re = 0 then c.entry else (c.reg re).toNat % 2 ^ 21
    s.syncGate L <| .run (s.modCore L fun c => { c.beginSync with hold := .turnEnd live w next })

def execTurnEnd (core : CoreId) (live : BitVec 2) (rc re : Reg) (rsv : W64) (s : State) :
    Host.Outcome State Fault Refusal :=
  .next ((s.issue core.val (turnEndVerdict s core.val live rc.val re.val rsv)).settleTurnEnd core.val)

/-! ### Durability and commit (08 R224) -/

/-- The carried pages of a rank that differ from their committed copies: number, word address, place of the copy. -/
def State.changedPages (s : State) (x : Part) (im : Image) (rank L : Nat) (sh : RankShadow) : List (Nat × Nat × Nat) :=
  (((x.committed im rank sh).zipIdx).map fun e => (e.2, e.1.1, e.1.2)).filter fun e =>
    s.slice (csBase L + e.2.1 * 8) 4096 != s.slice e.2.2 4096

/-- The end of a doubles part in its digests (13 R379, R380): the live tiles, the final open ledger records, and each changed carried page
with its place in the shadow. -/
def State.absorbEnd (s : State) (p : Nat) (im : Image) (rank L : Nat) (sh : RankShadow) : State :=
  let c := s.core L
  let x := s.part p
  let live := (if c.live.getLsbD 0 then s.readBytes (csBase L + c.carry * 8) 65536 else []) ++
    (if c.live.getLsbD 1 then s.readBytes (csBase L + c.carry * 8 + (if c.live.getLsbD 0 then 65536 else 0)) 65536 else [])
  let recs := c.ledgers.flatMap fun e => s.readBytes (recordAddr L e.1) 0x80
  let s1 := (s.changedPages x im rank L sh).foldl (fun t e =>
    t.absorbEffect L (x.pageAt im.ranks rank (!SMap.getD sh.gens e.1 false) e.1) 4096 7 (s.readBytes (csBase L + e.2.1 * 8) 4096)) s
  s1.modCore L fun c => { c with dataLog := c.dataLog ++ live ++ recs }

/-- A carried page of a core goes to its place in the shadow (08 R220, 07 R193). -/
def State.writePage (s : State) (p L word at' : Nat) : State :=
  (s.partWrite p at' 4096 (s.slice (csBase L + word * 8) 4096)).traffic false (nodeOf (L / 12)) (nodeAt (s.ownerOf at')) 4096

/-- The changed pages go to the generation that does not hold their committed copies. -/
def State.writeChanged (s : State) (p : Nat) (im : Image) (rank L : Nat) (sh : RankShadow) (pages : List (Nat × Nat × Nat)) : State :=
  pages.foldl (fun t e => t.writePage p L e.2.1 ((s.part p).pageAt im.ranks rank (!SMap.getD sh.gens e.1 false) e.1)) s

/-- The changed pages are written, and the header with the new page map goes to the generation that does not hold the committed header
(08 R220, R224 step 1). -/
def State.takeShadow (s : State) (p : Nat) (im : Image) (rank L : Nat) (sh : RankShadow) : State × RankShadow :=
  let c := s.core L
  let pages := s.changedPages (s.part p) im rank L sh
  ((s.writeChanged p im rank L sh pages).settleDeltas,
    { regs := c.regs, entry := c.nextEntry, inboxes := c.inboxes, ledgers := c.ledgers, live := c.live, carry := c.carry
      gen := !sh.gen, gens := pages.foldl (fun m e => SMap.set m e.1 (!SMap.getD sh.gens e.1 false) false) sh.gens })

/-- The words that a part's end reads: changed carried pages, the records of open slots, a doubles part's live tiles (05 R142). -/
def State.endRanges (s : State) (x : Part) (im : Image) (j : Job) (rank L : Nat) : List (Nat × Nat) :=
  let c := s.core L
  ((s.changedPages x im rank L (SMap.getD j.shadow rank {})).map fun e => (csBase L + e.2.1 * 8, 4096)) ++
    (c.ledgers.map fun e => (recordAddr L e.1, 0x80)) ++
    (if j.req.body.doubles then [(csBase L + c.carry * 8, carryWords c.live * 8)] else [])

/-- A write of a shadow page has to wait (06 R172, R173). -/
def State.shadowWaits (s : State) (x : Part) (im : Image) (j : Job) (rank L : Nat) : Bool :=
  let sh := SMap.getD j.shadow rank {}
  (s.changedPages x im rank L sh).any fun e =>
    s.accessWaits (x.pageAt im.ranks rank (!SMap.getD sh.gens e.1 false) e.1) 4096 true

/-- RANK_DURABLE: a part that has ended takes the ledger update of 03 R93 and leaves its generation; copy B's pages are
digested and discarded (08 R224, 13 R379). A word of it that gives no data takes the path of 13 R373. -/
def rankDurable (L : Nat) (s : State) : State :=
  match s.standOf L with
  | none => s
  | some pl =>
    let x := s.part pl.part
    match x.image, x.job with
    | some im, some j =>
      let c := s.core L
      if !c.attempt.ended || c.attempt.durable || j.state != .running || s.shadowWaits x im j pl.rank L then s
      else
        let r := (s.endRanges x im j pl.rank L).foldl (fun (acc : State × List Nat) q =>
          let m := acc.1.readRange q.1 q.2 0 L
          (m.1, acc.2 ++ m.2)) (s, [])
        match r.2 with
        | w :: _ => r.1.coreWordLost L w
        | [] =>
          let s0 := c.ledgers.foldl (fun t e => t.ledgerCommit L e.1 e.2 j.td) r.1
          let s1 := if j.req.body.doubles then s0.absorbEnd pl.part im pl.rank L (SMap.getD j.shadow pl.rank {}) else s0
          let s2 := s1.modCore L fun c => { c with attempt := { c.attempt with durable := true } }
          let s3 := if pl.copyB then s2
            else
              let q := s2.takeShadow pl.part im pl.rank L (SMap.getD j.shadow pl.rank {})
              q.1.modJob pl.part fun j => { j with pendingShadow := SMap.put j.pendingShadow pl.rank q.2 }
          if s3.allDurable j then
            { s3 with sched := { s3.sched with durable := s3.sched.durable ++ [pl.part] } }.reportDurable pl.part
          else s3
    | _, _ => s

def execRankDurable (core : CoreId) (s : State) : Host.Outcome State Fault Refusal := .next (rankDurable core.val s)

/-- A combine of the turn has to wait for its memory (05 R153, 06 R172, R173). -/
def State.combineWaits (s : State) (p td : Nat) : Bool :=
  s.mesh.holds.any fun c => c.part == p && c.turn == td && c.data.any fun d =>
    s.accessWaits d.1 d.2.length false || s.accessWaits d.1 d.2.length true

/-- TURN_COMMIT: with every rank durable, no vote pending and the scheduler running, the turn commits (08 R224, R231,
13 R381). -/
def turnCommit (p : Nat) (s : State) : State :=
  match (s.part p).job with
  | none => s
  | some j =>
    if j.state = .running ∧ s.allDurable j ∧ s.sched.restarting = false ∧ (j.req.body.doubles = false ∨ j.compared) ∧
        (j.req.body.group = false ∨ j.go.isSome) ∧ s.combineWaits p j.td = false then (s.commitTurn p).releaseHeld
    else s

def execTurnCommit (part : PartId) (s : State) : Host.Outcome State Fault Refusal := .next (turnCommit part.val s)

/-- TURN_OVERRUN: an attempt that has begun and not ended reaches 2 ms (08 R223). -/
def turnOverrun (L : Nat) (s : State) : State :=
  let c := s.core L
  if (s.standOf L).isSome && (c.inTurn || c.hold != .none) && !c.attempt.rebuild then s.raise L stOverrun else s

def execTurnOverrun (core : CoreId) (s : State) : Host.Outcome State Fault Refusal := .next (turnOverrun core.val s)

/-- Substitutions that waited for the third copy to end in their cluster go on (13 R400). -/
def State.substituteWaiting (s : State) (c : Nat) : State :=
  (s.cluster c).failing.foldl (fun t e => t.failCore (c * 12 + e.1) e.2) (s.modCluster c fun x => { x with failing := [] })

/-- PART_REBUILD_DONE: the rank's state stands on its core and its part starts again, counted in REPLAYED_PARTS
where it had begun; a rank that was durable does not replay: it is rebuilt after the commit, from the generation that the commit made
current, and the next turn waits for it (08 R220, R224, R226, R235). Copy B's replays are not counted (13 R383). A core whose
substitution waits for a third copy is not rebuilt before it (13 R400). -/
def partRebuildDone (L : Nat) (s : State) : State :=
  match s.standOf L with
  | none => s
  | some pl =>
    if (s.cluster (L / 12)).failing.any (fun e => e.1 == L % 12) then
      if s.thirdRuns (L / 12) then s else s.substituteWaiting (L / 12)
    else if !(s.core L).attempt.rebuild || (s.core L).attempt.durable || (s.cluster (L / 12)).region != .running ||
        (s.cluster (L / 12)).resetting || s.testing (L / 12) then s
    else
      let s1 := s.rebuildCore L
      let s2 := if pl.copyB || !(s.core L).attempt.again || (s1.core L).attempt.rebuild then s1
        else
          (s1.modPart pl.part fun x => { x with replayedParts := x.replayedParts + 1 }).modJob pl.part fun j =>
            { j with replayedParts := j.replayedParts + 1, turnReplays := j.turnReplays + 1 }
      s2.startTurns pl.part

def execPartRebuildDone (core : CoreId) (s : State) : Host.Outcome State Fault Refusal := .next (partRebuildDone core.val s)

/-! ### Loading (08 R227, 05 R149) -/

/-- BACKED_FILL_DONE: one backed region holds its master's bytes (05 R149); the fill crosses the mesh in bulk class (07 R193). A master
that gives no data leaves the region unfilled and the job holds for lost data (13 R371; log 104). -/
def backedFillDone (p region : Nat) (s : State) : State :=
  let x := s.part p
  match x.image, x.job with
  | some im, some j =>
    if j.state = .loading then
      match im.backed[region]? with
      | none => s
      | some b =>
        if s.accessWaits (x.base + b.master) b.length false || s.accessWaits b.addr b.length true then s
        else
          let r := s.copyRead (x.base + b.master) b.addr b.length
          match r.2 with
          | w :: _ => (r.1.wordEvent (w * 8) 3 0 0xFFFF (some p)).holdStatus p evWordUncorrectable
          | [] =>
            (r.1.traffic false (nodeAt (s.ownerOf (x.base + b.master))) (nodeAt (s.ownerOf b.addr)) b.length).modPart p fun y =>
              { y with image := y.image.map fun i => { i with backed := i.backed.set region { b with filled := true } } }
    else s
  | _, _ => s

def execBackedFillDone (part : PartId) (region : Nat) (s : State) : Host.Outcome State Fault Refusal :=
  .next (backedFillDone part.val region s)

/-- JOB_LOAD_DONE: every fill complete and every region running, the ranks are loaded and the job runs (08 R211, R214, R227); a group's job
waits for its admission (09 R253). -/
def jobLoadDone (p : Nat) (s : State) : State :=
  let x := s.part p
  match x.image, x.job with
  | some im, some j =>
    if j.state = .loading ∧ !j.loaded ∧ im.backed.all (fun b => b.filled) ∧
        j.cores.all (fun L => (s.cluster (L / 12)).region == .running && !s.testing (L / 12)) then
      let ranked := (List.range j.placement.length).zip j.placement ++ (List.range j.placementB.length).zip j.placementB
      let r := ranked.foldl (fun (acc : State × List Nat) e =>
        let m := acc.1.loadRank p im e.1 e.2
        (m.1, acc.2 ++ m.2)) (s.clearShadow p im, [])
      match r.2 with
      | w :: _ => (r.1.wordEvent (w * 8) 3 0 0xFFFF (some p)).holdStatus p evWordUncorrectable
      | [] =>
        let s2 := r.1.modJob p fun j => { j with
          loaded := true
          shadow := (List.range j.placement.length).map fun r => (r, ({ entry := im.codeWord } : RankShadow)) }
        if j.req.body.group && !(s2.group j.req.body.groupId).admitted then s2 else s2.runLoaded p
    else s
  | _, _ => s

def execJobLoadDone (part : PartId) (s : State) : Host.Outcome State Fault Refusal := .next (s.scheduled (jobLoadDone part.val s))

/-! ### Doubles mode (13 R378 to R382) -/

/-- A part's two digests (13 R380). -/
def Core.addrDigest (c : Core) : List Byte := shake256 c.addrLog 16
def Core.dataDigest (c : Core) : List Byte := shake256 c.dataLog 16

/-- Ranks whose copies' digests differ (13 R381). -/
def State.differing (s : State) (j : Job) : List Nat :=
  (List.range j.placement.length).filter fun r =>
    let a := s.core (j.placement.getD r 0)
    let b := s.core (j.placementB.getD r 0)
    a.addrDigest != b.addrDigest || a.dataDigest != b.dataDigest

/-- The lowest-numbered running cluster with a reserve slot that is neither copy's (13 R381). -/
def State.thirdCluster (s : State) (la lb : Nat) : Option Nat :=
  (List.range 48).find? fun c =>
    c != la / 12 && c != lb / 12 && (s.cluster c).region == .running && s.inService c && (s.cluster c).lowestReserve.isSome

/-- DOUBLES_MISMATCH with its DETAIL (13 R382). -/
def State.mismatchEvent (s : State) (p rank outcome third : Nat) (dataThird : List Byte) : State :=
  match (s.part p).job with
  | none => s
  | some j =>
    let la := j.placement.getD rank 0
    let lb := j.placementB.getD rank 0
    s.event evDoublesMismatch (some p)
      (leBytes 2 rank ++ leBytes 2 la ++ leBytes 2 lb ++ [BitVec.ofNat 8 outcome, BitVec.ofNat 8 third] ++
        ((s.core la).dataDigest.take 8) ++ ((s.core lb).dataDigest.take 8) ++ dataThird)

/-- Both copies of the ranks run the part again on their own slots (13 R381). -/
def State.rerunRanks (s : State) (j : Job) (ranks : List Nat) : State :=
  ranks.foldl (fun t r =>
    [j.placement.getD r 0, j.placementB.getD r 0].foldl (fun u L =>
      (u.modCore L fun c => { c with attempt := { c.attempt with durable := false, ended := false } }).awaitRebuild L false) t) s

/-- The vote over the ranks that remain (13 R381): a third copy of the first, or both copies of all again where no reserve offers; with none
left the turn may commit. -/
def State.voteOn (s : State) (p : Nat) (ranks : List Nat) : State :=
  match ranks, (s.part p).job with
  | r :: _, some j =>
    match s.thirdCluster (j.placement.getD r 0) (j.placementB.getD r 0) with
    | some c => s.modJob p fun j => { j with vote := some ⟨ranks, some c, false, false⟩ }
    | none => (s.modJob p fun j => { j with vote := some ⟨ranks, none, true, false⟩ }).rerunRanks j ranks
  | _, _ => s.modJob p fun j => { j with vote := none, compared := true }

/-- DOUBLES_COMPARE: with both copies of every rank durable the digests are compared; equal ones let the turn commit,
a difference starts a third copy, or both copies again where no reserve offers (13 R381). After a rerun the ranks that ran again are
compared; a third copy whose cluster has stopped is started again elsewhere. -/
def doublesCompare (p : Nat) (s : State) : State :=
  match (s.part p).job with
  | none => s
  | some j =>
    if !j.req.body.doubles || !s.allDurable j || j.state != .running || j.compared then s
    else
      match j.vote with
      | none => s.voteOn p (s.differing j)
      | some v =>
        if v.rerun then
          match (s.differing j).filter fun r => v.ranks.contains r with
          | [] => (v.ranks.foldl (fun t r => t.mismatchEvent p r 3 0xFF []) s).voteOn p []
          | rs => (rs.foldl (fun t k => t.mismatchEvent p k 2 0xFF []) s).holdStatus p evDoublesMismatch
        else if v.third.any fun c => (s.cluster c).region == .running && s.inService c then s
        else s.voteOn p v.ranks

def execDoublesCompare (part : PartId) (s : State) : Host.Outcome State Fault Refusal := .next (s.scheduled (doublesCompare part.val s))

/-- A core that lost a vote is failed and its rank is taken as durable (13 R381, 08 R224). -/
def State.losesVote (s : State) (L : Nat) : State := s.failCore L 3

/-- An effect that copy B digested, made again for copy A by the third copy: its writes, and its contributions to reductions (13 R379,
R381). -/
def State.landEffect (s : State) (p la kind a : Nat) (data : List Byte) : State :=
  if kind = 1 ∨ kind = 2 then s.partWrite p a data.length (SMap.ofList data 0 0)
  else if kind % 16 = 3 then
    let td := ((s.part p).job.map Job.td).getD 0
    (chunksOf false data.length).foldl (fun t ch =>
      (t.bySite (a + ch.1) ((data.drop ch.1).take ch.2)).foldl (fun u e =>
        u.addContribution ⟨e.1, la, u.arch.seat, p, td, kind / 16, e.2, 0xFFFF, 0⟩) t) s
  else s

/-- The effects of a part's logs in issue order, address log and data log read side by side (13 R380). -/
def State.landDiscarded (s : State) (p la : Nat) (n : Nat) (addrs data : List Byte) : State :=
  match n with
  | 0 => s
  | k + 1 =>
    match addrs with
    | [] => s
    | _ =>
      let a := (leWord (addrs.take 8)).toNat
      let len := (leWord ((addrs.drop 8).take 8)).toNat
      let kind := ((addrs.drop 16).headD 0).toNat
      State.landDiscarded (s.landEffect p la kind a (data.take len)) p la k (addrs.drop 17) (data.drop len)

/-- What copy B's core wrote into inbox slots of copy B ranks stands in the same slots of copy A ranks. -/
def State.landRelays (s : State) (j : Job) (la lb : Nat) : State :=
  (j.placement.zip j.placementB).foldl (fun t d =>
    (t.core d.1).inboxes.foldl (fun u b =>
      (List.range b.2.slots.length).foldl (fun v i =>
        match b.2.slots.getD i .empty, ((v.core d.2).inbox b.1).slots.getD i .empty with
        | .written x _, .written y _ =>
          if x = la ∧ y = lb then
            v.writeBytes (csBase d.1 + (b.2.base + i * b.2.slotWords) * 8)
              (v.readBytes (csBase d.2 + (((v.core d.2).inbox b.1).base + i * b.2.slotWords) * 8) (b.2.slotWords * 8))
          else v
        | _, _ => v) u) t) s

/-- The third copy runs the part again as copy A with its writes enabled (13 R381): what copy A's core had in reduction holds is withdrawn,
and the effects, the shadow, the signals and the freed slots are those that copy B agrees with. -/
def State.rewrite (s : State) (p : Nat) (j : Job) (r la lb : Nat) : State :=
  let b := s.core lb
  let s1 := match (s.part p).image with
    | some im =>
      let q := s.takeShadow p im r lb (SMap.getD j.shadow r {})
      q.1.modJob p fun j => { j with pendingShadow := SMap.put j.pendingShadow r { q.2 with inboxes := renameInboxes j.nameOf q.2.inboxes } }
    | none => s
  let s2 := (s1.withdrawHeld p (some la)).landDiscarded p la (b.addrLog.length / 17) b.addrLog b.dataLog
  (s2.landRelays j la lb).modCore la fun c =>
    { c with signals := b.signals, closedSlots := b.closedSlots.map fun f => (f.1, f.2.1, j.nameOf f.2.2)
             addrLog := b.addrLog, dataLog := b.dataLog }

/-- THIRD_COPY_DONE: the vote of the first rank in question resolves by agreement of both digests, and the vote goes on with the next (13
R381). -/
def thirdCopyDone (p : Nat) (ad dd : BitVec 128) (s : State) : State :=
  match (s.part p).job with
  | none => s
  | some j =>
    match j.vote with
    | none => s
    | some v =>
      match v.ranks, v.third with
      | r :: rest, some c =>
        let la := j.placement.getD r 0
        let lb := j.placementB.getD r 0
        let third := leBytes 16 dd.toNat
        let thirdA := leBytes 16 ad.toNat
        let a := s.core la
        let b := s.core lb
        let agrees := fun (x : Core) => x.addrDigest == thirdA && x.dataDigest == third
        let s1 := s.modJob p fun j => { j with vote := some { v with third := none } }
        if agrees a then (((s1.mismatchEvent p r 0 c (third.take 8)).losesVote lb).substituteWaiting c).voteOn p rest
        else if agrees b ∧ a.addrDigest = thirdA then
          ((((s1.mismatchEvent p r 1 c (third.take 8)).rewrite p j r la lb).losesVote la).substituteWaiting c).voteOn p rest
        else ((s1.mismatchEvent p r 2 c (third.take 8)).holdStatus p evDoublesMismatch).substituteWaiting c
      | _, _ => s

def execThirdCopyDone (part : PartId) (addrDigest dataDigest : BitVec 128) (s : State) :
    Host.Outcome State Fault Refusal := .next (s.scheduled (thirdCopyDone part.val addrDigest dataDigest s))

end Sys2Proof.Machine
end

