-- ==== Sys2Proof/Machine/Strait.lean ====
section
/-! DEFINITION. Strait links and the archipelago as they happen (09): flits and lanes, packets between modules,
membership, time, pace, group commits, collectives, mirrors. A packet's command gives the engine it arrives on; the data of packets whose
layout the spec does not give comes as its operand (log 19). -/

namespace Sys2Proof.Machine

/-! ### Link layer and lanes (R238, R239, R242) -/

/-- FLIT_CRC_ERROR: a flit arrives that is bad: its CRC, its KIND or its SEQ. The receiver reports the SEQ it misses and counts the replay,
and discards until that flit arrives (R237, R238). -/
def flitCrcError (e : Nat) (f : Flit) (s : State) : State :=
  let x := s.engine e
  if x.state = 2 ∧ x.missing = none ∧ Sys2Proof.Machine.Flit.bad f x.expect then
    (s.modEngine e fun x => { x with retries := x.retries + 1, missing := some x.expect }).emit
      (.linkReplay (unitCode 0x0B e 0 0 ||| (x.expect.zeroExtend 64 <<< 32)))
  else s

def execFlitCrcError (e : EngineId) (f : Flit) (s : State) : Host.Outcome State Fault Refusal := .next (flitCrcError e.val f s)

/-- LINK_CONTROL_FLIT: the far end misses a flit, and the transmitter replays from it, of the 4,096 that it keeps (R238). -/
def linkControlFlit (e : Nat) (missing : W16) (s : State) : State :=
  if (s.engine e).state = 2 then s.emit (.flits e ((s.engine e).store.dropWhile fun f => f.seq != missing)) else s

def execLinkControlFlit (e : EngineId) (missing : W16) (s : State) : Host.Outcome State Fault Refusal :=
  .next (linkControlFlit e.val missing s)

/-- LANE_FAILURE: a lane that carries traffic is taken out of use and the link pauses; what would leave waits (R239 step 1). -/
def laneFailure (e lane : Nat) (s : State) : State :=
  let x := s.engine e
  if x.state = 2 ∧ x.laneUse.getLsbD lane ∧ !x.paused.contains lane then
    s.modEngine e fun x => { x with paused := x.paused ++ [lane], good := x.good &&& ~~~(BitVec.ofNat 9 (2 ^ lane)) }
  else s

def execLaneFailure (e : EngineId) (lane : Fin 9) (s : State) : Host.Outcome State Fault Refusal :=
  .next (laneFailure e.val lane.val s)

/-- One failed lane gives way: the spare takes its place, or the engine narrows, or it leaves service below four lanes, and the lane is
logged (R239 steps 2 to 4). -/
def State.laneOut (s : State) (e lane : Nat) : State :=
  let x := s.engine e
  let left := x.laneUse &&& ~~~(BitVec.ofNat 9 (2 ^ lane))
  let spare := if x.width = 8 then (List.range 9).find? fun l => !x.laneUse.getLsbD l && x.good.getLsbD l else none
  let s1 := s.logRequest (unitCode 0x0A e lane 0) 4 evLaneSpared
  if x.state ≠ 2 then s1
  else
    match spare with
    | some l => (s1.modEngine e fun y => { y with laneUse := left ||| BitVec.ofNat 9 (2 ^ l) }).laneEvent e lane 0
    | none =>
      let s2 := s1.modEngine e fun y => { y with laneUse := left }
      if 4 ≤ (s2.engine e).width then s2.laneEvent e lane 1
      else (s2.modEngine e fun y => { y with state := 3, laneUse := 0, waiting := [] }).laneEvent e lane 2

/-- LANE_PAUSE_END: the two engines have agreed on the lanes left; the flits that the pause held go out (R238, R239). -/
def lanePauseEnd (e : Nat) (s : State) : State :=
  let s1 := (s.engine e).paused.foldl (fun t lane => t.laneOut e lane) s
  let held := (s1.engine e).waiting
  let s2 := s1.modEngine e fun x => { x with paused := [], waiting := [] }
  held.foldl (fun t p => t.sendFlits e p) s2

def execLanePauseEnd (e : EngineId) (s : State) : Host.Outcome State Fault Refusal := .next (lanePauseEnd e.val s)

def seatBit (k : Nat) : W64 := BitVec.ofNat 64 (2 ^ k)

/-- Lanes that the field defect log leaves an engine (R239, 11 R320). -/
def State.lanesLogged (s : State) (e : Nat) : BitVec 9 :=
  (List.range 9).foldl (fun m l =>
    if s.log.entries.any fun x => x.unit == unitCode 0x0A e l 0 then m &&& ~~~(BitVec.ofNat 9 (2 ^ l)) else m) 0x1FF

/-- The lanes that carry traffic after training: the first eight good ones (R236). -/
def firstEight (good : BitVec 9) : BitVec 9 :=
  ((List.range 9).filter fun l => good.getLsbD l).take 8 |>.foldl (fun m l => m ||| BitVec.ofNat 9 (2 ^ l)) 0

/-- A seat to which some copy of a message can leave. -/
def Arch.reaches (a : Arch) (k : Nat) : Bool :=
  !(a.trunkEngines (a.copyTrunks k).1).isEmpty || !(a.trunkEngines (a.copyTrunks k).2).isEmpty

/-- A joining or rejoining module announces itself to every seat that it can reach and has not told yet (R247 step 3, R250). -/
def State.announce (s : State) : State :=
  ((List.range s.arch.size).filter fun k => k != s.arch.seat && !s.arch.announced.getLsbD k && s.arch.reaches k).foldl (fun t k =>
    ({ t with arch := { t.arch with announced := t.arch.announced ||| seatBit k } }).sendMember k (.join (Fin.ofNat 64 s.arch.seat))) s

/-- The peer's identity stands in the archipelago member list of the Morrik image (R247 step 2). -/
def State.knownPeer (s : State) (seat : Nat) (serial : BitVec 128) : Bool :=
  match s.start.image with
  | some m => m.seats.any fun k => k.valid && k.seat.toNat == seat && k.serial == serial
  | none => false

/-- The lanes of a trained engine: the first eight good ones, none below four (R236, R239). -/
def State.useLanes (s : State) (e : Nat) : State :=
  s.modEngine e fun x =>
    if 4 ≤ ({ x with laneUse := firstEight x.good }).width then { x with state := 2, laneUse := firstEight x.good }
    else { x with state := 3, laneUse := 0 }

/-- ENGINE_LINK_UP: an engine whose peer is the one of R241 enters service; any other leaves service as miscabled (R242). Both sides have
signed with their identity keys: the trunk of a peer that fails the check stays out of service (R247 step 2). A module that joins, or was
isolated, announces itself (R247, R250; log 115). -/
def engineLinkUp (e peerSeat peerEngine : Nat) (serial : BitVec 128) (signed : Bool) (s : State) : State :=
  match s.arch.trunkOf e with
  | none => s
  | some (trunk, ps, pe) =>
    if (s.engine e).state = 2 then s
    else
      let s1 := s.modEngine e fun x =>
        { x with peerSeat := peerSeat, peerEngine := peerEngine, trunk := trunk, good := s.lanesLogged e, paused := [], waiting := []
                 next := 0, expect := 0, missing := none, store := [] }
      if ps ≠ peerSeat ∨ pe ≠ peerEngine then
        (s1.modEngine e fun x => { x with state := 3, laneUse := 0 }).laneEvent e 0 3
      else if !signed || !s.knownPeer peerSeat serial then
        ((List.range 24).filter fun k => (s.arch.trunkOf k).map Prod.fst == some trunk).foldl (fun t k =>
          t.modEngine k fun x => { x with state := 3, laneUse := 0, paused := [], waiting := [] }) s1
      else
        let s2 := s1.useLanes e
        if (s2.engine e).state ≠ 2 then s2
        else if s2.arch.state = 3 then ({ s2 with arch := { s2.arch with announced := 0 } }).announce
        else if s2.arch.state = 1 then s2.announce
        else s2

def execEngineLinkUp (e : EngineId) (peerSeat : Fin 64) (peerEngine : Fin 24) (serial : BitVec 128) (signed : Bool) (s : State) :
    Host.Outcome State Fault Refusal := .next (engineLinkUp e.val peerSeat.val peerEngine.val serial signed s)

/-! ### Packets (R243 to R245) -/

/-- The partition of a group's job, whatever its state. -/
def State.groupHome (s : State) (g : W32) : Option Nat :=
  (s.sched.parts.find? fun e =>
    match e.2.job with
    | some j => j.req.body.group && j.req.body.groupId == g
    | none => false).map Prod.fst

/-- What a DATA or REDUCE packet meets at its destination (R258, R265). -/
def State.straitStatusOf (s : State) (g : W32) (addr n : Nat) : W16 :=
  match s.groupHome g with
  | none => stUnmapped
  | some p =>
    let x := s.part p
    let sp := x.programSpace
    if x.clearing.isSome then stResetting
    else if x.session.isSome ∧ sp.1 ≤ x.base + addr ∧ x.base + addr + n ≤ sp.2 then stOk
    else stUnmapped

/-- This member has yet to commit a turn that a packet's collective belongs to: the packet is not taken, and comes again (R244, R258; log 22). -/
def State.tooEarly (s : State) (g : W32) (turn : Nat) : Bool :=
  match s.groupPart g with
  | none => false
  | some p => ((s.part p).job.map fun j => decide (j.td ≤ turn)).getD false

/-- A packet of a collective for this seat: it is taken once and acknowledged, or answered with the status that it meets (R243, R244, R258,
R265). `act` has its effect in the group's partition. -/
def State.collectivePacket (s : State) (e : Nat) (p : StraitPkt) (typ : Nat) (act : Nat → State → State) : State :=
  s.straitPacket e p typ fun t =>
    if t.tooEarly p.groupId p.turn.toNat then t
    else
      let a := ((t.groupHome p.groupId).map fun k => (t.part k).base).getD 0 + p.addr.toNat
      let node := nodeAt (t.ownerOf a)
      let st := t.straitStatusOf p.groupId p.addr.toNat p.data.length
      let reply := fun (u : State) => u.straitAnswer node p (if st = stOk then 0x02 else 0x09) st
      let u := t.straitFresh p
      if !u.2 then (if t.straitHad p then reply t else t)
      else
        match u.1.groupHome p.groupId with
        | some k => if st = stOk then reply (act k (u.1.traffic false (engineNode e) node (32 + p.data.length))) else reply u.1
        | none => reply u.1

/-- A collective of a group's turn, with the share of it whose source or destination range holds an offset. -/
def State.reductionAt (s : State) (g : W32) (turn addr : Nat) (map : W64) (dst : Bool) : Option (Collective × Chunk) :=
  (s.arch.collectives.filter fun c => c.group == g && c.turn == turn && decide (c.desc.op ≤ 2)).findSome? fun c =>
    ((c.desc.chunks map s.arch.size).find? fun h =>
      let lo := if dst then c.desc.placeOf s.arch.size h else c.desc.src + h.off
      decide (lo ≤ addr) && decide (addr < lo + h.len) && (!dst || c.desc.op == 1)).map fun h => (c, h)

/-- The map of a partition's group job. -/
def State.groupMapOf (s : State) (p : Nat) : W64 := ((s.part p).job.map fun j => j.req.body.groupMap).getD 0

/-- An ALL_REDUCE's result goes on to the next seats (R259; log 22). -/
def State.passOn (s : State) (k : Nat) (p : StraitPkt) : State :=
  match s.reductionAt p.groupId p.turn.toNat p.addr.toNat (s.groupMapOf k) true with
  | none => s
  | some (_, h) =>
    (s.arch.gathers (s.groupMapOf k) h s.arch.seat).foldl (fun t d =>
      t.sendStrait (nodeAt (t.ownerOf ((t.part k).base + p.addr.toNat))) 0x01 false d p.groupId p.turn.toNat p.addr.toNat 0 p.data) s

/-- STRAIT_DATA: a block lands at its offset in the destination partition (R243), or the packet goes on to its seat. -/
def straitData (e : Nat) (p : StraitPkt) (s : State) : State :=
  s.collectivePacket e p 0x01 fun k t =>
    (t.partWrite k ((t.part k).base + p.addr.toNat) p.data.length (SMap.ofList p.data 0 0)).passOn k p

def execStraitData (e : EngineId) (p : StraitPkt) (s : State) : Host.Outcome State Fault Refusal :=
  .next (straitData e.val p s)

/-- STRAIT_ACK: the packet that it names needs no resend (R244, R245). -/
def straitAck (e : Nat) (p : StraitPkt) (s : State) : State := s.straitPacket e p 0x02 fun t => t.straitDone p

def execStraitAck (e : EngineId) (p : StraitPkt) (s : State) : Host.Outcome State Fault Refusal := .next (straitAck e.val p s)

/-- A group's collectives end with a status, and its job holds (R258, R265). -/
def State.failCollectives (s : State) (g : W32) (turn : Nat) (st : W16) : State :=
  let s1 := { s with arch := { s.arch with collectives := s.arch.collectives.filter fun c => !(c.group == g && c.turn == turn) } }
  match s1.groupPart g with
  | some p => s1.holdStatus p st
  | none => s1

/-- STRAIT_STATUS: a packet was refused at its destination; its collective completes with that status (R265). -/
def straitStatus (e : Nat) (p : StraitPkt) (s : State) : State :=
  s.straitPacket e p 0x09 fun t =>
    match t.arch.sent.find? fun q => q.2.destSeat == p.srcSeat &&
        Sys2Proof.Machine.StraitPkt.assuredClass q.2 == Sys2Proof.Machine.StraitPkt.assuredClass p && q.2.seq == p.seq with
    | none => t
    | some q => if p.status = stOk then t.straitDone p else (t.straitDone p).failCollectives q.2.groupId q.2.turn.toNat p.status

def execStraitStatus (e : EngineId) (p : StraitPkt) (s : State) : Host.Outcome State Fault Refusal := .next (straitStatus e.val p s)

/-! ### Reduction engines (R259) -/

/-- Two blocks combined word by word under RED_OP. -/
def combineBlock (op : Nat) (own arriving : List Byte) : List Byte :=
  (List.range (arriving.length / 8)).flatMap fun i =>
    leBytes 8 (combineWord op (leWord ((own.drop (8 * i)).take 8)) (leWord ((arriving.drop (8 * i)).take 8))).toNat

/-- The fingerprint record of a combine at a strait port (03 R96): its site, its ordinal in the collective, the contributor. Of an arriving
block that holds several members' data the record names the seat that sent it, and core 0 (log 116). -/
def State.straitRecord (s : State) (p e seat turn step : Nat) : State :=
  let site := 0x100 + e
  s.modJob p fun j => { j with
    absorbers := SMap.put j.absorbers site (SMap.getD j.absorbers site [] ++
      (leBytes 8 turn ++ leBytes 2 site ++ leBytes 2 (step % 65536) ++ leBytes 4 (seat % 64 * 65536))) }

def State.setCollective (s : State) (c d : Collective) : State :=
  { s with arch := { s.arch with collectives := s.arch.collectives.map fun x => if x = c then d else x } }

/-- A combine at a reduction engine: the block so far with one that has arrived, and its record. -/
def State.combineOne (s : State) (k turn red : Nat) (acc : List Byte × SMap Nat) (b : PartialBlock) : State × List Byte × SMap Nat :=
  let step := SMap.getD acc.2 b.engine 0
  (s.straitRecord k b.engine b.seat turn step, combineBlock red acc.1 b.data, SMap.put acc.2 b.engine (step + 1))

/-- The result of this member's combine goes on to the next seat, or stands at the share's owner, from where an ALL_REDUCE's result goes
round (R259). -/
def State.combined (s : State) (k e : Nat) (c : Collective) (h : Chunk) (addr : Nat) (data : List Byte) : State :=
  let map := s.groupMapOf k
  match s.arch.onward map h s.arch.seat with
  | some d => s.sendStrait (engineNode e) 0x03 false d c.group c.turn addr 0 data
  | none =>
    let place := c.desc.placeOf s.arch.size h + (addr - (c.desc.src + h.off))
    let t := s.partWrite k ((s.part k).base + place) data.length (SMap.ofList data 0 0)
    if c.desc.op = 1 then
      (t.arch.gathers map h t.arch.seat).foldl (fun u d =>
        u.sendStrait (nodeAt (u.ownerOf ((u.part k).base + place))) 0x01 false d c.group c.turn place 0 data) t
    else t

/-- A partial block stands at the member's engine; with the last one that it waits for the member combines them with its own, in the fixed
order of seats, in a full mesh in the order of arrival (R259). -/
def State.takeBlock (s : State) (k : Nat) (c : Collective) (h : Chunk) (b : PartialBlock) : State :=
  let feeders := s.arch.feeders (s.groupMapOf k) h s.arch.seat
  let here := (c.arrived ++ [b]).filter fun x => x.addr == b.addr
  if !feeders.all fun f => here.any fun x => x.seat == f then s.setCollective c { c with arrived := c.arrived ++ [b] }
  else
    let blocks := if s.arch.topology = 3 then here else feeders.filterMap fun f => here.find? fun x => x.seat == f
    let own := s.readBytes ((s.part k).base + b.addr) b.data.length
    let r := blocks.foldl (fun acc x => acc.1.combineOne k c.turn c.desc.red acc.2 x) (s, own, c.steps)
    (r.1.setCollective c { c with steps := r.2.2, arrived := c.arrived.filter fun x => x.addr != b.addr }).combined k b.engine c h b.addr r.2.1

/-- STRAIT_REDUCE: the reduction engine combines the partial block with the member's own under RED_OP (R257, R259). A block of no collective
that runs here changes nothing. -/
def straitReduce (e : Nat) (p : StraitPkt) (s : State) : State :=
  s.collectivePacket e p 0x03 fun k t =>
    match t.reductionAt p.groupId p.turn.toNat p.addr.toNat (t.groupMapOf k) false with
    | some (c, h) => t.takeBlock k c h ⟨p.addr.toNat, p.srcSeat.toNat, e, p.data⟩
    | none => t

def execStraitReduce (e : EngineId) (p : StraitPkt) (s : State) : Host.Outcome State Fault Refusal :=
  .next (straitReduce e.val p s)

/-- COLLECTIVE_COMPLETE: this module's own block stands in an ALL_GATHER's destination too (R257); a job that waited for it
goes on (R258). A status other than OK holds the group's job (R265). -/
def collectiveComplete (g : W32) (turn slot : Nat) (st : W16) (s : State) : State :=
  match s.arch.collectives.find? fun c => c.group == g && c.turn == turn && c.slot == slot with
  | none => s
  | some c =>
    let s1 := { s with arch := { s.arch with collectives := s.arch.collectives.filter fun x => x != c } }
    match s1.groupPart g with
    | none => s1
    | some p =>
      if st ≠ stOk then s1.holdStatus p st
      else
        let base := (s1.part p).base
        let s2 := if c.desc.op = 3 then
            s1.partWrite p (base + c.desc.dst + s.arch.seat * c.desc.len) c.desc.len (s1.slice (base + c.desc.src) c.desc.len)
          else s1
        s2.endWait p

def execCollectiveComplete (group : W32) (turn : W64) (slot : Byte) (status : W16) (s : State) :
    Host.Outcome State Fault Refusal := .next (collectiveComplete group turn.toNat slot.toNat status s)

/-- STRAIT_BULK_RESEND: 40 us without acknowledgement; the packet goes again with RESEND set (R244). -/
def straitResend (dest : Nat) (seq : W32) (assured : Bool) (mark : Byte) (s : State) : State :=
  match s.arch.sent.find? fun q =>
      q.2.destSeat.toNat == dest && Sys2Proof.Machine.StraitPkt.assuredClass q.2 == assured && q.2.seq == seq with
  | none => s
  | some q => s.leaveStrait q.1 { q.2 with flags := q.2.flags ||| mark }

def execStraitBulkResend (destSeat : Fin 64) (seq : W32) (s : State) : Host.Outcome State Fault Refusal :=
  .next (straitResend destSeat.val seq false 4 s)

/-- STRAIT_ASSURED_RESEND: 200 us without acknowledgement; both copies go again (R245). -/
def execStraitAssuredResend (destSeat : Fin 64) (seq : W32) (s : State) : Host.Outcome State Fault Refusal :=
  .next (straitResend destSeat.val seq true 0 s)

/-! ### Mirrors (R260) -/

/-- The journal's entries from the oldest. -/
def Journal.inOrder (j : Journal) : List JEntry :=
  let cut := j.next % 1048576
  ((j.ring.filter fun e => decide (cut ≤ e.1)) ++ j.ring.filter fun e => decide (e.1 < cut)).map Prod.snd

/-- Responses whose ACCEPTED entry no longer waits for a mirror leave (R260, 10 R277). -/
def State.releaseResponses (s : State) : State :=
  let ready := s.host.delayed.filter fun d => !s.arch.mirrorWait.contains d.1
  let s1 := { s with host := { s.host with delayed := s.host.delayed.filter fun d => s.arch.mirrorWait.contains d.1 } }
  ready.foldl (fun t d => t.emit (.response d.2.1 d.2.2)) s1

/-- The holder of the mirror has changed: the last 131,072 assured entries go to the new one (R260). -/
def State.remirror (s : State) : State :=
  match s.mirrorHolder with
  | none => ({ s with arch := { s.arch with mirrorWait := [] } }).releaseResponses
  | some k =>
    let es := s.journal.inOrder.filter JEntry.assured
    (es.drop (es.length - 131072)).foldl (fun t e => t.sendStrait Attached.firmwarePairs.node 0x08 true k 0 0 0 0 e.bytes) s

/-- JOURNAL_MIRROR: the holder keeps the entry in the sender's ring of 131,072 and acknowledges it. -/
def journalMirror (e : Nat) (p : StraitPkt) (entry : List Byte) (s : State) : State :=
  s.straitTake e p 0x08 fun t =>
    let k := p.srcSeat.toNat
    let ring := SMap.getD t.arch.mirrors k [] ++ [entry]
    { t with arch := { t.arch with mirrors := SMap.put t.arch.mirrors k (ring.drop (ring.length - 131072)) } }

def execJournalMirror (e : EngineId) (p : StraitPkt) (entry : List Byte) (s : State) : Host.Outcome State Fault Refusal :=
  .next (journalMirror e.val p entry s)

/-- MIRROR_ACK: the holder has the entry, and responses that waited for it leave; a removal that waited for MODULE_LEFT goes
on to finishing writes (16 R454 step 3). -/
def mirrorAck (e : Nat) (p : StraitPkt) (jseq : Nat) (s : State) : State :=
  s.straitPacket e p 0x02 fun u =>
    let d := u.straitDone p
    let t := ({ d with arch := { d.arch with mirrorWait := d.arch.mirrorWait.filter fun k => k != jseq } }).releaseResponses
    if t.chassis.leaving = some jseq then t.finishWrites else t

def execMirrorAck (e : EngineId) (p : StraitPkt) (jseq : W64) (s : State) : Host.Outcome State Fault Refusal :=
  .next (mirrorAck e.val p jseq.toNat s)

/-! ### Membership (R247 to R251) -/

def memberCount (m : W64) : Nat := (seatsOf m).length

/-- The present members with the lowest and the next master-eligible seats (R248); the master stands for a deputy that is
not there. -/
def Arch.elect (a : Arch) (members : W64) : Option (Nat × Nat) :=
  match (List.range 64).filter fun k => members.getLsbD k && a.eligible.contains k with
  | [] => none
  | [m] => some (m, m)
  | m :: d :: _ => some (m, d)

/-- A member map takes effect: this module's role follows, and its mirror moves where the holder changes, one that a rejoin finds again
among them (R260). -/
def State.setMap (s : State) (state : Nat) (members : W64) (epoch : W16) (master deputy : Nat) : State :=
  let old := s.mirrorHolder
  let role := if s.arch.seat = master then 3 else if s.arch.seat = deputy then 2 else 1
  let s1 := { s with arch := { s.arch with
    state := state, members := members, epoch := epoch, master := master, deputy := deputy, role := role, electing := false } }
  if s1.mirrorHolder = old then s1 else s1.remirror

/-- The master's map as a notice, with whether the seats that it leaves out left as planned (R251). -/
def Arch.mapNote (a : Arch) (planned : Bool) : MemberNote :=
  .map a.members a.epoch (Fin.ofNat 64 a.master) (Fin.ofNat 64 a.deputy) planned

/-- The master sends its map to all members (R247 step 4). -/
def State.sendMap (s : State) (planned : Bool) : State := s.otherSeats.foldl (fun t k => t.sendMember k (s.arch.mapNote planned)) s

/-- MASTER_TAKEOVER with its DETAIL (10 R476). -/
def State.takeoverEvent (s : State) (reason old : Nat) : State :=
  let a := s.arch
  s.event evMasterTakeover none
    ([BitVec.ofNat 8 reason, BitVec.ofNat 8 old, BitVec.ofNat 8 a.master,
      if a.deputy = a.master then 0xFF else BitVec.ofNat 8 a.deputy] ++ leBytes 2 a.epoch.toNat)

/-- MODULE_LEFT with its DETAIL (10 R476). -/
def State.leftEvent (s : State) (reason seat : Nat) : State :=
  s.event evModuleLeft none
    ([BitVec.ofNat 8 reason, BitVec.ofNat 8 seat, BitVec.ofNat 8 (memberCount s.arch.members), 0] ++ leBytes 2 s.arch.epoch.toNat)

/-- Partitions whose job's group holds a seat. -/
def State.groupPartsWith (s : State) (seat : Nat) : List (Nat × W32) :=
  s.sched.parts.filterMap fun e =>
    match e.2.job with
    | some j => if j.req.body.group && j.req.body.groupMap.getLsbD seat then some (e.1, j.req.body.groupId) else none
    | none => none

/-- Group jobs with a member that is gone hold with reason Capacity at the last group commit, and their collectives are abandoned; a job that
has reported its turn first learns whether the commit was decided (R256, R265). -/
def State.groupsLose (s : State) (seat : Nat) : State :=
  (s.groupPartsWith seat).foldl (fun t e =>
    let u := { t with arch := { t.arch with collectives := t.arch.collectives.filter fun c => c.group != e.2 } }
    if ((u.part e.1).job.map Job.reported).getD false then u.modJob e.1 fun j => { j with lost := true } else u.holdCapacity e.1) s

/-- With the new master's first message no decided commit is outstanding: jobs that waited for one hold (R249, R256). -/
def State.settleLost (s : State) : State :=
  (s.sched.parts.map Prod.fst).foldl (fun t p =>
    match (t.part p).job with
    | some j => if j.lost && j.go.isNone then (t.modJob p fun j => { j with lost := false }).holdCapacity p else t
    | none => t) s

/-- A new master completes the commits that the old one decided (R249, R255, R256). -/
def State.completeDecided (s : State) : State :=
  s.arch.groups.foldl (fun t e =>
    match e.2.decided with
    | none => t
    | some (turn, mm) =>
      let g := BitVec.ofNat 32 e.1
      let t1 := (seatsOf e.2.map).foldl (fun u k =>
        if k = u.arch.seat || !u.arch.members.getLsbD k then u else u.sendCommit k g (.commit g (BitVec.ofNat 64 turn) mm)) t
      match t1.groupPart g with
      | some p => t1.modJob p fun j => if j.td = turn ∧ j.reported then { j with go := some mm } else j
      | none => t1) s

/-- A present seat decides for its side: the master, or in turn the deputy and the lowest seat that is left (R248, R249). -/
def Arch.decides (a : Arch) (side : W64) : Bool :=
  let who := if side.getLsbD a.master then a.master else if side.getLsbD a.deputy then a.deputy else ((a.elect side).map Prod.fst).getD a.seat
  who == a.seat

/-- Seats are gone from the map: roles pass, the epoch rises, the loss is journalled and their groups hold (R249, R251, R256). A master
completes what was decided and sends the new map. -/
def State.seatsGone (s : State) (seats : W64) (reason : Nat) : State :=
  let gone := s.arch.members &&& seats &&& ~~~(seatBit s.arch.seat)
  if gone = 0 then s
  else
    let old := s.arch.master
    let was := s.arch.role
    let members := s.arch.members &&& ~~~gone
    let roles := (s.arch.elect members).getD (old, old)
    let s1 := s.setMap s.arch.state members (s.arch.epoch + 1) roles.1 roles.2
    let s2 := if s1.arch.role = 3 ∧ was ≠ 3 then s1.completeDecided else s1
    let s3 := if s2.arch.role = 3 then s2.sendMap (reason == 0) else s2
    let s4 := if gone.getLsbD old then s3.takeoverEvent 0 old else s3
    let s5 := (seatsOf gone).foldl (fun t k => (t.leftEvent reason k).groupsLose k) s4
    if s5.arch.role = 3 ∧ was ≠ 3 then s5.reportAgain else s5

/-- A side of a division goes on (R250): more than half of the previous map, or half of it with the previous master, or
with the previous deputy. -/
def goesOn (prev side : W64) (master deputy : Nat) : Bool :=
  decide (memberCount prev < 2 * memberCount side) ||
    (memberCount prev == 2 * memberCount side && (side.getLsbD master || side.getLsbD deputy))

/-- An isolated module elects no master and holds its group jobs with reason Capacity (R250). -/
def State.isolate (s : State) (gone side : W64) : State :=
  let s1 := { s with arch := { s.arch with members := side, state := 3, role := 0 } }
  let parts := s1.sched.parts.filterMap fun e =>
    match e.2.job with
    | some j => if j.req.body.group then some e.1 else none
    | none => none
  parts.foldl (fun t p => t.holdCapacity p) (((seatsOf gone).foldl (fun t k => t.leftEvent 1 k) s1).remirror)

/-- MEMBER_LOSS_TIMEOUT: a seat has not been heard for 10 ms, and with it those of `unheard` (R249). Losses that follow one another within
50 ms, in which a takeover ends, are judged against one previous map: the side goes on or is isolated as a whole (R250, log 23). The
master takes the seats out of the map, or the deputy where the master is gone; other members take the map from it. -/
def memberLossTimeout (seat : Nat) (unheard : W64) (s : State) : State :=
  if s.arch.state ≠ 2 ∨ !s.arch.members.getLsbD seat ∨ seat = s.arch.seat then s
  else
    let now := s.timeBase.toNat
    let same := (s.arch.lossFrom.map fun t => decide (now - t < 50000000)).getD false
    let a := if same then s.arch else { s.arch with
      prevMembers := s.arch.members, prevMaster := s.arch.master, prevDeputy := s.arch.deputy, lossFrom := some now }
    let s1 := { s with arch := a }
    let gone := (unheard ||| seatBit seat) &&& a.members &&& ~~~(seatBit a.seat)
    let side := a.members &&& ~~~gone
    if !goesOn a.prevMembers side a.prevMaster a.prevDeputy then s1.isolate gone side
    else if a.decides side then s1.seatsGone gone 1
    else s1

def execMemberLossTimeout (seat : Fin 64) (unheard : W64) (s : State) : Host.Outcome State Fault Refusal :=
  .next (memberLossTimeout seat.val unheard s)

/-- A join notice (R247, R248): the master takes the module into the map and raises the epoch; one that it has in the map is sent the map
again. One with a lower eligible seat takes the role over at once, with the master's state. A module that waits for a master notes who is
there. -/
def State.joinNotice (s : State) (seat : Nat) : State :=
  let a := s.arch
  if a.state = 1 then { s with arch := { a with members := a.members ||| seatBit seat ||| seatBit a.seat } }
  else if a.role ≠ 3 then s
  else if a.members.getLsbD seat then s.sendMember seat (a.mapNote false)
  else
    let members := a.members ||| seatBit seat
    let roles := (a.elect members).getD (a.master, a.deputy)
    let s1 := s.setMap a.state members (a.epoch + 1) roles.1 roles.2
    let s2 := s1.sendMap false
    if roles.1 ≠ a.master then (s2.sendMember roles.1 (.handover (a.groups.map fun e => (BitVec.ofNat 32 e.1, e.2)))).takeoverEvent 1 a.master
    else s2

/-- The master's map arrives (R247 to R251): seats that are gone are reported as planned or lost, and a change of master. A new master, or
the one that a module joins, is told what this member waits for. -/
def State.mapNotice (s : State) (members : W64) (epoch : W16) (master deputy : Nat) (planned : Bool) : State :=
  let old := s.arch
  if !members.getLsbD old.seat then s
  else
    let s1 := s.setMap (if old.state = 1 ∧ !s.start.ready then 1 else 2) members epoch master deputy
    if old.state ≠ 2 then s1.reportAgain
    else
      let s2 := if master = old.master then s1 else s1.takeoverEvent (if members.getLsbD old.master then 1 else 0) old.master
      let s3 := ((seatsOf old.members).filter fun k => !members.getLsbD k).foldl (fun t k =>
        (t.leftEvent (if planned then 0 else 1) k).groupsLose k) s2
      if master = old.master then s3 else s3.reportAgain

/-- The master's state at a handover (R248): this module keeps what it has reported itself. -/
def State.takeGroups (s : State) (groups : List (W32 × Group)) : State :=
  groups.foldl (fun t e => t.setGroup e.1 { e.2 with lastReport := (t.group e.1).lastReport }) s

/-- Another member of a group holds, or its job has ended (R256). -/
def State.memberHeld (s : State) (seat : Nat) (g : W32) (ended : Bool) : State :=
  if ended then
    match s.groupPart g with
    | some k => ({ s with arch := { s.arch with collectives := s.arch.collectives.filter fun c => c.group != g } }).holdCapacity k
    | none => s
  else
    let x := s.group g
    let t := s.setGroup g { x with held := x.held ++ [seat] }
    match t.groupPart g with
    | some k => t.modJob k fun j => { j with waiting := j.waiting || (j.reported && j.go.isNone) }
    | none => t

/-- MEMBERSHIP: the notices of R247 to R258. The refusal of a turn's descriptor waits until this member has committed that turn. -/
def membership (e : Nat) (p : StraitPkt) (note : MemberNote) (s : State) : State :=
  let early := match note with
    | .refused g turn _ => p.destSeat.toNat == s.arch.seat && s.tooEarly g turn.toNat
    | _ => false
  if early then s
  else
    s.straitTake e p 0x04 fun t =>
      match note with
      | .join seat => t.joinNotice seat.val
      | .leave seat => if t.arch.decides (t.arch.members &&& ~~~(seatBit seat.val)) then t.seatsGone (seatBit seat.val) 0 else t
      | .map m ep master deputy planned => t.mapNotice m ep master.val deputy.val planned
      | .groupReport seat g map turns => if t.arch.role = 3 then (t.noteReport seat.val g map turns).runAdmitted g else t
      | .groupAdmit g => (t.setGroup g { t.group g with admitted := true }).runAdmitted g
      | .groupHeld seat g ended => t.memberHeld seat.val g ended
      | .handover groups => t.takeGroups groups
      | .refused g turn st => t.failCollectives g turn.toNat st

def execMembership (e : EngineId) (p : StraitPkt) (note : MemberNote) (s : State) : Host.Outcome State Fault Refusal :=
  .next (membership e.val p note s)

/-- JOIN_ELECTION_TIMEOUT: no master has answered within 100 ms; among the seats that have announced themselves the lowest
eligible one becomes master (R247, R248). -/
def joinElectionTimeout (s : State) : State :=
  let a := s.arch
  if a.state ≠ 1 then s
  else
    let members := a.members ||| seatBit a.seat
    match a.elect members with
    | some (m, d) =>
      if m = a.seat then
        ((s.setMap (if s.start.ready then 2 else 1) members (a.epoch + 1) m d).sendMap false).reportAgain
      else { s with arch := { a with members := members, electing := true } }
    | none => { s with arch := { a with members := members, electing := true } }

def execJoinElectionTimeout (s : State) : Host.Outcome State Fault Refusal := .next (joinElectionTimeout s)

/-! ### Time and pace (R252, R254) -/

/-- The highest pace that a partition's clusters can sustain under its thermal and cap limits, in Mbeat/s (R254). -/
def State.sustained (s : State) (p : Nat) : Nat :=
  match (s.part p).job with
  | none => 0
  | some j =>
    let of := fun (c : Nat) =>
      let n := nominalPace (max 1 (s.ceiling c - s.power.capCut))
      if (s.cluster c).shed then 0 else min (n * (64 - (s.cluster c).bThrottle) / 64) (n * (64 - s.power.bCap) / 64)
    match (List.range 48).filter j.hosts with
    | [] => 0
    | c :: t => t.foldl (fun m d => min m (of d)) (of c)

/-- The groups with a job here. -/
def State.homeGroups (s : State) : List (W32 × Nat) :=
  s.sched.parts.filterMap fun e =>
    match e.2.job with
    | some j => if j.req.body.group && j.state != .completed && j.state != .discarded then some (j.req.body.groupId, e.1) else none
    | none => none

/-- A report enters the master's table, and the set point is the lowest of its members' (R254). Until every member has reported to this
master, as after a takeover, it only falls (R265). -/
def State.notePace (s : State) (seat : Nat) (g : W32) (pace : Nat) : State :=
  let x := s.group g
  let table := SMap.put x.pace seat pace
  let low := table.foldl (fun m f => min m f.2) pace
  let all := !(seatsOf x.map).isEmpty && (seatsOf x.map).all fun k => (SMap.get? table k).isSome
  s.setGroup g { x with pace := table, setPoint := some (if all then low else min low (x.setPoint.getD low)) }

/-- PACE_REPORT_TICK: a member reports each of its groups' pace to the master (R254). -/
def paceReportTick (s : State) : State :=
  if s.arch.state ≠ 2 then s
  else
    let rs := s.homeGroups.map fun e => (e.1, s.sustained e.2)
    let s1 := rs.foldl (fun t r => t.setGroup r.1 { t.group r.1 with lastReport := r.2 }) s
    if s.arch.role = 3 then rs.foldl (fun t r => t.notePace t.arch.seat r.1 r.2) s1
    else (s1.sendStrait Attached.firmwarePairs.node 0x06 true s.arch.master 0 0 0 0 []).emit
      (.paceReport s.arch.master (rs.map fun r => (r.1, BitVec.ofNat 16 r.2)))

def execPaceReportTick (s : State) : Host.Outcome State Fault Refusal := .next (paceReportTick s)

/-- PACE_REPORT: a member's reports reach the master. -/
def paceReport (e : Nat) (p : StraitPkt) (reports : List (W32 × W16)) (s : State) : State :=
  s.straitTake e p 0x06 fun t =>
    if t.arch.role = 3 then reports.foldl (fun u r => u.notePace p.srcSeat.toNat r.1 r.2.toNat) t else t

def execPaceReport (e : EngineId) (p : StraitPkt) (reports : List (W32 × W16)) (s : State) : Host.Outcome State Fault Refusal :=
  .next (paceReport e.val p reports s)

/-- PACE_TIME_TICK: the master sends its time base and every set point (R252, R254). -/
def paceTimeTick (s : State) : State :=
  if s.arch.role ≠ 3 then s
  else
    let sets := s.arch.groups.filterMap fun e => e.2.setPoint.map fun x => (BitVec.ofNat 32 e.1, BitVec.ofNat 16 x)
    s.otherSeats.foldl (fun t k => (t.sendStrait Attached.firmwarePairs.node 0x05 true k 0 0 0 0 []).emit (.paceTime k s.timeBase sets)) s.settleLost

def execPaceTimeTick (s : State) : Host.Outcome State Fault Refusal := .next (paceTimeTick s)

/-- A member steers its time base by at most 200 ns per message: one behind catches up, one ahead is held back, and none goes backward
(R252; log 24). -/
def State.steer (s : State) (offset : W64) : State :=
  let behind := if offset.toInt < 0 then (-offset.toInt).toNat / 10 else 0
  let ahead := if offset.toInt < 0 then 0 else offset.toNat / 10
  { s with timeBase := s.timeBase + BitVec.ofNat 64 (min 200 behind), arch := { s.arch with timeOffset := offset, slew := min 200 ahead } }

/-- PACE_TIME: a member takes the set points and steers to the master's time, corrected by the measured delay of each hop on copy A's route:
this module's own link's, and the others' that come with the message (R252). -/
def paceTime (e : Nat) (p : StraitPkt) (masterTime otherHops : W64) (sets : List (W32 × W16)) (s : State) : State :=
  s.straitTake e p 0x05 fun t =>
    if p.srcSeat.toNat ≠ t.arch.master then t
    else
      let delay := BitVec.ofNat 64 (t.engine e).delay + otherHops
      let t1 := t.settleLost.steer ((t.timeBase - masterTime) * 10 - delay)
      sets.foldl (fun u r => if (u.groupPart r.1).isSome then u.setGroup r.1 { u.group r.1 with setPoint := some r.2.toNat } else u) t1

def execPaceTime (e : EngineId) (p : StraitPkt) (masterTime otherHops : W64) (setPoints : List (W32 × W16)) (s : State) :
    Host.Outcome State Fault Refusal := .next (paceTime e.val p masterTime otherHops setPoints s)

/-- LINK_DELAY_MEASURE: a link's delay, measured both ways every 1 ms (R252). -/
def linkDelayMeasure (e tenths : Nat) (s : State) : State :=
  if (s.engine e).state = 2 then s.modEngine e fun x => { x with delay := tenths } else s

def execLinkDelayMeasure (e : EngineId) (tenthsNs : W64) (s : State) : Host.Outcome State Fault Refusal :=
  .next (linkDelayMeasure e.val tenthsNs.toNat s)

/-! ### Group commits (R255) -/

/-- The group's commit reaches this module: its scheduler core commits (R255 step 3). -/
def State.groupCommit (s : State) (g : W32) (turn : Nat) (mm : Bool) : State :=
  let x := s.group g
  let s1 := s.setGroup g { x with held := [] }
  match s1.groupPart g with
  | none => s1
  | some p =>
    match (s1.part p).job with
    | some j =>
      if j.td = turn ∧ j.go = none then turnCommit p (s1.modJob p fun j => { j with go := some mm, waiting := false }) else s1
    | none => s1

/-- STRAIT_COMMIT: durable notices at the master, the copy of a decision at the deputy, commits at the members, and what a
group snapshot needs (R255, 13 R398). -/
def straitCommit (e : Nat) (p : StraitPkt) (note : CommitNote) (s : State) : State :=
  s.straitTake e p 0x07 fun t =>
    match note with
    | .durable seat g map turn d => if t.arch.role = 3 then t.noteDurable seat.val g map turn.toNat d else t
    | .commit g turn mm => t.groupCommit g turn.toNat mm
    | .decision g turn mm map => t.setGroup g { t.group g with decided := some (turn.toNat, mm), map := map }
    | .snapshotPoint g turn =>
      match t.groupPart g with
      | some k => t.modPart k fun y => { y with snap := y.snap.map fun n => { n with groupTurn := some turn.toNat } }
      | none => t
    | .snapshotRequest seat g =>
      if t.arch.role = 3 then t.setGroup g { t.group g with snapAsked := (t.group g).snapAsked ++ [seat.val] } else t

def execStraitCommit (e : EngineId) (p : StraitPkt) (note : CommitNote) (s : State) : Host.Outcome State Fault Refusal :=
  .next (straitCommit e.val p note s)

end Sys2Proof.Machine
end

