-- ==== Sys2Proof/Machine/HostOps.lean ====
section
/-! DEFINITION. What the host commands share (10): the checks of R278 in their order, responses and their cache, ACCEPTED
entries, bindings (08 R208, R209), partition resets (15 R428) and the end of sessions (10 R285). -/

namespace Sys2Proof.Machine

/-! ### Responses (R276 to R278) -/

/-- What a command answers: STATUS, DETAIL, the SEQ of its ACCEPTED entry, its body after the echoed MSG_SEQ. -/
structure Answer where
  status : W16 := stOk
  detail : W16 := 0
  jseq : Nat := 0
  body : List Byte := []
  deriving DecidableEq, Repr

def Answer.refuse (st detail : W16) : Answer := { status := st, detail := detail }

def dMalformed : W16 := 0x0001
def dRange : W16 := 0x0002
def dImageDigest : W16 := 0x0003
def dImageLayout : W16 := 0x0004
def dLayoutInUse : W16 := 0x0005
def dTooFewClusters : W16 := 0x0006
def dQueueFull : W16 := 0x0007
def dHbmNoRoom : W16 := 0x0008
def dRole : W16 := 0x0009
def dSessionLimit : W16 := 0x000B
def dQpLimit : W16 := 0x000D
def dVersion : W16 := 0x000E
def dJobState : W16 := 0x000F
def dResumeLocked : W16 := 0x0010

def refuseRange : Answer := .refuse stIllegal dRange
def refuseState : Answer := .refuse stIllegal dJobState
def refuseUnmapped : Answer := .refuse stUnmapped 0
def refuseResetting : Answer := .refuse stResetting 0

def State.setSession (s : State) (sid : W64) (x : Session) : State :=
  { s with host := { s.host with sessions := SMap.put s.host.sessions sid.toNat x } }
def State.modSession (s : State) (sid : W64) (f : Session → Session) : State :=
  match s.session? sid with
  | none => s
  | some x => s.setSession sid (f x)

/-- A response leaves, or waits until the mirror has its ACCEPTED entry (R277, 09 R260). -/
def State.sendResponse (s : State) (sid : W64) (r : Response) : State :=
  if r.journalSeq ≠ 0 ∧ s.arch.mirrorWait.contains r.journalSeq.toNat then
    { s with host := { s.host with delayed := s.host.delayed ++ [(r.journalSeq.toNat, sid, r)] } }
  else (s.emit (.response sid r)).countTx sid (24 + r.body.length)

/-- A command is answered: the response is kept with the last 64 and LAST_CMD_SEQ follows (R277). -/
def State.respond (s : State) (sid : W64) (opcode : Nat) (seq : W64) (a : Answer) : State :=
  let r : Response :=
    { opcode := BitVec.ofNat 16 opcode ||| 0x8000, status := a.status, detail := a.detail
      journalSeq := BitVec.ofNat 64 a.jseq, cmdSeq := seq, body := a.body }
  let s1 := s.modSession sid fun x =>
    let last := max x.lastCmd seq.toNat
    { x with lastCmd := last, kept := (SMap.put x.kept seq.toNat r).filter fun e => decide (last < e.1 + 64) }
  s1.sendResponse sid r

/-- The host ports take datagrams: main power, a module that is ready, neither in standby nor in removal (11 R301, 15 R435,
16 R454). -/
def State.hears (s : State) : Bool := s.chassis.main && s.start.ready && !s.chassis.standby && !s.chassis.removing

/-- Commands are answered: the scheduler core runs as well (14 R413). -/
def State.answers (s : State) : Bool := s.hears && !s.sched.restarting

/-- A command that arrives during an operating-firmware restart is answered after it, in its order (14 R413, R424). -/
def State.whenAnswering (s : State) (i : Instr) (f : State → State) : State :=
  if s.sched.restarting && s.hears then { s with host := { s.host with waiting := s.host.waiting ++ [i] } } else f s

/-- A datagram of a session renews its lease (R283). -/
def State.renewLease (s : State) (sid : W64) : State :=
  s.modSession sid fun x => if x.held then x else { x with leaseFrom := s.timeBase.toNat }

/-- A feature bit is granted. -/
def Session.has (x : Session) (bit : Nat) : Bool := x.features.getLsbD bit

/-- A copy of a command on the second path, within 100 ms of the first (R271). -/
def Session.lately (x : Session) (n now : Nat) : Bool :=
  match SMap.get? x.arrived n with
  | some t => x.dual && decide (now < t + 100000000)
  | none => false

/-- On two paths the first copy of a command is noted (R271). -/
def State.noteArrival (s : State) (sid : W64) (n : Nat) : State :=
  s.modSession sid fun x =>
    if x.dual then { x with arrived := (SMap.put x.arrived n s.timeBase.toNat).filter fun e => decide (s.timeBase.toNat < e.2 + 100000000) } else x

/-- A command of a session, in the order of R277 and R278: outside the window, and as a second copy on the other path (R271), it is dropped, a kept response goes again, a
held session is answered LEASE_EXPIRED, then features, role and form; `f` does the rest. A command that answers later
(LOAD_IMAGE) gives no answer here. -/
def State.command (s : State) (r : HostReq) (opcode : Nat) (features : List Nat) (operator : Bool)
    (f : Session → State → State × Option Answer) : State :=
  if !s.answers then s
  else
    match s.session? r.sid with
    | none => s.emit (.response r.sid
        { opcode := BitVec.ofNat 16 opcode ||| 0x8000, status := stSessionUnknown, detail := 0, journalSeq := 0, cmdSeq := r.seq, body := [] })
    | some x =>
      let n := r.seq.toNat
      if n = 0 ∨ n + 63 < x.lastCmd ∨ x.lastCmd + 64 < n then s
      else if x.lately n s.timeBase.toNat then s.renewLease r.sid
      else
        let s1 := (s.renewLease r.sid).noteArrival r.sid n
        if x.held then
          if (SMap.get? x.kept n).isSome then s1.sendResponse r.sid
            { opcode := BitVec.ofNat 16 opcode ||| 0x8000, status := stLeaseExpired, detail := 0, journalSeq := 0, cmdSeq := r.seq, body := [] }
          else s1.respond r.sid opcode r.seq (.refuse stLeaseExpired 0)
        else
          match SMap.get? x.kept n with
          | some k => s1.sendResponse r.sid k
          | none =>
            if features.any fun b => !x.has b then s1.respond r.sid opcode r.seq (.refuse stFeature 0)
            else if operator && !x.operator then s1.respond r.sid opcode r.seq (.refuse stFeature dRole)
            else if r.malformed then s1.respond r.sid opcode r.seq (.refuse stIllegal dMalformed)
            else
              let t := f x s1
              match t.2 with
              | some a => t.1.respond r.sid opcode r.seq a
              | none => t.1

/-- The ACCEPTED entry of a command (R293): bytes 0 to 47 of its body, the job and partition it concerns. -/
def State.accepted (s : State) (x : Session) (r : HostReq) (opcode : Nat) (job : W64) (part : Option Nat) (body : List Byte) :
    State × Nat :=
  (s.journalWrite 0x10 (BitVec.ofNat 16 opcode) 0
    { sid := r.sid, job := job, cmd := r.seq, part := (part.map (BitVec.ofNat 16)).getD 0xFFFF, tenant := x.tenant } body,
   s.journal.next)

/-- A partition that the session owns (R282). -/
def State.owns (s : State) (sid : W64) (p : Nat) : Bool := decide (p < 48) && (s.part p).session == some sid

def State.ownedParts (s : State) (sid : W64) : List Nat :=
  (s.sched.parts.filter fun e => e.2.session == some sid).map Prod.fst

def State.qp? (s : State) (q : W32) : Option Qp := SMap.get? s.host.qps q.toNat
def State.ownsQp (s : State) (sid : W64) (q : W32) : Bool :=
  match s.qp? q with
  | some x => x.sid == sid
  | none => false

/-- A job that is loading, running or held. -/
def Part.busy (x : Part) : Bool :=
  match x.job with
  | some j => j.state == .loading || j.state == .running || j.state == .holding
  | none => false

/-! ### Bindings (08 R208, R209) -/

/-- Whether a partition exists in a layout. -/
def layoutHas (l : List Byte) (p : Nat) : Bool := l.any fun b => b.toNat == p

/-- Clusters of a partition in a layout. -/
def layoutClusters (l : List Byte) (p : Nat) : List Nat := (List.range 48).filter fun c => (l.getD c 0xFF).toNat == p

/-- Bits of a list of clusters. -/
def clusterMask (cs : List Nat) : Nat := cs.foldl (fun m c => m ||| 2 ^ c) 0

/-- The lowest free GiB-aligned range below the module-reserved region that fits (R208). -/
def State.bindingBase (s : State) (gib : Nat) : Option Nat :=
  let top := s.reservedBase / 2 ^ 30
  let bound := (s.sched.parts.filter fun e => e.2.session.isSome).map fun e => (e.2.baseGib, e.2.sizeGib)
  let fits := fun b => decide (b + gib ≤ top) && bound.all fun r => decide (b + gib ≤ r.1) || decide (r.1 + r.2 ≤ b)
  let ends := 0 :: bound.map fun r => r.1 + r.2
  (ends.filter fits).foldl (fun m b => some (match m with | none => b | some a => min a b)) none

/-- Partitions of the active layout that another layout does not keep with the same clusters (R209). -/
def State.changed (s : State) (new : List Byte) : List Nat :=
  let old := s.sched.layouts.getD s.sched.active []
  (List.range 48).filter fun p => layoutHas old p && layoutClusters old p != layoutClusters new p

/-! ### Partition reset (15 R428) -/

/-- A restore ends (13 R397) with RESTORE_DONE; one that fails leaves the partition with no job. -/
def State.endRestore (s : State) (p : Nat) (code : W16) (bytes : Nat) : State :=
  match (s.part p).restore with
  | none => s
  | some k =>
    let s1 := s.modPart p fun x => { x with restore := none }
    let s2 := if code = stOk then s1 else s1.modPart p fun x => { x with job := none }
    s2.journalWrite 0x33 code (if code = stOk then k.td else 0)
      { sid := k.sid, job := k.jobId, cmd := k.cmdSeq, part := BitVec.ofNat 16 p, tenant := (s.part p).tenant }
      (leBytes 8 k.acceptedSeq ++ leBytes 8 k.snapId.toNat ++ leBytes 8 bytes)

/-- A pull of an image that a reset ends is answered TARGET_RESETTING. -/
def State.dropLoad (s : State) (p : Nat) : State :=
  match (s.part p).load with
  | none => s
  | some l =>
    (s.modPart p fun x => { x with load := none }).respond l.sid 0x0012 l.cmdSeq { status := stResetting }

/-- A cluster that changes hands or whose partition resets: cluster reset without replay, its quarter cleared (R428 steps 4
and 5), its positions' numeric events and ledgers zero (step 7). -/
def State.resetClusterOf (s : State) (c : Nat) : State :=
  let q := quarterBase c
  let s1 := (s.clusterReset c false).zero q (2 ^ 26)
  let s2 := s1.modIsland (c / 4) fun i => { i with
    reloading := i.reloading.filter fun a => decide (a < q) || decide (q + 2 ^ 26 ≤ a)
    scrub := i.scrub.filter fun e => e.1 / 8 != c % 4 }
  (List.range 12).foldl (fun t k => t.modCore (c * 12 + k) fun x =>
    { x with events := 0, ledgers := [], inboxes := [], regs := [], attempt := {}, pins := [], startTokens := []
             live := 0 }) s2

/-- A partition reset begins (R428 steps 1 to 7): jobs are discarded, snapshots and restores end, clusters reset. -/
def State.startReset (s : State) (p cause : Nat) (k : Clearing) : State :=
  let s0 := s.modPart p fun x => { x with clearing := some k, hbmClearing := k.hbm }
  let s1 := if k.hbm then s0.clearBlocks (s.part p).base (s.part p).bytes else s0
  let s2 : State := (s1.discardJob p cause).discardQueue p cause
  let s3 : State := match (s2.part p).snap with
    | some n => if n.phase = SnapPhase.kept then s2.modPart p (fun x => { x with snap := none }) else s2.endSnapshot p stResetting n.td
    | none => s2
  let s4 := ((s3.endRestore p stResetting 0).withdrawHeld p none).dropLoad p
  let s5 := (s4.clustersOf p).foldl State.resetClusterOf s4
  let release := fun (im : Image) => { im with backed := im.backed.map (fun (b : Backed) => { b with filled := false }) }
  s5.modPart p fun x => { x with
    image := x.image.map release, queue := []
    turnData := 0, turnStream := 0, replayedParts := 0, rankMoves := 0, lastStatus := 0
    job := x.job.map fun j => { j with shadow := [], pendingShadow := [], keys := [], td := 0, ts := 0 } }

/-- SESSION_ENDED once the last partition of an ended session is unbound (10 R285, R287). -/
def State.sessionEnded (s : State) (sid : W64) (tenant : W16) (cause : Nat) : State :=
  if (s.ownedParts sid).isEmpty then
    s.journalWrite 0x04 0 0 { sid := sid, tenant := tenant } [BitVec.ofNat 8 cause]
  else s

/-- PARTITION_RESET_DONE: with the clears ended and every cluster reset, MEMORY_SCRUBBED is written and the mark ends; an
unbind frees the binding (R428 step 8). -/
def partitionResetDone (p : Nat) (s : State) : State :=
  let x := s.part p
  match x.clearing with
  | none => s
  | some k =>
    if x.hbmClearing || (s.clustersOf p).any fun c => (s.cluster c).resetting then s
    else
      let s1 := s.modPart p fun y => { y with clearing := none, job := none }
      let s2 := (s1.countEvent evMemoryScrubbed).journalWrite 0x26 evMemoryScrubbed 0
        { sid := k.session, part := BitVec.ofNat 16 p, tenant := k.tenant } (leBytes 8 (if k.hbm then x.bytes else 0))
      let s3 := if k.unbind then s2.setPart p {} else s2
      match k.ended with
      | some cause => s3.sessionEnded k.session k.tenant cause
      | none => s3

def execPartitionResetDone (part : PartId) (s : State) : Host.Outcome State Fault Refusal :=
  .next (s.scheduled (partitionResetDone part.val s))

/-! ### The end of a session (10 R285, R287) -/

/-- A session's queue pairs close and its rkeys stop working (R284): drains on them wait for another (13 R391). -/
def State.closeQps (s : State) (sid : W64) : State :=
  let s1 := { s with host := { s.host with qps := s.host.qps.filter fun q => q.2.sid != sid } }
  (s1.ownedParts sid).foldl (fun t p => t.modPart p fun x => { x with
    snap := x.snap.map fun k => if k.drain then { k with waitQp := true } else k }) s1

/-- A session ends: its jobs are discarded, its partitions reset with their HBM cleared and then unbound. -/
def State.endSession (s : State) (sid : W64) (cause : Nat) : State :=
  match s.session? sid with
  | none => s
  | some x =>
    let ps := s.ownedParts sid
    let s1 := ps.foldl (fun t p =>
      let t1 := match (t.part p).snap with
        | some k => if k.drain ∧ k.waitQp then t.endSnapshot p stLeaseExpired k.td else t
        | none => t
      (t1.discardJob p 0).discardQueue p 0) (s.closeQps sid)
    let s2 := { s1 with host := { s1.host with
      sessions := SMap.erase s1.host.sessions sid.toNat, partials := s1.host.partials.filter fun m => m.sid != sid } }
    let s3 := ps.foldl (fun t p =>
      let k : Clearing := { hbm := true, unbind := true, ended := some cause, session := sid, tenant := x.tenant }
      if (t.part p).clearing.isSome then
        t.modPart p fun y => { y with clearing := some k, hbmClearing := true }
      else t.startReset p 0 k) s2
    s3.sessionEnded sid x.tenant cause

end Sys2Proof.Machine
end

