-- ==== Sys2Proof/Machine/Power.lean ====
section
/-! DEFINITION. Phases, dips, over-current, heat, the cap, wakes and hints as they happen (12 R335 to R360). -/

namespace Sys2Proof.Machine

/-! ### Phases (R335 to R339) -/

/-- Bits set in a mask. -/
def bitCount {n : Nat} (x : BitVec n) : Nat := ((List.range n).filter fun i => x.getLsbD i).length

/-- Cap current of a region by working phases, in 0.1 A (R338). -/
def capDeciAmp (left : Nat) : Nat := if 10 ≤ left then 2600 else if left = 9 then 2340 else if left = 8 then 2080 else 0

/-- PHASE_RESERVE_LOST with its DETAIL (R361); ALERT_PHASE follows it (16 R455). -/
def State.phaseEvent (s : State) (unit : W64) (left limit : Nat) (p : Option Nat) : State :=
  (s.event evPhaseReserveLost p (unitBytes unit ++ [BitVec.ofNat 8 left, 0] ++ leBytes 2 limit)).alert 3

/-- A phase of a cluster region is isolated (R337, R338). -/
def regionPhaseLost (c phase : Nat) (s : State) : State :=
  let x := s.cluster c
  if 12 ≤ phase ∨ x.isolated.getLsbD phase then s
  else
    let iso := x.isolated ||| BitVec.ofNat 12 (2 ^ phase)
    let left := 12 - bitCount iso
    let unit := unitCode 0x0D (c / 4) (c % 4) phase
    let s1 := s.modCluster c fun y => { y with
      isolated := iso, counters := { y.counters with isolations := y.counters.isolations + 1 } }
    let s2 := s1.logRequest unit 5 (if left ≤ 10 then evPhaseReserveLost else 0)
    let s3 := if left ≤ 10 then s2.phaseEvent unit left (capDeciAmp left) (s2.hostedBy c) else s2
    if left ≤ 7 ∧ (x.region ≠ .dark ∨ x.resetting ∨ x.zeroOnWake) then s3.darken c else s3

/-- The attach domain stops: its stacks are lost and its engines leave service (R339, 06 R167, 09 R239). On the home island the host SerDes,
the firmware pairs and the configuration memory interface stop with it (01 R31): the ports link down, and the scheduler and
power-management pairs stand as in a restart that does not end (log 109). -/
def State.attachStops (s : State) (i : Nat) : State :=
  let stackList := (List.range 16).filter fun k => clusterAt (attachNode k) / 4 == i
  let s1 := stackList.foldl (fun t k => t.loseStack k 2) s
  let engines := (List.range 24).filter fun e => clusterAt (engineNode e) / 4 == i
  let s2 := engines.foldl (fun t e => t.engineOut e) s1
  if i = clusterAt Attached.firmwarePairs.node / 4 then
    let s3 := (s2.modHostPort 0 fun h => { h with up := 0, training := false }).modHostPort 1 fun h => { h with up := 0, training := false }
    { s3 with sched := { s3.sched with restarting := true }, power := { s3.power with safeFloor := true, bCap := max s3.power.bCap 16 } }
  else s2

/-- A phase of a transit, lagoon or attach domain is isolated (R337, R339): `working` phases are left of those the domain
has, and the first loss takes its one spare. -/
def domainPhaseLost (i domain phase : Nat) (s : State) : State :=
  let x := s.island i
  let unit := unitCode 0x0D i domain phase
  let report := fun (t : State) (left full rated : Nat) =>
    let t1 := t.logRequest unit 5 (if left = full then evPhaseReserveLost else 0)
    if left = full then t1.phaseEvent unit left rated none else t1
  match domain with
  | 4 =>
    if 4 ≤ phase ∨ x.transitIsolated.getLsbD phase then s
    else
      let iso := x.transitIsolated ||| BitVec.ofNat 4 (2 ^ phase)
      let left := 4 - bitCount iso
      let s1 := report (s.modIsland i fun y => { y with transitIsolated := iso }) left 3 450
      if left = 0 then s1.moduleReset 6 else s1
  | 5 =>
    if 6 ≤ phase ∨ x.lagoonIsolated.getLsbD phase then s
    else
      let iso := x.lagoonIsolated ||| BitVec.ofNat 6 (2 ^ phase)
      let left := 6 - bitCount iso
      let s1 := report (s.modIsland i fun y => { y with lagoonIsolated := iso }) left 5 600
      if left = 0 then s1.moduleReset 6 else s1
  | _ =>
    if i = 4 ∨ i = 7 ∨ 8 ≤ phase ∨ x.attachIsolated.getLsbD phase then s
    else
      let iso := x.attachIsolated ||| BitVec.ofNat 8 (2 ^ phase)
      let left := 8 - bitCount iso
      let s1 := report (s.modIsland i fun y => { y with attachIsolated := iso }) left 7 1400
      if left = 0 then s1.attachStops i else s1

/-- PHASE_FAILURE: an on-die phase fails and is isolated (R337 to R339). -/
def phaseFailure (i domain phase : Nat) (s : State) : State :=
  if domain < 4 then regionPhaseLost (i * 4 + domain) phase s else domainPhaseLost i domain phase s

def execPhaseFailure (island : IslandId) (domain : Fin 7) (phase : Fin 12) (s : State) :
    Host.Outcome State Fault Refusal := .next (phaseFailure island.val domain.val phase.val s)

/-- Rating of a sector in 0.1 A by working in-package phases (R335, R367). -/
def sectorRating (ok : Nat) : Nat := if 3 ≤ ok then 6000 else ok * 2000

/-- SECTOR_PHASE_FAILURE: an in-package phase fails; the first loss takes the sector's spare (R335). -/
def sectorPhaseFailure (i phase : Nat) (s : State) : State :=
  let x := s.island i
  if x.sectorIsolated.getLsbD phase then s
  else
    let iso := x.sectorIsolated ||| BitVec.ofNat 4 (2 ^ phase)
    let left := 4 - bitCount iso
    let unit := unitCode 0x0D i 7 phase
    let s1 := s.modIsland i fun y => { y with sectorIsolated := iso }
    let s2 := s1.logRequest unit 5 (if left = 3 then evPhaseReserveLost else 0)
    if left = 3 then s2.phaseEvent unit left (sectorRating left) none else s2

def execSectorPhaseFailure (island : IslandId) (phase : Fin 4) (s : State) : Host.Outcome State Fault Refusal :=
  .next (sectorPhaseFailure island.val phase.val s)

/-! ### Dips (R345) -/

/-- SUPPLY_DIP with its DETAIL (R361). -/
def State.dipEvent (s : State) (c outcome ns lowest setMv : Nat) : State :=
  s.event evSupplyDip (s.hostedBy c)
    (unitBytes (regionUnit c) ++ [BitVec.ofNat 8 outcome, 0, 0, 0] ++ leBytes 4 ns ++ leBytes 2 lowest ++ leBytes 2 setMv)

/-- The boost banks in reserve on an island's waking regions support a region that dips (R344, R368). -/
def State.supportRail (s : State) (c : Nat) : State :=
  (List.range 4).foldl (fun t k => t.modCluster (c / 4 * 4 + k) fun x => if x.bank = .reserve then { x with bank := .supports (c % 4) } else x) s

/-- The banks that supported a region recharge and stand in reserve again until their region's wake ends (R344). -/
def State.endSupport (s : State) (c : Nat) : State :=
  (List.range 4).foldl (fun t k => t.modCluster (c / 4 * 4 + k) fun x => if x.bank = .supports (c % 4) then { x with bank := .reserve } else x) s

/-- Set points of the transit and the lagoon domain in mV (R346). -/
def transitSetMv : Nat := 720
def lagoonSetMv : Nat := 700

/-- What a rail of `mv` does to a domain of the fixed set point `set` (R346): 1 paced at 50 %, 2 its oscillators pause, 3 below 55 %: the
module resets. -/
def fixedRail (set mv : Nat) : Nat :=
  if 100 * mv < 55 * set then 3 else if 100 * mv < 82 * set then 2 else if 100 * mv < 91 * set then 1 else 0

/-- DIP_WARNING: the rail of a running region falls below its warning level and half its beats become bubbles. The rail of a transit or
lagoon domain paces its traffic, pauses it, or resets the module (R346). -/
def dipWarning (rail : Rail) (mv : Nat) (s : State) : State :=
  match rail with
  | .region c =>
    if (s.cluster c.val).region = .running then (s.modCluster c.val fun x => { x with bDip := 32, dipping := true }).supportRail c.val else s
  | .transit i =>
    if fixedRail transitSetMv mv = 3 then s.moduleReset 6 else s.modIsland i.val fun x => { x with transitRail := fixedRail transitSetMv mv }
  | .lagoon i =>
    if fixedRail lagoonSetMv mv = 3 then s.moduleReset 6 else s.modIsland i.val fun x => { x with lagoonRail := fixedRail lagoonSetMv mv }

def execDipWarning (rail : Rail) (railMv : W16) (s : State) : Host.Outcome State Fault Refusal :=
  .next (dipWarning rail railMv.toNat s)

/-- DIP_RECOVERY of a region: its rail rises above the warning level. A dip of more than 10 us is journalled. -/
def regionRecovery (c ns lowest : Nat) (s0 : State) : State :=
  let s := s0.endSupport c
  if (s.cluster c).dipping then
    let s1 := s.modCluster c fun x => { x with
      dipping := false, counters := { x.counters with dips := x.counters.dips + 1 } }
    if 10000 < ns then s1.dipEvent c 0 ns lowest (setPointMv (s.cluster c).op) else s1
  else s

/-- DIP_RECOVERY: the accesses that a paused lagoon held go on (R346). -/
def dipRecovery (rail : Rail) (ns lowest : Nat) (s : State) : State :=
  match rail with
  | .region c => regionRecovery c.val ns lowest s
  | .transit i => s.modIsland i.val fun x => { x with transitRail := 0 }
  | .lagoon i => (s.modIsland i.val fun x => { x with lagoonRail := 0 }).releaseHeld

def execDipRecovery (rail : Rail) (durationNs : W32) (lowestMv : W16) (s : State) :
    Host.Outcome State Fault Refusal := .next (dipRecovery rail durationNs.toNat lowestMv.toNat s)

/-- DIP_BUBBLE_RELEASE: 2 us after the recovery the dip's bubbles stop. -/
def dipBubbleRelease (c : Nat) (s : State) : State :=
  s.modCluster c fun x => if x.dipping then x else { x with bDip := 0 }

def execDipBubbleRelease (c : ClusterId) (s : State) : Host.Outcome State Fault Refusal :=
  .next (dipBubbleRelease c.val s)

/-- DIP_RESET_LEVEL: the cluster resets; the third time within 10 s lowers the class ceiling by one point. -/
def dipResetLevel (c ns lowest : Nat) (s : State) : State :=
  if (s.cluster c).region = .running then
    let now := s.timeBase.toNat
    let s1 := s.modCluster c fun x =>
      let times := (x.dipTimes.filter fun t => decide (now - t < 10000000000)) ++ [now]
      { x with
        dipTimes := if 3 ≤ times.length then [] else times
        ceilingDrop := if 3 ≤ times.length then x.ceilingDrop + 1 else x.ceilingDrop
        counters := { x.counters with dipResets := x.counters.dipResets + 1 } }
    let s2 := s1.dipEvent c 1 ns lowest (setPointMv (s.cluster c).op)
    s2.clusterReset c true
  else s

def execDipResetLevel (c : ClusterId) (durationNs : W32) (lowestMv : W16) (s : State) :
    Host.Outcome State Fault Refusal := .next (dipResetLevel c.val durationNs.toNat lowestMv.toNat s)

/-! ### Over-current and the sector limit (R349, R350) -/

/-- REGION_OVERCURRENT: the region's current exceeds its cap current over 1 us. -/
def regionOvercurrent (c deciAmp : Nat) (s : State) : State :=
  s.modCluster c fun x => { x with current := deciAmp, bOver := if x.region = .running then 16 else x.bOver }

def execRegionOvercurrent (c : ClusterId) (deciAmp : W16) (s : State) : Host.Outcome State Fault Refusal :=
  .next (regionOvercurrent c.val deciAmp.toNat s)

/-- OVERCURRENT_RELEASE: 10 us below the cap current. -/
def overcurrentRelease (c : Nat) (s : State) : State := s.modCluster c fun x => { x with bOver := 0 }

def execOvercurrentRelease (c : ClusterId) (s : State) : Host.Outcome State Fault Refusal :=
  .next (overcurrentRelease c.val s)

/-- OVERCURRENT_TRIP: the headers open and the cluster resets; a second trip within 1 s substitutes the slot whose header
current read highest, before the replay. -/
def overcurrentTrip (c hottest : Nat) (s : State) : State :=
  let x := s.cluster c
  if x.region ≠ .running then s
  else
    let now := s.timeBase.toNat
    let second := match x.tripTime with
      | some t => decide (now - t < 1000000000)
      | none => false
    let s1 := s.modCluster c fun y => { y with
      tripTime := some now, counters := { y.counters with trips := y.counters.trips + 1 } }
    let s2 := s1.clusterReset c true
    if second then
      match x.map.idxOf? hottest with
      | some p => s2.failCore (c * 12 + p) 4
      | none => s2
    else s2

def execOvercurrentTrip (c : ClusterId) (hottest : Fin 14) (s : State) : Host.Outcome State Fault Refusal :=
  .next (overcurrentTrip c.val hottest.val s)

/-- SECTOR_LIMIT: the sector's current exceeds its rating over 10 us: one more step of 1/64 in each running region. -/
def sectorLimit (i deciAmp : Nat) (s : State) : State :=
  s.modIsland i fun x => { x with sectorCurrent := deciAmp, bSector := min 63 (x.bSector + 1) }

def execSectorLimit (i : IslandId) (deciAmp : W16) (s : State) : Host.Outcome State Fault Refusal :=
  .next (sectorLimit i.val deciAmp.toNat s)

/-- SECTOR_LIMIT_RELEASE: 100 us at or below 95 % of the rating. -/
def sectorLimitRelease (i : Nat) (s : State) : State := s.modIsland i fun x => { x with bSector := 0 }

def execSectorLimitRelease (i : IslandId) (s : State) : Host.Outcome State Fault Refusal :=
  .next (sectorLimitRelease i.val s)

/-! ### Heat (R352, R353) -/

/-- What a region's reading brings: shed at 105 C by the power-management core, critical at 110 C by hardware. A region
that wakes is gated once its wake completes (R368). -/
def State.heatActs (s : State) (c before : Nat) : State :=
  let t := (s.cluster c).temp
  if (s.cluster c).region = .waking then s
  else if 110 ≤ t then (if before < 110 ∨ !(s.cluster c).shed then (s.shedRegion c 2).alert 1 else s)
  else if 105 ≤ t ∧ !s.power.safeFloor then (s.shedRegion c 0).alert 1
  else s

/-- JUNCTION_SENSOR_READ: a reading of a region's sensor or of its island's transit sensor; 120 C removes main power. -/
def junctionSensorRead (c : Nat) (transit : Bool) (temp : Nat) (s : State) : State :=
  if transit then
    let s1 := s.modIsland (c / 4) fun x => { x with transitTemp := temp }
    if 120 ≤ temp then s1.tripOff else s1
  else
    let before := (s.cluster c).temp
    let s1 := s.modCluster c fun x => { x with temp := temp }
    if 120 ≤ temp then s1.tripOff
    else ((if 100 ≤ temp ∧ before < 100 then s1.alert 1 else s1)).heatActs c before

def execJunctionSensorRead (c : ClusterId) (transit : Bool) (temp : Byte) (s : State) :
    Host.Outcome State Fault Refusal := .next (junctionSensorRead c.val transit temp.toNat s)

/-- Bubbles of the throttle band: 6/64 for each whole degree above 100 C, at most 30/64. -/
def throttleSteps (t : Nat) : Nat := if t < 100 then 0 else min 30 (6 * (t - 100))

/-- THROTTLE_RECOMPUTE: every 100 us, by the power-management core. -/
def throttleRecompute (s : State) : State :=
  if s.power.safeFloor then s
  else (List.range 48).foldl (fun t c => t.modCluster c fun x => { x with bThrottle := throttleSteps x.temp }) s

def execThrottleRecompute (s : State) : Host.Outcome State Fault Refusal := .next (throttleRecompute s)

/-- SHED_RELEASE: the sensor has read below 95 C for 10 ms. The region wakes if a turn needs it, with THERMAL_SHED outcome
1; otherwise that event comes with the wake that a turn asks for. -/
def shedRelease (c : Nat) (s : State) : State :=
  let x := s.cluster c
  if !x.shed || decide (95 ≤ x.temp) then s
  else
    let s1 := s.modCluster c fun y => { y with shed := false }
    if (s1.hostedBy c).isSome then (s1.shedEvent c 1).queueWake c
    else s1.modCluster c fun y => { y with released := true }

def execShedRelease (c : ClusterId) (s : State) : Host.Outcome State Fault Refusal := .next (shedRelease c.val s)

/-! ### The cap (R354, R356) -/

/-- Measured demand of a consumer code. -/
def demandOf (d : Demands) (code : Nat) : Nat :=
  match code with
  | 0 => d.assured
  | 1 => d.hbm
  | 2 => d.compute
  | _ => d.bulk

/-- Floor of a consumer code in eighths of a W: all of assured-class demand, an eighth of the others. -/
def floorEighths (d : Demands) (code : Nat) : Nat := if code = 0 then 8 * d.assured else demandOf d code

/-- The sharing of R354 in eighths of a W: for each code in order its grant and the room it was granted from. -/
def shareCap (d : Demands) (order : List Nat) (avail : Int) : List (Nat × Int × Int) :=
  match order with
  | [] => []
  | c :: rest =>
    let after : Nat := rest.foldl (fun n x => n + floorEighths d x) 0
    let room := max (floorEighths d c : Int) (avail - after)
    let grant := min (8 * (demandOf d c : Int)) room
    (c, grant, room) :: shareCap d rest (avail - grant)

/-- CAP_PRIORITY of the image in force (11 R322). -/
def State.capOrder (s : State) : List Nat :=
  match s.start.image with
  | some m => m.capPriority.map BitVec.toNat
  | none => [0, 1, 2, 3]

/-- CAP_SHARE_TICK: the latched cap is shared among the classes on their measured demands (R354). While the
power-management core restarts, b_cap stays (R360). -/
def capShareTick (d : Demands) (s : State) : State :=
  let s1 := { s with power := { s.power with inputW := d.inputW, inputMv := d.inputMv } }
  if s.power.safeFloor then s1
  else
    let shares := shareCap d s.capOrder (8 * ((s.power.capW : Int) - d.fixed))
    let grantOf := fun k => ((shares.find? fun x => x.1 == k).map fun x => x.2.1).getD 0
    let roomOf := fun k => ((shares.find? fun x => x.1 == k).map fun x => x.2.2).getD 0
    let dem : Int := 8 * d.compute
    let lack := dem - grantOf 2
    let b : Nat := if d.compute = 0 ∨ lack ≤ 0 then 0 else min 56 ((64 * lack + dem - 1) / dem).toNat
    { s1 with power := { s1.power with
      bCap := b, grants := [0, 1, 2, 3].map fun k => (grantOf k / 8).toNat
      underUsed := b == 0 && decide (10 * dem < 9 * roomOf 2) } }

def execCapShareTick (d : Demands) (s : State) : Host.Outcome State Fault Refusal := .next (capShareTick d s)

/-- CAP_OP_POINT_STEP: b_cap above 8/64 for 1 ms lowers every region by one point; b_cap at 0 for 1 ms with demand below
90 % of its grant raises them (R354). -/
def capOpPointStep (s : State) : State :=
  if s.power.safeFloor then s
  else if 8 < s.power.bCap then { s with power := { s.power with capCut := min 7 (s.power.capCut + 1) } }
  else if s.power.bCap = 0 ∧ s.power.underUsed then { s with power := { s.power with capCut := s.power.capCut - 1 } }
  else s

def execCapOpPointStep (s : State) : Host.Outcome State Fault Refusal := .next (capOpPointStep s)

/-- CAP_BACKSTOP: input power 2 % above the latched cap over 100 us (R356). -/
def execCapBackstop (inputW : W16) (s : State) : Host.Outcome State Fault Refusal :=
  .next { s with power := { s.power with backstop := true, inputW := inputW.toNat } }

/-- CAP_BACKSTOP_RELEASE: input power at or below 95 % of the cap for 1 ms (R356). -/
def execCapBackstopRelease (s : State) : Host.Outcome State Fault Refusal :=
  .next { s with power := { s.power with backstop := false } }

/-- OP_POINT_SLEW_DONE: the rail stands at the set point of the point that R358 gives the region (R342). -/
def execOpPointSlewDone (c : ClusterId) (s : State) : Host.Outcome State Fault Refusal := .next (s.takePoint c.val)

/-! ### Wakes (R348) -/

/-- WAKE_REQUEST: the wake joins its sector's queue; a region that level 2 holds gated is not woken (R358). A region whose
shed has ended reports its release now (R352). -/
def wakeRequest (c : Nat) (s : State) : State :=
  let s1 := if (s.cluster c).released then
      (s.shedEvent c 1).modCluster c fun x => { x with released := false }
    else s
  s1.queueWake c

def execWakeRequest (c : ClusterId) (s : State) : Host.Outcome State Fault Refusal := .next (wakeRequest c.val s)

/-- The wake at the front of its sector's queue. -/
def State.wakeTurn (s : State) (c : Nat) : Bool := (s.island (c / 4)).wakes.head? == some c

/-- WAKE_HEADROOM_TIMEOUT: after 50 us without headroom the island's running regions are throttled, by a fraction that
the measured currents decide, until the wake ends; WAKE_DEFERRED records it (R348 step 3). -/
def wakeHeadroomTimeout (c deciAmp : Nat) (s : State) : State :=
  if s.wakeTurn c ∧ (s.cluster c).wake = none ∧ !s.power.safeFloor then
    let b := (Config.headroomSteps s.freeCtr).val + 1
    let s1 := { s with freeCtr := s.freeCtr + 1 }
    let s2 := s1.modIsland (c / 4) fun x => { x with bHeadroom := b }
    let s3 := s2.modCluster c fun x => { x with counters := { x.counters with deferred := x.counters.deferred + 1 } }
    s3.event evWakeDeferred (s3.hostedBy c)
      (unitBytes (regionUnit c) ++ leBytes 2 50 ++ [BitVec.ofNat 8 b, 0] ++ leBytes 2 deciAmp)
  else s

def execWakeHeadroomTimeout (c : ClusterId) (deciAmp : W16) (s : State) : Host.Outcome State Fault Refusal :=
  .next (wakeHeadroomTimeout c.val deciAmp.toNat s)

/-- A neighbour's rail below its warning level pauses the header stages (R368). -/
def State.neighbourDips (s : State) (c : Nat) : Bool :=
  (List.range 4).any fun k => c / 4 * 4 + k != c && (s.cluster (c / 4 * 4 + k)).dipping

/-- WAKE_HEADER_STAGE: one of the 8 header stages closes; the first takes the wake out of the queue's wait, which the
restart of the power-management core holds, and puts the region's boost bank in reserve (R344, R348 steps 4 and 5, R360). -/
def wakeHeaderStage (c : Nat) (s : State) : State :=
  if !s.wakeTurn c || s.neighbourDips c then s
  else
    match (s.cluster c).wake with
    | none => if s.power.safeFloor then s else s.modCluster c fun x => { x with region := .waking, wake := some 1, bank := .reserve }
    | some n => if n < 8 then s.modCluster c fun x => { x with wake := some (n + 1) } else s

def execWakeHeaderStage (c : ClusterId) (s : State) : Host.Outcome State Fault Refusal := .next (wakeHeaderStage c.val s)

/-- WAKE_SETTLED: after the eighth stage the rail has settled and the region runs (R348 step 6); one that grew too hot
meanwhile is gated at once (R368). -/
def wakeSettled (c : Nat) (s : State) : State :=
  if (s.cluster c).wake = some 8 then (s.regionRuns c).heatActs c 0 else s

def execWakeSettled (c : ClusterId) (s : State) : Host.Outcome State Fault Refusal := .next (wakeSettled c.val s)

/-! ### Hints (R357) -/

/-- HINT_PREPARE: 25 us before the announced start the region is raised to the point its other ceilings allow. -/
def hintPrepare (c : Nat) (s : State) : State :=
  if s.power.safeFloor ∨ (s.cluster c).region ≠ .running then s
  else s.modCluster c fun x => { x with hint := x.hint.map fun h => { h with prepared := true } }

def execHintPrepare (c : ClusterId) (s : State) : Host.Outcome State Fault Refusal := .next (hintPrepare c.val s)

/-- A ramped or stopped array comes up to matched dummy current. -/
def Core.rampUp (c : Core) : Core :=
  if c.arrayState = 0 ∨ c.arrayState = 3 then { c with arrayState := 2, ramp := 0 } else c

/-- HINT_DUMMY_RAMP: the 20 steps of dummy activity that end at the announced start, and b_cap in advance where the load
would exceed the compute grant (a measured power: free). -/
def hintDummyRamp (c : Nat) (s : State) : State :=
  match (s.cluster c).hint with
  | none => s
  | some h =>
    if s.power.safeFloor ∨ (s.cluster c).region ≠ .running then s
    else
      let b := (Config.hintCap s.freeCtr).val
      let s1 := { s with freeCtr := s.freeCtr + 1, power := { s.power with bCap := max s.power.bCap b } }
      (s1.hintCores c h).foldl (fun t L => t.modCore L Core.rampUp) s1

def execHintDummyRamp (c : ClusterId) (s : State) : Host.Outcome State Fault Refusal := .next (hintDummyRamp c.val s)

/-- HINT_EXPIRY: no valid work 20 us after the start, or DURATION has passed. -/
def execHintExpiry (c : ClusterId) (s : State) : Host.Outcome State Fault Refusal := .next (s.endHint c.val)

/-! ### The power-management pair (R360, 14 R409, R411, R414) -/

/-- Expiries of a pair within the last 600 s, this one included (14 R414). -/
def recentExpiries (xs : List Nat) (now : Nat) : List Nat := (xs.filter fun t => decide (now - t < 600000000000)) ++ [now]

/-- A start that tries staged firmware and has not reached stage 7 (14 R409). -/
def State.onTrial (s : State) : Bool := !s.start.ready && (s.start.tfTrial || s.start.opfwTrial)

/-- PM_WATCHDOG_EXPIRY: the safe floor holds while the pair restarts; a third expiry within 600 s, or one in a trial,
resets the module. -/
def pmWatchdogExpiry (s : State) : State :=
  let times := recentExpiries s.power.expiries s.timeBase.toNat
  if s.onTrial then s.moduleReset 5
  else if 3 ≤ times.length then s.moduleReset 4
  else
    let s1 := { s with
      power := { s.power with safeFloor := true, expiries := times, bCap := max s.power.bCap 16 }
      firmware := { s.firmware with pmRestarts := s.firmware.pmRestarts + 1 } }
    (List.range 48).foldl (fun t c => t.modCluster c fun x => { x with op := min x.op 2 }) s1

def execPmWatchdogExpiry (s : State) : Host.Outcome State Fault Refusal := .next (pmWatchdogExpiry s)

/-- PM_RESTART_DONE: the power-management core resumes from measurement (R360). -/
def pmRestartDone (s : State) : State :=
  if s.power.safeFloor ∧ !s.pairsOff then
    (List.range 48).foldl (fun t c => t.takePoint c) { s with power := { s.power with safeFloor := false } }
  else s

def execPmRestartDone (s : State) : Host.Outcome State Fault Refusal := .next (pmRestartDone s)

end Sys2Proof.Machine
end

