-- ==== Sys2Proof/Machine/Registers.lean ====
section
/-! DEFINITION. The registers as they read: island register blocks and module registers (01 R35 to R38, 02 R68, R69, 05 R147,
R148, 06 R176 to R178, 07 R203 to R205, 08 R232 to R234, 09 R262 to R264, 10 R298, R299, 11 R308, R332, R333, 12 R362 to R367,
13 R395, 14 R421 to R423, 15 R440, 16 R455). An offset that no rule names reads zero (log 26). -/

namespace Sys2Proof.Machine

/-- A field of a register: `v` in `w` bits from bit `lo`. -/
def field (v lo w : Nat) : Nat := v % 2 ^ w * 2 ^ lo

def bit (b : Bool) (i : Nat) : Nat := if b then 2 ^ i else 0

/-- Packed fields: `f i` in `w` bits each, for i below n. -/
def packed (n w : Nat) (f : Nat → Nat) : Nat := (List.range n).foldl (fun acc i => acc + field (f i) (i * w) w) 0

/-! ### Island register blocks -/

def regionCode (r : Region) : Nat :=
  match r with
  | .running => 0
  | .gated => 1
  | .dark => 2
  | .waking => 3

/-- ISLAND_ID (01 R35). -/
def islandId (i : Nat) : Nat :=
  field i 0 4 + field (i % 3) 8 4 + field (i / 3) 12 4 + bit (i == 1) 16 +
    bit ([0, 2, 3, 5, 6, 8, 9, 11].contains i) 17 + bit ([0, 1, 2, 9, 10, 11].contains i) 18

/-- DOMAIN_STATUS (01 R36): REGION stands at its reset value until stage 3 has brought the islands up (log 108). -/
def State.domainStatus (s : State) (i : Nat) : Nat :=
  field (s.island i).lagoon 0 2 +
    if s.start.ready || decide (3 < s.start.stage) then packed 4 2 (fun k => regionCode (s.cluster (i * 4 + k)).region) * 4 else 0

/-- CLUSTER_SLOTS and CLUSTER_MAP (01 R37, R38). -/
def Cluster.slotsReg (x : Cluster) : Nat :=
  packed 14 2 (fun n => (x.slotState n).toNat) + field x.active 32 4 + field x.reserves 36 2

def Cluster.mapReg (x : Cluster) : Nat := packed 12 4 fun p => x.map.getD p 0xF

def seqCode (q : SeqState) : Nat :=
  match q with
  | .unserved => 0
  | .running => 1
  | .waitToken => 2
  | .heldBoundary => 3
  | .noTurn => 4

/-- BANK_BUSY: banks that accepted matrix instructions name (02 R68). -/
def Core.bankBusy (c : Core) : Nat :=
  let banks := c.matRun.flatMap fun r => r.parts.map fun p => p.part.bank
  bit (banks.contains false) 0 + bit (banks.contains true) 1

/-- CORE_STATUS (02 R68). -/
def Core.statusReg (c : Core) : Nat :=
  field (seqCode c.seq) 0 3 + bit c.apart 3 + field c.bankBusy 4 2 + field c.arrayState.toNat 8 4 + field c.lastStatus.toNat 48 16

/-- The register set of a core (02 R68, R69, 05 R148). -/
def Core.readReg (c : Core) (off : Nat) : W64 :=
  match off with
  | 0x00 => BitVec.ofNat 64 c.statusReg
  | 0x08 => c.counters.valid
  | 0x10 => c.counters.feed
  | 0x18 => c.counters.drain
  | 0x20 => c.counters.power
  | 0x28 => c.counters.dummy
  | 0x30 => c.counters.matrix
  | 0x38 => c.counters.selfCheck
  | 0x40 => c.counters.corrected
  | 0x50 => c.counters.uncorrectable
  | 0x58 => c.counters.bankConflict
  | 0x60 => c.counters.scrubPasses
  | 0x68 => c.counters.stopped
  | _ => 0

def stackCode (x : StackState) : Nat :=
  match x with
  | .inService => 0
  | .training => 1
  | .lost => 2
  | .selfRefresh => 3

/-- HBM_STACK_STATUS and its counters (06 R177, R178). -/
def Stack.readReg (x : Stack) (n off : Nat) : W64 :=
  match off with
  | 0x00 => BitVec.ofNat 64 (field x.retrainCh 0 5 + bit x.retraining 5 + field (stackCode x.state) 8 2 + field x.thermal.toNat 16 2 +
      field n 20 4 + field x.temp.toNat 24 8 + field x.retired.toNat 32 32)
  | 0x08 => x.corrected
  | 0x10 => x.uncorrectable
  | 0x18 => x.reconstructed
  | 0x20 => x.foldErrors
  | 0x28 => x.retrains
  | 0x30 => x.parityRepairs
  | _ => 0

/-- The port set of a node's port (07 R203 to R205). -/
def State.portReg (s : State) (n d off : Nat) : W64 :=
  match peerNode n d with
  | none => 0
  | some m =>
    let x := s.portSet n d
    let seam := isSeam n d
    match off with
    | 0x00 => BitVec.ofNat 64 (1 + field x.half0.toNat 4 2 + field x.half1.toNat 6 2 + bit x.borrowed 8 + bit (decide (4 ≤ d)) 10 +
        bit seam 11 + field m 16 6)
    | 0x08 => x.retries
    | 0x10 => x.bulk
    | 0x18 => x.assured
    | 0x20 => x.wireTests
    | 0x40 => if seam then BitVec.ofNat 64 (x.spared0.toNat + field x.failed0.toNat 32 32) else 0
    | 0x48 => if seam then BitVec.ofNat 64 (x.spared1.toNat + field x.failed1.toNat 32 32) else 0
    | _ => 0

/-- REGION_POWER and its counters (12 R364, R365). -/
def State.regionReg (s : State) (c off : Nat) : W64 :=
  let x := s.cluster c
  match off with
  | 0x00 => BitVec.ofNat 64 (x.isolated.toNat + field (12 - bitCount x.isolated) 12 4 + field (s.limiter c) 16 4 + field x.op 20 4 +
      field (s.pace c / 10) 24 8 + field (setPointMv x.op / 5) 32 8 + field x.temp 40 8 + field x.current 48 16)
  | 0x08 => x.counters.dips
  | 0x10 => x.counters.dipResets
  | 0x18 => x.counters.trips
  | 0x20 => x.counters.sheds
  | 0x28 => x.counters.deferred
  | 0x30 => x.counters.isolations
  | 0x38 => x.counters.honoured
  | 0x40 => x.counters.ignored
  | _ => 0

/-- DOMAIN_PHASES (12 R366); islands 4 and 7 have no attach domain (01 R31). -/
def State.domainPhases (s : State) (i : Nat) : Nat :=
  let x := s.island i
  x.transitIsolated.toNat + field (4 - bitCount x.transitIsolated) 8 3 + field x.lagoonIsolated.toNat 16 6 +
    field (6 - bitCount x.lagoonIsolated) 22 3 + field x.attachIsolated.toNat 28 8 +
    field (if i = 4 ∨ i = 7 then 0 else 8 - bitCount x.attachIsolated) 36 4

/-- SECTOR_STATUS (12 R367). -/
def State.sectorStatus (s : State) (i : Nat) : Nat :=
  let x := s.island i
  let ok := 4 - bitCount x.sectorIsolated
  field x.sectorCurrent 0 16 + field (sectorRating ok) 16 16 + field ok 32 4

/-- A register of an island register block. -/
def State.islandReg (s : State) (i off : Nat) : W64 :=
  let x := s.island i
  if off = 0 then BitVec.ofNat 64 (islandId i)
  else if off = 0x10 then BitVec.ofNat 64 (s.domainStatus i)
  else if 0x10000 ≤ off ∧ off < 0x10100 then
    let c := s.cluster (i * 4 + (off - 0x10000) / 0x40)
    match (off - 0x10000) % 0x40 with
    | 0x00 => BitVec.ofNat 64 c.slotsReg
    | 0x08 => BitVec.ofNat 64 c.mapReg
    | _ => 0
  else if 0x20000 ≤ off ∧ off < 0x24000 then
    let k := (off - 0x20000) / 0x1000
    let p := (off - 0x20000) % 0x1000 / 0x100
    if p < 12 then (s.core ((i * 4 + k) * 12 + p)).readReg (off % 0x100) else 0
  else if off = 0x30000 then x.corrected
  else if off = 0x30008 then x.uncorrectable
  else if off = 0x30010 then x.reloads
  else if off = 0x30018 then x.scrubPasses
  else if 0x40000 ≤ off ∧ off < 0x40200 then
    match ((List.range 16).filter fun k => clusterAt (attachNode k) / 4 == i)[(off - 0x40000) / 0x100]? with
    | some k => (s.stack k).readReg k (off % 0x100)
    | none => 0
  else if 0x50000 ≤ off ∧ off < 0x51000 then
    s.portReg (nodeOf (i * 4 + (off - 0x50000) / 0x400)) ((off - 0x50000) % 0x400 / 0x80) (off % 0x80)
  else if 0x60000 ≤ off ∧ off < 0x60400 then s.regionReg (i * 4 + (off - 0x60000) / 0x100) (off % 0x100)
  else if off = 0x60400 then BitVec.ofNat 64 (s.domainPhases i)
  else if off = 0x60408 then BitVec.ofNat 64 (s.sectorStatus i)
  else 0

/-! ### Module registers -/

/-- HBM_CONFIG (06 R176). -/
def Hbm.configReg (x : Hbm) : Nat :=
  bit x.mode 0 + bit x.override 1 + bit x.imageMode 2 + bit x.prevMode 3 + field (x.lost.getD 0) 4 4 + bit x.lost.isSome 8

def jobCode (j : JobState) : Nat :=
  match j with
  | .none => 0
  | .loading => 1
  | .running => 2
  | .holding => 3
  | .completed => 4
  | .discarded => 5

/-- Partitions of the active layout. -/
def State.layoutParts (s : State) : Nat :=
  ((List.range 48).filter fun p => layoutHas (s.sched.layouts.getD s.sched.active []) p).length

/-- SCHED_STATUS (08 R232). -/
def State.schedStatus (s : State) : Nat :=
  let running := (s.sched.parts.filter fun e => (e.2.job.map fun j => j.state == .running).getD false).length
  field s.sched.active 0 3 + bit s.sched.restarting 3 + field s.layoutParts 16 6 + field running 32 6

/-- PARTITION_STATUS (08 R233). -/
def State.partitionStatus (s : State) (p : Nat) : Nat :=
  let x := s.part p
  let im := x.image
  match x.job with
  | none =>
    bit x.session.isSome 0 + bit ((im.map Image.elastic).getD false) 2 + bit ((im.map Image.relay).getD false) 3 +
      field (s.clustersOf p).length 40 6 + field x.lastStatus.toNat 48 16
  | some j =>
    bit x.session.isSome 0 + bit j.waiting 1 + bit ((im.map Image.elastic).getD false) 2 +
      bit ((im.map Image.relay).getD false) 3 + field (jobCode j.state) 16 4 +
      field (if j.state = .holding then j.reason else 0) 20 4 +
      field (if j.placement.isEmpty then (im.map Image.ranks).getD 0 else j.placement.length) 30 10 +
      field (s.clustersOf p).length 40 6 + field x.lastStatus.toNat 48 16

/-- A partition's set (08 R233, R234). -/
def State.partReg (s : State) (p off : Nat) : W64 :=
  let x := s.part p
  match off with
  | 0x00 => BitVec.ofNat 64 (s.partitionStatus p)
  | 0x08 => BitVec.ofNat 64 x.turnData
  | 0x10 => BitVec.ofNat 64 x.turnStream
  | 0x18 => BitVec.ofNat 64 x.replayedParts
  | 0x20 => BitVec.ofNat 64 x.rankMoves
  | _ => 0

/-- ARCH_STATUS (09 R262). -/
def Arch.statusReg (a : Arch) : Nat :=
  field a.state 0 2 + field a.role 2 2 + bit (a.eligible.contains a.seat && a.topology != 0) 9 + field a.topology 10 2 +
    field a.seat 16 6 + field a.master 24 6 + field a.deputy 32 6 + field (memberCount a.members) 40 8 + field a.epoch.toNat 48 16

/-- PACE_SET (09 R263): the module's group with the lowest set point. -/
def State.paceSet (s : State) : Nat :=
  let gs := s.homeGroups.map fun e => e.1
  match gs with
  | [] => 0
  | g :: t =>
    let set := fun (k : W32) => (s.group k).setPoint
    let low := t.foldl (fun m k => if (set k).isSome && decide ((set m).isNone ∨ (set k).getD 0 < (set m).getD 0) then k else m) g
    field ((s.group low).setPoint.getD 0) 0 16 + field (s.group low).lastReport 16 16 + field low.toNat 32 32

/-- STRAIT_ENGINE and its counters (09 R264). -/
def State.engineReg (s : State) (e off : Nat) : W64 :=
  let x := s.engine e
  match off with
  | 0x00 => BitVec.ofNat 64 (x.laneUse.toNat + field x.width 12 4 + field x.state 16 2 + field x.trunk 24 5 +
      field x.peerEngine 29 5 + field x.peerSeat 34 6)
  | 0x08 => x.retries
  | 0x10 => x.fecCorrected
  | 0x18 => x.fecUncorrectable
  | 0x20 => x.bulk
  | 0x28 => x.assured
  | _ => 0

/-- HOST_PORT_STATUS and its counters (10 R298). -/
def State.hostPortReg (s : State) (i off : Nat) : W64 :=
  let x := s.hostPort i
  let state := if x.up ≠ 0 then 2 else if x.training then 1 else if s.start.ready then 3 else 0
  match off with
  | 0x00 => BitVec.ofNat 64 (state + field x.mode 2 2 + field x.up.toNat 32 4)
  | 0x08 => x.rx
  | 0x10 => x.tx
  | 0x18 => x.drops
  | 0x20 => x.rdmaRx
  | 0x28 => x.rdmaTx
  | 0x30 => x.naks
  | 0x38 => x.fecCorrected
  | 0x40 => x.fecUncorrectable
  | 0x48 => x.failovers
  | _ => 0

/-- SESSION_STATUS (10 R299). -/
def HostSide.statusReg (h : HostSide) : Nat :=
  field h.handshakes.length 0 7 + field h.sessions.length 16 13 + field (h.sessions.filter fun e => e.2.held).length 32 13

/-- The code on the STAGE pins (11 R302); stage 7 in progress has no code and shows 0x6 (log 27). -/
def State.stageCode (s : State) : Nat :=
  if s.chassis.modReset then 0 else if s.start.failed then 8 + s.start.stage else if s.start.ready then 7 else min s.start.stage 6

/-- START_STATUS (11 R332). -/
def State.startStatus (s : State) : Nat :=
  let x := s.start
  let cfg := (x.image.map fun m => m.coolingClass.toNat).getD 0
  field s.stageCode 0 4 + field x.kind 16 1 + field x.imageSlot 17 1 + field cfg 18 2 + field x.coolingInForce 20 2 +
    bit (x.coolingInForce != cfg) 22 + bit x.noClassFits 23 + bit s.log.full 24 + field s.nv.startCount 32 32

/-- A staged version, where its PENDING bit is set (11 R333, 14 R423). -/
def State.stagedVersion (s : State) (kind : Nat) : W64 :=
  if s.nv.pending.getLsbD kind then
    match kind with
    | 0 => ((SMap.get? s.nv.tf (1 - s.nv.tfActive)).map fun f => f.version).getD 0
    | 1 => ((SMap.get? s.nv.opfw (1 - s.nv.opfwActive)).map fun f => f.version).getD 0
    | _ => ((SMap.get? s.nv.images (1 - s.nv.imageActive)).map fun m => m.version).getD 0
  else 0

/-- Word j of a stage report (11 R308). -/
def reportWord (rs : SMap (List Byte)) (n j : Nat) : W64 :=
  leWord ((((SMap.getD rs n []).drop (j * 8)) ++ List.replicate 8 0).take 8)

/-- CAP_SHARE, POWER_CONTROL and POWER_STATUS (12 R362, R363). -/
def State.powerReg (s : State) (off : Nat) : W64 :=
  let p := s.power
  match off with
  | 0x00 => BitVec.ofNat 64 (field p.bCap 0 6 + field p.inputMv 16 16 + field p.inputW 32 16 + field p.capW 48 16)
  | 0x08 => BitVec.ofNat 64 (packed 4 16 fun k => p.grants.getD k 0)
  | 0x10 => BitVec.ofNat 64 (bit (s.islands.any fun e => e.2.wakes.any fun c => (s.cluster c).wake.isNone) 0 + bit p.safeFloor 1 +
      field (if p.backstop then 2 else if 0 < p.bCap then 1 else 0) 2 2)
  | _ => 0

/-- SNAPSHOT_STATUS (13 R395). -/
def State.snapshotStatus (s : State) : Nat :=
  let snaps := s.sched.parts.filterMap fun e => e.2.snap
  let count := fun (ph : SnapPhase) => (snaps.filter fun k => k.phase == ph).length
  field (count .copying) 0 6 + field (count .kept) 8 6 + field (count .draining) 24 6 + field s.poolUsed 36 12 +
    field (snaps.foldl (fun n k => n + k.areaMib) 0) 48 16

/-- FIRMWARE_STATUS (14 R422). -/
def State.firmwareStatus (s : State) : Nat :=
  let x := s.start
  field x.tfSlot 0 1 + field x.opfwSlot 4 1 + field x.tfOutcome 5 3 + field x.opfwOutcome 8 3 + bit s.power.safeFloor 11

/-- STATE of MODULE_STATE (15 R440): starting until ready, then the low-power states, else running while a turn runs. -/
def State.moduleMode (s : State) : Nat :=
  if !s.start.ready then 0
  else if 3 ≤ s.chassis.mode then s.chassis.mode
  else if s.cores.any fun e => e.2.inTurn then 2 else 1

/-- MODULE_STATE (15 R440). -/
def State.moduleState (s : State) : Nat :=
  field s.moduleMode 0 3 + field (s.clusters.filter fun e => e.2.doze).length 8 8 + field s.chassis.harbourEntries 32 32

/-- CHASSIS_STATUS (16 R455). -/
def Chassis.statusReg (x : Chassis) : Nat :=
  x.alerts.toNat + bit x.latchOpen 8 + field x.removal 12 2 + field x.lidTemp.toNat 16 8

/-- A module register. -/
def State.moduleReg (s : State) (off : Nat) : W64 :=
  if off = 0 then BitVec.ofNat 64 (s.nv.productCode.toNat + s.nv.fuseVersion.toNat * 65536)
  else if off = 8 then BitVec.ofNat 64 s.nv.serial.toNat
  else if off = 0x10 then BitVec.ofNat 64 (s.nv.serial.toNat / 2 ^ 64)
  else if 0x40 ≤ off ∧ off < 0x80 ∧ off % 8 = 0 then Config.modulePk (Fin.ofNat 8 ((off - 0x40) / 8))
  else if off = 0x2000 then BitVec.ofNat 64 s.hbm.configReg
  else if off = 0x3000 then BitVec.ofNat 64 s.schedStatus
  else if 0x3100 ≤ off ∧ off < 0x3D00 then s.partReg ((off - 0x3100) / 0x40) ((off - 0x3100) % 0x40)
  else if off = 0x4000 then BitVec.ofNat 64 s.arch.statusReg
  else if off = 0x4008 then s.arch.members
  else if off = 0x4010 then s.arch.timeOffset
  else if off = 0x4018 then BitVec.ofNat 64 s.paceSet
  else if 0x4100 ≤ off ∧ off < 0x4700 then s.engineReg ((off - 0x4100) / 0x40) ((off - 0x4100) % 0x40)
  else if 0x5000 ≤ off ∧ off < 0x5100 then s.hostPortReg ((off - 0x5000) / 0x80) ((off - 0x5000) % 0x80)
  else if off = 0x5100 then BitVec.ofNat 64 (s.host.statusReg)
  else if off = 0x5108 then s.journal.id
  else if off = 0x5110 then BitVec.ofNat 64 s.journal.next
  else if off = 0x5118 then (if s.host.ptpHeard then s.host.ptpOffset else 0)
  else if 0x6000 ≤ off ∧ off < 0x6200 ∧ off % 8 = 0 then reportWord s.start.reports ((off - 0x6000) / 0x40) ((off - 0x6000) % 0x40 / 8)
  else if 0x6200 ≤ off ∧ off < 0x6400 ∧ off % 8 = 0 then reportWord s.start.prevReports ((off - 0x6200) / 0x40) ((off - 0x6200) % 0x40 / 8)
  else if off = 0x6400 then BitVec.ofNat 64 s.startStatus
  else if off = 0x6408 then BitVec.ofNat 64 (field s.start.response 0 32)
  else if off = 0x6410 then
    BitVec.ofNat 64 (s.nv.pending.toNat + field (if s.host.staging.isSome then 1 else 0) 4 2 + field s.host.stagingOutcome.toNat 48 16)
  else if off = 0x6418 then (s.start.image.map fun m => m.version).getD 0
  else if off = 0x6420 then s.stagedVersion 2
  else if off = 0x6428 then BitVec.ofNat 64 s.log.entries.length
  else if 0x7000 ≤ off ∧ off < 0x7018 then s.powerReg (off - 0x7000)
  else if off = 0x8000 then BitVec.ofNat 64 s.snapshotStatus
  else if off = 0x9000 then BitVec.ofNat 64 s.firmwareStatus
  else if off = 0x9008 then s.start.tfVersion
  else if off = 0x9010 then s.start.opfwVersion
  else if off = 0x9018 then s.stagedVersion 0
  else if off = 0x9020 then s.stagedVersion 1
  else if off = 0x9028 then s.firmware.schedRestarts
  else if off = 0x9030 then s.firmware.pmRestarts
  else if off = 0x9038 then s.firmware.adoptions
  else if off = 0x9040 then s.firmware.mismatches
  else if off = 0x9048 then s.firmware.refused
  else if off = 0x9050 then s.start.resetCause.zeroExtend 64
  else if off = 0xA000 then BitVec.ofNat 64 s.moduleState
  else if off = 0xB000 then BitVec.ofNat 64 s.chassis.statusReg
  else 0

/-- A register by device address; none where no register block stands (00 R11, R12). -/
def State.readReg (s : State) (a : Nat) : Option W64 :=
  match placeOf a with
  | .islandReg i off => some (s.islandReg i off)
  | .moduleReg off => some (s.moduleReg off)
  | _ => none

/-- The logical core whose register set an address lies in (02 R68). -/
def coreRegOf (a : Nat) : Option Nat :=
  match placeOf a with
  | .islandReg i off =>
    if 0x20000 ≤ off ∧ off < 0x24000 ∧ (off - 0x20000) % 0x1000 / 0x100 < 12 then
      some ((i * 4 + (off - 0x20000) / 0x1000) * 12 + (off - 0x20000) % 0x1000 / 0x100)
    else none
  | _ => none

end Sys2Proof.Machine
end

