-- ==== Sys2Proof/Machine/Session.lean ====
section
/-! DEFINITION. Datagrams, handshakes, sessions and their leases (10 R269 to R277, R281 to R288), and the commands of the
feature CORE. -/

namespace Sys2Proof.Machine

/-! ### Datagrams (R269, R270) -/

/-- A datagram passes its header, its tag and the sessions the module holds (R269, R270). -/
def State.datagramOk (s : State) (sid msgSeq : W64) (kind index count bytes : Nat) (authOk : Bool) : Bool :=
  let known :=
    match kind with
    | 1 => sid == 0
    | 3 => s.host.handshakes.any fun h => h.id == sid
    | _ => (s.session? sid).isSome
  authOk && known && decide (1 ≤ kind ∧ kind ≤ 7) && decide (index < count ∧ count ≤ 47) && decide (1 ≤ bytes ∧ bytes ≤ 1404) &&
    decide (kind ≤ 4 → msgSeq = 0)

/-- A fragment joins its message; a message that is whole leaves the buffer, and a 257th partial message finds no room
(R270). -/
def addFragment (ps : List Partial) (sid seq : W64) (kind : Byte) (index count : Nat) (data : List Byte) : List Partial :=
  let mine := fun (m : Partial) => m.sid == sid && m.seq == seq && m.kind == kind
  if count = 1 then ps
  else
    match ps.find? mine with
    | none => if 256 ≤ ps.length then ps else ps ++ [⟨sid, seq, kind, count, [(index, data)]⟩]
    | some m =>
      let m1 := { m with parts := SMap.put m.parts index data }
      if m1.parts.length = m.count then ps.filter fun x => !mine x
      else ps.map fun x => if mine x then m1 else x

/-- DATAGRAM_RECEIVE: dropped and counted, or accepted; a session's datagram renews its lease and says by which port the
module answers (R270, R271, R283). -/
def datagramReceive (port : Nat) (sid msgSeq : W64) (kind : Byte) (index count : Nat) (authOk : Bool) (data : List Byte) (s : State) :
    State :=
  if !s.hears then s
  else if !s.datagramOk sid msgSeq kind.toNat index count data.length authOk then
    s.modHostPort port fun h => { h with drops := h.drops + 1 }
  else
    let s1 := s.modHostPort port fun h => { h with rx := h.rx + 1 }
    let s2 := (s1.renewLease sid).modSession sid fun x => { x with port := port }
    { s2 with host := { s2.host with partials := addFragment s2.host.partials sid msgSeq kind index count data } }

def execDatagramReceive (port : Fin 2) (sid msgSeq : W64) (kind : Byte) (fragIndex fragCount : W16) (_secondCopy authOk : Bool)
    (data : List Byte) (s : State) : Host.Outcome State Fault Refusal :=
  .next (datagramReceive port.val sid msgSeq kind fragIndex.toNat fragCount.toNat authOk data s)

/-- FRAGMENT_TIMEOUT: what stays incomplete for 200 ms is discarded (R270). -/
def fragmentTimeout (sid msgSeq : W64) (s : State) : State :=
  { s with host := { s.host with partials := s.host.partials.filter fun m => !(m.sid == sid && m.seq == msgSeq) } }

def execFragmentTimeout (sid msgSeq : W64) (s : State) : Host.Outcome State Fault Refusal := .next (fragmentTimeout sid msgSeq s)

/-! ### Handshakes (R272 to R275) -/

/-- MODULE_HELLO leaves in 37 fragments by the port of its HELLO. -/
def State.sendHello (s : State) (h : Handshake) : State :=
  (s.emit (.moduleHello h.id h.hello)).modHostPort h.port fun p => { p with tx := p.tx + 37 }

/-- The HELLO body, and bytes 0x000 to 0x697 of the MODULE_HELLO that answers it (R272). -/
def helloBody (version : W16) (nonce : BitVec 256) (ek : List Byte) : List Byte :=
  leBytes 2 version.toNat ++ leBytes 6 0 ++ leBytes 32 nonce.toNat ++ ek

def State.moduleHello (s : State) (ek : List Byte) (id : W64) : List Byte :=
  leBytes 32 (Config.free256 s.freeCtr).toNat ++ Config.kemCiphertext s.freeCtr ek ++ leBytes 16 s.nv.serial.toNat ++
    ((List.range 8).flatMap fun k => leBytes 8 (Config.modulePk (Fin.ofNat 8 k)).toNat) ++ leBytes 8 id.toNat

/-- A handshake with its transcript digest and the keys of R273. -/
def State.newHandshake (s : State) (port : Nat) (version : W16) (nonce : BitVec 256) (ek : List Byte) (id : W64) : Handshake :=
  let hello := s.moduleHello ek id
  let t := shake256 (helloBody version nonce ek ++ hello) 64
  let ss := Config.kemSecret s.freeCtr ek
  { id := id, port := port, nonce := nonce, hello := hello, transcript := t, secret := ss
    keys := shake256 (leBytes 32 ss.toNat ++ t ++ [1]) 64 }

/-- HELLO: a provisional session with its MODULE_HELLO, the same one again for the same host nonce, and nothing beyond 64
handshakes (R272, R275). In harbour it starts the exit (15 R433). -/
def hello (port : Nat) (version : W16) (nonce : BitVec 256) (ek : List Byte) (s : State) : State :=
  if !s.hears then s
  else
    match (s.host.handshakes ++ s.host.answered).find? fun h => h.nonce == nonce with
    | some h => s.sendHello h
    | none =>
      if 64 ≤ s.host.handshakes.length then s
      else
        let r := s.fresh
        let h := r.2.newHandshake port version nonce ek r.1
        let s1 := { r.2 with freeCtr := r.2.freeCtr + 1, host := { r.2.host with handshakes := r.2.host.handshakes ++ [h] } }
        let s2 : State := s1.sendHello h
        if s2.chassis.mode = 3 then { s2 with chassis := { s2.chassis with mode := 6 } } else s2

def execHello (port : Fin 2) (version : W16) (nonce : BitVec 256) (ek : List Byte) (s : State) : Host.Outcome State Fault Refusal :=
  .next (hello port.val version nonce ek s)

def State.dropHandshake (s : State) (hs : W64) : State :=
  { s with host := { s.host with handshakes := s.host.handshakes.filter fun h => h.id != hs } }

/-- The GID of a sub-port: its IPv6 address, or its IPv4 address in mapped form (R281). -/
def State.gid (s : State) (port sub : Nat) : List Byte :=
  match s.start.image with
  | none => List.replicate 16 0
  | some m =>
    match m.subPorts[port * 4 + sub]? with
    | none => List.replicate 16 0
    | some c => if c.prefix6 ≠ 0 then leBytes 16 c.ipv6.toNat else List.replicate 10 0 ++ [0xFF, 0xFF] ++ leBytes 4 c.ipv4.toNat

/-- The body of SESSION_READY (R272). One that refuses carries no grant: features, lease, retention, token and LAST_CMD_SEQ read zero (log
121). -/
def State.readyBody (s : State) (sid : W64) (status detail : W16) : List Byte :=
  let x := if status = stOk then s.session? sid else none
  leBytes 2 status.toNat ++ leBytes 2 detail.toNat ++ leBytes 2 1 ++ leBytes 2 0 ++ leBytes 8 sid.toNat ++
    leBytes 8 ((x.map fun y => y.features.toNat).getD 0) ++ leBytes 4 ((x.map Session.lease).getD 0) ++
    leBytes 4 ((x.map Session.retention).getD 0) ++ leBytes 32 ((x.map fun y => y.token.toNat).getD 0) ++ leBytes 8 s.journal.id.toNat ++
    leBytes 8 s.journal.next ++ leBytes 8 ((x.map Session.lastCmd).getD 0) ++ s.gid 0 0 ++ s.gid 1 0 ++ leBytes 8 0

/-- SESSION_READY ends a handshake; its MODULE_HELLO stays for its 2 s, its keys do not (R272, R273). -/
def State.ready (s : State) (h : Handshake) (sid : W64) (status detail : W16) : State :=
  let s1 := s.dropHandshake h.id
  let s2 := { s1 with host := { s1.host with answered := s1.host.answered ++ [{ h with transcript := [], secret := 0, keys := [] }] } }
  (s2.emit (.sessionReady h.id (s.readyBody sid status detail))).modHostPort h.port fun p => { p with tx := p.tx + 1 }

/-- The key entry that HOST_AUTH names (11 R326). -/
def State.hostKey (s : State) (id : W64) : Option HostKey :=
  match s.start.image with
  | none => none
  | some m => m.hostKeys.find? fun k => k.keyId == id

/-- Features granted: the request, the table, the key's mask; CORE always (R274). -/
def grantedFeatures (a : HostAuth) (k : HostKey) : W64 := (a.features &&& 0x3FFF &&& k.featureMask) ||| 1

/-- LEASE_S and RETENTION_S in force; none out of range (R272). -/
def leaseOf (a : HostAuth) : Option Nat :=
  let n := a.leaseS.toNat
  if n = 0 then some 20 else if 2 ≤ n ∧ n ≤ 600 then some n else none

def retentionOf (a : HostAuth) : Option Nat :=
  let n := a.retentionS.toNat
  if n = 0 then some 300 else if 10 ≤ n ∧ n ≤ 3600 then some n else none

/-- Version and ranges of HOST_AUTH (R274, R278). -/
def authRefusal (a : HostAuth) : Option (W16 × W16) :=
  if a.version ≠ 1 then some (stFeature, dVersion)
  else if leaseOf a = none ∨ retentionOf a = none then some (stIllegal, dRange)
  else none

/-- The HOST_AUTH body, with RESUME_SESSION and RESUME_TOKEN where it resumes one (R272). -/
def authBody (a : HostAuth) (resume : Option (W64 × BitVec 256)) : List Byte :=
  let r := resume.getD (0, 0)
  let x := a.secondAddr.getD (0, 0)
  leBytes 2 a.version.toNat ++ leBytes 2 ((if resume.isSome then 1 else 0) + (if a.secondAddr.isSome then 2 else 0)) ++
    leBytes 4 a.leaseS.toNat ++ leBytes 4 a.retentionS.toNat ++ leBytes 4 0 ++ leBytes 8 a.features.toNat ++ leBytes 8 a.keyId.toNat ++
    leBytes 8 r.1.toNat ++ leBytes 32 r.2.toNat ++ leBytes 16 x.1.toNat ++ leBytes 2 x.2.toNat ++ leBytes 6 0 ++ a.signature

/-- The session keys (R273), the host-to-module key first. -/
def Handshake.sessionKeys (h : Handshake) (body : List Byte) : List Byte :=
  shake256 (leBytes 32 h.secret.toNat ++ h.transcript ++ shake256 body 64 ++ [2]) 64

/-- The session that a HOST_AUTH opens or moves to its key; the keys of the new handshake replace a resumed session's (R273). -/
def sessionFor (old : Session) (h : Handshake) (a : HostAuth) (resume : Option (W64 × BitVec 256)) (k : HostKey) (now : Nat)
    (token : BitVec 256) : Session :=
  let f := grantedFeatures a k
  { old with
    keyId := k.keyId, tenant := k.tenant, operator := k.operator, partitionMask := k.partitionMask, features := f
    lease := (leaseOf a).getD 20, retention := (retentionOf a).getD 300, held := false, leaseFrom := now, token := token
    dual := f.getLsbD 11 && a.secondAddr.isSome, keys := h.sessionKeys (authBody a resume), port := h.port }

def freshSession : Session :=
  { keyId := 0, tenant := 0, operator := false, partitionMask := 0, features := 0, lease := 20, retention := 300, token := 0 }

/-- HOST_AUTH: the checks of R278 in its order, then the session under its provisional ID, with SESSION_OPENED. -/
def hostAuth (hs : W64) (a : HostAuth) (s : State) : State :=
  if !s.answers then s
  else
    match s.host.handshakes.find? fun h => h.id == hs with
    | none => s
    | some h =>
      if 4096 ≤ s.host.sessions.length then s.ready h h.id stSessionUnknown dSessionLimit
      else
        match s.hostKey a.keyId with
        | none => s.ready h h.id stAuthFailed 0
        | some k =>
          if !a.sigValid then s.ready h h.id stAuthFailed 0
          else
            match authRefusal a with
            | some r => s.ready h h.id r.1 r.2
            | none =>
              let token := Config.free256 s.freeCtr
              let f := grantedFeatures a k
              let s1 := ({ s with freeCtr := s.freeCtr + 1 }).setSession h.id (sessionFor freshSession h a none k s.timeBase.toNat token)
              let s2 := s1.journalWrite 0x01 0 0 { sid := h.id, tenant := k.tenant } (leBytes 8 k.keyId.toNat ++ leBytes 8 f.toNat)
              s2.ready h h.id stOk 0

def execHostAuth (hs : W64) (a : HostAuth) (s : State) : Host.Outcome State Fault Refusal :=
  .next (s.whenAnswering (.hostAuth hs a) fun t => hostAuth hs a t)

/-- A wrong token is recorded; the eighth within 60 s locks the session's resumes for 60 s (R286). -/
def Session.wrongToken (x : Session) (now : Nat) : Session :=
  let recent := (x.wrongTokens.filter fun t => decide (now < t + 60000000000)) ++ [now]
  if 8 ≤ recent.length then { x with wrongTokens := [], lockedUntil := now + 60000000000 } else { x with wrongTokens := recent }

/-- The jobs of a resumed session leave their Lease hold (R286). -/
def State.resumeJobs (s : State) (sid : W64) : State :=
  (s.ownedParts sid).foldl (fun t p =>
    (t.modJob p fun j => { j with holdLease := false, leaseDue := false }).leaveHold p) s

/-- HOST_AUTH with RESUME: tenant, lock and token are checked, then the session moves to the new keys (R286). -/
def hostAuthResume (hs : W64) (a : HostAuth) (sid : W64) (token : BitVec 256) (s : State) : State :=
  if !s.answers then s
  else
    match s.host.handshakes.find? fun h => h.id == hs with
    | none => s
    | some h =>
      match s.session? sid with
      | none => s.ready h h.id stSessionUnknown 0
      | some x =>
        match s.hostKey a.keyId with
        | none => s.ready h h.id stAuthFailed 0
        | some k =>
          if !a.sigValid ∨ k.tenant ≠ x.tenant then s.ready h h.id stAuthFailed 0
          else if s.timeBase.toNat < x.lockedUntil then s.ready h h.id stResumeToken dResumeLocked
          else if token ≠ x.token then (s.setSession sid (x.wrongToken s.timeBase.toNat)).ready h h.id stResumeToken 0
          else
            match authRefusal a with
            | some r => s.ready h h.id r.1 r.2
            | none =>
              let next := Config.free256 s.freeCtr
              let s1 := (({ s with freeCtr := s.freeCtr + 1 }).setSession sid (sessionFor x h a (some (sid, token)) k s.timeBase.toNat next)).closeQps sid
              let s2 := s1.journalWrite 0x02 0 0 { sid := sid, tenant := k.tenant } (leBytes 8 k.keyId.toNat)
              (s2.resumeJobs sid).ready h sid stOk 0

def execHostAuthResume (hs : W64) (a : HostAuth) (resume : W64) (token : BitVec 256) (s : State) :
    Host.Outcome State Fault Refusal :=
  .next (s.whenAnswering (.hostAuthResume hs a resume token) fun t => hostAuthResume hs a resume token t)

/-- HANDSHAKE_TIMEOUT: 2 s after the HELLO its MODULE_HELLO is kept no longer, and a handshake without SESSION_READY ends (R272). -/
def handshakeTimeout (hs : W64) (s : State) : State :=
  let t := s.dropHandshake hs
  { t with host := { t.host with answered := t.host.answered.filter fun h => h.id != hs } }

def execHandshakeTimeout (hs : W64) (s : State) : Host.Outcome State Fault Refusal := .next (handshakeTimeout hs s)

/-! ### Commands of every session (R279 to R281, R283, R287) -/

/-- KEEPALIVE (R283): the lease is renewed, as by any datagram. -/
def keepalive (r : HostReq) (s : State) : State := s.command r 0x0001 [0] false fun _ t => (t, some {})

def execKeepalive (r : HostReq) (s : State) : Host.Outcome State Fault Refusal :=
  .next (s.whenAnswering (.keepalive r) fun t => keepalive r t)

/-- CLOSE_SESSION (R287): refused with jobs unless FORCE; the session ends as at the end of retention. -/
def closeSession (r : HostReq) (force : Bool) (s : State) : State :=
  s.command r 0x0002 [0] false fun x t =>
    let jobs := (t.ownedParts r.sid).any fun p => (t.part p).busy || !(t.part p).queue.isEmpty
    if jobs && !force then (t, some refuseState)
    else
      let u := t.accepted x r 0x0002 0 none (leBytes 2 (bit force 0))
      (u.1.endSession r.sid 0, some { jseq := u.2 })

def execCloseSession (r : HostReq) (force : Bool) (s : State) : Host.Outcome State Fault Refusal :=
  .next (s.whenAnswering (.closeSession r force) fun t => closeSession r force t)

/-- The event codes of 00 R16 in ascending order. -/
def eventCodes : List W16 :=
  [evUnitSubstituted, evCapacityChanged, evSchedulerRestarted, evPhaseReserveLost, evSupplyDip, evThermalShed, evCoolingFallback,
   evWakeDeferred, evSessionHeld, evJobDiscarded, evMemoryScrubbed, evPortFailover, evMasterTakeover, evLaneSpared, evWireSpared,
   evHalfLost, evModuleLeft, evStackLost, evChannelRetrained, evWordUncorrectable, evDoublesMismatch, evRollTestDone]

/-- COUNTERS (R281): how often each event has been raised since the last start. -/
def counters (r : HostReq) (s : State) : State :=
  s.command r 0x0003 [0] false fun _ t =>
    (t, some { body := leBytes 8 eventCodes.length ++
      eventCodes.flatMap fun c => leBytes 8 c.toNat ++ leBytes 8 (SMap.getD t.eventCounts c.toNat 0).toNat })

def execCounters (r : HostReq) (s : State) : Host.Outcome State Fault Refusal :=
  .next (s.whenAnswering (.counters r) fun t => counters r t)

/-! ### Leases and retention (R283 to R285) -/

/-- LEASE_EXPIRY: the session is held, its queue pairs close, running jobs hold at their next commit, loading jobs before
their first turn (R284). Jobs that stand in Holding add the cause Lease. -/
def leaseExpiry (sid : W64) (s : State) : State :=
  match s.session? sid with
  | none => s
  | some x =>
    if x.held then s
    else
      let now := s.timeBase.toNat
      let s1 := s.setSession sid { x with held := true, leaseFrom := now }
      let s2 := (s1.countEvent evSessionHeld).journalWrite 0x03 evSessionHeld 0 { sid := sid, tenant := x.tenant }
        (leBytes 8 (now + x.retention * 1000000000))
      let s3 := s2.closeQps sid
      (s3.ownedParts sid).foldl (fun t p =>
        match (t.part p).job with
        | some j =>
          if j.state = .running ∨ j.state = .loading then t.modJob p fun j => { j with leaseDue := true }
          else if j.state = .holding then t.modJob p fun j => { j with holdLease := true }
          else t
        | none => t) s3

def execLeaseExpiry (sid : W64) (s : State) : Host.Outcome State Fault Refusal := .next (s.scheduled (leaseExpiry sid s))

/-- RETENTION_EXPIRY (R285). -/
def retentionExpiry (sid : W64) (s : State) : State :=
  match s.session? sid with
  | some x => if x.held then s.endSession sid 1 else s
  | none => s

def execRetentionExpiry (sid : W64) (s : State) : Host.Outcome State Fault Refusal := .next (s.scheduled (retentionExpiry sid s))

/-! ### Port failover (R288) -/

/-- Sub-ports in service, port 0 in bits 3 to 0 (R476). -/
def State.upByte (s : State) : Byte := BitVec.ofNat 8 ((s.hostPort 0).up.toNat + (s.hostPort 1).up.toNat * 16)

def State.failoverEvent (s : State) (port sub reason cause : Nat) : State :=
  s.event evPortFailover none
    [BitVec.ofNat 8 port, BitVec.ofNat 8 sub, BitVec.ofNat 8 reason, BitVec.ofNat 8 cause, s.upByte]

/-- The lowest-numbered usable queue pair of a session. -/
def State.usableQp (s : State) (sid : W64) : Option Nat :=
  (s.host.qps.find? fun q => q.2.sid == sid && !q.2.failed).map Prod.fst

/-- A queue pair of the session that carries traffic. -/
def State.sessionQp (s : State) (sid : W64) (qpn : W32) : Bool :=
  match s.qp? qpn with
  | some q => q.sid == sid && !q.failed
  | none => false

/-- Bytes that a drained image holds at the least: header, stream record, both signatures, the program space's pages, a header page for
each rank with its carried pages, the lagoon copy, the inbox slots (13 R388, R392). The section table and the padding of sections come on
top. -/
def State.leastBytes (s : State) (p : Nat) (k : Snapshot) : Nat :=
  let sp := (s.part p).programSpace
  let pages := (k.guarded ++ k.pooled).filter fun g => decide (sp.1 ≤ g * 2 ^ 21 ∧ (g + 1) * 2 ^ 21 ≤ sp.2)
  let carried := match (s.part p).image with
    | some im => k.shadow.foldl (fun n e => n + (im.carriedPages e.1).length) 0
    | none => 0
  4096 + 256 + 2 * 49856 + pages.length * 2 ^ 21 + (k.shadow.length + carried) * 4096 + k.lagoon.length +
    k.slots.foldl (fun n e => n + e.2.length) 0

/-- The drain of a partition whose queue pair is gone goes on by another from the first byte not acknowledged, or waits (R288, 13 R391). -/
def State.moveDrain (s : State) (sid : W64) (p : Nat) : State :=
  match (s.part p).snap with
  | none => s
  | some k =>
    if !k.drain || s.sessionQp sid k.qp then s
    else
      match s.usableQp sid with
      | none => s.modPart p fun x => { x with snap := some { k with waitQp := true } }
      | some q =>
        let k1 := { k with qp := BitVec.ofNat 32 q, waitQp := false }
        let t := s.modPart p fun x => { x with snap := some k1 }
        if k.phase = .draining then
          t.emit (.rdmaWrite k1.qp (k.remote + BitVec.ofNat 64 k.sent) (BitVec.ofNat 64 (s.leastBytes p k - k.sent)))
        else t

/-- A pull whose queue pair is gone, by another of the session: the module issues it again (R288). -/
def State.reissued (s : State) (sid : W64) (k : Pull) : Option Pull :=
  if s.sessionQp sid k.qp then none else (s.usableQp sid).map fun q => { k with qp := BitVec.ofNat 32 q }

def State.emitPull (s : State) (k : Pull) : State := s.emit (.rdmaRead k.qp k.addr k.length)

/-- The pull of a LOAD_IMAGE goes on by another queue pair. -/
def State.moveLoad (s : State) (sid : W64) (p : Nat) : State :=
  match (s.part p).load with
  | none => s
  | some l =>
    match s.reissued sid l.pull with
    | none => s
    | some k => (s.modPart p fun x => { x with load := some { l with pull := k } }).emitPull k

/-- So does that of a RESTORE. -/
def State.moveRestore (s : State) (sid : W64) (p : Nat) : State :=
  match (s.part p).restore with
  | none => s
  | some r =>
    match r.pull.bind (s.reissued sid) with
    | none => s
    | some k => (s.modPart p fun x => { x with restore := some { r with pull := some k } }).emitPull k

/-- And that of a STAGE_UPDATE. -/
def State.moveStaging (s : State) (sid : W64) : State :=
  match s.host.staging with
  | none => s
  | some g =>
    if g.sid ≠ sid then s
    else
      match s.reissued sid g.pull with
      | none => s
      | some k => { s with host := { s.host with staging := some { g with pull := k } } }.emitPull k

/-- A session's transfers whose queue pair is gone (R288, 13 R391). -/
def State.moveTransfers (s : State) (sid : W64) : State :=
  ((s.ownedParts sid).foldl (fun t p => ((t.moveDrain sid p).moveLoad sid p).moveRestore sid p) s).moveStaging sid

/-- SUBPORT_LOSS: PORT_FAILOVER, the sub-port's queue pairs fail, sessions answer by the other port where none of this
one's is left, and the handshakes there end (R288, R300). -/
def subportLoss (port sub : Nat) (fec : Bool) (s : State) : State :=
  if !(s.hostPort port).up.getLsbD sub then s
  else
    let s1 := s.modHostPort port fun h => { h with up := h.up &&& ~~~(BitVec.ofNat 4 (2 ^ sub)), failovers := h.failovers + 1 }
    let s2 := s1.failoverEvent port sub 0 (if fec then 1 else 0)
    let s3 := { s2 with host := { s2.host with
      qps := s2.host.qps.map (fun (e : Nat × Qp) => if e.2.port = port ∧ e.2.sub = sub then (e.1, { e.2 with failed := true }) else e) } }
    let sids := (s3.host.sessions.map fun e => BitVec.ofNat 64 e.1)
    let s4 : State := sids.foldl State.moveTransfers s3
    if (s4.hostPort port).up ≠ 0 then s4
    else
      { s4 with host := { s4.host with
        handshakes := s4.host.handshakes.filter fun h => h.port != port
        sessions := s4.host.sessions.map (fun (e : Nat × Session) =>
          if e.2.port = port ∧ (s4.hostPort (1 - port)).up ≠ 0 then (e.1, { e.2 with port := 1 - port }) else e) } }

def execSubportLoss (port : Fin 2) (sub : Fin 4) (fecCause : Bool) (s : State) : Host.Outcome State Fault Refusal :=
  .next (subportLoss port.val sub.val fecCause s)

/-- Sub-ports that a mode uses (R266). -/
def subPortsOf (mode : Nat) : Nat := if mode = 0 then 1 else if mode = 1 then 2 else 4

/-- SUBPORT_RETURN: after 1 s of stable link (R288). -/
def subportReturn (port sub : Nat) (s : State) : State :=
  let h := s.hostPort port
  if !s.start.ready || s.chassis.standby || h.up.getLsbD sub || decide (subPortsOf h.mode ≤ sub) then s
  else
    (s.modHostPort port fun h => { h with up := h.up ||| BitVec.ofNat 4 (2 ^ sub), training := false }).failoverEvent port sub 1 0xFF

def execSubportReturn (port : Fin 2) (sub : Fin 4) (s : State) : Host.Outcome State Fault Refusal :=
  .next (subportReturn port.val sub.val s)

end Sys2Proof.Machine
end

