-- ==== Sys2Proof/Machine/ImageFile.lean ====
section
/-! DEFINITION. The program image as LOAD_IMAGE reads and checks it (08 R211 to R213, 05 R146). -/

namespace Sys2Proof.Machine

/-- A little-endian field of `n` bytes of an image. -/
def fileNat (bs : List Byte) (off n : Nat) : Nat := ((bs.drop off).take n).foldr (fun b acc => b.toNat + 256 * acc) 0

/-- Bytes that must be zero. -/
def fileZero (bs : List Byte) (off n : Nat) : Bool := fileNat bs off n == 0

/-- DIGEST over the whole image with its own field zero (08 R211). -/
def imageDigestOf (bs : List Byte) : List Byte := shake256 (bs.take 0x40 ++ List.replicate 32 0 ++ bs.drop 0x60) 32

def imageDigestOk (bs : List Byte) : Bool := imageDigestOf bs == (bs.drop 0x40).take 32

/-- Entry k of the range table (08 R212). -/
def rangeAt (bs : List Byte) (k : Nat) : RangeDecl :=
  let o := fileNat bs 0x28 4 + 32 * k
  { word := fileNat bs o 4, words := fileNat bs (o + 4) 4, kind := fileNat bs (o + 8) 1, rankFirst := fileNat bs (o + 0xA) 2
    rankLast := fileNat bs (o + 0xC) 2, master := fileNat bs (o + 0x10) 8, stride := fileNat bs (o + 0x18) 8 }

/-- Entry k of the backed-region table (05 R146) with VALID set; none for one that is ignored. -/
def backedAt (bs : List Byte) (k : Nat) : Option Backed :=
  let o := fileNat bs 0x2C 4 + 32 * k
  if fileNat bs (o + 0x14) 2 % 2 = 1 then
    some { addr := fileNat bs o 8, master := fileNat bs (o + 8) 8, length := fileNat bs (o + 0x10) 4 }
  else none

/-- The image as the scheduler core keeps it. -/
def readImage (bs : List Byte) : Image :=
  { elastic := fileNat bs 6 2 % 2 == 1, relay := fileNat bs 6 2 / 2 % 2 == 1, ranks := fileNat bs 8 2, turns := fileNat bs 0x10 8
    codeOffset := fileNat bs 0x18 4, codeSize := fileNat bs 0x1C 4, codeWord := fileNat bs 0x20 4, jobBlockWord := fileNat bs 0x24 4
    ranges := (List.range (fileNat bs 0xA 2)).map (rangeAt bs)
    backed := (List.range (fileNat bs 0xC 2)).filterMap (backedAt bs)
    hbmMinGib := fileNat bs 0x30 4, size := fileNat bs 0x38 8, digest := (bs.drop 0x40).take 32 }

/-- The header's fields lie in their ranges (08 R211). -/
def headerOk (bs : List Byte) (i : Image) : Bool :=
  decide (0x60 ≤ bs.length) && fileNat bs 0 4 == 0x47505646 && fileNat bs 4 2 == 1 && decide (fileNat bs 6 2 < 4) &&
    decide (1 ≤ i.ranks ∧ i.ranks ≤ 576) && decide (fileNat bs 0xA 2 ≤ 64) && decide (fileNat bs 0xC 2 ≤ 768) && fileZero bs 0xE 2 &&
    decide (1 ≤ i.turns ∧ i.turns ≤ 2 ^ 63) && decide (i.codeOffset % 8 = 0 ∧ i.codeSize % 8 = 0 ∧ 8 ≤ i.codeSize ∧ i.codeSize ≤ 2 ^ 22) &&
    decide (i.codeWord % 512 = 0 ∧ i.jobBlockWord % 512 = 0) && decide (fileNat bs 0x28 4 % 8 = 0 ∧ fileNat bs 0x2C 4 % 8 = 0) &&
    fileZero bs 0x34 4 && decide (i.codeOffset + i.codeSize ≤ i.size) && decide (fileNat bs 0x28 4 + 32 * fileNat bs 0xA 2 ≤ i.size) &&
    decide (fileNat bs 0x2C 4 + 32 * fileNat bs 0xC 2 ≤ i.size) &&
    decide (i.codeWord * 8 + i.codeSize ≤ 2 ^ 24 ∧ i.jobBlockWord + 512 ≤ 2 ^ 21)

/-- One range declaration (08 R212). -/
def rangeOk (bs : List Byte) (i : Image) (k : Nat) : Bool :=
  let d := rangeAt bs k
  let o := fileNat bs 0x28 4 + 32 * k
  decide (d.word % 512 = 0 ∧ d.words % 512 = 0 ∧ 512 ≤ d.words ∧ d.word + d.words ≤ 2 ^ 21 ∧ d.kind ≤ 2) &&
    fileZero bs (o + 9) 1 && fileZero bs (o + 0xE) 2 && decide (d.rankFirst ≤ d.rankLast ∧ d.rankLast < i.ranks) &&
    (if d.kind = 0 then decide (d.master % 4096 = 0 ∧ d.stride % 4096 = 0) else decide (d.master = 0 ∧ d.stride = 0))

/-- No two declarations of a rank overlap, and its carried ranges total at most 2 MiB (08 R213). -/
def disjointRanges (l : List RangeDecl) : Bool :=
  match l with
  | [] => true
  | d :: t => t.all (fun e => !overlaps d.word d.words e.word e.words) && disjointRanges t

def rankOk (i : Image) (rank : Nat) : Bool :=
  disjointRanges (i.rangesOf rank) && decide (((i.carried rank).foldl (fun n d => n + d.2 * 8) 0) ≤ 2 ^ 21)

/-- Offsets of program space for an image in a binding (08 R213). -/
def spaceOf (i : Image) (bytes : Nat) : Nat × Nat := ((i.size + 4095) / 4096 * 4096, bytes - shadowBytes i.ranks)

/-- Every master of a resident range lies in program space (08 R213). -/
def mastersOk (i : Image) (bytes : Nat) : Bool :=
  let sp := spaceOf i bytes
  (i.ranges.filter fun d => d.kind == 0).all fun d =>
    decide (sp.1 ≤ d.master) && decide (d.master + (d.rankLast - d.rankFirst) * d.stride + d.words * 8 ≤ sp.2)

/-- One backed-region declaration (05 R146) for a partition with these clusters. -/
def backedOk (cs : List Nat) (sp : Nat × Nat) (b : Backed) : Bool :=
  decide (b.addr % 65536 = 0 ∧ b.master % 65536 = 0 ∧ b.length % 65536 = 0 ∧ 65536 ≤ b.length ∧ b.length ≤ 2 ^ 26) &&
    cs.any (fun c => within b.addr b.length (quarterBase c) (2 ^ 26)) && decide (sp.1 ≤ b.master) && decide (b.master + b.length ≤ sp.2)

/-- The declarations in force: none overlaps another, at most 16 to a quarter (05 R146). -/
def backedsOk (cs : List Nat) (sp : Nat × Nat) (bs : List Backed) : Bool :=
  bs.all (backedOk cs sp) && disjointRanges (bs.map fun b => ⟨b.addr, b.length, 0, 0, 0, 0, 0⟩) &&
    cs.all fun c => decide ((bs.filter fun b => within b.addr b.length (quarterBase c) (2 ^ 26)).length ≤ 16)

/-- FLAGS and the reserved bytes of the backed-region table; of an entry with VALID 0 only FLAGS are checked (05 R146). -/
def backedFileOk (bs : List Byte) : Bool :=
  (List.range (fileNat bs 0xC 2)).all fun k =>
    let o := fileNat bs 0x2C 4 + 32 * k
    let f := fileNat bs (o + 0x14) 2
    decide (f < 2) && (f == 0 || fileZero bs (o + 0x16) 10)

/-- The image obeys R211, R212, R213 and R146 in a binding of `bytes` over these clusters. -/
def imageLayoutOk (bs : List Byte) (cs : List Nat) (bytes : Nat) : Bool :=
  let i := readImage bs
  headerOk bs i && decide (i.hbmMinGib * 2 ^ 30 ≤ bytes) && decide (shadowBytes i.ranks ≤ bytes) &&
    (List.range (fileNat bs 0xA 2)).all (rangeOk bs i) && (List.range i.ranks).all (rankOk i) && mastersOk i bytes &&
    backedFileOk bs && backedsOk cs (spaceOf i bytes) i.backed

end Sys2Proof.Machine
end

