-- ==== Sys2Proof/Machine/HostJobs.lean ====
section
/-! DEFINITION. The commands of JOBS, PHASE_HINTS and RDMA, and RoCEv2 itself (10 R280, R281, R289, R290; 08 R208 to R213). -/

namespace Sys2Proof.Machine

/-- The first condition of R278 that holds decides the answer. -/
def firstRefusal (l : List (Bool × Answer)) : Option Answer := (l.find? fun x => x.1).map Prod.snd

/-- A command after its checks: the first refusal changes nothing. -/
def checked (s : State) (l : List (Bool × Answer)) (f : State → State × Option Answer) : State × Option Answer :=
  match firstRefusal l with
  | some a => (s, some a)
  | none => f s

def illegal (detail : W16) : Answer := .refuse stIllegal detail

/-! ### Bindings (08 R208, R209) -/

/-- A new layout becomes active; every cluster whose partition changes is reset, and the partitions that took one stand
under reset until it is done (08 R209, 15 R428). -/
def State.changeLayout (s : State) (layout : Nat) : State :=
  let old := s.sched.layouts.getD s.sched.active []
  let new := s.sched.layouts.getD layout []
  let moved := (List.range 48).filter fun c => old.getD c 0xFF != new.getD c 0xFF
  let s1 := { s with sched := { s.sched with active := layout } }
  let s2 := moved.foldl State.resetClusterOf s1
  ((List.range 48).filter fun p => (layoutClusters new p).any fun c => moved.contains c).foldl
    (fun t p => t.setPart p { clearing := some ⟨false, false, none, 0, 0⟩ }) s2

/-- Whether the key of a session may bind a partition of a layout that no other session holds (R278). -/
def State.mayBind (s : State) (x : Session) (sid : W64) (layout p : Nat) : Bool :=
  decide (p < 48) && layoutHas (s.sched.layouts.getD layout []) p && x.partitionMask.getLsbD p &&
    (match (s.part p).session with
     | some o => o == sid
     | none => true)

/-- PART_HBM_BASE, PART_HBM_SIZE and CLUSTERS of a binding (R280). -/
def State.bindingBody (s : State) (p : Nat) : List Byte :=
  leBytes 8 (s.part p).base ++ leBytes 8 (s.part p).bytes ++ leBytes 8 (clusterMask (s.clustersOf p))

/-- BIND_PARTITION (08 R208, R209). A partition that the session holds changes nothing. -/
def bindPartition (r : HostReq) (layout p gib : Nat) (s : State) : State :=
  s.command r 0x0010 [1] false fun x t =>
    let y := t.part p
    let held := y.session == some r.sid
    let change := !held && layout != t.sched.active
    let body := [BitVec.ofNat 8 layout, 0] ++ leBytes 2 p ++ leBytes 4 gib
    checked t
      [(!t.mayBind x r.sid layout p, refuseUnmapped),
       (decide (gib = 0 ∨ (if t.hbm.mode then 2028 else 1900) < gib), refuseRange),
       (change && (t.changed (t.sched.layouts.getD layout [])).any (fun q => (t.part q).session.isSome), illegal dLayoutInUse),
       (!held && (t.bindingBase gib).isNone, illegal dHbmNoRoom),
       (held && y.sizeGib != gib, refuseState),
       (y.clearing.isSome, refuseResetting)]
      fun t =>
        let u := t.accepted x r 0x0010 0 (some p) body
        if held then (u.1, some { jseq := u.2, body := u.1.bindingBody p })
        else
          let v := if change then u.1.changeLayout layout else u.1
          let w := v.modPart p fun z => { z with
            session := some r.sid, tenant := x.tenant, baseGib := (t.bindingBase gib).getD 0, sizeGib := gib }
          (w, some { jseq := u.2, body := w.bindingBody p })

def execBindPartition (r : HostReq) (layout : Byte) (partition : W16) (hbmGib : W32) (s : State) :
    Host.Outcome State Fault Refusal :=
  .next (s.whenAnswering (.bindPartition r layout partition hbmGib) fun t => bindPartition r layout.toNat partition.toNat hbmGib.toNat t)

/-- UNBIND_PARTITION: answers on acceptance; the partition is reset with its HBM cleared and then unbound (R279). -/
def unbindPartition (r : HostReq) (p : Nat) (s : State) : State :=
  s.command r 0x0011 [1] false fun x t =>
    checked t [(!t.owns r.sid p, refuseUnmapped), ((t.part p).clearing.isSome, refuseResetting)] fun t =>
      let u := t.accepted x r 0x0011 0 (some p) (leBytes 2 p)
      (u.1.startReset p 3 ⟨true, true, none, r.sid, x.tenant⟩, some { jseq := u.2 })

def execUnbindPartition (r : HostReq) (partition : W16) (s : State) : Host.Outcome State Fault Refusal :=
  .next (s.whenAnswering (.unbindPartition r partition) fun t => unbindPartition r partition.toNat t)

/-- PARTITION_RESET, with the binding cleared under CLEAR_HBM (15 R428). -/
def partitionReset (r : HostReq) (p : Nat) (clear : Bool) (s : State) : State :=
  s.command r 0x0015 [1] false fun x t =>
    checked t [(!t.owns r.sid p, refuseUnmapped), ((t.part p).clearing.isSome, refuseResetting)] fun t =>
      let u := t.accepted x r 0x0015 0 (some p) (leBytes 2 p ++ leBytes 2 (bit clear 0))
      (u.1.startReset p 2 ⟨clear, false, none, r.sid, x.tenant⟩, some { jseq := u.2 })

def execPartitionReset (r : HostReq) (partition : W16) (clearHbm : Bool) (s : State) : Host.Outcome State Fault Refusal :=
  .next (s.whenAnswering (.partitionReset r partition clearHbm) fun t => partitionReset r partition.toNat clearHbm t)

/-! ### Images and jobs (R280) -/

/-- LOAD_IMAGE: its checks, then the pull; the answer comes when the pull ends (R277, R280). -/
def loadImage (r : HostReq) (p : Nat) (qp : W32) (addr : W64) (rkey : W32) (length : Nat) (s : State) : State :=
  s.command r 0x0012 [1, 2] false fun _ t =>
    let y := t.part p
    let again := match y.load with
      | some l => l.sid == r.sid && l.cmdSeq == r.seq
      | none => false
    if again then (t, none)
    else
      checked t
        [(!t.owns r.sid p || !t.ownsQp r.sid qp, refuseUnmapped),
         (decide (length = 0 ∨ y.bytes < length), refuseRange),
         (y.busy || y.load.isSome || y.restore.isSome, refuseState),
         (y.clearing.isSome, refuseResetting)]
        fun t =>
          let body := leBytes 4 p ++ leBytes 4 qp.toNat ++ leBytes 8 addr.toNat ++ leBytes 8 rkey.toNat ++ leBytes 8 length
          let k : Pull := ⟨qp, addr, BitVec.ofNat 64 length⟩
          ((t.modPart p fun z => { z with load := some ⟨r.sid, r.seq, body, length, k⟩ }).emitPull k, none)

def execLoadImage (r : HostReq) (partition : W16) (qp : W32) (remoteAddr : W64) (rkey : W32) (length : W64) (s : State) :
    Host.Outcome State Fault Refusal :=
  .next (s.whenAnswering (.loadImage r partition qp remoteAddr rkey length) fun t => loadImage r partition.toNat qp remoteAddr rkey length.toNat t)

/-- What the pulled bytes come to: a refusal, or none where the image passes (R278, R280). A pull that no queue pair could
complete has no data for the address. -/
def State.imageRefusal (s : State) (p : Nat) (length : Nat) (image : Option (List Byte)) : Option Answer :=
  match image with
  | none => some refuseUnmapped
  | some bs =>
    let i := readImage bs
    firstRefusal
      [(decide (bs.length ≠ length ∨ i.size ≠ length ∨ (s.part p).bytes < length + shadowBytes i.ranks), refuseRange),
       (!imageDigestOk bs, illegal dImageDigest),
       (!imageLayoutOk bs (s.clustersOf p) (s.part p).bytes, illegal dImageLayout)]

/-- RDMA payload bytes counted on a queue pair's port (R298). -/
def State.countRdma (s : State) (qpn : W32) (rx tx : Nat) : State :=
  match s.qp? qpn with
  | none => s
  | some q => s.modHostPort q.port fun h => { h with rdmaRx := h.rdmaRx + BitVec.ofNat 64 rx, rdmaTx := h.rdmaTx + BitVec.ofNat 64 tx }

/-- LOAD_IMAGE_PULL_DONE: the image is checked and only then replaces the earlier one; ACCEPTED stands before the answer
(R277 to R280). -/
def loadImagePullDone (p : Nat) (image : Option (List Byte)) (s : State) : State :=
  match (s.part p).load with
  | none => s
  | some l =>
    let s1 := s.modPart p fun y => { y with load := none }
    match s1.session? l.sid, s1.imageRefusal p l.length image with
    | some x, none =>
      let bs := image.getD []
      let i := readImage bs
      let u := s1.accepted x ⟨l.sid, l.cmdSeq, false⟩ 0x0012 0 (some p) l.body
      let v := (u.1.firmwareWrite (s1.part p).base bs.length (SMap.ofList bs 0 0)).modPart p fun y => { y with image := some i }
      let port := ((v.qp? l.pull.qp).map Qp.port).getD 0
      ((v.hostTraffic port (s1.part p).base bs.length true).countRdma l.pull.qp bs.length 0).respond l.sid 0x0012 l.cmdSeq
        { jseq := u.2, body := leBytes 8 (spaceOf i (s1.part p).bytes).1 }
    | some _, some a => s1.respond l.sid 0x0012 l.cmdSeq a
    | none, _ => s1

def execLoadImagePullDone (part : PartId) (image : Option (List Byte)) (s : State) : Host.Outcome State Fault Refusal :=
  .next (s.scheduled (loadImagePullDone part.val image s))

/-- Bytes 0 to 47 of START_JOB's body. -/
def startJobBytes (b : StartJobBody) : List Byte :=
  leBytes 2 b.partition.toNat ++ leBytes 2 (bit b.doubles 0 + bit b.group 1) ++ leBytes 4 0 ++ leBytes 8 b.commitInterval.toNat ++
    leBytes 8 b.turns.toNat ++ leBytes 4 b.groupId.toNat ++ leBytes 4 0 ++ leBytes 8 b.groupMap.toNat ++ leBytes 8 b.straitQueue.toNat

/-- START_JOB's fields out of range (R280). -/
def startJobRange (y : Part) (b : StartJobBody) : Bool :=
  let sp := y.programSpace
  let q := y.base + b.straitQueue.toNat
  decide (2 ^ 32 < b.commitInterval.toNat) ||
    (match y.image with
     | some i => decide (i.turns < b.turns.toNat)
     | none => false) ||
    (if b.group then b.groupId == 0 || decide (b.straitQueue.toNat % 16384 ≠ 0 ∨ q < sp.1 ∨ sp.2 < q + 16384)
     else b.groupId != 0 || b.groupMap != 0 || b.straitQueue != 0)

/-- Jobs that a partition holds: the present one and those that wait (08 R210). -/
def Part.jobCount (y : Part) : Nat := (if y.busy then 1 else 0) + y.queue.length

/-- START_JOB: queues a job, which loads at once where no job is present (08 R210, R280). -/
def startJob (r : HostReq) (b : StartJobBody) (s : State) : State :=
  s.command r 0x0013 ([1] ++ (if b.doubles then [10] else []) ++ if b.group then [9] else []) false fun x t =>
    let p := b.partition.toNat
    let y := t.part p
    let need := match y.image with
      | some i => clustersNeeded i.ranks b.doubles
      | none => 0
    checked t
      [(!t.owns r.sid p, refuseUnmapped), (startJobRange y b, refuseRange),
       (decide ((t.clusterOrder p false).length < need), illegal dTooFewClusters), (decide (16 ≤ y.jobCount), illegal dQueueFull),
       (y.image.isNone || y.load.isSome || y.restore.isSome, refuseState), (y.clearing.isSome, refuseResetting)]
      fun t =>
        let id := Config.idBase + BitVec.ofNat 64 t.journal.next
        let u := t.accepted x r 0x0013 id (some p) (startJobBytes b)
        let v := u.1.modPart p fun z => { z with queue := z.queue ++ [⟨id, r.sid, x.tenant, b⟩] }
        let w := if y.busy then v else v.loadNext p
        (w, some { jseq := u.2, body := leBytes 8 id.toNat ++ [BitVec.ofNat 8 y.jobCount] })

def execStartJob (r : HostReq) (b : StartJobBody) (s : State) : Host.Outcome State Fault Refusal :=
  .next (s.whenAnswering (.startJob r b) fun t => startJob r b t)

/-- Where a job of a session stands: its partition, and whether it is the present one. -/
def State.findJob (s : State) (sid id : W64) : Option (Nat × Bool) :=
  (s.ownedParts sid).findSome? fun p =>
    let y := s.part p
    match y.job with
    | some j =>
      if j.req.id = id ∧ y.busy then some (p, true)
      else if y.queue.any fun q => q.id == id then some (p, false)
      else none
    | none => if y.queue.any fun q => q.id == id then some (p, false) else none

/-- The present record of a job that has ended. -/
def State.jobOver (s : State) (sid id : W64) : Bool :=
  (s.ownedParts sid).any fun p => (((s.part p).job.map fun j => j.req.id == id).getD false) && !(s.part p).busy

/-- END_JOB: discards one job, running, held or queued, with cause 1 (R279, R293). -/
def endJob (r : HostReq) (id : W64) (s : State) : State :=
  s.command r 0x0014 [1] false fun x t =>
    match t.findJob r.sid id with
    | none => (t, some (if t.jobOver r.sid id then refuseState else refuseUnmapped))
    | some (p, present) =>
      checked t [((t.part p).restore.isSome, refuseState), ((t.part p).clearing.isSome, refuseResetting)] fun t =>
        let u := t.accepted x r 0x0014 id (some p) (leBytes 8 id.toNat)
        let v := if present then (u.1.discardJob p 1).nextJob p
          else
            ((u.1.modPart p fun y => { y with queue := y.queue.filter fun q => q.id != id }).countEvent evJobDiscarded).journalWrite
              0x25 evJobDiscarded 0 { sid := r.sid, job := id, part := BitVec.ofNat 16 p, tenant := x.tenant } [1]
        (v, some { jseq := u.2 })

def execEndJob (r : HostReq) (jobId : W64) (s : State) : Host.Outcome State Fault Refusal :=
  .next (s.whenAnswering (.endJob r jobId) fun t => endJob r jobId t)

/-- JOB_STATUS: the registers of R233 and R234 and the job IDs, the present one first (R279). -/
def jobStatus (r : HostReq) (p : Nat) (s : State) : State :=
  s.command r 0x0016 [1] false fun _ t =>
    checked t [(!t.owns r.sid p, refuseUnmapped), ((t.part p).clearing.isSome, refuseResetting)] fun t =>
      let y := t.part p
      let ids := (y.job.toList.map fun j => j.req.id) ++ y.queue.map fun q => q.id
      (t, some { body := ([0, 8, 16, 24, 32].flatMap fun o => leBytes 8 (t.partReg p o).toNat) ++ ids.flatMap fun i => leBytes 8 i.toNat })

def execJobStatus (r : HostReq) (partition : W16) (s : State) : Host.Outcome State Fault Refusal :=
  .next (s.whenAnswering (.jobStatus r partition) fun t => jobStatus r partition.toNat t)

/-- PHASE_HINT: a hint for every active core of the partition (12 R357). -/
def phaseHint (r : HostReq) (p lead duration load : Nat) (s : State) : State :=
  s.command r 0x0080 [8] false fun _ t =>
    checked t
      [(!t.owns r.sid p, refuseUnmapped), (decide (15 < load ∨ (load = 0 ∧ duration ≠ 0) ∨ (load ≠ 0 ∧ duration = 0)), refuseRange),
       ((t.part p).clearing.isSome, refuseResetting)]
      fun t => ((t.clustersOf p).foldl (fun u c => u.takeHint c ⟨load, lead, duration, none, false⟩) t, some {})

def execPhaseHint (r : HostReq) (partition : W16) (leadUs : W16) (durationUs : W32) (load : Byte) (s : State) :
    Host.Outcome State Fault Refusal :=
  .next (s.whenAnswering (.phaseHint r partition leadUs durationUs load) fun t => phaseHint r partition.toNat leadUs.toNat durationUs.toNat load.toNat t)

/-! ### Queue pairs (R281, R289) -/

/-- A queue pair number that no queue pair has, from a free value on. -/
def State.freeQpn (s : State) (v : W64) : Nat :=
  let c := (List.range (s.host.qps.length + 1)).map fun k => (v.toNat + k) % 2 ^ 24
  (c.find? fun n => (SMap.get? s.host.qps n).isNone).getD 0

/-- OPEN_QP: a queue pair with its number, its first packet number and its rkey, free values all three. Drains that wait
for one go on (13 R391). -/
def openQp (r : HostReq) (port sub : Nat) (hostQpn : W32) (gid : BitVec 128) (hostPsn : W32) (s : State) : State :=
  s.command r 0x0020 [2] false fun x t =>
    checked t
      [(decide (1 < port ∨ subPortsOf (t.hostPort port).mode ≤ sub ∨ 2 ^ 24 ≤ hostQpn.toNat ∨ 2 ^ 24 ≤ hostPsn.toNat), refuseRange),
       (decide (16 ≤ (t.host.qps.filter fun q => q.2.sid == r.sid).length ∨ 2048 ≤ t.host.qps.length), illegal dQpLimit)]
      fun t =>
        let a := t.fresh
        let b := a.2.fresh
        let c := b.2.fresh
        let n := c.2.freeQpn a.1
        let psn : W32 := BitVec.ofNat 32 (b.1.toNat % 2 ^ 24)
        let body := [BitVec.ofNat 8 port, BitVec.ofNat 8 sub, 0, 0] ++ leBytes 4 hostQpn.toNat ++ leBytes 16 gid.toNat ++
          leBytes 4 hostPsn.toNat ++ leBytes 4 0
        let u := c.2.accepted x r 0x0020 0 none body
        let q : Qp := { sid := r.sid, port := port, sub := sub, hostQpn := hostQpn, hostGid := gid, hostPsn := hostPsn, psn := psn
                        rkey := c.1.truncate 32, failed := !(t.hostPort port).up.getLsbD sub }
        let v := ({ u.1 with host := { u.1.host with qps := SMap.put u.1.host.qps n q } }).moveTransfers r.sid
        (v, some { jseq := u.2, body := leBytes 4 n ++ leBytes 4 psn.toNat ++ leBytes 4 q.rkey.toNat ++ leBytes 4 0 ++ v.gid port sub })

def execOpenQp (r : HostReq) (port subport : Byte) (hostQpn : W32) (hostGid : BitVec 128) (hostPsn : W32) (s : State) :
    Host.Outcome State Fault Refusal :=
  .next (s.whenAnswering (.openQp r port subport hostQpn hostGid hostPsn) fun t => openQp r port.toNat subport.toNat hostQpn hostGid hostPsn t)

/-- CLOSE_QP (R281). -/
def closeQp (r : HostReq) (qpn : W32) (s : State) : State :=
  s.command r 0x0021 [2] false fun x t =>
    checked t [(!t.ownsQp r.sid qpn, refuseUnmapped)] fun t =>
      let u := t.accepted x r 0x0021 0 none (leBytes 4 qpn.toNat)
      let v := ({ u.1 with host := { u.1.host with qps := SMap.erase u.1.host.qps qpn.toNat } }).moveTransfers r.sid
      (v, some { jseq := u.2 })

def execCloseQp (r : HostReq) (qpn : W32) (s : State) : Host.Outcome State Fault Refusal :=
  .next (s.whenAnswering (.closeQp r qpn) fun t => closeQp r qpn t)

/-! ### RDMA as responder (R289, R290) -/

/-- The partition of a session in whose program space an access lies (R290). -/
def State.rdmaPart (s : State) (sid : W64) (a n : Nat) : Option Nat :=
  (s.ownedParts sid).find? fun p =>
    let sp := (s.part p).programSpace
    decide (sp.1 ≤ a ∧ a + n ≤ sp.2)

/-- The binding of a partition under reset of the session holds the address. -/
def State.rdmaResetting (s : State) (sid : W64) (a : Nat) : Bool :=
  (s.ownedParts sid).any fun p => (s.part p).clearing.isSome && decide ((s.part p).base ≤ a ∧ a < (s.part p).base + (s.part p).bytes)

/-- A write keeps out of the master of a backed region of a running job (R290, 05 R150). -/
def State.masterWrite (s : State) (p a n : Nat) : Bool :=
  let y := s.part p
  match y.image with
  | some i => y.busy && i.backed.any fun b => overlaps a n (y.base + b.master) b.length
  | none => false

/-- What an access on a queue pair meets: the rkey first, the address second (R290). -/
def State.rdmaStatus (s : State) (q : Qp) (rkey : W32) (a n : Nat) (write : Bool) : W16 × Option Nat :=
  if rkey ≠ q.rkey then (stUnmapped, none)
  else if s.rdmaResetting q.sid a then (stResetting, none)
  else
    match s.rdmaPart q.sid a n with
    | none => (stUnmapped, none)
    | some p => if write && s.masterWrite p a n then (stUnmapped, none) else (stOk, some p)

/-- A refused access is answered with its NAK; those of R290's refusals are counted. -/
def State.rdmaRefuse (s : State) (qpn : W32) (q : Qp) (st : W16) : State :=
  (s.emit (.rdmaNak qpn st)).modHostPort q.port fun h => { h with naks := h.naks + 1 }

/-- The queue pair carries traffic: it is open, it has not failed and the module answers. -/
def State.liveQp (s : State) (qpn : W32) : Option Qp :=
  match s.qp? qpn with
  | some q => if q.failed ∨ !s.chassis.main ∨ s.chassis.removing then none else some q
  | none => none

/-- RDMA_WRITE_REQUEST (R290): the data lands whole, as a write of the partition. While its memory's requests wait for a retrain or a held
stack (06 R172, R173) it is not served, and comes again (log 111). -/
def rdmaWriteRequest (qpn rkey : W32) (a : Nat) (data : List Byte) (s : State) : State :=
  match s.liveQp qpn with
  | none => s
  | some q =>
    let s1 := s.countRdma qpn data.length 0
    match s1.rdmaStatus q rkey a data.length true with
    | (_, some p) =>
      if s.hbmWaits a data.length true then s
      else ((s1.partWrite p a data.length (SMap.ofList data 0 0)).hostTraffic q.port a data.length true).emit (.rdmaAck qpn)
    | (st, none) => s1.rdmaRefuse qpn q st

def execRdmaWriteRequest (qpn rkey : W32) (addr : W64) (data : List Byte) (s : State) : Host.Outcome State Fault Refusal :=
  .next (rdmaWriteRequest qpn rkey addr.toNat data s)

/-- RDMA_READ_REQUEST (R290): the bytes of program space, once its memory's requests do not wait (log 111); a word that gives no data is
refused like an address that does not answer (04 R116, 06 R169). -/
def rdmaReadRequest (qpn rkey : W32) (a n : Nat) (s : State) : State :=
  match s.liveQp qpn with
  | none => s
  | some q =>
    match s.rdmaStatus q rkey a n false with
    | (_, some p) =>
      if s.hbmWaits a n false then s
      else
        let r := s.readRange a n 0 0xFFFF
        match r.2 with
        | [] => ((r.1.hostTraffic q.port a n false).emit (.rdmaData qpn (r.1.readBytes a n))).countRdma qpn 0 n
        | ws => (ws.foldl (fun t w => t.wordEvent (w * 8) 4 0 0xFFFF (some p)) r.1).rdmaRefuse qpn q stUnmapped
    | (st, none) => s.rdmaRefuse qpn q st

def execRdmaReadRequest (qpn rkey : W32) (addr : W64) (length : Nat) (s : State) : Host.Outcome State Fault Refusal :=
  .next (rdmaReadRequest qpn rkey addr.toNat length s)

/-- CNP_RECEIVE: DCQCN lowers the rate of the queue pair, to a value the spec does not give (R289, log 6). -/
def cnpReceive (qpn : W32) (s : State) : State :=
  match s.qp? qpn with
  | none => s
  | some q =>
    let r := s.fresh
    { r.2 with host := { r.2.host with qps := SMap.put r.2.host.qps qpn.toNat { q with rate := r.1 } } }

def execCnpReceive (qpn : W32) (s : State) : Host.Outcome State Fault Refusal := .next (cnpReceive qpn s)

/-- ROCE_LOCAL_ACK_TIMEOUT: 67 ms without acknowledgement; after seven retries the queue pair stands in error and the
operation goes on by another (R288, R289). -/
def roceAckTimeout (qpn : W32) (s : State) : State :=
  match s.qp? qpn with
  | none => s
  | some q =>
    if q.retries < 7 then
      { s with host := { s.host with qps := SMap.put s.host.qps qpn.toNat { q with retries := q.retries + 1 } } }
    else
      ({ s with host := { s.host with qps := SMap.put s.host.qps qpn.toNat { q with failed := true } } }).moveTransfers q.sid

def execRoceLocalAckTimeout (qpn : W32) (s : State) : Host.Outcome State Fault Refusal := .next (roceAckTimeout qpn s)

/-! ### Ethernet (R266 to R268) -/

/-- The priority that the image lets pause bulk traffic: 3 by default, none where it is off (R267). -/
def State.pfcPriority (s : State) : Option Nat :=
  match s.start.image with
  | none => none
  | some m => if m.pfcPriority = 0xFF then some 3 else if m.pfcPriority.toNat < 8 then some m.pfcPriority.toNat else none

/-- PFC_PAUSE_FRAME: the port's bulk traffic stands for the quanta given; Causeway traffic is never paused (R267). -/
def pfcPause (port priority quanta : Nat) (s : State) : State :=
  if s.pfcPriority = some priority then s.modHostPort port fun h => { h with paused := quanta } else s

def execPfcPauseFrame (port : Fin 2) (priority : Fin 8) (quanta : W16) (s : State) : Host.Outcome State Fault Refusal :=
  .next (pfcPause port.val priority.val quanta.toNat s)

/-- The entry of a sub-port in service (11 R324). -/
def State.subPort (s : State) (port sub : Nat) : Option SubPortCfg :=
  match s.start.image with
  | none => none
  | some m => if (s.hostPort port).up.getLsbD sub then m.subPorts[port * 4 + sub]? else none

def frameArp : Nat := 0
def frameNd : Nat := 1
def frameEcho : Nat := 2

/-- ARP_REQUEST for the sub-port's IPv4 address is answered with its MAC (R266). -/
def arpRequest (port sub : Nat) (ip : W32) (s : State) : State :=
  match s.subPort port sub with
  | none => s
  | some c => if c.prefix4 ≠ 0 ∧ c.ipv4 = ip then s.emit (.frame port sub frameArp (leBytes 6 c.mac.toNat)) else s

def execArpRequest (port : Fin 2) (sub : Fin 4) (ipv4 : W32) (s : State) : Host.Outcome State Fault Refusal :=
  .next (arpRequest port.val sub.val ipv4 s)

/-- NEIGHBOUR_SOLICITATION for the sub-port's IPv6 address is answered with its MAC (R266). -/
def neighbourSolicitation (port sub : Nat) (ip : BitVec 128) (s : State) : State :=
  match s.subPort port sub with
  | none => s
  | some c => if c.prefix6 ≠ 0 ∧ c.ipv6 = ip then s.emit (.frame port sub frameNd (leBytes 6 c.mac.toNat)) else s

def execNeighbourSolicitation (port : Fin 2) (sub : Fin 4) (ipv6 : BitVec 128) (s : State) : Host.Outcome State Fault Refusal :=
  .next (neighbourSolicitation port.val sub.val ipv6 s)

/-- ICMP_ECHO_REQUEST to an address of the sub-port returns its payload (R266). An IPv4 address comes in its low 32 bits. -/
def icmpEcho (port sub : Nat) (ip : BitVec 128) (payload : List Byte) (s : State) : State :=
  match s.subPort port sub with
  | none => s
  | some c =>
    if (c.prefix6 ≠ 0 ∧ c.ipv6 = ip) ∨ (c.prefix4 ≠ 0 ∧ c.ipv4.zeroExtend 128 = ip) then s.emit (.frame port sub frameEcho payload) else s

def execIcmpEchoRequest (port : Fin 2) (sub : Fin 4) (ip : BitVec 128) (payload : List Byte) (s : State) :
    Host.Outcome State Fault Refusal := .next (icmpEcho port.val sub.val ip payload s)

/-- PTP_MESSAGE: the offset of network time from the time base; the time base is never steered (R268, R299). -/
def ptpMessage (port sub : Nat) (offset : W64) (s : State) : State :=
  if (s.subPort port sub).isSome then { s with host := { s.host with ptpOffset := offset, ptpHeard := true } } else s

def execPtpMessage (port : Fin 2) (sub : Fin 4) (offsetNs : W64) (s : State) : Host.Outcome State Fault Refusal :=
  .next (ptpMessage port.val sub.val offsetNs s)

end Sys2Proof.Machine
end

