-- ==== Sys2Proof/Machine/Snapshots.lean ====
section
/-! DEFINITION. Snapshots, restores and roll tests (13 R384 to R398). -/

namespace Sys2Proof.Machine

/-! ### Taking a snapshot (R389 to R391, R398) -/

/-- Room in the snapshot area for the copy of R388, in MiB: the partition's unbacked lagoon and its full inbox slots. -/
def State.snapshotMib (s : State) (p : Nat) : Nat :=
  let y := s.part p
  let backed := ((y.image.map fun i => i.backed).getD []).foldl (fun n b => n + b.length) 0
  let slots := match y.job with
    | some j => (s.fullSlots j).foldl (fun n e => n + e.2.length) 0
    | none => 0
  ((s.clustersOf p).length * 2 ^ 26 - backed + slots + 2 ^ 20 - 1) / 2 ^ 20

/-- The area that other partitions' snapshots use. -/
def State.areaUsed (s : State) (p : Nat) : Nat :=
  s.sched.parts.foldl (fun n e => if e.1 = p then n else n + (e.2.snap.map fun k => k.areaMib).getD 0) 0

/-- A snapshot is under way. -/
def Part.snapBusy (y : Part) : Bool :=
  match y.snap with
  | some k => k.phase != .kept
  | none => false

/-- A member's request for a group snapshot reaches the master (R398). -/
def State.askSnapshot (s : State) (g : W32) : State :=
  if s.arch.role = 3 then
    let x := s.group g
    s.setGroup g { x with snapAsked := if x.snapAsked.contains s.arch.seat then x.snapAsked else x.snapAsked ++ [s.arch.seat] }
  else s.sendCommit s.arch.master g (.snapshotRequest (Fin.ofNat 64 s.arch.seat) g)

/-- SNAPSHOT: accepted for a job that runs or holds; the point is its next commit, for a holding job the acceptance, for a
group's job a group commit. It replaces a kept snapshot (R389, R395, R398). -/
def snapshot (r : HostReq) (p : Nat) (drain : Bool) (qp : W32) (addr : W64) (rkey : W32) (maxBytes : W64) (s : State) : State :=
  s.command r 0x0040 [4] false fun x t =>
    let y := t.part p
    let runs := match y.job with
      | some j => j.state == .running || j.state == .holding
      | none => false
    checked t
      [(!t.owns r.sid p || (drain && !t.ownsQp r.sid qp), refuseUnmapped),
       (runs && decide (14336 < t.snapshotMib p + t.areaUsed p), illegal dHbmNoRoom),
       (!runs || y.snapBusy || y.restore.isSome, refuseState),
       (y.clearing.isSome, refuseResetting)]
      fun t =>
        match y.job with
        | none => (t, some refuseState)
        | some j =>
          let id := Config.idBase + BitVec.ofNat 64 t.journal.next
          let body := leBytes 2 p ++ leBytes 2 (bit drain 0) ++ leBytes 4 qp.toNat ++ leBytes 8 addr.toNat ++ leBytes 8 rkey.toNat ++
            leBytes 8 maxBytes.toNat
          let u := t.accepted x r 0x0040 j.req.id (some p) body
          let group := j.req.body.group
          let k : Snapshot :=
            { id := id, sid := r.sid, cmdSeq := r.seq, acceptedSeq := u.2, drain := drain, phase := .requested, jobId := j.req.id
              areaMib := t.snapshotMib p, qp := qp, remote := addr, rkey := rkey, maxBytes := maxBytes, groupAsked := group }
          let v := u.1.modPart p fun z => { z with snap := some k }
          let w := if group then v.askSnapshot j.req.body.groupId
            else if j.state = .holding then v.snapshotPoint p
            else v
          (w, some { jseq := u.2, body := leBytes 8 id.toNat })

def execSnapshot (r : HostReq) (partition : W16) (drain : Bool) (qp : W32) (remoteAddr : W64) (rkey : W32) (maxBytes : W64)
    (s : State) : Host.Outcome State Fault Refusal :=
  .next (s.whenAnswering (.snapshot r partition drain qp remoteAddr rkey maxBytes) fun t => snapshot r partition.toNat drain qp remoteAddr rkey maxBytes t)

/-- SNAPSHOT_DONE of a snapshot that stays (R394, R395). -/
def State.keptEntry (s : State) (p : Nat) (k : Snapshot) : State :=
  s.journalWrite 0x32 stOk k.td
    { sid := k.sid, job := k.jobId, cmd := k.cmdSeq, part := BitVec.ofNat 16 p, tenant := (s.part p).tenant }
    (leBytes 8 k.acceptedSeq ++ leBytes 8 k.id.toNat ++ leBytes 8 0 ++ leBytes 4 k.pauseUs.toNat ++ leBytes 4 k.copyUs.toNat)

/-- The pause copy meets the words it takes from the lagoon: those that give no data are raised with FOUND_BY 2 (R375). -/
def State.copyWords (s : State) (p : Nat) : State × Bool :=
  let r := (s.clustersOf p).foldl (fun (acc : State × List Nat) c =>
    let q := acc.1.readRange (quarterBase c) (2 ^ 26) 2 0xFFFF
    (q.1, acc.2 ++ q.2)) (s, [])
  (r.2.foldl (fun t w => t.wordEvent (w * 8) 4 2 0xFFFF (some p)) r.1, !r.2.isEmpty)

/-- A drain starts by its queue pair, or ends at once where the host's space is too small (R391). -/
def State.startDrain (s : State) (p : Nat) (k : Snapshot) : State :=
  if k.maxBytes.toNat < s.leastBytes p k then s.endSnapshot p stUnmapped k.td
  else
    let s1 := (s.modPart p fun y => { y with snap := some { k with phase := .draining } }).moveDrain k.sid p
    match (s1.part p).snap with
    | some d => if d.waitQp || d.qp != k.qp then s1 else s1.emit (.rdmaWrite d.qp d.remote (BitVec.ofNat 64 (s.leastBytes p k)))
    | none => s1

/-- SNAPSHOT_COPY_DONE: the job goes on, the drain starts or the snapshot is kept; a word that gave no data ends it with
0x8042 (R389 to R395). -/
def snapshotCopyDone (p : Nat) (uncorrectable : Bool) (pauseUs copyUs : W32) (s : State) : State :=
  match (s.part p).snap with
  | none => s
  | some k =>
    if k.phase ≠ .copying then s
    else
      let k1 := { k with pauseUs := pauseUs, copyUs := copyUs }
      let r := (s.modPart p fun y => { y with snap := some k1 }).copyWords p
      let s1 : State :=
        if uncorrectable || r.2 then r.1.endSnapshot p evWordUncorrectable k.td
        else if k.drain then r.1.startDrain p k1
        else (r.1.modPart p fun y => { y with snap := some { k1 with phase := .kept } }).keptEntry p k1
      (s1.startTests).startTurns p

def execSnapshotCopyDone (part : PartId) (uncorrectable : Bool) (pauseUs copyUs : W32) (s : State) :
    Host.Outcome State Fault Refusal := .next (s.scheduled (snapshotCopyDone part.val uncorrectable pauseUs copyUs s))

/-- The page that the host has acknowledged is released: those that wait on it first, then those in the pool, then the rest
in address order (R390, R391). -/
def Snapshot.release (k : Snapshot) : Snapshot :=
  match k.sendNext, k.pooled, k.guarded with
  | _ :: t, _, _ => { k with sendNext := t }
  | [], _ :: t, _ => { k with pooled := t }
  | [], [], _ :: t => { k with guarded := t }
  | [], [], [] => k

/-- The page that a drain sends next. -/
def Snapshot.sending (k : Snapshot) : Option Nat := (k.sendNext ++ k.pooled ++ k.guarded).head?

/-- A drained page crosses the mesh to the host port of the drain's queue pair (07 R193). -/
def State.drainTraffic (s : State) (k : Snapshot) (bytes : Nat) : State :=
  match k.sending, s.qp? k.qp with
  | some g, some q => s.hostTraffic q.port (g * 2 ^ 21) (min bytes (2 ^ 21)) false
  | _, _ => s

/-- DRAIN_PAGE_ACK: the host acknowledged a page, or refused the access; the last one ends the drain with OK (R391, R394). -/
def drainPageAck (p bytes : Nat) (last refused : Bool) (s : State) : State :=
  match (s.part p).snap with
  | none => s
  | some k =>
    if k.phase ≠ .draining ∨ k.waitQp then s
    else if refused then s.endSnapshot p stUnmapped k.td
    else
      let s1 := (s.modPart p fun y => { y with snap := some { k.release with sent := k.sent + bytes } }).countRdma k.qp 0 bytes
        |>.drainTraffic k bytes
      if last then s1.endSnapshot p stOk k.td else s1

def execDrainPageAck (part : PartId) (bytes : W64) (last refused : Bool) (s : State) : Host.Outcome State Fault Refusal :=
  .next (drainPageAck part.val bytes.toNat last refused s)

/-- DRAIN_QP_WAIT_TIMEOUT: 10 s without a queue pair; a held session's drain waits for its retention (R391, R394). -/
def drainQpWaitTimeout (p : Nat) (s : State) : State :=
  match (s.part p).snap with
  | none => s
  | some k =>
    if k.phase = .draining ∧ k.waitQp ∧ ((s.session? k.sid).map fun x => x.held) = some false then s.endSnapshot p stUnmapped k.td else s

def execDrainQpWaitTimeout (part : PartId) (s : State) : Host.Outcome State Fault Refusal := .next (drainQpWaitTimeout part.val s)

/-- GROUP_SNAPSHOT_TIMEOUT: 10 s without a request of every member (R398). -/
def groupSnapshotTimeout (p : Nat) (s : State) : State :=
  match (s.part p).snap, (s.part p).job with
  | some k, some j =>
    if k.phase = .requested ∧ k.groupAsked ∧ k.groupTurn = none then
      let g := j.req.body.groupId
      let x := s.group g
      (s.setGroup g { x with snapAsked := x.snapAsked.filter fun n => n != s.arch.seat }).endSnapshot p stUnmapped 0
    else s
  | _, _ => s

def execGroupSnapshotTimeout (part : PartId) (s : State) : Host.Outcome State Fault Refusal := .next (groupSnapshotTimeout part.val s)

/-! ### Restore (R396, R397) -/

/-- The carried bytes of a rank laid into core store offsets, the ledger area first (08 R212, R213). -/
def layCarried (ds : List (Nat × Nat)) (bs : List Byte) (m : SMap Byte) : SMap Byte :=
  match ds with
  | [] => m
  | d :: t => layCarried t (bs.drop (d.2 * 8)) (SMap.splice m (d.1 * 8) (d.2 * 8) (SMap.ofList (bs.take (d.2 * 8)) 0 0))

/-- The open ledger slots of a rank's record pages, with their formats (03 R91). -/
def openLedgers (pages : SMap Byte) : SMap Fmt :=
  (List.range 64).filterMap fun k =>
    let o := 0xFFE000 + k * 0x80
    if (SMap.getD pages (o + 3) 0).getLsbD 0 then (fmtOfCode (SMap.getD pages (o + 2) 0).toNat).map fun f => (k, f) else none

/-- VERSION of every open ledger record is 0x0001 (R396 row 6). -/
def ledgerVersionsOk (sh : SMap RankShadow) : Bool :=
  sh.all fun e => e.2.ledgers.all fun l =>
    let o := 0xFFE000 + l.1 * 0x80
    SMap.getD e.2.pages o 0 == 1 && SMap.getD e.2.pages (o + 1) 0 == 0

def hostInboxes (l : List HostInbox) : SMap Inbox :=
  l.foldl (fun m b => SMap.put m b.inbox.val
    { isOpen := true, base := b.base, slotWords := b.slotWords, nextTake := b.nextTake, nextFree := b.nextFree
      slots := b.slots.map (fun (x : Option (Nat × Nat × List Byte)) =>
        match x with
        | some v => SlotState.full v.1 v.2.1
        | none => SlotState.empty) }) []

/-- The shadow that a drained snapshot gives its ranks (R388, R392). -/
def hostShadow (i : Image) (h : HostSnapshot) : SMap RankShadow :=
  (List.range i.ranks).map fun r =>
    let pages := layCarried ((0x1FFC00, 0x400) :: (i.ranges.filter fun d =>
      d.kind == 1 && decide (d.rankFirst ≤ r) && decide (r ≤ d.rankLast)).map fun d => (d.word, d.words)) (SMap.getD h.carried r []) []
    let bank := SMap.getD h.banks r (0, 0)
    (r, { regs := SMap.ofList (SMap.getD h.regs r []) 0 0, entry := (SMap.getD h.entries r 0).toNat
          inboxes := hostInboxes (SMap.getD h.inboxes r []), ledgers := openLedgers pages, pages := pages
          live := bank.1, carry := bank.2 })

def hostSlots (h : HostSnapshot) : SMap (List Byte) :=
  h.inboxes.foldl (fun m e => e.2.foldl (fun m b =>
    (List.range b.slots.length).foldl (fun m i =>
      match b.slots.getD i none with
      | some v => SMap.put m ((e.1 * 8 + b.inbox.val) * 64 + i) v.2.2
      | none => m) m) m) []

/-- What RESTORE finds: the snapshot as a restore, its binding size and image digest, its stream record, whether its
signatures verify and its ledger versions are known. -/
structure Found where
  k : Restore
  hbmBytes : Nat
  digest : List Byte
  streamJob : W64
  streamTurn : Nat
  signed : Bool
  versions : Bool
  deriving DecidableEq, Repr

/-- The snapshot that RESTORE names (R396): the drained image at the host, or the partition's kept snapshot. -/
def State.findSnapshot (s : State) (sid : W64) (b : RestoreBody) : Option Found :=
  let y := s.part b.partition.toNat
  let group := b.groupId != 0
  match b.fromHost with
  | some h =>
    let sh := match y.image with
      | some i => hostShadow i h
      | none => []
    some
      { k := { sid := sid, cmdSeq := 0, acceptedSeq := 0, snapId := b.snapshotId, jobId := h.jobId, td := h.dataTurn.toNat
               ts := h.streamTurn.toNat, epoch := h.placementEpoch.toNat, keys := h.keys, doubles := h.doubles, group := group
               groupId := b.groupId, groupMap := b.groupMap, hbm := h.pages, lagoon := h.lagoon, shadow := sh, slots := hostSlots h
               placement := List.range 576 }
        hbmBytes := h.hbmBytes.toNat, digest := h.imageDigest, streamJob := h.streamJobId, streamTurn := h.streamTurn.toNat
        signed := h.signaturesOk, versions := h.ledgerVersionsOk && ledgerVersionsOk sh }
  | none =>
    match y.snap with
    | none => none
    | some n =>
      if n.phase ≠ .kept ∨ n.id ≠ b.snapshotId then none
      else some
        { k := { sid := sid, cmdSeq := 0, acceptedSeq := 0, snapId := n.id, jobId := n.jobId, td := n.td, ts := n.ts, epoch := n.epoch
                 keys := n.keys, doubles := n.doubles, group := group, groupId := b.groupId, groupMap := b.groupMap, hbm := n.hbm
                 lagoon := n.lagoon, shadow := n.shadow, slots := n.slots, placement := n.placement }
          hbmBytes := n.hbmBytes, digest := n.digest, streamJob := n.jobId, streamTurn := n.ts, signed := true
          versions := ledgerVersionsOk n.shadow }

/-- Row 1 of R396. -/
def State.restoreBlocked (s : State) (b : RestoreBody) (job : W64) : Bool :=
  let y := s.part b.partition.toNat
  b.layout.toNat != s.sched.active || y.snapBusy || y.load.isSome || y.restore.isSome ||
    (match y.job with
     | some j => j.state == .loading || j.state == .running || (j.state == .holding && j.req.id != job)
     | none => false)

def foundBody (f : Found) : List Byte := leBytes 8 f.k.td ++ leBytes 8 f.streamTurn

/-- Bytes 0 to 47 of RESTORE's body. -/
def restoreBytes (b : RestoreBody) : List Byte :=
  leBytes 2 b.partition.toNat ++ leBytes 2 (bit b.rebase 0 + bit b.fromHost.isSome 1) ++ leBytes 4 b.layout.toNat ++
    leBytes 8 b.snapshotId.toNat ++ leBytes 8 b.dataTurn.toNat ++ leBytes 8 b.streamTurn.toNat ++ leBytes 4 b.qp.toNat ++
    leBytes 4 b.rkey.toNat ++ leBytes 8 b.remoteAddr.toNat

/-- Step 1 of R397: the lagoon quarters and the binding are cleared. The image area stays: row 3 needs the loaded image, and
no snapshot holds it. -/
def State.clearForRestore (s : State) (p : Nat) : State :=
  let sp := (s.part p).programSpace
  let top := (s.part p).base + (s.part p).bytes
  let s1 := (s.clustersOf p).foldl (fun t c => t.zero (quarterBase c) (2 ^ 26)) s
  let s2 := s1.clearHbm sp.1 (top - sp.1)
  s2.modPart p fun y => { y with image := y.image.map fun i =>
    { i with backed := i.backed.map (fun (x : Backed) => { x with filled := false }) } }

/-- RESTORE: the checks of R396 in their order, then the restore of R397 begins. -/
def restore (r : HostReq) (b : RestoreBody) (s : State) : State :=
  s.command r 0x0041 [4] false fun x t =>
    let p := b.partition.toNat
    let y := t.part p
    if !t.owns r.sid p || (b.fromHost.isSome && !t.ownsQp r.sid b.qp) then (t, some refuseUnmapped)
    else
      match t.findSnapshot r.sid b with
      | none => (t, some refuseState)
      | some f =>
        let need := clustersNeeded ((y.image.map fun i => i.ranks).getD 0) f.k.doubles
        let skew := fun (a : Answer) => { a with body := foundBody f }
        checked t
          [(t.restoreBlocked b f.k.jobId, refuseState), (y.clearing.isSome, refuseResetting),
           (!f.signed, .refuse stImageSignature 0),
           ((y.image.map fun i => i.digest) != some f.digest, illegal dImageDigest),
           (decide (y.bytes < f.hbmBytes), illegal dHbmNoRoom),
           (decide ((t.clusterOrder p false).length < need), illegal dTooFewClusters),
           (!f.versions, skew (.refuse stLedgerVersion 0)),
           (decide (b.dataTurn.toNat ≠ f.k.td ∨ b.streamTurn.toNat ≠ f.streamTurn), skew refuseRange),
           (!b.rebase && (f.streamJob != f.k.jobId || f.streamTurn != f.k.td), skew (.refuse stStreamSkew 0))]
          fun t =>
            let u := t.accepted x r 0x0041 f.k.jobId (some p) (restoreBytes b)
            let k := { f.k with cmdSeq := r.seq, acceptedSeq := u.2, ts := if b.rebase then f.k.td else f.streamTurn
                                pull := b.fromHost.map fun _ => ⟨b.qp, b.remoteAddr, BitVec.ofNat 64 f.hbmBytes⟩ }
            let v := (u.1.clearForRestore p).modPart p fun z => { z with restore := some k }
            let w := match k.pull with
              | some q => v.emitPull q
              | none => v
            (w, some { jseq := u.2, body := foundBody f })

def execRestore (r : HostReq) (b : RestoreBody) (s : State) : Host.Outcome State Fault Refusal :=
  .next (s.whenAnswering (.restore r b) fun t => restore r b t)

/-- The program space pages that a restore holds bytes of are written; every other page stays fresh (R390, R397). -/
def State.writePages (s : State) (lo hi : Nat) (es : SMap Byte) : State :=
  let pages := es.foldl (fun (m : SMap Bool) e => SMap.put m (e.1 / 2 ^ 21) true) []
  pages.foldl (fun t g =>
    let a := max lo (g.1 * 2 ^ 21)
    let b := min hi ((g.1 + 1) * 2 ^ 21)
    t.firmwareWrite a (b - a) (SMap.slice es a (b - a))) s

/-- The sections are written back: the binding, the quarters that the partition owns, the backed regions from their masters
(R397 step 2, 05 R149). -/
def State.writeSections (s : State) (p : Nat) (k : Restore) : State :=
  let y := s.part p
  let sp := y.programSpace
  let s1 := s.writePages sp.1 sp.2 (k.hbm.map fun e => (e.1 + y.base, e.2))
  let s2 := (s1.clustersOf p).foldl (fun t c =>
    t.store (quarterBase c) (2 ^ 26) (SMap.slice k.lagoon (quarterBase c) (2 ^ 26))) s1
  let backed := (y.image.map fun i => i.backed).getD []
  let s3 := backed.foldl (fun t b => t.copy (y.base + b.master) b.addr b.length) s2
  s3.modPart p fun z => { z with image := z.image.map fun i =>
    { i with backed := i.backed.map (fun (x : Backed) => { x with filled := true }) } }

/-- A rank's core stands as the snapshot left it (R397 steps 3 and 4, 08 R220): no token, transfer or pin of before, and no numeric
event of another job (03 R98). -/
def State.restoreRank (s : State) (kept : List Nat) (L : Nat) : State :=
  (s.modCore L fun c =>
    { c.reset with attempt := { rebuild := true, cleared := true }, inboxes := [], pins := [], startTokens := []
                   events := if kept.contains L then c.events else 0, seq := .heldBoundary }).rebuildCore L

/-- The carried pages of a snapshot stand again as generation 0 of their ranks (R388, R397 step 2, 08 R220). -/
def State.restorePages (s : State) (p : Nat) (shadow : SMap RankShadow) : State :=
  let x := s.part p
  match x.image with
  | none => s
  | some im =>
    shadow.foldl (fun t e => (im.carriedPages e.1).zipIdx.foldl (fun u g =>
      u.firmwareWrite (x.pageAt im.ranks e.1 false g.2) 4096 (SMap.slice e.2.pages (g.1 * 8) 4096)) t) s

/-- A slab's source lies in scratch, which no other section of a snapshot gives (R388). -/
def Image.inScratch (im : Image) (rank w n : Nat) : Bool := !im.touches rank 0 w n && !im.touches rank 1 w n

/-- A sender's source takes a full slot's contents where it lies in scratch, and stays pinned (R388, 08 R222; log 54). -/
def State.restoreSource (s : State) (snd src words L inbox slot : Nat) (bs : List Byte) : State :=
  let scratch := match s.standOf snd with
    | some pl => ((s.part pl.part).image.map fun (im : Image) => im.inScratch pl.rank src words).getD false
    | none => false
  (if scratch then s.writeBytes (csBase snd + src * 8) bs else s).modCore snd fun c =>
    { c with pins := c.pins ++ [(⟨src, words, L, inbox, slot⟩ : Pin)] }

/-- Contents of a rank's full slots go to the slots and to their senders' sources, which stay pinned; the slots that are
empty are the inbox's credits (R388, 08 R222). -/
def State.restoreSlots (s : State) (rank L : Nat) (slots : SMap (List Byte)) : State :=
  (s.core L).inboxes.foldl (fun t b =>
    let empty := (b.2.slots.filter fun x => x == SlotState.empty).length
    let t1 := { t with mesh := { t.mesh with credits := SMap.put t.mesh.credits (L * 8 + b.1) empty } }
    (List.range b.2.slots.length).foldl (fun u i =>
      match b.2.slots.getD i .empty with
      | .full snd src =>
        let bs := SMap.getD slots ((rank * 8 + b.1) * 64 + i) []
        (u.writeBytes (csBase L + (b.2.base + i * b.2.slotWords) * 8) bs).restoreSource snd src b.2.slotWords L b.1 i bs
      | _ => u) t1) s

/-- The job that a restore brings back (R397 step 5): the held one, or a new one under a new JOB_ID. -/
def State.restoredJob (s : State) (p : Nat) (k : Restore) : Job :=
  let y := s.part p
  let im := y.image
  let ranks := (im.map fun i => i.ranks).getD 0
  let order := s.clusterOrder p ((im.map fun i => i.relay).getD false)
  let placement := placeRanks order ranks 0
  let mv := fun L => match k.placement.idxOf? L with
    | some r => placement.getD r L
    | none => L
  let shadow := k.shadow.map fun (e : Nat × RankShadow) => 
    (e.1, { e.2 with inboxes := renameInboxes mv e.2.inboxes, gen := false, gens := [], pages := [] })
  let body : StartJobBody :=
    { partition := BitVec.ofNat 16 p, doubles := k.doubles, group := k.group, commitInterval := 0, turns := 0, groupId := k.groupId
      groupMap := k.groupMap, straitQueue := 0, seed := [] }
  let fresh : Job :=
    { req := ⟨Config.idBase + BitVec.ofNat 64 k.acceptedSeq, k.sid, y.tenant, body⟩, keys := k.keys
      turns := (im.map fun i => i.turns).getD 0, td := k.td, ts := k.ts, firstTurn := k.td, state := .loading, placement := [] }
  let base : Job := match y.job with
    | some j => if j.state = JobState.holding ∧ j.req.id = k.jobId then { j with resumed := true } else fresh
    | none => fresh
  { base with
    keys := k.keys, td := k.td, ts := k.ts, firstTurn := k.td, state := .loading, loaded := true, waiting := false, holdLease := false
    holdStatus := false, holdCapacity := decide (order.length < clustersNeeded ranks k.doubles), reason := 0, placement := placement
    placementB := if k.doubles then placeRanks order ranks (clustersNeeded ranks false) else [], epoch := k.epoch + 1
    shadow := shadow, pendingShadow := [], absorbers := [], steps := [], vote := none, compared := false, reported := false, go := none
    turnReplays := 0, turnMoves := 0, leaseDue := ((s.session? k.sid).map Session.held).getD false }

/-- Placement and rebuild, the entries, and the job at T_d (R397 steps 3 to 5). Where the clusters have become too few it
holds with reason Capacity. -/
def State.resumeRestored (s : State) (p : Nat) (k : Restore) : State :=
  let j := s.restoredJob p k
  let kept := if j.resumed then ((s.part p).job.map Job.cores).getD [] else []
  let s1 := (s.modPart p fun y => { y with
    job := some j, turnData := k.td, turnStream := k.ts, lastStatus := 0 }).restorePages p k.shadow
  let s2 := j.cores.foldl (fun t L => t.restoreRank kept L) s1
  let s3 := (j.placement.zipIdx ++ j.placementB.zipIdx).foldl (fun t e => t.restoreSlots e.2 e.1 k.slots) s2
  let s4 := (s3.endRestore p stOk (k.hbm.length + k.lagoon.length)).reportGroup p
  if j.holdCapacity then s4.enterHold p
  else if j.req.body.group && !(s4.group j.req.body.groupId).admitted then s4
  else s4.runLoaded p

/-- RESTORE_DATA_DONE: the data has come back or met a fault; a roll test on the partition keeps placement and rebuild
waiting (R397, R400). -/
def restoreDataDone (p : Nat) (st : W16) (s : State) : State :=
  match (s.part p).restore with
  | none => s
  | some k =>
    if st ≠ stOk then s.endRestore p st 0
    else if (s.clustersOf p).any s.testing then s
    else (s.writeSections p k).resumeRestored p k

def execRestoreDataDone (part : PartId) (status : W16) (s : State) : Host.Outcome State Fault Refusal :=
  .next (s.scheduled (restoreDataDone part.val status s))

/-! ### Roll tests (R384 to R387) -/

/-- ROLL_TEST: the clusters named are taken out of use one per island as their turns end (R384). -/
def rollTest (r : HostReq) (mask : W64) (s : State) : State :=
  s.command r 0x0050 [5] false fun x t =>
    let cs := (List.range 64).filter fun c => mask.getLsbD c
    let part := fun c => if c < 48 then t.partOf c else none
    checked t
      [(cs.any fun c => match part c with
          | some p => !t.owns r.sid p
          | none => true, refuseUnmapped),
       (cs.any fun c => match part c with
          | some p => (t.part p).clearing.isSome
          | none => false, refuseResetting)]
      fun t =>
        let u := t.accepted x r 0x0050 0 none (leBytes 8 mask.toNat)
        let new := (cs.filter fun c => !(u.1.host.rollTests.any fun k => k.cluster == c)).map fun c => ({ cluster := c, sid := r.sid, cmdSeq := r.seq } : RollTest)
        let v := { u.1 with host := { u.1.host with rollTests := u.1.host.rollTests ++ new } }
        (v.startTests, some { jseq := u.2 })

def execRollTest (r : HostReq) (clusters : W64) (s : State) : Host.Outcome State Fault Refusal :=
  .next (s.whenAnswering (.rollTest r clusters) fun t => rollTest r clusters t)

/-- A digest that more than half of the tested slots share (R386). -/
def majority (rs : List SlotResult) : Option Nat :=
  (rs.find? fun r => decide (rs.length < 2 * (rs.filter fun q => q.digest == r.digest).length)).map fun r => r.digest

/-- Slots that fail against the reference. -/
def failing (rs : List SlotResult) (ref : Nat) : List Nat :=
  (rs.filter fun r => r.digest != ref || r.residueFails != 0).map fun r => r.slot.val

/-- A reserve slot that fails is marked field-bad and logged (R386). -/
def State.failReserve (s : State) (c slot : Nat) : State :=
  let x := s.cluster c
  if x.slotState slot = 1 then
    (s.setCluster c { x with slots := SMap.put x.slots slot 3, reserves := x.reserves - 1 }).logRequest (unitCode 0x02 c slot 0) 1
      evRollTestDone
  else s

/-- An active slot that fails is substituted with CAUSE 5 (R386). -/
def State.failActive (s : State) (c slot : Nat) : State :=
  match (s.cluster c).map.idxOf? slot with
  | some p => s.failCore (c * 12 + p) 5
  | none => s

/-- ROLL_TEST_DONE with the session that asked (R387). -/
def State.rollEvent (s : State) (k : RollTest) (outcome : Nat) (rs : List SlotResult) (bad : List Nat) (us : Nat) : State :=
  let p := s.partOf k.cluster
  let job := (s.hostedJob k.cluster)
  let who : Concern :=
    { sid := k.sid, job := (job.map fun j => j.req.id).getD 0, cmd := k.cmdSeq, part := (p.map (BitVec.ofNat 16)).getD 0xFFFF
      tenant := ((s.session? k.sid).map fun x => x.tenant).getD 0 }
  (s.countEvent evRollTestDone).journalWrite 0x30 evRollTestDone ((job.map fun j => j.td).getD 0) who
    ([BitVec.ofNat 8 k.cluster, BitVec.ofNat 8 outcome, BitVec.ofNat 8 rs.length, 0] ++ leBytes 2 (bad.foldl (fun n b => n ||| 2 ^ b) 0) ++
      leBytes 2 (rs.foldl (fun n r => n + r.residueFails) 0) ++ leBytes 4 us ++ leBytes 16 k.seed.toNat)

/-- The cluster returns to use: its ranks are rebuilt before their next part, and the next test of the island starts (R384
step 3). -/
def State.endTest (s : State) (c : Nat) : State :=
  let s1 := { s with host := { s.host with rollTests := s.host.rollTests.filter fun k => k.cluster != c } }
  let s2 : State := match s1.hostedJob c with
    | some j => (j.cores.filter fun L => L / 12 == c).foldl (fun (t : State) L => t.awaitRebuild L true) s1
    | none => s1
  let s3 := s2.startTests
  match s3.partOf c with
  | some p => s3.endWait p
  | none => s3

/-- ROLL_TEST_CLUSTER_DONE: the slots' digests are compared, once more after a repeat where none is shared by more than
half; slots that fail are replaced, or the cluster leaves service (R386, R387). -/
def rollTestClusterDone (c : Nat) (results again : List SlotResult) (us : Nat) (s : State) : State :=
  match s.host.rollTests.find? fun k => k.cluster == c && k.running with
  | none => s
  | some k =>
    let used := if (majority results).isSome then results else again
    match majority used with
    | none => ((s.loseCluster c 2).rollEvent k 2 used [] us).endTest c
    | some ref =>
      let bad := failing used ref
      let s1 := bad.foldl (fun t n => t.failReserve c n) s
      let s2 := bad.foldl (fun t n => t.failActive c n) s1
      let outcome := if bad.isEmpty then 0 else if s2.inService c then 1 else 2
      (s2.rollEvent k outcome used bad us).endTest c

def execRollTestClusterDone (cluster : ClusterId) (results again : List SlotResult) (durationUs : W32) (s : State) :
    Host.Outcome State Fault Refusal := .next (rollTestClusterDone cluster.val results again durationUs.toNat s)

end Sys2Proof.Machine
end

