-- ==== Sys2Proof/Machine/Trust.lean ====
section
/-! DEFINITION. Journal reads, register reads, attestation and staged updates (10 R281, R295, R296; 14 R407, R419, R420; 11 R327,
R331). -/

namespace Sys2Proof.Machine

/-! ### JOURNAL_READ (R295, R296) -/

/-- The oldest SEQ still in the ring. -/
def Journal.firstHeld (j : Journal) : Nat := max 1 (j.next - 1048576)

/-- Entries that a session may read (R295). -/
def Session.mayRead (x : Session) (sid : W64) (e : JEntry) : Bool :=
  e.sid == sid || e.sid == 0 || (x.has 13 && x.operator)

/-- PTP_OFFSET reads zero while no master is heard (R299). -/
def HostSide.ptp (h : HostSide) : W64 := if h.ptpHeard then h.ptpOffset else 0

/-- The fields of a journal-read response ahead of its entries. -/
def journalHead (id first next ptp count : Nat) (lapped : Bool) : List Byte :=
  leBytes 8 id ++ leBytes 8 first ++ leBytes 8 next ++ leBytes 8 ptp ++ leBytes 2 count ++ [BitVec.ofNat 8 (bit lapped 0)] ++
    List.replicate 5 0

/-- SEQ and TENANT of an entry as a mirror holds it (R292). -/
def entrySeq (e : List Byte) : Nat := fileNat e 0 8
def entryTenant (e : List Byte) : Nat := fileNat e 0x36 2

/-- A read of the module's own journal. -/
def State.journalBody (s : State) (x : Session) (sid : W64) (from' max' : Nat) : List Byte :=
  let j := s.journal
  let es := ((j.inOrder.filter fun e => decide (from' ≤ e.seq) && x.mayRead sid e).take max')
  journalHead j.id.toNat j.firstHeld j.next s.host.ptp.toNat es.length (decide (from' < j.firstHeld)) ++ es.flatMap JEntry.bytes

/-- A read of the mirror of a seat: entries of the session's tenant; nothing where no mirror is held. The mirrored journal's
JOURNAL_ID travels in no packet of the spec: a free value (log 6). -/
def State.mirrorBody (s : State) (x : Session) (seat from' max' : Nat) : State × List Byte :=
  match SMap.get? s.arch.mirrors seat with
  | none => (s, journalHead 0 0 0 s.host.ptp.toNat 0 false)
  | some ring =>
    let r := s.fresh
    let first := (ring.head?.map entrySeq).getD 0
    let next := (ring.getLast?.map entrySeq).getD 0 + 1
    let es := (ring.filter fun e => decide (from' ≤ entrySeq e) && entryTenant e == x.tenant.toNat).take max'
    (r.2, journalHead r.1.toNat first next s.host.ptp.toNat es.length (decide (from' < first)) ++ es.flatten)

/-- JOURNAL_READ; of a mirror under GROUPS (R274, R296). -/
def journalRead (r : HostReq) (from' max' : Nat) (mirror : Bool) (seat : Nat) (s : State) : State :=
  s.command r 0x0030 (if mirror then [3, 9] else [3]) false fun x t =>
    if max' = 0 ∨ 500 < max' then (t, some refuseRange)
    else if mirror then
      let m := t.mirrorBody x seat from' max'
      (m.1, some { body := m.2 })
    else (t, some { body := t.journalBody x r.sid from' max' })

def execJournalRead (r : HostReq) (fromSeq : W64) (max : W16) (mirror : Bool) (seat : Byte) (s : State) :
    Host.Outcome State Fault Refusal :=
  .next (s.whenAnswering (.journalRead r fromSeq max mirror seat) fun t => journalRead r fromSeq.toNat max.toNat mirror seat.toNat t)

/-! ### REGISTER_READ (R281) -/

/-- A register as a session sees it: core register sets outside its partitions read zero without OPERATOR_VIEW. -/
def State.seenReg (s : State) (x : Session) (sid : W64) (a : Nat) : W64 :=
  let hidden := match coreRegOf a with
    | some L => !(x.has 13 && x.operator) &&
        (match s.partOf (L / 12) with
         | some p => !s.owns sid p
         | none => true)
    | none => false
  if hidden then 0 else (s.readReg a).getD 0

/-- REGISTER_READ: up to 64 aligned addresses in the register blocks. -/
def registerRead (r : HostReq) (addrs : List W64) (s : State) : State :=
  s.command r 0x0070 [7] false fun x t =>
    checked t
      [(addrs.any fun a => (t.readReg a.toNat).isNone, refuseUnmapped),
       (decide (addrs.length = 0 ∨ 64 < addrs.length) || addrs.any fun a => a.toNat % 8 != 0, refuseRange)]
      fun t => (t, some { body := addrs.flatMap fun a => leBytes 8 (t.seenReg x r.sid a.toNat).toNat })

def execRegisterRead (r : HostReq) (addrs : List W64) (s : State) : Host.Outcome State Fault Refusal :=
  .next (s.whenAnswering (.registerRead r addrs) fun t => registerRead r addrs t)

/-! ### ATTEST (14 R419) -/

/-- The log head in force covers these entries; CHAIN_HEAD is the last one's CHAIN (11 R317). -/
def DefectLog.chainHead (l : DefectLog) : List Byte := (l.entries.getLast?.map LogEntry.chain).getD (List.replicate 16 0)

/-- PROGRAMS_DIGEST over the session's partitions in ascending order. -/
def State.programsDigest (s : State) (ps : List Nat) : List Byte :=
  shake256 (ps.flatMap fun p => leBytes 2 p ++ ((s.part p).image.map fun i => i.digest).getD (List.replicate 32 0)) 32

def bytes32 (v : BitVec 256) : List Byte := leBytes 32 v.toNat

/-- The 512-byte body of a quote. -/
def State.quote (s : State) (x : Session) (sid : W64) (nonce : BitVec 256) : List Byte :=
  let st := s.start
  let cfg := (st.image.map fun m => m.coolingClass.toNat).getD 0
  let flags := bit s.hbm.mode 0 + bit s.hbm.override 1 + field st.coolingInForce 2 2 + bit (st.coolingInForce != cfg) 4 + bit s.log.full 5
  let ps := s.ownedParts sid
  let active := (List.range 48).foldl (fun n c => n + (s.cluster c).active) 0
  leBytes 4 0x544F5551 ++ leBytes 2 1 ++ leBytes 2 0x0576 ++ leBytes 16 s.nv.serial.toNat ++ bytes32 nonce ++ leBytes 8 sid.toNat ++
    leBytes 8 x.keyId.toNat ++ leBytes 2 x.tenant.toNat ++ leBytes 6 0 ++ leBytes 8 s.timeBase.toNat ++ leBytes 4 s.nv.startCount ++
    leBytes 4 flags ++ ((List.range 8).flatMap fun k => leBytes 8 (Config.modulePk (Fin.ofNat 8 k)).toNat) ++
    leBytes 8 st.tfVersion.toNat ++ leBytes 8 st.opfwVersion.toNat ++ leBytes 8 ((st.image.map fun m => m.version.toNat).getD 0) ++
    leBytes 8 s.log.generation ++ bytes32 (((SMap.get? s.nv.tf st.tfSlot).map fun f => f.digest).getD 0) ++
    bytes32 (((SMap.get? s.nv.opfw st.opfwSlot).map fun f => f.digest).getD 0) ++
    bytes32 ((st.image.map fun m => m.digest).getD 0) ++ bytes32 Config.fuseCheck ++ s.log.chainHead ++
    leBytes 8 (clusterMask ps) ++ leBytes 2 active ++ [BitVec.ofNat 8 s.clustersInService, 0] ++ leBytes 4 Config.romVersion.toNat ++
    s.programsDigest ps ++ List.replicate 128 0

/-- ATTEST: a quote of the session's own partitions; its signature is outside the model (log 8). -/
def attest (r : HostReq) (nonce : BitVec 256) (s : State) : State :=
  s.command r 0x0060 [6] false fun x t => (t, some { body := t.quote x r.sid nonce })

def execAttest (r : HostReq) (nonce : BitVec 256) (s : State) : Host.Outcome State Fault Refusal :=
  .next (s.whenAnswering (.attest r nonce) fun t => attest r nonce t)

/-! ### Images that pass (11 R327, 14 R407) -/

/-- A key digest of the fuse map: the second one only where it is not zero (R327 check 2). -/
def Nv.ownerKey (n : Nv) (d : BitVec 256) : Bool := d == n.ownerDigest0 || (n.ownerDigest1 != 0 && d == n.ownerDigest1)

/-- Highest cap of a cooling class in W (00 R4). -/
def classCap (c : Nat) : Nat := [3600, 8500, 12000].getD c 3600

/-- Sub-ports of the image (11 R324). -/
def subPortsOk (m : MorrikImage) : Bool :=
  m.subPorts.length == 8 &&
    (List.range 8).all fun k =>
      match m.subPorts[k]? with
      | none => false
      | some c =>
        if k % 4 < subPortsOf (m.portMode.getD (k / 4) 0).toNat then
          c.mac != 0 && !c.mac.getLsbD 0 && (c.prefix6 != 0 || c.prefix4 != 0) && decide (c.prefix6.toNat ≤ 128 ∧ c.prefix4.toNat ≤ 32) &&
            (m.subPorts.filter fun d => d.mac == c.mac).length == 1
        else c == ⟨0, 0, 0, 0, 0⟩

/-- Host keys of the image (11 R326). -/
def hostKeysOk (m : MorrikImage) : Bool :=
  decide (1 ≤ m.hostKeys.length ∧ m.hostKeys.length ≤ 1024) &&
    m.hostKeys.all fun k => k.keyId != 0 && k.tenant != 0 && k.featureMask &&& ~~~(if k.operator then 0x3FFF else 0x0FFF) == 0 &&
      decide (k.partitionMask.toNat < 2 ^ 48) && (m.hostKeys.filter fun q => q.keyId == k.keyId).length == 1

/-- Layouts of the image (11 R323). -/
def layoutsOk (m : MorrikImage) : Bool :=
  m.layouts.length == m.layoutCount.toNat &&
    m.layouts.all fun l => l.length == 48 && l.all fun b => b == 0xFF || decide (b.toNat < 48)

/-- The archipelago section (11 R322, R325, R327 check 6; 09 R240). -/
def archOk (m : MorrikImage) (serial : BitVec 128) : Bool :=
  let n := m.archN.toNat
  let a := m.torusA.toNat
  let b := m.torusB.toNat
  let size :=
    match m.topology.toNat with
    | 0 => n == 0 && a == 0 && b == 0 && m.seat == 0 && m.seats.isEmpty
    | 1 => decide (2 ≤ n ∧ n ≤ 64) && a == 0 && b == 0
    | 2 => decide (2 ≤ a ∧ a ≤ 8 ∧ 2 ≤ b ∧ b ≤ 8) && n == a * b
    | 3 => decide (2 ≤ n ∧ n ≤ 25) && a == 0 && b == 0
    | _ => false
  size && (m.topology == 0 ||
    (decide (m.seat.toNat < n) && m.seats.all (fun e => decide (e.seat.toNat < n)) &&
      decide (2 ≤ (m.seats.filter fun e => e.eligible).length) &&
      m.seats.any fun e => e.seat == m.seat && e.valid && e.serial == serial))

/-- Every field of the module section lies in its range (11 R322). -/
def moduleSectionOk (m : MorrikImage) : Bool :=
  decide (m.coolingClass.toNat ≤ 2 ∧ m.hbmMode.toNat ≤ 1 ∧ 1 ≤ m.layoutCount.toNat ∧ m.layoutCount.toNat ≤ 8) &&
    decide (m.defaultLayout.toNat < m.layoutCount.toNat) && m.capPriority.length == 4 && m.capPriority.getD 0 1 == 0 &&
    [0, 1, 2, 3].all (fun k => m.capPriority.any fun b => b.toNat == k) &&
    (m.operatorCapW == 0 || decide (1000 ≤ m.operatorCapW.toNat ∧ m.operatorCapW.toNat ≤ classCap m.coolingClass.toNat)) &&
    m.portMode.length == 2 && m.portMode.all (fun b => decide (b.toNat ≤ 2)) && (m.udpPort == 0 || decide (1024 ≤ m.udpPort.toNat)) &&
    decide (m.vlanId.toNat ≤ 4094) && (m.dscpCauseway == 0xFF || decide (m.dscpCauseway.toNat ≤ 63)) &&
    (m.dscpRoce == 0xFF || decide (m.dscpRoce.toNat ≤ 63)) && (m.pfcPriority == 0xFF || m.pfcPriority == 0xFE || decide (m.pfcPriority.toNat ≤ 7))

/-- An image passes R327. -/
def Nv.imagePasses (n : Nv) (m : MorrikImage) : Bool :=
  m.magic == 0x4B52524D && m.formatVersion == 1 && m.productCode == n.productCode &&
    decide (m.imageSize.toNat = 0x1E00 + 96 * m.hostKeys.length + 29792 ∧ m.imageSize.toNat ≤ 2 ^ 20) && n.ownerKey m.signerDigest &&
    m.sigValid && (m.serial == 0 || m.serial == n.serial) && m.version != 0 && m.reservedZero && moduleSectionOk m && layoutsOk m &&
    subPortsOk m && hostKeysOk m && archOk m n.serial

/-- Slot size of a firmware kind: 1 trusted, 2 operating (14 R406). -/
def fwSlotSize (kind : Nat) : Nat := if kind = 1 then 2 ^ 24 else 2 ^ 26

/-- A firmware slot passes R407. -/
def Nv.firmwarePasses (n : Nv) (kind : Nat) (f : FwImage) : Bool :=
  f.magic == 0x57465A50 && f.formatVersion == 1 && f.productCode == n.productCode && f.kind.toNat == kind &&
    decide (32768 ≤ f.size.toNat ∧ f.size.toNat ≤ fwSlotSize kind) && f.signerDigest == n.vendorDigest && f.sigValid && f.sectionsOk &&
    f.version != 0

/-- Two firmwares run together (R407). -/
def runTogether (a b : FwImage) : Bool := decide (a.minPeer.toNat ≤ b.version.toNat ∧ b.minPeer.toNat ≤ a.version.toNat)

/-! ### Staging (11 R331, 14 R420) -/

/-- PENDING and PROVEN bit of a staging kind: 0 Morrik image, 1 operating firmware, 2 trusted firmware (11 R314). -/
def stageBit (kind : Nat) : Nat := if kind = 0 then 2 else if kind = 1 then 1 else 0

/-- STAGE_UPDATE: its length, one staging at a time, then the bits of the kind are cleared and the pull runs. -/
def stageUpdate (r : HostReq) (kind lo hi : Nat) (qp : W32) (addr : W64) (rkey : W32) (length : W64) (s : State) : State :=
  s.command r 0x0090 [12] true fun x t =>
    checked t
      [(!t.ownsQp r.sid qp, refuseUnmapped), (decide (length.toNat < lo ∨ hi < length.toNat), refuseRange),
       (t.host.staging.isSome, refuseState)]
      fun t =>
        let u := t.accepted x r 0x0090 0 none
          (leBytes 4 kind ++ leBytes 4 qp.toNat ++ leBytes 8 addr.toNat ++ leBytes 8 rkey.toNat ++ leBytes 8 length.toNat)
        let m : BitVec 3 := ~~~(BitVec.ofNat 3 (2 ^ stageBit kind))
        let v := { u.1 with
          nv := { u.1.nv with
            pending := u.1.nv.pending &&& m, proven := u.1.nv.proven &&& m, generation := u.1.nv.generation + 1
            tf := if kind = 2 then SMap.erase u.1.nv.tf (1 - u.1.nv.tfActive) else u.1.nv.tf
            opfw := if kind = 1 then SMap.erase u.1.nv.opfw (1 - u.1.nv.opfwActive) else u.1.nv.opfw
            images := if kind = 0 then SMap.erase u.1.nv.images (1 - u.1.nv.imageActive) else u.1.nv.images }
          host := { u.1.host with staging := some ⟨kind, r.sid, r.seq, u.2, ⟨qp, addr, length⟩⟩ } }
        (v.emitPull ⟨qp, addr, length⟩, some { jseq := u.2 })

/-- STAGE_UPDATE with KIND 0: 37,568 B to 1 MiB (11 R331). -/
def execStageUpdateImage (r : HostReq) (qp : W32) (remoteAddr : W64) (rkey : W32) (length : W64) (s : State) :
    Host.Outcome State Fault Refusal :=
  .next (s.whenAnswering (.stageUpdateImage r qp remoteAddr rkey length) fun t => stageUpdate r 0 37568 (2 ^ 20) qp remoteAddr rkey length t)

/-- KIND 1: 32 KiB to the slot size (14 R420). -/
def execStageUpdateOpfw (r : HostReq) (qp : W32) (remoteAddr : W64) (rkey : W32) (length : W64) (s : State) :
    Host.Outcome State Fault Refusal :=
  .next (s.whenAnswering (.stageUpdateOpfw r qp remoteAddr rkey length) fun t => stageUpdate r 1 32768 (2 ^ 26) qp remoteAddr rkey length t)

/-- KIND 2. -/
def execStageUpdateTf (r : HostReq) (qp : W32) (remoteAddr : W64) (rkey : W32) (length : W64) (s : State) :
    Host.Outcome State Fault Refusal :=
  .next (s.whenAnswering (.stageUpdateTf r qp remoteAddr rkey length) fun t => stageUpdate r 2 32768 (2 ^ 24) qp remoteAddr rkey length t)

/-- The firmware of a kind that the next start will choose: the staged one if its PENDING bit is set, else the active one. -/
def Nv.nextFirmware (n : Nv) (kind : Nat) : Option FwImage :=
  if kind = 1 then SMap.get? n.tf (if n.pending.getLsbD 0 then 1 - n.tfActive else n.tfActive)
  else SMap.get? n.opfw (if n.pending.getLsbD 1 then 1 - n.opfwActive else n.opfwActive)

/-- A staged firmware passes R407, is newer than the active slot's and can run with the other kind (R420 step 4). -/
def Nv.stagedFirmwareOk (n : Nv) (kind : Nat) (f : FwImage) : Bool :=
  let active := if kind = 1 then SMap.get? n.tf n.tfActive else SMap.get? n.opfw n.opfwActive
  n.firmwarePasses kind f && decide (((active.map fun a => a.version.toNat).getD 0) < f.version.toNat) &&
    (match n.nextFirmware (3 - kind) with
     | some o => runTogether f o
     | none => false)

/-- A staged image passes R327 and is newer than the active one (R331 step 3). -/
def Nv.stagedImageOk (n : Nv) (m : MorrikImage) : Bool :=
  n.imagePasses m && decide (((SMap.get? n.images n.imageActive).map fun a => a.version.toNat).getD 0 < m.version.toNat)

/-- The inactive slot takes what was pulled. -/
def Nv.place (n : Nv) (o : StagedObject) (kind : Nat) : Nv :=
  match o with
  | .none => n
  | .image m => if kind = 0 then { n with images := SMap.put n.images (1 - n.imageActive) m } else n
  | .firmware f =>
    match kind with
    | 1 => { n with opfw := SMap.put n.opfw (1 - n.opfwActive) f }
    | 2 => { n with tf := SMap.put n.tf (1 - n.tfActive) f }
    | _ => n

def StagedObject.version (o : StagedObject) : W64 :=
  match o with
  | .none => 0
  | .image m => m.version
  | .firmware f => f.version

/-- Whether the pulled object passes the checks of its staging. -/
def Nv.stagedOk (n : Nv) (o : StagedObject) (kind : Nat) : Bool :=
  match o with
  | .none => false
  | .image m => kind == 0 && n.stagedImageOk m
  | .firmware f => decide (kind = 1 ∨ kind = 2) && n.stagedFirmwareOk (3 - kind) f

/-- STAGING_PULL_DONE: the pulled object stands in the inactive slot and is checked; its PENDING bit follows, and STAGING_DONE
reports the outcome (R331, R420). A pull that no queue pair could complete leaves no staged object. -/
def stagingPullDone (o : StagedObject) (s : State) : State :=
  match s.host.staging with
  | none => s
  | some g =>
    let ok := s.nv.stagedOk o g.kind
    let n := s.nv.place o g.kind
    let nv := if ok then { n with pending := n.pending ||| BitVec.ofNat 3 (2 ^ stageBit g.kind), generation := n.generation + 1 } else n
    let code := if ok then stOk else stImageSignature
    let s1 := { s with nv := nv, host := { s.host with staging := none, stagingOutcome := code } }
    s1.journalWrite 0x31 code 0
      { sid := g.sid, cmd := g.cmdSeq, tenant := ((s.session? g.sid).map fun x => x.tenant).getD 0 }
      (leBytes 8 g.acceptedSeq ++ leBytes 8 (Sys2Proof.Machine.StagedObject.version o).toNat ++ [BitVec.ofNat 8 g.kind])

def execStagingPullDone (o : StagedObject) (s : State) : Host.Outcome State Fault Refusal := .next (stagingPullDone o s)


end Sys2Proof.Machine
end

