-- ==== Sys2Proof/Machine/StartOps.lean ====
section
/-! DEFINITION. What the stages of a start share: time since time zero, stage reports, unit codes read back from the field defect
log, the choice of firmware and of the Morrik image, the spare table (11 R301 to R328, 14 R408, 01 R26). -/

namespace Sys2Proof.Machine

/-! ### Time and reports (11 R301 to R307) -/

/-- Nanoseconds since time zero of the start. -/
def State.elapsed (s : State) : Nat := s.start.before + (s.timeBase.toNat - s.start.zero)

/-- How a stage ends: OUTCOME 1 passed, 2 degraded or 3 failed, with the report's fields. -/
structure StageEnd where
  outcome : Nat
  code : W16 := 0
  unit : W64 := 0
  affected : Nat := 0
  attempts : Nat := 0
  detail : List Byte := []
  deriving DecidableEq, Repr

/-- The number of this start: START_COUNT is raised at stage 1, after the report of stage 0 (11 R305, R314; log 27). -/
def State.startNumber (s : State) : Nat := if s.start.stage = 0 then s.nv.startCount + 1 else s.nv.startCount

/-- A stage report (11 R305). -/
def State.stageReport (s : State) (e : StageEnd) : List Byte :=
  [BitVec.ofNat 8 s.start.stage, BitVec.ofNat 8 e.outcome] ++ leBytes 2 e.code.toNat ++ leBytes 4 s.startNumber ++
    leBytes 4 (s.start.begun / 1000) ++ leBytes 4 (s.elapsed / 1000) ++ unitBytes e.unit ++ leBytes 2 e.affected ++
    leBytes 2 e.attempts ++ leBytes 4 0 ++ (e.detail ++ List.replicate 32 0).take 32

/-- A stage ends: its report is written and the next stage begins, or the start stops (11 R301, R302, R305). -/
def State.endStage (s : State) (e : StageEnd) : State :=
  let s1 := { s with start := { s.start with reports := SMap.put s.start.reports s.start.stage (s.stageReport e) } }
  if e.outcome = 3 then ({ s1 with start := { s1.start with active := false, failed := true } }).alert 0
  else
    { s1 with start := { s1.start with
      stage := s.start.stage + 1, begun := s.elapsed, affected := 0, unit := none, code := 0, spared := 0, again := 0 } }

/-- A stage's work runs. -/
def State.inStage (s : State) (n : Nat) : Bool := s.start.active && s.start.stage == n && s.chassis.main

/-- A unit that the present stage leaves out, spares or repairs; the first one is named (11 R305). -/
def State.leftOut (s : State) (unit : W64) (code : W16) : State :=
  { s with start := { s.start with
    affected := s.start.affected + 1, unit := s.start.unit.or (some unit), code := if s.start.code = 0 then code else s.start.code } }

/-! ### The field defect log at a start (11 R320) -/

/-- Byte k of a unit code (11 R306). -/
def unitByte (u : W64) (k : Nat) : Nat := u.toNat / 256 ^ k % 256

/-- Unit codes of a kind in the log, this start's entries included. -/
def State.loggedUnits (s : State) (kind : Nat) : List W64 :=
  ((s.log.entries ++ s.log.waiting).map LogEntry.unit).filter fun u => unitByte u 0 == kind

/-- The receive side of a seam direction: the node itself for an arriving wire, the far node for a leaving one (11 R306, 07
R204). -/
def receiveSide (n d : Nat) (arriving : Bool) : Nat × Nat := if arriving then (n, d) else ((peerNode n d).getD n, farPort d)

/-- A wire that the fuses or the log name: its group's spare carries it; a second wire of the group shows that the group could not
be repaired (01 R23, 07 R204). -/
def PortSet.selectSpare (x : PortSet) (h : Bool) (g w : Nat) : PortSet :=
  if (x.steered h).contains (g * 256 + w) then x
  else if (x.spared h).getLsbD g then x.failGroup h g
  else x.spare h g w

/-- Spares that the fuses select (11 R316, 01 R23). -/
def State.fuseSpares (s : State) : State :=
  s.nv.seamSpares.foldl (fun t e =>
    let v := e.2.toNat
    let r := receiveSide (v % 64) (v / 64 % 8) (v / 1024 % 2 == 1)
    t.modPort r.1 r.2 fun x => x.selectSpare (v / 512 % 2 == 1) (v / 2048 % 32) (v / 65536 % 256)) s

/-- Seam wires of the log take their spares (11 R320). -/
def State.loggedSpares (s : State) : State :=
  (s.loggedUnits 0x07).foldl (fun t u =>
    let c := unitByte u 3
    let r := receiveSide (unitByte u 1) (unitByte u 2) (c / 2 % 2 == 1)
    (t.modPort r.1 r.2 fun x => x.selectSpare (c % 2 == 1) (unitByte u 4) (unitByte u 5)).leftOut u evWireSpared) s

/-- A half stays out of service: its detour stands from the start (07 R197). -/
def State.halfStaysOut (s : State) (n d : Nat) (h : Bool) : State :=
  let set := fun (x : PortSet) => x.setHalf h 2
  let s1 := { s.modPort n d set with mesh := { s.mesh with detours := s.mesh.detours ++ [(n, d, h)] } }
  match peerNode n d with
  | some m => s1.modPort m (farPort d) set
  | none => s1

/-- Link halves and router halves of the log stay out of service (11 R320, 07 R197). -/
def State.loggedHalves (s : State) : State :=
  let s1 := (s.loggedUnits 0x05).foldl (fun t u =>
    (t.halfStaysOut (unitByte u 1) (unitByte u 2) (unitByte u 3 == 1)).leftOut u evHalfLost) s
  (s1.loggedUnits 0x06).foldl (fun t u =>
    let n := unitByte u 1
    let h := unitByte u 3 == 1
    let t1 := ((List.range 8).filter fun d => (peerNode n d).isSome).foldl (fun w d => w.halfStaysOut n d h) t
    ({ t1 with mesh := { t1.mesh with routersOut := t1.mesh.routersOut ++ [(n, h)] } }).leftOut u evHalfLost) s1

/-- Logged phases stay isolated (11 R320, 12 R337). -/
def State.loggedPhases (s : State) : State :=
  (s.loggedUnits 0x0D).foldl (fun t u =>
    let i := unitByte u 1
    let p := unitByte u 3
    let t1 := match unitByte u 2 with
      | 4 => t.modIsland i fun x => { x with transitIsolated := x.transitIsolated ||| BitVec.ofNat 4 (2 ^ p) }
      | 5 => t.modIsland i fun x => { x with lagoonIsolated := x.lagoonIsolated ||| BitVec.ofNat 6 (2 ^ p) }
      | 6 => t.modIsland i fun x => { x with attachIsolated := x.attachIsolated ||| BitVec.ofNat 8 (2 ^ p) }
      | 7 => t.modIsland i fun x => { x with sectorIsolated := x.sectorIsolated ||| BitVec.ofNat 4 (2 ^ p) }
      | k => t.modCluster (i * 4 + k) fun x => { x with isolated := x.isolated ||| BitVec.ofNat 12 (2 ^ p) }
    t1.leftOut u evPhaseReserveLost) s

/-! ### The spare table (01 R26, R37, R38, 11 R312) -/

/-- Factory-bad slots of a cluster (11 R315). -/
def State.factoryBad (s : State) (c i : Nat) : Bool := (SMap.getD s.nv.slotBad c 0).getLsbD i

/-- Slots that the log names. -/
def State.fieldBad (s : State) (c i : Nat) : Bool := (s.loggedUnits 0x02).any fun u => unitByte u 1 == c && unitByte u 2 == i

/-- The good slots of a cluster, in ascending order. -/
def State.goodSlots (s : State) (c : Nat) : List Nat := (List.range 14).filter fun i => !s.factoryBad c i && !s.fieldBad c i

/-- The control core of a cluster is logged (11 R320). -/
def State.cccLogged (s : State) (c : Nat) : Bool := (s.loggedUnits 0x03).any fun u => unitByte u 1 == c

/-- The adoption partner (01 R25). -/
def partner (c : Nat) : Nat := if c % 2 = 0 then c + 1 else c - 1

/-- A cluster's row of the spare table: twelve positions on its first good slots, the rest in reserve, or out of service with
fewer than twelve, a dark region, or both control cores of its pair logged. The ring passes its bad slots (01 R24). -/
def State.buildRow (s : State) (c : Nat) : State :=
  let good := s.goodSlots c
  let dark := decide (12 - bitCount (s.cluster c).isolated ≤ 7)
  let serves := decide (12 ≤ good.length) && !dark && !(s.cccLogged c && s.cccLogged (partner c))
  let slots : SMap (BitVec 2) := (List.range 14).map fun i =>
    (i, if s.factoryBad c i then 2 else if s.fieldBad c i then 3 else if serves && !(good.take 12).contains i then 1 else 0)
  let s1 := s.modCluster c fun x => { x with
    slots := slots, map := if serves then good.take 12 else List.replicate 12 0xF, active := if serves then 12 else 0
    reserves := if serves then good.length - 12 else 0, cccDown := s.cccLogged c
    skips := (List.range 14).filter fun i => s.factoryBad c i || s.fieldBad c i
    region := if dark then .dark else .running, op := if dark then 0 else 1 }
  let s2 := if serves then (List.range 12).foldl (fun t p => t.modCore (c * 12 + p) fun k => { k with seq := .noTurn }) s1 else s1
  if !serves then s2.leftOut (unitCode 0x01 (c / 4) (c % 4) 0) evCapacityChanged
  else if s.cccLogged c then s2.leftOut (unitCode 0x03 c 0 0) evUnitSubstituted
  else s2

/-! ### Firmware (14 R407 to R409) -/

/-- What choose(kind) returns: the slot, or none where the stage fails; the outcome as OPFW_OUTCOME; a version refused. -/
structure Choice where
  slot : Option Nat
  outcome : Nat
  refused : W64
  deriving DecidableEq, Repr

/-- choose(kind) of R408, with `ok` for R407 and the condition on the other kind, `before` for a trial that RESET_CAUSE 5
reverted (R410; log 28). -/
def chooseFirmware (slots : SMap FwImage) (active : Nat) (pending proven : Bool) (ok : FwImage → Bool) (before : Nat × W64) : Choice :=
  let get := SMap.get? slots
  let passes := fun (i : Nat) => match get i with
    | some f => ok f
    | none => false
  let version := fun (i : Nat) => ((get i).map fun f => f.version).getD 0
  if pending && passes (1 - active) && decide ((version active).toNat < (version (1 - active)).toNat) then ⟨some (1 - active), 1, 0⟩
  else
    let noted : Nat × W64 := if pending then (2, version (1 - active)) else before
    if passes active then ⟨some active, noted.1, noted.2⟩
    else if proven && passes (1 - active) then ⟨some (1 - active), 4, noted.2⟩
    else ⟨none, noted.1, noted.2⟩

/-! ### The Morrik image (11 R328) -/

/-- What stage 2 chooses: the slot, whether the staged image was applied, whether the stage is degraded, the state block. -/
structure ImageChoice where
  slot : Option Nat
  applied : Bool
  degraded : Bool
  nv : Nv
  deriving DecidableEq, Repr

def Nv.imageAt (n : Nv) (i : Nat) : Option MorrikImage := SMap.get? n.images i
def Nv.imageOk (n : Nv) (i : Nat) : Bool :=
  match n.imageAt i with
  | some m => n.imagePasses m
  | none => false

/-- R328. -/
def Nv.chooseImage (n : Nv) : ImageChoice :=
  let version := fun (i : Nat) => ((n.imageAt i).map fun m => m.version.toNat).getD 0
  let a := n.imageActive
  let o := 1 - a
  let pend := n.pending.getLsbD 2
  if pend && n.imageOk o && decide (version a < version o) then
    ⟨some o, true, false, { n with
      imageActive := o, proven := n.proven ||| 4, pending := n.pending &&& 3, generation := n.generation + 1 }⟩
  else
    let n1 := if pend then { n with pending := n.pending &&& 3, generation := n.generation + 1 } else n
    if n1.imageOk a then ⟨some a, false, pend, n1⟩
    else if n1.proven.getLsbD 2 && n1.imageOk o then
      ⟨some o, false, true, { n1 with imageActive := o, proven := n1.proven &&& 3, generation := n1.generation + 1 }⟩
    else ⟨none, false, pend, n1⟩

end Sys2Proof.Machine
end

