-- ==== Sys2Proof/Machine/Start.lean ====
section
/-! DEFINITION. The stages of a start as they happen, from the input taken as applied to ready (11 R301 to R334, 14 R408 to R410,
16 R448). -/

namespace Sys2Proof.Machine

/-! ### Stage 0 (R301, 16 R448) -/

/-- The input stands within 40 to 59.5 V. -/
def inRange (mv : Nat) : Bool := decide (40000 ≤ mv ∧ mv ≤ 59500)

/-- INPUT_APPLIED: presence, a closed latch and an input in range for 100 ms: time zero of a cold start, whose time base
counts from 0. A latched trip waits until the input has fallen below 40 V (15 R426). -/
def inputApplied (mv : Nat) (s : State) : State :=
  if !s.chassis.present || s.chassis.latchOpen || s.chassis.main || s.chassis.applied || !inRange mv ||
      (s.chassis.tripped && !s.chassis.fellBelow) then s
  else
    { s with
      timeBase := 0, power := { s.power with inputMv := mv }
      chassis := { s.chassis with inputMv := mv, applied := true, tripped := false, indicator := false }
      start := { active := true } }

def execInputApplied (mv : W32) (s : State) : Host.Outcome State Fault Refusal := .next (inputApplied mv.toNat s)

/-- PRECHARGE_DONE: the main switch closes only with the bank within 1.0 V of the input (16 R448). -/
def prechargeDone (bankMv us : Nat) (s : State) : State :=
  if !s.chassis.applied || s.chassis.main || !s.start.active || decide (bankMv + 1000 < s.chassis.inputMv) ||
      decide (s.chassis.inputMv + 1000 < bankMv) then s
  else { s with chassis := { s.chassis with main := true }, start := { s.start with prechargeUs := us } }

def execPrechargeDone (bankMv us : W32) (s : State) : Host.Outcome State Fault Refusal := .next (prechargeDone bankMv.toNat us.toNat s)

/-- DETAIL of stage 0 (R307). -/
def State.detail0 (s : State) (railMv : Nat) : List Byte :=
  leBytes 4 s.chassis.inputMv ++ leBytes 4 railMv ++ leBytes 4 s.start.prechargeUs

/-- STAGE_0_END: power good, or a failure of pre-charge (unit 48 V input), of the 1.8 V stage or of the crystal. -/
def stage0End (railMv : Nat) (ok : Bool) (s : State) : State :=
  if !s.start.active || s.start.stage != 0 then s
  else if ok then (if s.chassis.main then s.endStage { outcome := 1, detail := s.detail0 railMv } else s)
  else s.endStage { outcome := 3, unit := if s.chassis.main then 0 else unitCode 0x11 0 0 0, detail := s.detail0 railMv }

def execStage0End (railMv : W32) (ok : Bool) (s : State) : Host.Outcome State Fault Refusal := .next (stage0End railMv.toNat ok s)

/-! ### Stage 1 (R301, R314, 14 R408) -/

/-- DETAIL of stage 1 (R307). -/
def State.detail1 (s : State) : List Byte :=
  [BitVec.ofNat 8 s.start.tfSlot] ++ leBytes 7 0 ++ leBytes 8 s.start.tfVersion.toNat ++ leBytes 4 s.log.entries.length ++
    leBytes 4 s.log.generation

/-- Both choices of R408 from the state block as it stands, and the state block with the PENDING bits cleared. -/
def Nv.chooseTrusted (n : Nv) (before : Nat × W64) : Choice :=
  chooseFirmware n.tf n.tfActive (n.pending.getLsbD 0) (n.proven.getLsbD 0) (n.firmwarePasses 1) before

def Nv.chooseOperating (n : Nv) (t : FwImage) (before : Nat × W64) : Choice :=
  chooseFirmware n.opfw n.opfwActive (n.pending.getLsbD 1) (n.proven.getLsbD 1) (fun f => n.firmwarePasses 2 f && runTogether t f) before

/-- The trusted firmware runs: its slot, version and outcome. -/
def State.takeTrusted (s : State) (c : Choice) (slot : Nat) (f : FwImage) : State :=
  { s with start := { s.start with
    tfSlot := slot, tfVersion := f.version, tfOutcome := c.outcome, tfRefused := c.refused, tfTrial := c.outcome == 1 } }

/-- The operating firmware runs. -/
def State.takeOperating (s : State) (c : Choice) (slot : Nat) (f : FwImage) : State :=
  { s with start := { s.start with
    opfwSlot := slot, opfwVersion := f.version, opfwOutcome := c.outcome, opfwRefused := c.refused, opfwTrial := c.outcome == 1 } }

/-- A PENDING bit is cleared in one state block write (14 R408). -/
def Nv.clearPending (n : Nv) (bit : Nat) : Nv :=
  if n.pending.getLsbD bit then
    { n with pending := n.pending &&& ~~~(BitVec.ofNat 3 (2 ^ bit)), generation := n.generation + 1 }
  else n

/-- A failed choice: unit code 0x0F, area 1 or 2 (14 R408). -/
def State.noFirmware (s : State) (area active : Nat) : State :=
  s.endStage { outcome := 3, code := stImageSignature, unit := unitCode 0x0F area active 0 }

/-- STAGE_1_FIRMWARE: fuses, START_COUNT, the trusted firmware, the lockstep pairs, the operating firmware. -/
def stage1Firmware (failedPair : Option Nat) (s : State) : State :=
  if !s.inStage 1 then s
  else
    let s0 : State := { s with nv := { s.nv with startCount := s.nv.startCount + 1, generation := s.nv.generation + 1 } }
    if !s.nv.fusesOk || s.nv.productCode != 0x0576 then s0.endStage { outcome := 3, unit := unitCode 0x10 0 0 0 }
    else
      let ct := s.nv.chooseTrusted (s.start.tfOutcome, s.start.tfRefused)
      let s1 : State := { s0 with nv := s0.nv.clearPending 0 }
      match ct.slot, ct.slot.bind (SMap.get? s.nv.tf) with
      | some ts, some tf =>
        let s2 := s1.takeTrusted ct ts tf
        match failedPair with
        | some k => s2.endStage { outcome := 3, unit := unitCode 0x0E k 0 0 }
        | none =>
          let co := s.nv.chooseOperating tf (s.start.opfwOutcome, s.start.opfwRefused)
          let s3 : State := { s2 with nv := s2.nv.clearPending 1 }
          match co.slot, co.slot.bind (SMap.get? s.nv.opfw) with
          | some os, some op =>
            let s4 := s3.takeOperating co os op
            s4.endStage { outcome := 1, detail := s4.detail1 }
          | _, _ => s3.noFirmware 2 s.nv.opfwActive
      | _, _ => s1.noFirmware 1 s.nv.tfActive

def execStage1Firmware (failedPair : Option (Fin 3)) (s : State) : Host.Outcome State Fault Refusal :=
  .next (stage1Firmware (failedPair.map Fin.val) s)

/-! ### Stage 2 (R327, R328) -/

/-- What the image sets: layouts, the archipelago's shape, the modes of the host ports, HBM_MODE (R322 to R325). -/
def State.takeImage (s : State) (m : MorrikImage) : State :=
  { s with
    sched := { s.sched with layouts := m.layouts, active := m.defaultLayout.toNat }
    hbm := { s.hbm with imageMode := m.hbmMode != 0 }
    host := { s.host with ports := [(0, { mode := (m.portMode.getD 0 0).toNat }), (1, { mode := (m.portMode.getD 1 0).toNat })] }
    arch := { s.arch with
      topology := m.topology.toNat, size := m.archN.toNat, torusA := m.torusA.toNat, torusB := m.torusB.toNat
      seat := m.seat.toNat, eligible := (m.seats.filter fun e => e.eligible).map fun e => e.seat.toNat } }

/-- DETAIL of stage 2 (R307). -/
def detail2 (slot : Nat) (applied : Bool) (m : MorrikImage) : List Byte :=
  [BitVec.ofNat 8 slot, BitVec.ofNat 8 (bit applied 0)] ++ leBytes 6 0 ++ leBytes 8 m.version.toNat ++ (bytes32 m.digest).take 16

/-- STAGE_2_IMAGE: the image is chosen under R328 and verified under R327. -/
def stage2Image (s : State) : State :=
  if !s.inStage 2 then s
  else
    let c := s.nv.chooseImage
    let s1 : State := { s with nv := c.nv }
    match c.slot, c.slot.bind s.nv.imageAt with
    | some i, some m =>
      let s2 : State := { s1.takeImage m with start := { s1.start with image := some m, imageSlot := i, stagedApplied := c.applied } }
      s2.endStage { outcome := if c.degraded then 2 else 1, code := if c.degraded then stImageSignature else 0, detail := detail2 i c.applied m }
    | _, _ => s1.endStage { outcome := 3, code := stImageSignature, unit := unitCode 0x0F 3 s.nv.imageActive 0 }

def execStage2Image (s : State) : Host.Outcome State Fault Refusal := .next (stage2Image s)

/-! ### Stage 3 (R309 to R312) -/

/-- The islands of each wave (R309). -/
def waveIslands (w : Nat) : List Nat := [[1], [0, 2, 4], [3, 5, 7], [6, 8, 10], [9, 11]].getD w []

def noFindings (i : Nat) : IslandFindings := { island := Fin.ofNat 12 i, badSlots := [], wires := [], lostPhases := [], failed := false }

/-- A phase that fails at bring-up (R310): isolated, logged and reported as in service. The last phase of a transit or lagoon
domain fails the stage in place of a reset. -/
def State.phaseAtStart (s : State) (i domain phase : Nat) : State :=
  let x := s.island i
  let t :=
    match domain with
    | 4 => if bitCount x.transitIsolated = 3 then s.modIsland i fun y => { y with transitIsolated := 0xF } else domainPhaseLost i 4 phase s
    | 5 => if bitCount x.lagoonIsolated = 5 then s.modIsland i fun y => { y with lagoonIsolated := 0x3F } else domainPhaseLost i 5 phase s
    | 6 => domainPhaseLost i 6 phase s
    | 7 => if phase < 4 then sectorPhaseFailure i phase s else s
    | k => regionPhaseLost (i * 4 + k) phase s
  t.leftOut (unitCode 0x0D i domain phase) evPhaseReserveLost

/-- A transit or lagoon domain with no working phase fails beyond repair (R301). -/
def State.islandFails (s : State) (f : IslandFindings) : Bool :=
  f.failed || (s.island f.island.val).transitIsolated == 0xF || (s.island f.island.val).lagoonIsolated == 0x3F

/-- One half's receive side after the wire test of seam training (R311). -/
def State.seamTested (s : State) (n d : Nat) (h : Bool) (fs : List (Fin 32 × Fin 130)) : State :=
  if (s.portSet n d).half h ≠ 0 ∨ !isSeam n d ∨ (peerNode n d).isNone then s
  else
    let t := wireTestDone n d h fs 0 (s.modPort n d fun x => x.setHalf h 1)
    let wires := bitCount (((t.portSet n d).spared h) &&& ~~~((s.portSet n d).spared h))
    let u := { t with start := { t.start with spared := t.start.spared + wires } }
    let u1 := if wires = 0 then u else u.leftOut (unitCode 0x07 n d ((if h then 1 else 0) + 2)) evWireSpared
    if (t.portSet n d).half h = 2 then u1.leftOut (unitCode 0x05 n d (if h then 1 else 0)) evHalfLost else u1

/-- The receive sides that an island's findings name, each once. -/
def IslandFindings.sides (f : IslandFindings) : List (Nat × Nat × Bool) :=
  (f.wires.map fun w => let r := receiveSide w.1.val w.2.1.val w.2.2.2.1; (r.1, r.2, w.2.2.1)).eraseDups

/-- The failing wires of one receive side. -/
def IslandFindings.on (f : IslandFindings) (k : Nat × Nat × Bool) : List (Fin 32 × Fin 130) :=
  (f.wires.filter fun w => let r := receiveSide w.1.val w.2.1.val w.2.2.2.1; (r.1, r.2, w.2.2.1) == k).map fun w => (w.2.2.2.2.1, w.2.2.2.2.2)

/-- Every seam port between an island of the wave and an island that is up counts its wire tests (R311, 07 R205). -/
def State.countSeamTests (s : State) (w : Nat) : State :=
  let up := (List.range (w + 1)).flatMap waveIslands
  let now := waveIslands w
  (List.range 48).foldl (fun t n => (List.range 8).foldl (fun t d =>
    match peerNode n d with
    | none => t
    | some m =>
      let a := clusterAt n / 4
      let b := clusterAt m / 4
      if isSeam n d && (now.contains a && up.contains b || now.contains b && up.contains a) then
        t.modPort n d fun x => { x with wireTests := x.wireTests + (if x.half0 = 2 then 0 else 1) + (if x.half1 = 2 then 0 else 1) }
      else t) t) s

/-- One island comes up (R310 to R312): phases, seams, bad slots, then its rows of the spare table. Its lagoon domain is on. -/
def State.bringUp (s : State) (f : IslandFindings) : State :=
  let i := f.island.val
  let s1 := f.lostPhases.foldl (fun t p => t.phaseAtStart i p.1.val p.2.val) s
  let s2 := (Sys2Proof.Machine.IslandFindings.sides f).foldl (fun (t : State) k =>
    t.seamTested k.1 k.2.1 k.2.2 (Sys2Proof.Machine.IslandFindings.on f k)) s1
  let s3 := f.badSlots.foldl (fun t b =>
    let u := unitCode 0x02 (i * 4 + b.1.val) b.2.val 0
    (t.logRequest u 0 0).leftOut u evCapacityChanged) s2
  let s4 := if (s3.island i).attachIsolated = 0xFF then s3.attachStops i else s3
  [0, 1, 2, 3].foldl (fun t k => t.buildRow (i * 4 + k)) s4

/-- Nodes that a set of nodes reaches over one more link of a half in service. -/
def State.joinStep (s : State) (h : Bool) (xs : List Nat) : List Nat :=
  (List.range 48).filter fun n => xs.contains n ||
    (List.range 8).any fun d =>
      match peerNode n d with
      | some m => xs.contains m && (s.portSet n d).half h != 2
      | none => false

/-- Nodes that reach the home island on a router half. -/
def State.joined (s : State) (h : Bool) : List Nat := (List.range 47).foldl (fun xs _ => s.joinStep h xs) [2, 3, 8, 9]

/-- A node that no router half joins to the home island (R301). -/
def State.cutNode (s : State) : Option Nat :=
  if s.links.all fun e => e.2.half0 != 2 && e.2.half1 != 2 then none
  else
    let a := s.joined false
    let b := s.joined true
    (List.range 48).find? fun n => !a.contains n && !b.contains n

/-- DETAIL of stage 3 (R307). -/
def State.detail3 (s : State) : List Byte :=
  let xs := s.clusters.map Prod.snd
  let halves := (s.links.filter fun e => decide (e.1 < farKey e.1)).foldl (fun n e =>
    n + (if e.2.half0 = 2 then 1 else 0) + (if e.2.half1 = 2 then 1 else 0)) 0
  [BitVec.ofNat 8 s.clustersInService, 0] ++ leBytes 2 (xs.foldl (fun n x => n + x.active) 0) ++
    leBytes 2 (xs.foldl (fun n x => n + x.reserves) 0) ++ leBytes 2 s.start.spared ++ leBytes 2 halves ++
    ((List.range 5).flatMap fun k => leBytes 2 (s.start.waveMs.getD k 0))
where
  /-- The port set at the other end of a link: a link counts once. -/
  farKey (k : Nat) : Nat := (receiveSide (k / 8) (k % 8) false).1 * 8 + (receiveSide (k / 8) (k % 8) false).2

/-- ISLAND_WAVE_DONE: the islands of the present wave are up and the next wave starts; the fifth ends the stage (R309). What the
fuses and the log select stands before the first wave's findings (R23, R320). -/
def islandWaveDone (found : List IslandFindings) (ms : Nat) (s : State) : State :=
  if !s.inStage 3 then s
  else
    let w := s.start.wave
    let s0 := if w = 0 then s.fuseSpares.loggedSpares.loggedHalves.loggedPhases else s
    let fs := (waveIslands w).map fun i => (found.find? fun f => f.island.val == i).getD (noFindings i)
    let s1 := fs.foldl (fun t f => t.bringUp f) (s0.countSeamTests w)
    let s2 : State := { s1 with start := { s1.start with wave := w + 1, waveMs := s1.start.waveMs ++ [ms] } }
    match fs.find? fun f => s2.islandFails f with
    | some f => s2.endStage { outcome := 3, unit := unitCode 0x01 f.island.val 0 0, affected := s2.start.affected + 1, detail := s2.detail3 }
    | none =>
      if w < 4 then s2
      else
        match s2.cutNode with
        | some n => s2.endStage { outcome := 3, code := evHalfLost, unit := unitCode 0x06 n 0 0, affected := s2.start.affected, detail := s2.detail3 }
        | none =>
          s2.endStage { outcome := if s2.start.affected = 0 then 1 else 2, code := s2.start.code, unit := s2.start.unit.getD 0
                        affected := s2.start.affected, detail := s2.detail3 }

def execIslandWaveDone (found : List IslandFindings) (durationMs : W16) (s : State) : Host.Outcome State Fault Refusal :=
  .next (islandWaveDone found durationMs.toNat s)

/-! ### Stage 4 (R301, R329, R330, 06 R155, R170) -/

/-- Stacks and channels that the log leaves untrained (06 R170). -/
def State.loggedStacks (s : State) : List Nat := (List.range 16).filter fun k => (s.loggedUnits 0x09).any fun u => unitByte u 1 == k
def State.loggedChannels (s : State) : List (Nat × Nat) := (s.loggedUnits 0x08).map fun u => (unitByte u 1, unitByte u 2)

/-- The log leaves some stripe that cannot be reconstructed (06 R169, R170). -/
def unreconstructable (stackList : List Nat) (chans : List (Nat × Nat)) : Bool :=
  decide (2 ≤ stackList.length) || chans.any fun a =>
    stackList.any (fun k => k != a.1) || chans.any fun b => b.1 != a.1 && b.2 == a.2

/-- Stacks at the start: in service, with the log's channels retired and its stacks lost. -/
def State.loggedHbm (s : State) : State :=
  let s1 := (List.range 16).foldl (fun t k => t.modStack k fun x =>
    if x.state = .lost then x else { x with
      state := if s.loggedStacks.contains k then .lost else .inService
      retired := s.loggedChannels.foldl (fun m c => if c.1 = k then m ||| BitVec.ofNat 32 (2 ^ c.2) else m) x.retired }) s
  { s1 with hbm := { s1.hbm with lost := s1.hbm.lost.or s.loggedStacks.head? } }

/-- A channel that two attempts did not train is retired and logged; a fifth one takes its stack (R301, 06 R167; log 29). -/
def State.untrained (s : State) (k ch : Nat) : State :=
  let x := s.stack k
  if x.state = .lost ∨ x.retired.getLsbD ch then s
  else
    let bits := x.retired ||| BitVec.ofNat 32 (2 ^ ch)
    let s1 := ((s.modStack k fun y => { y with retired := bits }).logRequest (unitCode 0x08 k ch 0) 0 0)
    if 5 ≤ bitCount bits then s1.loseStack k 0 else s1

/-- Stacks lost and channels retired, first the channels. -/
def State.hbmLeftOut (s : State) : List W64 :=
  ((List.range 16).flatMap fun k => ((List.range 32).filter fun c => (s.stack k).retired.getLsbD c).map fun c => unitCode 0x08 k c 0) ++
    ((List.range 16).filter fun k => (s.stack k).state == .lost).map fun k => unitCode 0x09 k 0 0

/-- DETAIL of stage 4 (R307). -/
def State.detail4 (s : State) : List Byte :=
  let stackList := (List.range 16).foldl (fun m k => if (s.stack k).state = .inService then m + 2 ^ k else m) 0
  let chans := (List.range 16).foldl (fun n k => n + bitCount (s.stack k).retired) 0
  let cfg := (s.start.image.map fun m => m.coolingClass.toNat).getD 0
  leBytes 2 stackList ++ leBytes 2 chans ++ [BitVec.ofNat 8 (bit s.hbm.mode 0), BitVec.ofNat 8 (bit s.hbm.override 0), 0, 0] ++
    leBytes 4 s.start.response ++ [BitVec.ofNat 8 cfg, BitVec.ofNat 8 s.start.coolingInForce]

/-- The cap latched at the end of stage 4 (12 R351): the class in force, or the operator's if that is lower. -/
def State.latchedCap (s : State) : Nat :=
  let own := (s.start.image.map fun m => m.operatorCapW.toNat).getD 0
  if own = 0 then classCap s.start.coolingInForce else min own (classCap s.start.coolingInForce)

/-- The class in force differs from the configured class (R330). -/
def State.coolingFell (s : State) : Bool := s.start.coolingInForce != (s.start.image.map fun m => m.coolingClass.toNat).getD 0

/-- Both works of stage 4 are done: PREV_MODE, the latched cap, the report (R330, 06 R176, 12 R351). -/
def State.endStage4 (s : State) : State :=
  if !(s.start.trained && s.start.cooled) then s
  else
    let s1 : State := { s with hbm := { s.hbm with prevMode := s.hbm.mode }, power := { s.power with capW := s.latchedCap } }
    let left := s1.hbmLeftOut
    let degraded := !left.isEmpty || s1.hbm.override || s1.coolingFell
    let code := if s1.coolingFell then evCoolingFallback
      else if (List.range 16).any (fun k => (s1.stack k).retired != 0) then evChannelRetrained
      else if !left.isEmpty then evStackLost else 0
    s1.endStage { outcome := if degraded then 2 else 1, code := code, unit := left.headD 0, affected := left.length
                  attempts := s1.start.again, detail := s1.detail4 }

/-- HBM_TRAINING_DONE: the mode is applied, protected where the log lists a stack or a channel (06 R155, R170), and what did not
train is left out. -/
def hbmTrainingDone (chans : List (Nat × Nat)) (stackList : List Nat) (s : State) : State :=
  if !s.inStage 4 || s.start.trained then s
  else
    let ls := s.loggedStacks
    let lc := s.loggedChannels
    let changed := s.hbm.imageMode && !(ls.isEmpty && lc.isEmpty)
    let s1 : State := { s.loggedHbm with
      hbm := { s.loggedHbm.hbm with mode := s.hbm.imageMode && !changed, override := changed }
      start := { s.start with trained := true, again := s.start.again + chans.length } }
    if unreconstructable ls lc then
      let units := s1.hbmLeftOut
      s1.endStage { outcome := 3, code := evStackLost, unit := units.headD 0, affected := units.length, detail := s1.detail4 }
    else
      let s2 := chans.foldl (fun t c => t.untrained c.1 c.2) s1
      let s3 := stackList.foldl (fun t k => (t.logRequest (unitCode 0x09 k 0 0) 0 evStackLost).loseStack k 1) s2
      s3.endStage4

def execHbmTrainingDone (failedChannels : List (StackId × ChannelId)) (lostStacks : List StackId) (s : State) :
    Host.Outcome State Fault Refusal :=
  .next (hbmTrainingDone (failedChannels.map fun c => (c.1.val, c.2.val)) (lostStacks.map Fin.val) s)

/-- Highest response that fits a class, in uK/W: air, cold plate, immersion (R329). -/
def coolingLimit (cls : Nat) : Nat := [30000, 10000, 6000].getD cls 30000

/-- COOLING_CHECK: a drifting baseline starts the check again once; then a response that does not fit, or a second drift, puts
the class air in force (R329). The response is the difference of the means over 200 W. -/
def coolingCheck (baseline pulse : Nat) (drifted : Bool) (s : State) : State :=
  if !s.inStage 4 || s.start.cooled then s
  else if drifted && !s.start.drifted then
    { s with start := { s.start with drifted := true, again := s.start.again + 1 } }
  else
    let cfg := (s.start.image.map fun m => m.coolingClass.toNat).getD 0
    let r := if drifted then 0 else 5 * (pulse - baseline)
    let fits := !drifted && decide (r ≤ coolingLimit cfg)
    let s1 : State := { s with start := { s.start with
      cooled := true, response := r, coolingInForce := if fits then cfg else 0, noClassFits := decide (coolingLimit 0 < r) } }
    (if s1.coolingFell then s1.alert 2 else s1).endStage4

def execCoolingCheck (baselineMilliC pulseMilliC : Nat) (drifted : Bool) (s : State) : Host.Outcome State Fault Refusal :=
  .next (coolingCheck baselineMilliC pulseMilliC drifted s)

/-! ### Stages 5 and 6 (R301, R303, 09 R247) -/

/-- Sub-ports that the image's modes use, port 0 in bits [3:0] and port 1 in bits [7:4]. -/
def State.subPortMask (s : State) : Nat := (2 ^ subPortsOf (s.hostPort 0).mode - 1) + (2 ^ subPortsOf (s.hostPort 1).mode - 1) * 16

/-- Sub-ports come into service as a mask says; the rest train in the background. -/
def State.portsUp (s : State) (up : Nat) : State :=
  let set := fun (t : State) (i : Nat) =>
    let m := up / 16 ^ i % 16 % 2 ^ subPortsOf (t.hostPort i).mode
    t.modHostPort i fun h => { h with up := BitVec.ofNat 4 m, training := m != 2 ^ subPortsOf h.mode - 1 }
  set (set s 0) 1

/-- Engines of a trunk begin to train; those of an attach domain without power stay out (09 R241, R247, 12 R339). -/
def State.trainEngines (s : State) : State :=
  (List.range 24).foldl (fun t e =>
    match t.arch.trunkOf e with
    | none => t
    | some (trunk, seat, peer) =>
      let out := (t.island (clusterAt (engineNode e) / 4)).attachIsolated == 0xFF
      t.modEngine e fun x => { x with
        state := if out then 3 else if x.state = 2 then 2 else 1, trunk := trunk, peerSeat := seat, peerEngine := peer
        good := t.lanesLogged e }) s

/-- DETAIL of stage 6 (R307). -/
def State.detail6 (s : State) : List Byte :=
  let a := s.arch
  if a.topology = 0 then []
  else
    [BitVec.ofNat 8 a.seat, BitVec.ofNat 8 (memberCount a.members), BitVec.ofNat 8 a.master, 0] ++ leBytes 2 a.epoch.toNat ++ [0, 0] ++
      leBytes 4 ((List.range 24).foldl (fun m e => if (s.engine e).state = 2 then m + 2 ^ e else m) 0)

/-- Stage 5 ends; stage 6 ends at once without a topology, and begins the join with one (R301, 09 R247). -/
def State.endStage5 (s : State) (lanes : Nat) : State :=
  let up := (s.hostPort 0).up.toNat + (s.hostPort 1).up.toNat * 16
  let unit := match (List.range 16).find? fun k => lanes / 2 ^ k % 2 == 1 with
    | some k => unitCode 0x0C (k / 8) (k % 8) 0
    | none => 0
  let full := up == s.subPortMask
  let s1 := s.endStage { outcome := if full then 1 else 2, code := if full then 0 else evPortFailover, unit := if full then 0 else unit
                         affected := bitCount (BitVec.ofNat 8 (s.subPortMask - up)), detail := [BitVec.ofNat 8 up, 0] ++ leBytes 2 lanes }
  if s1.arch.topology = 0 then s1.endStage { outcome := 1 }
  else ({ s1 with arch := { s1.arch with state := 1, announced := 0 } }).trainEngines

/-- HOST_LINK_UP_DONE: stage 5 ends with the sub-ports that trained. -/
def hostLinkUpDone (up lanes : Nat) (s : State) : State := if s.inStage 5 then (s.portsUp up).endStage5 lanes else s

def execHostLinkUpDone (up : Byte) (failingLanes : W16) (s : State) : Host.Outcome State Fault Refusal :=
  .next (hostLinkUpDone up.toNat failingLanes.toNat s)

/-- Engines of trunks that are not in service. -/
def State.enginesOut (s : State) : List Nat :=
  (List.range 24).filter fun e => (s.arch.trunkOf e).isSome && (s.engine e).state != 2

/-- Stage 6 ends, degraded where an engine is out of service, the module is isolated or the join has not completed (R301). -/
def State.endStage6 (s : State) : State :=
  let out := s.enginesOut
  let whole := out.isEmpty && s.arch.state == 2
  s.endStage { outcome := if whole then 1 else 2, code := if out.isEmpty then 0 else evLaneSpared
               unit := (out.head?.map fun e => unitCode 0x0B e 0 0).getD 0, affected := out.length, detail := s.detail6 }

/-- STAGE_LIMIT_EXPIRY: stages 5 and 6 end degraded at their limits, stage 0 fails (R301, R303, R304). -/
def stageLimitExpiry (s : State) : State :=
  if !s.start.active then s
  else if s.start.stage = 0 then stage0End 0 false s
  else if s.inStage 5 then (s.portsUp ((s.hostPort 0).up.toNat + (s.hostPort 1).up.toNat * 16)).endStage5 0
  else if s.inStage 6 then s.endStage6
  else s

def execStageLimitExpiry (s : State) : Host.Outcome State Fault Refusal := .next (stageLimitExpiry s)

/-- The time base steps to the master's (09 R252); the start's own scale goes on. -/
def State.stepTime (s : State) (t : W64) : State :=
  { s with timeBase := t, start := { s.start with before := s.elapsed, zero := t.toNat } }

/-- An engine that trained carries its good lanes; one that did not, or with fewer than four, is out of service (09 R236, R239, R247 step 1). -/
def State.engineTrained (s : State) (e : Nat) (up : Bool) : State :=
  if (s.arch.trunkOf e).isNone ∨ (s.engine e).state = 2 then s
  else if up ∧ (s.engine e).state = 1 then
    s.useLanes e
  else s.modEngine e fun x => { x with state := 3 }

/-- JOIN_DONE: the engines that trained, the map that the master sent, the step of the time base, and the end of stage 6 (09
R247). A join that completes later, or after standby, sets the same and ends no stage. -/
def joinDone (members : W64) (epoch : W16) (master deputy : Nat) (time : W64) (engines : Nat) (s : State) : State :=
  if s.arch.state ≠ 1 ∨ !(s.inStage 6 || s.start.ready) then s
  else
    let s1 := (List.range 24).foldl (fun t e => t.engineTrained e (engines / 2 ^ e % 2 == 1)) s
    let s2 := (({ s1 with arch := { s1.arch with timeOffset := 0 } }).setMap 2 members epoch master deputy).reportAgain
    let s3 := s2.stepTime time
    if s.start.ready then s3 else s3.endStage6

def execJoinDone (members : W64) (epoch : W16) (master deputy : Fin 64) (masterTime : W64) (engines : BitVec 24) (s : State) :
    Host.Outcome State Fault Refusal := .next (joinDone members epoch master.val deputy.val masterTime engines.toNat s)

/-! ### Stage 7 (R301, R330, 14 R409, R410) -/

/-- The state block write of stage 7 (14 R409): the running slots become active, trials proven, fallbacks not. -/
def Nv.commitFirmware (n : Nv) (st : Start) : Nv :=
  let p0 := if st.tfTrial then n.proven ||| 1 else if st.tfOutcome = 4 then n.proven &&& 6 else n.proven
  let p1 := if st.opfwTrial then p0 ||| 2 else if st.opfwOutcome = 4 then p0 &&& 5 else p0
  { n with tfActive := st.tfSlot, opfwActive := st.opfwSlot, proven := p1, generation := n.generation + 1 }

/-- FIRMWARE_STARTED for a kind whose outcome is not an ordinary start (14 R410). -/
def State.firmwareStarted (s : State) (kind outcome : Nat) (version refused : W64) : State :=
  if outcome = 0 then s
  else s.journalWrite 0x34 (if outcome = 1 then stOk else stImageSignature) 0 {}
    ([BitVec.ofNat 8 kind, BitVec.ofNat 8 (outcome - 1)] ++ leBytes 6 0 ++ leBytes 8 version.toNat ++ leBytes 8 refused.toNat)

/-- COOLING_CLASS_FALLBACK of stage 7 (R330). -/
def State.coolingEvent (s : State) : State :=
  if s.coolingFell then
    s.event evCoolingFallback none
      ([BitVec.ofNat 8 ((s.start.image.map fun m => m.coolingClass.toNat).getD 0), BitVec.ofNat 8 s.start.coolingInForce,
        BitVec.ofNat 8 (bit s.start.noClassFits 0), 0] ++ leBytes 4 s.start.response)
  else s

/-- DETAIL of stage 7 (R307). -/
def State.detail7 (s : State) (ms : Nat) : List Byte :=
  leBytes 4 ms ++ [BitVec.ofNat 8 s.start.kind, BitVec.ofNat 8 s.start.coolingInForce, BitVec.ofNat 8 s.layoutParts]

/-- READY: stage 7 ends; the journal opens with a new JOURNAL_ID and takes what the start kept, and sessions are accepted. -/
def readyStage (ms : Nat) (s : State) : State :=
  if !s.inStage 7 then s
  else
    let s1 := s.endStage { outcome := 1, detail := s.detail7 ms }
    let r := s1.fresh
    let s2 : State := { r.2 with
      nv := r.2.nv.commitFirmware s.start, journal := { r.2.journal with id := r.1 }
      start := { r.2.start with ready := true, active := false, stage := 7, tfTrial := false, opfwTrial := false } }
    let s3 := (s2.alert 0).flushDeferred.coolingEvent
    (s3.firmwareStarted 1 s.start.tfOutcome s.start.tfVersion s.start.tfRefused).firmwareStarted 2 s.start.opfwOutcome
      s.start.opfwVersion s.start.opfwRefused

def execReady (startMs : W32) (s : State) : Host.Outcome State Fault Refusal := .next (readyStage startMs.toNat s)

end Sys2Proof.Machine
end

