-- ==== Sys2Proof/Machine/Firmware.lean ====
section
/-! DEFINITION. Watchdogs, restarts and adoption, lockstep, and the field defect log's appends (14 R402 to R414, R424; 11 R319). -/

namespace Sys2Proof.Machine

/-! ### Security pair (14 R411) -/

/-- A watchdog that expires in a trial before stage 7 abandons the trial (14 R409). -/
def State.expiryResets (s : State) (cause : Nat) : State := s.moduleReset (if s.onTrial then 5 else cause)

/-- SECURITY_WATCHDOG_EXPIRY: a module reset with RESET_CAUSE 2. -/
def execSecurityWatchdogExpiry (s : State) : Host.Outcome State Fault Refusal := .next (s.expiryResets 2)

/-! ### Scheduler pair (14 R413, R414) -/

/-- The scheduler pair's expiry: an operating-firmware restart, or a module reset at the third within 600 s. -/
def State.schedulerExpiry (s : State) (cause : Nat) : State :=
  let times := recentExpiries s.firmware.schedExpiries s.timeBase.toNat
  if s.onTrial then s.moduleReset 5
  else if 3 ≤ times.length then s.moduleReset 4
  else
    { s with
      sched := { s.sched with restarting := true }
      firmware := { s.firmware with
        schedRestarts := s.firmware.schedRestarts + 1, schedExpiries := times, schedCause := cause } }

/-- SCHEDULER_WATCHDOG_EXPIRY. -/
def execSchedulerWatchdogExpiry (s : State) : Host.Outcome State Fault Refusal := .next (s.schedulerExpiry 0)

/-- A command that waited for the scheduler core runs (14 R424). -/
def State.hostCommand (s : State) (i : Instr) : State :=
  match i with
  | .keepalive r => keepalive r s
  | .closeSession r force => closeSession r force s
  | .counters r => counters r s
  | .bindPartition r layout p gib => bindPartition r layout.toNat p.toNat gib.toNat s
  | .unbindPartition r p => unbindPartition r p.toNat s
  | .loadImage r p qp addr rkey n => loadImage r p.toNat qp addr rkey n.toNat s
  | .startJob r b => startJob r b s
  | .endJob r j => endJob r j s
  | .partitionReset r p clear => partitionReset r p.toNat clear s
  | .jobStatus r p => jobStatus r p.toNat s
  | .openQp r port sub qpn gid psn => openQp r port.toNat sub.toNat qpn gid psn s
  | .closeQp r q => closeQp r q s
  | .journalRead r a n mirror seat => journalRead r a.toNat n.toNat mirror seat.toNat s
  | .snapshot r p drain qp addr rkey n => snapshot r p.toNat drain qp addr rkey n s
  | .restore r b => restore r b s
  | .rollTest r cs => rollTest r cs s
  | .attest r nonce => attest r nonce s
  | .registerRead r addrs => registerRead r addrs s
  | .phaseHint r p lead duration load => phaseHint r p.toNat lead.toNat duration.toNat load.toNat s
  | .stageUpdateImage r qp addr rkey n => stageUpdate r 0 37568 (2 ^ 20) qp addr rkey n s
  | .stageUpdateOpfw r qp addr rkey n => stageUpdate r 1 32768 (2 ^ 26) qp addr rkey n s
  | .stageUpdateTf r qp addr rkey n => stageUpdate r 2 32768 (2 ^ 24) qp addr rkey n s
  | .hostAuth hs a => hostAuth hs a s
  | .hostAuthResume hs a sid token => hostAuthResume hs a sid token s
  | _ => s

/-- Commands that waited run in the order they came. -/
def State.runWaiting (s : State) : State :=
  s.host.waiting.foldl State.hostCommand { s with host := { s.host with waiting := [] } }

/-- Durable commits are completed, in the order in which their last ranks became durable; how many (08 R230, R231). -/
def State.completeCommits (s : State) : State × Nat :=
  s.sched.durable.foldl (fun (acc : State × Nat) p =>
    let before := ((acc.1.part p).job.map fun j => j.td).getD 0
    let t := turnCommit p acc.1
    (t, if ((t.part p).job.map fun j => j.td).getD 0 = before then acc.2 else acc.2 + 1)) (s, 0)

/-- The jobs continue: turns that could not start while the scheduler core restarted start now (08 R231). -/
def State.jobsContinue (s : State) : State := s.sched.parts.foldl (fun t e => (t.endWait e.1).startTurns e.1) s

/-- SCHEDULER_RESTART_DONE: durable commits complete, the jobs continue, SCHEDULER_RESTARTED is written, then what was raised
meanwhile, then the commands that waited (14 R413, R424). Without the attach domain's power the pair stays down (12 R339; log 109). -/
def schedulerRestartDone (us : Nat) (s : State) : State :=
  if !s.sched.restarting || s.pairsOff then s
  else
    let q := ({ s with sched := { s.sched with restarting := false } }).completeCommits
    let r := (q.1.jobsContinue, q.2)
    let detail := [BitVec.ofNat 8 s.firmware.schedCause, 0, 0, 0] ++ leBytes 4 us ++ leBytes 2 r.2 ++
      [BitVec.ofNat 8 s.firmware.schedExpiries.length]
    ((r.1.event evSchedulerRestarted none detail).flushDeferred).runWaiting

def execSchedulerRestartDone (durationUs : W32) (s : State) : Host.Outcome State Fault Refusal :=
  .next (schedulerRestartDone durationUs.toNat s)

/-! ### Cluster control cores (14 R412) -/

/-- Parts in flight on a cluster replay on their own slots; their core stores were not cleared. -/
def State.replayCluster (s : State) (c : Nat) : State :=
  (List.range 12).foldl (fun t p => if t.partRunning (c * 12 + p) then t.awaitRebuild (c * 12 + p) false else t) s

/-- CCC_WATCHDOG_EXPIRY: the partner adopts the cluster; where the core that expires serves both, both leave service. -/
def cccWatchdogExpiry (c : Nat) (s : State) : State :=
  let q := partner c
  if s.onTrial then s.moduleReset 5
  else if (s.cluster c).cccDown then s
  else
    let unit := unitCode 0x03 c 0 0
    let s1 := (s.modCluster c fun x => { x with cccDown := true }).logRequest unit 6 evUnitSubstituted
    if (s.cluster q).cccDown then
      let s2 := if s1.inService c then s1.loseCluster c 3 else s1
      if s2.inService q then s2.loseCluster q 3 else s2
    else
      let s2 : State := { s1 with firmware := { s1.firmware with adoptions := s1.firmware.adoptions + 1 } }
      (s2.event evUnitSubstituted (s2.hostedBy c)
        (unitBytes unit ++ leBytes 2 0xFFFF ++ [BitVec.ofNat 8 q, 8, BitVec.ofNat 8 (s.cluster c).reserves])).replayCluster c

def execCccWatchdogExpiry (c : ClusterId) (s : State) : Host.Outcome State Fault Refusal := .next (cccWatchdogExpiry c.val s)

/-! ### Lockstep (14 R402) -/

/-- LOCKSTEP_MISMATCH: counted, and the pair's watchdog counts as expired. -/
def lockstepMismatch (pair : Nat) (s : State) : State :=
  let s1 : State := { s with firmware := { s.firmware with mismatches := s.firmware.mismatches + 1 } }
  match pair with
  | 0 => s1.expiryResets 3
  | 1 => pmWatchdogExpiry s1
  | _ => s1.schedulerExpiry 1

def execLockstepMismatch (pair : Fin 3) (s : State) : Host.Outcome State Fault Refusal := .next (lockstepMismatch pair.val s)

/-! ### The field defect log (14 R404, 11 R319) -/

/-- The unit's own status register shows it isolated, retired, spared, substituted or lost (14 R404). -/
def State.unitOut (s : State) (u : W64) : Bool :=
  let a := unitByte u 1
  let b := unitByte u 2
  let c := unitByte u 3
  match unitByte u 0 with
  | 0x02 => (s.cluster a).slotState b == 3
  | 0x03 => (s.cluster a).cccDown
  | 0x05 => (s.portSet a b).half (c == 1) == 2
  | 0x06 => s.mesh.routersOut.contains (a, c == 1)
  | 0x07 =>
    let r := receiveSide a b (c / 2 % 2 == 1)
    ((s.portSet r.1 r.2).spared (c % 2 == 1)).getLsbD (unitByte u 4)
  | 0x08 => (s.stack a).retired.getLsbD b
  | 0x09 => (s.stack a).state == .lost
  | 0x0A => !(s.engine a).good.getLsbD b
  | 0x0D =>
    let i := s.island a
    match b with
    | 4 => i.transitIsolated.getLsbD c
    | 5 => i.lagoonIsolated.getLsbD c
    | 6 => i.attachIsolated.getLsbD c
    | 7 => i.sectorIsolated.getLsbD c
    | k => (s.cluster (a * 4 + k)).isolated.getLsbD c
  | _ => false

/-- LOG_APPEND_REQUEST: accepted for a unit that is out, else discarded and counted (14 R404). -/
def logAppendRequest (u : W64) (source : Byte) (ev : W16) (s : State) : State :=
  if s.unitOut u then s.logRequest u source ev
  else { s with firmware := { s.firmware with refused := s.firmware.refused + 1 } }

def execLogAppendRequest (unit : W64) (source : Byte) (event : W16) (s : State) : Host.Outcome State Fault Refusal :=
  .next (logAppendRequest unit source event s)

/-- A head that covers the waiting entries is written (11 R319). -/
def DefectLog.cover (l : DefectLog) : DefectLog :=
  if l.waiting.isEmpty then l
  else { l with entries := l.entries ++ l.waiting, waiting := [], generation := l.generation + 1 }

/-- LOG_HEAD_WRITTEN. -/
def execLogHeadWritten (s : State) : Host.Outcome State Fault Refusal := .next { s with log := s.log.cover }

/-- CLUSTER_RESET_DONE (15 R429 step 5). -/
def execClusterResetDone (c : ClusterId) (s : State) : Host.Outcome State Fault Refusal := .next (s.clusterResetDone c.val)

end Sys2Proof.Machine
end

