-- ==== Sys2Proof/Machine/Hbm.lean ====
section
/-! DEFINITION. HBM events (06 R166 to R175): retraining, retirement, stack loss, heat, patrol, self-refresh, clears. -/

namespace Sys2Proof.Machine

/-! ### Retraining (R172) -/

/-- The channel of another stack with the same index retrains, or another of this stack does: then this one waits. -/
def State.retrainBlocked (s : State) (k ch : Nat) : Bool :=
  (s.stack k).retraining || (List.range 16).any fun i => (s.stack i).retraining && (s.stack i).retrainCh == ch

/-- HBM_CHANNEL_RETRAIN: a channel in service starts its first attempt. -/
def channelRetrain (k ch trigger : Nat) (s : State) : State :=
  let x := s.stack k
  if x.state ≠ .inService ∨ x.retired.getLsbD ch ∨ s.retrainBlocked k ch then s
  else s.modStack k fun y => { y with
    retraining := true, retrainCh := ch, attempts := 1, trigger := trigger, retrains := y.retrains + 1 }

def execHbmChannelRetrain (stack : StackId) (ch : ChannelId) (trigger : Fin 4) (s : State) :
    Host.Outcome State Fault Refusal := .next (channelRetrain stack.val ch.val trigger.val s)

/-- What waited for a channel or a stack goes on: the buffers of channels that are busy no longer drain, and requests are served (R172,
R173). -/
def State.hbmResumes (s : State) : State :=
  ({ s with hbm := { s.hbm with buffered := s.hbm.buffered.filter fun e => s.busy (e.1 / 32) (e.1 % 32) } }).releaseHeld

/-- HBM_RETRAIN_COMPLETE: success releases the channel; a first failure tries once more at once; a second retires it. -/
def retrainComplete (k : Nat) (ok : Bool) (us : Nat) (s : State) : State :=
  let x := s.stack k
  if !x.retraining ∨ x.state ≠ .inService then s
  else if ok then
    ((s.modStack k fun y => { y with retraining := false }).channelEvent k x.retrainCh 0 x.trigger x.attempts us).hbmResumes
  else if x.attempts < 2 then s.modStack k fun y => { y with attempts := 2, retrains := y.retrains + 1 }
  else (s.retireChannel k x.retrainCh x.trigger x.attempts us).hbmResumes

def execHbmRetrainComplete (stack : StackId) (ok : Bool) (durationUs : W32) (s : State) :
    Host.Outcome State Fault Refusal := .next (retrainComplete stack.val ok durationUs.toNat s)

/-- HBM_UNCORRECTABLE_RATE_RETIRE: more than 64 uncorrectable words in 1 s retire a channel with no attempt (R166). -/
def execHbmUncorrectableRateRetire (stack : StackId) (ch : ChannelId) (s : State) : Host.Outcome State Fault Refusal :=
  .next (s.retireChannel stack.val ch.val 4 0 0).hbmResumes

/-- HBM_STACK_FAULT (R167): cause 0 a fifth channel, 1 no channel answers for 10 us, 2 a power or base-die fault. -/
def execHbmStackFault (stack : StackId) (cause : Fin 3) (s : State) : Host.Outcome State Fault Refusal :=
  .next (s.loseStack stack.val cause.val).hbmResumes

/-! ### Heat (R173) -/

/-- The step of a temperature. -/
def thermalStep (t : Nat) : Nat := if t < 85 then 0 else if t < 95 then 1 else if t < 100 then 2 else 3

/-- Threshold of a step. -/
def thermalThreshold (k : Nat) : Nat := [0, 85, 95, 100].getD k 0

/-- Steps up act at once; a step is left only 3 C below its threshold. -/
def thermalNext (now t : Nat) : Nat :=
  let down := fun (k : Nat) => if thermalStep t < k ∧ t + 3 ≤ thermalThreshold k then k - 1 else k
  if now ≤ thermalStep t then thermalStep t else down (down (down now))

/-- HBM_TEMP_READ: the base die's temperature and the step it sets. Where a hold ends, the requests that waited are served. -/
def hbmTempRead (k : Nat) (temp : Byte) (s : State) : State :=
  let t := s.modStack k fun x => { x with temp := temp, thermal := BitVec.ofNat 2 (thermalNext x.thermal.toNat temp.toNat) }
  if (s.stack k).thermal = 3 ∧ (t.stack k).thermal ≠ 3 then t.hbmResumes else t

def execHbmTempRead (stack : StackId) (temp : Byte) (s : State) : Host.Outcome State Fault Refusal :=
  .next (hbmTempRead stack.val temp s)

/-! ### Patrol (R174) -/

/-- Whether a share of a block is written (R171). -/
def State.shareWritten (s : State) (k stripe : Nat) : Bool := SMap.getD s.hbm.written (k * 2 ^ 20 + stripe / 512) false

/-- Word address of word n of a stripe: position n / 32, word n % 32 of its granule. -/
def State.stripeWord (s : State) (stripe n : Nat) : Nat := s.granuleAddr stripe (n / 32) / 8 + n % 32

/-- Patrol meets one word in error: an uncorrectable word that no reconstruction serves is reported with path 4. -/
def State.patrolWord (s : State) (w : Nat) : State :=
  let r := s.meetWord w
  match r.2 with
  | .lost => r.1.wordEvent (w * 8) 4 1 0xFFFF none
  | _ => r.1

/-- A parity word of a protected stripe in reach: one in error is corrected or rebuilt from the 15 data words; one that disagrees while every
data word passes is rewritten from them (R174, R179). A rebuilt word counts in HBM_PARITY_REPAIRS, and not in HBM_RECONSTRUCTED, since patrol
rewrites it (log 117). -/
def State.patrolParity (s : State) (stripe k : Nat) : State :=
  let key := stripe * 32 + k
  let ps := parityStackOf stripe
  let bits := (SMap.getD s.hbm.parityErr key {}).bits
  let fold := s.parityFoldMismatch stripe k
  let passes := fun (j : Nat) => !s.gone (s.stackAt stripe j) (channelOf stripe) && s.wordPasses (s.granuleAddr stripe j / 8 + k)
  let data := (List.range 15).foldl (fun acc j => acc ^^^ s.readWord (s.granuleAddr stripe j + 8 * k)) 0
  let rewrite := (List.range 15).all passes && (fold || decide (3 ≤ bits) || data != s.parityWord stripe k)
  let fixed := !fold && decide (0 < bits ∧ bits ≤ 2)
  let s1 := { s with hbm := { s.hbm with
    parityErr := if fixed || rewrite then SMap.erase s.hbm.parityErr key else s.hbm.parityErr
    parity := if rewrite then SMap.set s.hbm.parity key (SMap.getD s.hbm.parity key 0 ^^^ data ^^^ s.parityWord stripe k) 0
      else s.hbm.parity } }
  s1.modStack ps fun x => { x with
    foldErrors := if fold then x.foldErrors + 1 else x.foldErrors
    corrected := if fixed && !rewrite then x.corrected + 1 else x.corrected
    parityRepairs := if rewrite then x.parityRepairs + 1 else x.parityRepairs }

/-- The parity granule of a stripe is read by patrol: it is in reach, and its share is written (R171, R174). -/
def State.patrolsParity (s : State) (stripe : Nat) : Bool :=
  !s.hbm.mode && !s.gone (parityStackOf stripe) (channelOf stripe) && !s.shareFresh (parityStackOf stripe) (stripe / 512)

/-- What patrol finds in a word of a stripe enters it (log 43). -/
def State.patrolUpset (s : State) (k stripe : Nat) (u : Upset) : State :=
  if 512 ≤ u.word ∨ (u.bits = 0 ∧ !u.fold) then s
  else if !s.hbm.mode && decide (480 ≤ u.word) then
    { s with hbm := { s.hbm with parityErr := SMap.put s.hbm.parityErr (stripe * 32 + (u.word - 480)) ⟨u.bits, u.fold⟩ } }
  else
    let w := s.stripeWord stripe u.word
    if s.hbm.mode && (s.granulePlace (w * 8)).stack != k then s
    else
      let e := SMap.getD s.wordErr w {}
      { s with wordErr := SMap.put s.wordErr w ⟨max e.bits u.bits, e.fold || u.fold⟩ }

/-- HBM_PATROL: one stripe of a written share; in protected mode the whole stripe, else the stack's own granule. Words are numbered 32 to a
granule in position order; in protected mode numbers 480 to 511 are the parity granule's (log 43). -/
def hbmPatrol (k stripe : Nat) (us : List Upset) (s : State) : State :=
  let x := s.stack k
  if x.state ≠ .inService ∨ x.retraining ∨ x.thermal = 3 ∨ !s.shareWritten k stripe then s
  else
    let s1 := us.foldl (fun t u => t.patrolUpset k stripe u) s
    let words := (List.range (if s.hbm.mode then 512 else 480)).map fun n => s1.stripeWord stripe n
    let mine := words.filter fun w => (SMap.get? s1.wordErr w).isSome && !s1.granuleAbsent (w / 32 * 256) &&
      (!s.hbm.mode || (s.granulePlace (w * 8)).stack == k)
    let s2 := mine.foldl State.patrolWord s1
    if s.patrolsParity stripe then (List.range 32).foldl (fun t n => t.patrolParity stripe n) s2 else s2

def execHbmPatrol (stack : StackId) (stripe : Nat) (upsets : List Upset) (s : State) :
    Host.Outcome State Fault Refusal := .next (hbmPatrol stack.val stripe upsets s)

/-! ### Self-refresh (R175) and clears (R171) -/

/-- HBM_SELF_REFRESH_ENTRY: contents and the fresh map survive; a retrain stops and resumes with the exit. -/
def selfRefreshEntry (k : Nat) (s : State) : State :=
  s.modStack k fun x => if x.state = .inService then { x with state := .selfRefresh } else x

def execHbmSelfRefreshEntry (stack : StackId) (s : State) : Host.Outcome State Fault Refusal :=
  .next (selfRefreshEntry stack.val s)

/-- HBM_SELF_REFRESH_EXIT: what waited for the stack goes on (15 R434). -/
def selfRefreshExit (k : Nat) (s : State) : State :=
  s.modStack k fun x => if x.state = .selfRefresh then { x with state := .inService } else x

def execHbmSelfRefreshExit (stack : StackId) (s : State) : Host.Outcome State Fault Refusal :=
  .next (selfRefreshExit stack.val s).releaseHeld

/-- HARBOUR_STACK_IDLE: in harbour a stack returns to self-refresh after 10 ms without access (15 R434). -/
def execHarbourStackIdle (stack : StackId) (s : State) : Host.Outcome State Fault Refusal :=
  .next (if s.chassis.mode = 3 then selfRefreshEntry stack.val s else s)

/-- HBM_CLEAR_DONE: the clear of a resetting partition's binding is complete with the zeros at its two ends, which wait for a channel that
retrains or is held; the fresh map changed when the clear began. The loaded image goes with it (R171, R179, 15 R428 step 6). -/
def hbmClearDone (p : Nat) (s : State) : State :=
  let x := s.part p
  if (s.rangeEnds x.base x.bytes).any fun e => s.hbmWaits e.1 e.2 true then s
  else if x.hbmClearing then (s.clearEnds x.base x.bytes).modPart p fun y => { y with hbmClearing := false, image := none }
  else s

def execHbmClearDone (part : PartId) (s : State) : Host.Outcome State Fault Refusal := .next (hbmClearDone part.val s)

end Sys2Proof.Machine
end

