-- ==== Sys2Proof/Machine/LowPower.lean ====
section
/-! DEFINITION. Doze, lagoon retention, harbour and standby, and a planned leave (15 R431 to R435, 09 R251). -/

namespace Sys2Proof.Machine

/-! ### Leaving (09 R251) -/

/-- A planned leave: the notice to every present seat, MODULE_LEFT with reason 0 for its own seat in the module's journal, and
the module is no member any more (09 R251, 16 R454 step 3; log 30). -/
def State.leaveArch (s : State) : State :=
  if s.arch.topology = 0 ∨ s.arch.state < 2 then s
  else
    let s1 := s.otherSeats.foldl (fun t k => t.sendMember k (.leave (Fin.ofNat 64 s.arch.seat))) s
    let s2 : State := { s1 with arch := { s1.arch with members := s1.arch.members &&& ~~~(seatBit s.arch.seat), epoch := s1.arch.epoch + 1 } }
    let s3 := s2.leftEvent 0 s.arch.seat
    { s3 with arch := { s3.arch with state := 0, role := 0 } }

/-! ### Doze and retention (R431, R432) -/

/-- No part in flight and no turn queued on a cluster. -/
def State.restful (s : State) (c : Nat) : Bool :=
  ((List.range 12).all fun p => !(s.core (c * 12 + p)).inTurn && !s.partRunning (c * 12 + p)) && !s.testing c &&
    (match s.hostedJob c with
     | some j => j.state != .running && j.state != .loading
     | none => true)

/-- DOZE_ENTRY: a region idle for 5 ms is gated, its core stores on the retention supply. -/
def dozeEntry (c : Nat) (s : State) : State :=
  let x := s.cluster c
  if x.region = .running && !x.resetting && s.start.ready && s.restful c then (s.gate c).modCluster c fun y => { y with doze := true } else s

def execDozeEntry (c : ClusterId) (s : State) : Host.Outcome State Fault Refusal := .next (dozeEntry c.val s)

/-- LAGOON_RETENTION_ENTRY: all four regions of the island doze. -/
def lagoonRetentionEntry (i : Nat) (s : State) : State :=
  if (s.island i).lagoon = 0 && [0, 1, 2, 3].all fun k => (s.cluster (i * 4 + k)).doze then
    s.modIsland i fun x => { x with lagoon := 1 }
  else s

def execLagoonRetentionEntry (i : IslandId) (s : State) : Host.Outcome State Fault Refusal := .next (lagoonRetentionEntry i.val s)

/-- LAGOON_RETENTION_EXIT: an access brings the lagoon back to on, and goes on. -/
def lagoonRetentionExit (i : Nat) (s : State) : State :=
  (s.modIsland i fun x => if x.lagoon = 1 then { x with lagoon := 0 } else x).releaseHeld

def execLagoonRetentionExit (i : IslandId) (s : State) : Host.Outcome State Fault Refusal := .next (lagoonRetentionExit i.val s)

/-! ### Harbour (R431, R433) -/

/-- The module is idle, with no session, handshake, staging or snapshot (R431). -/
def State.mayHarbour (s : State) : Bool :=
  s.start.ready && decide (s.chassis.mode < 3) && s.chassis.removal == 0 && s.host.sessions.isEmpty && s.host.handshakes.isEmpty &&
    s.host.staging.isNone && s.sched.parts.all (fun e => e.2.snap.isNone) && !s.cores.any fun e => e.2.inTurn

/-- A region that is not dark for good goes dark; its core stores are lost (R433 step 1). -/
def State.harbourRegion (s : State) (c : Nat) : State :=
  if (s.cluster c).region = .dark ∧ !(s.cluster c).resetting then s
  else ((s.clearWake c).stopArrays c).modCluster c fun x => { x with region := .dark, op := 0, hint := none, doze := false, resetting := false, zeroOnWake := true, scrub := [] }

/-- The engines that harbour keeps: in each trunk the lowest-numbered one in service at each edge (R433 step 2). -/
def State.keptEngines (s : State) : List Nat :=
  (List.range 24).filter fun e =>
    (s.engine e).state == 2 &&
      !(List.range e).any fun k => (s.engine k).state == 2 && (s.engine k).trunk == (s.engine e).trunk && decide (k / 12 = e / 12)

/-- HARBOUR_ENTRY. -/
def harbourEntry (s : State) : State :=
  if !s.mayHarbour then s
  else
    let s1 := (List.range 48).foldl State.harbourRegion s
    let s2 := (List.range 12).foldl (fun t i => t.modIsland i fun x => { x with lagoon := 2 }) s1
    let s3 := ((List.range 24).filter fun e => (s.engine e).state == 2 && !s.keptEngines.contains e).foldl (fun t e =>
      t.modEngine e fun x => { x with state := 0, laneUse := 0, paused := [], waiting := [] }) s2
    let s4 := (List.range 16).foldl (fun t k => selfRefreshEntry k t) s3
    ({ s4 with chassis := { s4.chassis with mode := 3, harbourEntries := s4.chassis.harbourEntries + 1 } }).alert 4

def execHarbourEntry (s : State) : Host.Outcome State Fault Refusal := .next (harbourEntry s)

/-- A lagoon domain comes on and its slices read zero (R433 step 2). The slices' scrub pointers stand where they stood: the spec does not
say what becomes of them while a lagoon domain is off (log 118). -/
def State.lagoonOn (s : State) (i : Nat) : State := (s.modIsland i fun x => { x with lagoon := 0 }).zero (lagoonBase i) (2 ^ 28)

/-- The module is idle again, and what waited for its lagoons and stacks goes on. -/
def State.idleAgain (s : State) : State := ({ s with chassis := { s.chassis with mode := 0, standby := false } }.releaseHeld).alert 4

/-- Stacks and lagoons come back (R433 steps 1 and 2). -/
def State.wakeModule (s : State) : State :=
  ((List.range 12).foldl State.lagoonOn ((List.range 16).foldl (fun t k => selfRefreshExit k t) s)).idleAgain

/-- HARBOUR_EXIT: the engines that went dark train in the background; regions wait for a turn (R433). -/
def harbourExit (s : State) : State :=
  if (s.chassis.mode = 3 ∨ s.chassis.mode = 6) ∧ !s.chassis.standby then
    let t := s.wakeModule
    if t.arch.topology = 0 then t
    else
      (List.range 24).foldl (fun u e =>
        if (t.arch.trunkOf e).isSome && (t.engine e).state == 0 then u.modEngine e fun x => { x with state := 1 } else u) t
  else s

def execHarbourExit (s : State) : Host.Outcome State Fault Refusal := .next (harbourExit s)

/-! ### Standby (R435, 16 R452) -/

/-- ENTER_STANDBY_EFFECTER: refused outside harbour. A member leaves as planned, host SerDes and engines turn off, and a stack that an
access woke in harbour is in self-refresh again. -/
def enterStandby (s : State) : State :=
  if s.chassis.mode ≠ 3 then s.emit (.effecter false)
  else
    let s1 := s.leaveArch
    let s2 := s1.arch.engines.foldl (fun t e => t.modEngine e.1 fun x => { x with state := 0, laneUse := 0, paused := [], waiting := [] }) s1
    let s3 := (s2.modHostPort 0 fun h => { h with up := 0, training := false }).modHostPort 1 fun h => { h with up := 0, training := false }
    let s4 := (List.range 16).foldl (fun t k => selfRefreshEntry k t) s3
    (({ s4 with chassis := { s4.chassis with mode := 4, standby := true } }).alert 4).emit (.effecter true)

def execEnterStandbyEffecter (s : State) : Host.Outcome State Fault Refusal := .next (enterStandby s)

/-- LEAVE_STANDBY_EFFECTER: refused outside harbour and standby; the exit that HARBOUR_EXIT or STANDBY_EXIT completes begins. -/
def leaveStandby (s : State) : State :=
  if s.chassis.mode ≠ 3 ∧ s.chassis.mode ≠ 4 then s.emit (.effecter false)
  else ({ s with chassis := { s.chassis with mode := 6 } }).emit (.effecter true)

def execLeaveStandbyEffecter (s : State) : Host.Outcome State Fault Refusal := .next (leaveStandby s)

/-- STANDBY_EXIT: the host ports link up, the module begins its join as in stage 6, and it is idle (R435). -/
def standbyExit (up : Nat) (s : State) : State :=
  if s.chassis.standby ∧ s.chassis.mode = 6 then
    let t := (s.portsUp up).wakeModule
    if t.arch.topology = 0 then t
    else ({ t with arch := { t.arch with state := 1, members := 0, announced := 0 } }).trainEngines
  else s

def execStandbyExit (up : Byte) (s : State) : Host.Outcome State Fault Refusal := .next (standbyExit up.toNat s)

end Sys2Proof.Machine
end

