-- ==== Sys2Proof/Machine/Chassis.lean ====
section
/-! DEFINITION. Pins, hot swap, removal and the sideband (15 R426, 16 R448 to R457, 17 R470, R475). -/

namespace Sys2Proof.Machine

/-! ### Output pins (11 R302, 16 R450) -/

/-- ALERT# is low. -/
def State.alertLow (s : State) : Bool := s.chassis.alerts != 0 || s.chassis.indicator

/-- What the STAGE pins show; none while the module is unpowered. In stage 0 the hot-swap controller drives them (log 27). -/
def State.stagePins (s : State) : Option Nat := if s.chassis.main || s.chassis.applied then some s.stageCode else none

/-! ### Presence, latch and input (16 R448, R450, R456; 15 R426) -/

/-- PRESENT_MAKE: the module is seated. -/
def execPresentMake (s : State) : Host.Outcome State Fault Refusal :=
  .next { s with chassis := { s.chassis with present := true } }

/-- Pre-charge stops and stage 0 waits for the input again (17 R475). -/
def State.stopPrecharge (s : State) : State :=
  if s.chassis.main then s else { s with chassis := { s.chassis with applied := false }, start := {} }

/-- PRESENT_BREAK: the main switch opens within 10 us, without a leave notice (16 R456). -/
def presentBreak (s : State) : State :=
  let t := if s.chassis.main then s.powerOff else s.stopPrecharge
  { t with chassis := { t.chassis with present := false, indicator := false } }

def execPresentBreak (s : State) : Host.Outcome State Fault Refusal := .next (presentBreak s)

/-- INPUT_OUT_OF_RANGE: the input has left 40 to 59.5 V for more than 1 ms: main power goes, pre-charge stops. Above the 63 V of
17 R462 the spec gives no behaviour (17 R475). -/
def inputOutOfRange (mv : Nat) (s : State) : State :=
  if inRange mv then s
  else
    let t := if s.chassis.main then s.powerOff else s.stopPrecharge
    { t with chassis := { t.chassis with inputMv := mv, fellBelow := t.chassis.fellBelow || decide (mv < 40000) } }

def execInputOutOfRange (mv : W32) (s : State) : Host.Outcome State Fault Refusal :=
  if 63000 < mv.toNat then .fault .outsideGuarantee else .next (inputOutOfRange mv.toNat s)

/-- INPUT_RETURNS_TO_RANGE: the input holds in range again; a latched trip ends where it had fallen below 40 V (15 R426). -/
def inputReturnsToRange (mv : Nat) (s : State) : State :=
  if inRange mv then
    { s with chassis := { s.chassis with inputMv := mv, tripped := s.chassis.tripped && !s.chassis.fellBelow } }
  else s

def execInputReturnsToRange (mv : W32) (s : State) : Host.Outcome State Fault Refusal := .next (inputReturnsToRange mv.toNat s)

/-! ### MOD_RESET# (16 R450, 17 R470, 11 R304) -/

/-- MOD_RESET_ASSERT: 1 ms low resets the module and holds it; a pulse below 100 us does nothing; one between may reset it
(free). Removal goes on whatever the pin does (16 R457). -/
def modResetAssert (us : Nat) (s : State) : State :=
  if us < 100 then s
  else if us < 1000 then
    let t := { s with freeCtr := s.freeCtr + 1 }
    if Config.shortResetTaken s.freeCtr ∧ s.chassis.removal = 0 then t.moduleReset 1 else t
  else
    let t : State := { s with chassis := { s.chassis with modReset := true } }
    if s.chassis.removal = 0 then t.moduleReset 1 else t

def execModResetAssert (lowUs : Nat) (s : State) : Host.Outcome State Fault Refusal := .next (modResetAssert lowUs s)

/-- MOD_RESET_RELEASE: the stages of a module reset that the pin held begin, time zero now. -/
def modResetRelease (s : State) : State :=
  if !s.chassis.modReset then s
  else
    let t : State := { s with chassis := { s.chassis with modReset := false } }
    let held := s.chassis.main && s.chassis.removal == 0 && s.start.kind == 1 && !s.start.active && !s.start.ready && !s.start.failed
    if held then { t with start := { t.start with active := true, zero := s.timeBase.toNat, before := 0, begun := 0 } } else t

def execModResetRelease (s : State) : Host.Outcome State Fault Refusal := .next (modResetRelease s)

/-! ### Removal (16 R454, R457) -/

/-- Steps 1 to 3 of R454; without a topology, or in standby, steps 3 and 4 are skipped. -/
def State.beginRemoval (s : State) : State :=
  let s1 : State := ({ s with
    chassis := { s.chassis with removal := 1, removing := true }, host := { s.host with partials := [], waiting := [] } }).alert 5
  if s1.arch.topology = 0 ∨ s1.chassis.standby then s1.finishWrites
  else
    let s2 := s1.leaveArch
    let seq := s2.journal.next - 1
    if s1.journal.next < s2.journal.next ∧ s2.arch.mirrorWait.contains seq then
      { s2 with chassis := { s2.chassis with leaving := some seq } }
    else s2.finishWrites

/-- LATCH_OPEN_ASSERT: 1 ms of continuous assertion begins the removal; during a start it runs from step 5. -/
def latchOpenAssert (us : Nat) (s : State) : State :=
  if us < 1000 ∨ s.chassis.latchOpen then s
  else
    let t : State := { s with chassis := { s.chassis with latchOpen := true } }
    if !t.chassis.main then t.stopPrecharge
    else if t.chassis.removal ≠ 0 then t
    else if t.start.ready then t.beginRemoval
    else ({ t with start := { t.start with active := false } }).finishWrites

def execLatchOpenAssert (heldUs : Nat) (s : State) : Host.Outcome State Fault Refusal := .next (latchOpenAssert heldUs s)

/-- LATCH_OPEN_RELEASE: the latch closes; a removal that has begun runs on (16 R454, R457). -/
def execLatchOpenRelease (s : State) : Host.Outcome State Fault Refusal :=
  .next { s with chassis := { s.chassis with latchOpen := false } }

/-- MIRROR_WAIT_EXPIRY: 5 ms without the mirror's acknowledgement of MODULE_LEFT (16 R454 step 3). -/
def mirrorWaitExpiry (s : State) : State := if s.chassis.removal = 1 then s.finishWrites else s

def execMirrorWaitExpiry (s : State) : Host.Outcome State Fault Refusal := .next (mirrorWaitExpiry s)

/-- REMOVAL_WRITES_DONE: the log append that had begun is complete, the parity deltas are applied, the main switch opens and the
indicator lights (16 R454 steps 5 to 7). -/
def removalWritesDone (s : State) : State :=
  if s.chassis.removal ≠ 2 then s
  else
    let t := (({ s with log := s.log.cover }).settleDeltas).powerOff
    { t with chassis := { t.chassis with indicator := true } }

def execRemovalWritesDone (s : State) : Host.Outcome State Fault Refusal := .next (removalWritesDone s)

/-! ### The sideband (16 R451 to R453) -/

/-- The sideband answers from the end of stage 1 until the main switch opens (16 R451). -/
def State.sidebandUp (s : State) : Bool :=
  s.chassis.main && (s.start.ready || decide (2 ≤ s.start.stage) || (s.start.failed && s.start.stage == 1))

/-- SIDEBAND_ADDRESS_ASSIGN: SETDASA or ENTDAA gives the dynamic address. -/
def sidebandAddressAssign (addr : BitVec 7) (s : State) : State :=
  if s.sidebandUp then { s with chassis := { s.chassis with dynAddr := some addr } } else s

def execSidebandAddressAssign (_setdasa : Bool) (addr : BitVec 7) (s : State) : Host.Outcome State Fault Refusal :=
  .next (sidebandAddressAssign addr s)

/-- The readings of R452: input voltage and power, hottest cluster junction, hottest base die, lid, cap, module state. -/
def State.sensorValues (s : State) : List Nat :=
  [s.power.inputMv, s.power.inputW, s.clusters.foldl (fun m e => max m e.2.temp) 0, s.hbmStacks.foldl (fun m e => max m e.2.temp.toNat) 0,
   s.chassis.lidTemp.toNat, s.power.capW, s.moduleMode]

/-- PLDM_SENSOR_UPDATE: the lid sensor is read and the sensors report, every 100 ms. -/
def pldmSensorUpdate (lid : Byte) (s : State) : State :=
  let t : State := { s with chassis := { s.chassis with lidTemp := lid } }
  if !s.chassis.main then s else if t.sidebandUp then t.emit (.sensors t.sensorValues) else t

def execPldmSensorUpdate (lidTemp : Byte) (s : State) : Host.Outcome State Fault Refusal := .next (pldmSensorUpdate lidTemp s)

def moduleBase : Nat := 0x07F000000000
def chassisStatusAddr : Nat := moduleBase + 0xB000

/-- The module registers that the vendor-defined message reads (16 R453). -/
def vendorReadable (a : Nat) : Bool :=
  let off := a - moduleBase
  decide (moduleBase ≤ a) && off % 8 == 0 &&
    ([0x00, 0x08, 0x10, 0x2000, 0x4000, 0x7000, 0x9000, 0xA000, 0xB000].contains off || decide (0x40 ≤ off ∧ off < 0x80) ||
      decide (0x6000 ≤ off ∧ off < 0x6430) || decide (0x9008 ≤ off ∧ off ≤ 0x9050))

/-- W1C: the ones of a write clear the alert bits of CHASSIS_STATUS (16 R455, 00 R14). -/
def State.clearAlerts (s : State) (v : W64) : State :=
  { s with chassis := { s.chassis with alerts := s.chassis.alerts &&& ~~~(v.truncate 6) } }

/-- A vendor-defined register message: KIND 1 reads, KIND 2 writes the W1C bits of CHASSIS_STATUS alone (16 R453). -/
def vendorMessage (kind a : Nat) (v : W64) (s : State) : State :=
  if !s.sidebandUp then s
  else if kind ≠ 1 ∧ kind ≠ 2 then s.emit (.sideband stIllegal 0)
  else if kind = 2 then
    if a = chassisStatusAddr then
      let t := s.clearAlerts v
      t.emit (.sideband stOk ((t.readReg a).getD 0))
    else s.emit (.sideband stUnmapped 0)
  else if vendorReadable a then s.emit (.sideband stOk ((s.readReg a).getD 0))
  else s.emit (.sideband stUnmapped 0)

def execVendorRegisterRead (kind : Byte) (addr : W64) (s : State) : Host.Outcome State Fault Refusal :=
  .next (vendorMessage kind.toNat addr.toNat 0 s)

def execVendorRegisterWrite (kind : Byte) (addr value : W64) (s : State) : Host.Outcome State Fault Refusal :=
  .next (vendorMessage kind.toNat addr.toNat value s)

/-- REGISTER_WRITE: every register field but the W1C bits of CHASSIS_STATUS is read-only, so that the write has no effect (00
R14). The access is answered with its status: ADDRESS_UNMAPPED where no register block stands (R12). -/
def registerWrite (a : Nat) (v : W64) (s : State) : State :=
  if (s.readReg a).isNone then s.emit (.access stUnmapped)
  else (if a = chassisStatusAddr ∧ s.chassis.main then s.clearAlerts v else s).emit (.access stOk)

def execRegisterWrite (addr value : W64) (s : State) : Host.Outcome State Fault Refusal := .next (registerWrite addr.toNat value s)

end Sys2Proof.Machine
end

