-- ==== Sys2Proof/Machine/Matrix.lean ====
section
/-! DEFINITION. Matrix instructions: issue, finalisation and drain (02 R45 to R58, 03 R71 to R93, 04 R102 to R109), and
the ledger instructions that queue among them (04 R119, R121). Operands are read and stages loaded when the array
finalises, in queue order, which the range interlock makes the same as reading them at issue (log 13). -/

namespace Sys2Proof.Machine

/-! ### Checks at issue (04 R109) -/

/-- The quadrants whose A-stage (side 0) or B-stage (side 1) a part governs. -/
def partQuadrants (apart : Bool) (q : Nat) : List Nat := if apart then [q] else [0, 1, 2, 3]

/-- A hold of this operand is allowed: each stage it reads was last loaded under this format and wider width
(02 R55). Key of a stage: quadrant * 2 + side. -/
def Core.holdAllowed (c : Core) (apart : Bool) (q side : Nat) (f : Fmt) (wider : Nat) : Bool :=
  (partQuadrants apart q).all fun k => SMap.get? c.stageTags (k * 2 + side) == some (f.code, wider)

/-- Format, rounding, stage, drain and ledger rules of one part (04 R109, R126 rows 1 and 2). -/
def partIllegal (s : State) (L : Nat) (apart : Bool) (q : Nat) (fa fb : Fmt) (p : MatrixPart) (dd : W64) : Bool :=
  let c := s.core L
  let wd := widerOf fa fb
  let n := partSide apart
  let badSrc := fun (src : BitVec 2) (side : Nat) (f : Fmt) =>
    src == 3 || (src == 2 && !c.holdAllowed apart q side f wd)
  let badDrain :=
    match fmtOfCode p.drainFmt.toNat with
    | none => true
    | some f =>
      decide (5 ≤ p.drainRound.toNat) ||
        (fa.isInt && !(f == .int32 || f == .fp32)) ||
        (p.drainLayout && !f.isOperand) ||
        (p.ledgerEn && !(ledgerFormat f && c.ledgerView p.ledgerSlot.toNat == some f)) ||
        s.writeRefused L (descElem dd) (wordsOfBytes (drainBytes f n)) ||
        (f.isMx && s.writeRefused L (descScale dd) (wordsOfBytes (drainScaleBytes n)))
  p.rsv != 0 || badSrc p.srcA 0 fa || badSrc p.srcB 1 fb || (p.drain && badDrain)

def operandMisaligned (f : Fmt) (src : BitVec 2) (d : W64) : Bool := src != 2 && descMisaligned f d

def operandPastEnd (f : Fmt) (wider n : Nat) (src : BitVec 2) (d : W64) : Bool :=
  src != 2 && descPastEnd f d (slabBytes f wider n) (scaleBytes wider n)

def partMisaligned (fa fb : Fmt) (p : PartIssue) : Bool :=
  operandMisaligned fa p.part.srcA p.da || operandMisaligned fb p.part.srcB p.db ||
    (p.part.drain && descMisaligned ((fmtOfCode p.part.drainFmt.toNat).getD .fp32) p.dd)

def partPastEnd (apart : Bool) (fa fb : Fmt) (p : PartIssue) : Bool :=
  let n := partSide apart
  let f := (fmtOfCode p.part.drainFmt.toNat).getD .fp32
  operandPastEnd fa (widerOf fa fb) n p.part.srcA p.da || operandPastEnd fb (widerOf fa fb) n p.part.srcB p.db ||
    (p.part.drain && descPastEnd f p.dd (drainBytes f n) (drainScaleBytes n))

/-- Tags of the stages after a part's stream-and-load (02 R55). -/
def tagStages (apart : Bool) (q : Nat) (fa fb : Fmt) (p : MatrixPart) (t : SMap (Nat × Nat)) : SMap (Nat × Nat) :=
  let put := fun (m : SMap (Nat × Nat)) (src : BitVec 2) (side : Nat) (f : Fmt) =>
    if src = 1 then (partQuadrants apart q).foldl (fun m k => SMap.put m (k * 2 + side) (f.code, widerOf fa fb)) m else m
  put (put t p.srcA 0 fa) p.srcB 1 fb

/-- A matrix instruction at the sequencer: checked whole, then into the matrix queue (04 R101, R109). A drain into a
pinned line waits for its pin (08 R222). -/
def matrixIssue (apart : Bool) (h : MatrixHead) (ps : List MatrixPart) (words : Nat) (s : State) : State :=
  let L := h.core.val
  let c := s.core L
  let qs := (List.range ps.length).zip ps
  let parts := ps.map fun p => (⟨p, c.reg p.ra.val, c.reg p.rb.val, c.reg p.rd.val⟩ : PartIssue)
  s.issue L
    (match fmtOfCode h.fmtA.toNat, fmtOfCode h.fmtB.toNat with
    | some fa, some fb =>
      let illegal := h.rsv != 0 || decide (5 ≤ h.round.toNat) || !pairAllowed fa fb ||
        qs.any fun x => partIllegal s L apart x.1 fa fb x.2 (c.reg x.2.rd.val)
      match firstStatus illegal (parts.any (partMisaligned fa fb)) (parts.any (partPastEnd apart fa fb)) with
      | some st => .raise st
      | none =>
        if 16 ≤ c.matQ.length || (parts.any fun p => (partWrites apart p).any fun w => c.pinned w.1 w.2) then .wait
        else
          let drains := ps.any fun p => p.drain
          .run (s.modCore L fun c =>
            { c.advance words with
              matQ := c.matQ ++ [.work apart h parts c.matOrd c.drainOrd]
              matOrd := c.matOrd + 1
              drainOrd := if drains then c.drainOrd + 1 else c.drainOrd
              stageTags := qs.foldl (fun t x => tagStages apart x.1 fa fb x.2 t) c.stageTags })
    | _, _ => .raise stIllegal)

/-- MATRIX.G: one part over the whole 128 x 128 array (02 R54, 04 R102, R103). -/
def execMatrixGanged (h : MatrixHead) (p : MatrixPart) (s : State) : Host.Outcome State Fault Refusal :=
  .next (matrixIssue false h [p] 2 s)

/-- MATRIX.A: four quadrant parts (02 R54, 04 R102, R103). -/
def execMatrixApart (h : MatrixHead) (p0 p1 p2 p3 : MatrixPart) (s : State) : Host.Outcome State Fault Refusal :=
  .next (matrixIssue true h [p0, p1, p2, p3] 5 s)

/-! ### The head of the matrix queue -/

/-- LEDGER_OPEN at the head of the queue: the record of 03 R91 (04 R119). -/
def State.ledgerOpenNow (s : State) (L slot : Nat) (f : Fmt) (hist margin : Nat) (auto : Bool) (applied : Byte) : State :=
  let rec' := leBytes 2 1 ++ [BitVec.ofNat 8 f.code, if auto then 3 else 1, BitVec.ofNat 8 hist, 0, BitVec.ofNat 8 margin, 0] ++
    s16 applied.toInt ++ s16 applied.toInt
  (s.store (recordAddr L slot) 0x80 (SMap.ofList rec' 0 0)).modCore L fun c => { c with ledgers := SMap.put c.ledgers slot f }

/-- LEDGER_CLOSE at the head of the queue: OPEN is cleared (04 R119). -/
def State.ledgerCloseNow (s : State) (L slot : Nat) : State :=
  let a := recordAddr L slot + 3
  (s.writeBytes a (leBytes 1 (s.readNat a 1 / 2 * 2))).modCore L fun c => { c with ledgers := SMap.erase c.ledgers slot }

/-- Ledger instructions at the head of the queue act once every earlier matrix instruction and drain is complete
(04 R121). -/
def State.settleLedgers (n : Nat) (L : Nat) (s : State) : State :=
  match n with
  | 0 => s
  | n + 1 =>
    let c := s.core L
    if c.matRun.isEmpty then
      match c.matQ with
      | .ledgerOpen k f h m a x :: t =>
        State.settleLedgers n L ((s.modCore L fun c => { c with matQ := t }).ledgerOpenNow L k f h m a x)
      | .ledgerClose k :: t => State.settleLedgers n L ((s.modCore L fun c => { c with matQ := t }).ledgerCloseNow L k)
      | _ => s
    else s

/-- What may follow when a unit has finished something: queued ledger instructions, then the end of the turn. -/
def State.settleUnit (s : State) (L : Nat) : State := (State.settleLedgers 16 L s).settleTurnEnd L

/-- The array accepts the matrix instruction at the head of its queue (02 R58, 04 R101): it gives up its place,
ARRAY_STATE shows valid work and APART its mode (02 R68). A ledger instruction at the head bars the way until it
acts. -/
def Core.acceptMatrix (c : Core) : Core :=
  match c.matQ with
  | .work a h ps o d :: t =>
    { c with matQ := t, matRun := c.matRun ++ [{ apart := a, head := h, parts := ps, ord := o, drainOrd := d }]
             arrayState := 1, apart := a, ramp := 0 }
  | _ => c

/-! ### Finalisation (02 R48, R49, R55, 03 R76 to R79) -/

/-- The operand a quadrant takes: from core store or from its stage (02 R55). -/
def State.operandShare (s : State) (L : Nat) (apart : Bool) (q side : Nat) (f : Fmt) (wider : Nat) (src : BitVec 2)
    (d : W64) : SMap Byte × SMap Byte :=
  if src = 2 then
    match SMap.get? (s.core L).stages (q * 2 + side) with
    | some g => (g.elems, g.scales)
    | none => ([], [])
  else s.streamShare L f wider (partSide apart) (if apart then 0 else if side = 0 then q / 2 else q % 2) d

/-- One cell's finalised value (03 R76 to R79): element row `i` of the A share, row `j` of the B share. -/
def cellValue (fa fb : Fmt) (mode draw : Nat) (a b : SMap Byte × SMap Byte) (i j : Nat) (carried : Option W32) :
    W32 × Events :=
  let wd := widerOf fa fb
  if fa.isInt then
    let sum := (List.range (kSlab wd)).foldl (fun (t : Int) k =>
      t + elemInt fa (shareElem fa wd a.1 i k) * elemInt fb (shareElem fb wd b.1 j k)) 0
    finaliseInt (sum + (carried.map BitVec.toInt).getD 0)
  else
    let start : CellSum :=
      match carried with
      | none => {}
      | some v => CellSum.add {} (num32 v) 0
    let scale := fun (f : Fmt) (x : SMap Byte × SMap Byte) (r k : Nat) =>
      if f.isMx then scaleExp (shareScale x.2 r (k / 32)) else some 0
    ((List.range (kSlab wd)).foldl (fun (t : CellSum) k =>
      t.product (elemNum fa (shareElem fa wd a.1 i k)) (elemNum fb (shareElem fb wd b.1 j k))
        (scale fa a i k) (scale fb b j k)) start).finalise mode draw

/-- One quadrant of a part: its stages loaded where asked, its 64 x 64 cells of the bank finalised. -/
def State.finaliseQuadrant (s : State) (L : Nat) (r : MatRun) (q : Nat) (p : PartIssue) : State :=
  let fa := (headFmts r.head).1
  let fb := (headFmts r.head).2
  let wd := widerOf fa fb
  let a := s.operandShare L r.apart q 0 fa wd p.part.srcA p.da
  let b := s.operandShare L r.apart q 1 fb wd p.part.srcB p.db
  let bank := if p.part.bank then 16384 else 0
  let mode := r.head.round.toNat
  let c := s.core L
  let row := fun i => (List.range 64).map fun j =>
    let cell := (64 * (q / 2) + i) * 128 + 64 * (q % 2) + j
    cellValue fa fb mode (if mode = 4 then s.drawAt L r.head.stream.toNat 0 (r.ord * 16384 + cell) else 0) a b i j
      (if p.part.carry then some (SMap.getD c.banks (bank + cell) 0) else none)
  let rows := (List.range 64).map row
  let banks := ((List.range 64).zip rows).foldl (fun m x =>
    SMap.splice m (bank + (64 * (q / 2) + x.1) * 128 + 64 * (q % 2)) 64 (SMap.ofList (x.2.map Prod.fst) 0 0)) c.banks
  let load := fun (m : SMap Stage) (src : BitVec 2) (side : Nat) (f : Fmt) (x : SMap Byte × SMap Byte) =>
    if src = 1 then SMap.put m (q * 2 + side) ⟨f, wd, x.1, x.2⟩ else m
  s.modCore L fun c =>
    { c with
      banks := banks
      stages := load (load c.stages p.part.srcA 0 fa a) p.part.srcB 1 fb b
      events := rows.foldl (fun e x => x.foldl (fun e y => e ||| y.2) e) c.events }

/-! ### Drain (02 R50, 03 R81 to R83, R92, 04 R107) -/

/-- A finalised 32-bit value as a number: INT32 for an integer pair, else FP32. -/
def tileNum (isInt : Bool) (v : W32) : Num := if isInt then numOfInt v.toInt 0 else num32 v

/-- Its magnitude as an FP32 code, rounded toward plus infinity where FP32 cannot hold it (03 R92). -/
def amaxCode (v : Num) : Nat :=
  match v with
  | .fin _ m e => roundCode fmtFP32 3 false m e 0
  | _ => 0

/-- Multiplied by 2^APPLIED_EXP, exactly (03 R81 step 2). -/
def scaleBy (x : Int) (v : Num) : Num :=
  match v with
  | .fin n m e => .fin n m (e + x)
  | r => r

/-- Bytes of packed codes: two 4-bit codes share a byte. -/
def placeCodes (f : Fmt) (cs : List (Nat × Nat × Nat)) : SMap Byte :=
  cs.foldl (fun m c =>
    if f.bits = 4 then
      SMap.set m c.1 (SMap.getD m c.1 0 ||| BitVec.ofNat 8 (c.2.2 * 16 ^ c.2.1)) 0
    else
      (List.range (f.bits / 8)).foldl (fun m b => SMap.set m (c.1 + b) (BitVec.ofNat 8 (c.2.2 / 256 ^ b)) 0) m) []

/-- The drain of one part, taken from the bank as finalised. -/
def State.drainOut (s : State) (L : Nat) (r : MatRun) (q : Nat) (p : PartIssue) : DrainOut :=
  let f := (fmtOfCode p.part.drainFmt.toNat).getD .fp32
  let n := partSide r.apart
  let isInt := (headFmts r.head).1.isInt
  let bank := if p.part.bank then 16384 else 0
  let row0 := if r.apart then 64 * (q / 2) else 0
  let col0 := if r.apart then 64 * (q % 2) else 0
  let c := s.core L
  let mode := p.part.drainRound.toNat
  let cellNo := fun i k => (row0 + i) * 128 + col0 + k
  let raw := fun i k => SMap.getD c.banks (bank + cellNo i k) 0
  let applied : Int := if p.part.ledgerEn then signedOf 16 (s.readNat (recordAddr L p.part.ledgerSlot.toNat + 8) 2) else 0
  let val := fun i k => scaleBy applied (tileNum isInt (raw i k))
  let drw := fun i k => if mode = 4 then s.drawAt L r.head.stream.toNat 1 (r.drainOrd * 16384 + cellNo i k) else 0
  let copied := (isInt && f == .int32) || (!isInt && f == .fp32)
  let rowCodes := fun i =>
    if f.isMx then
      let bs := (List.range (n / 32)).map fun b =>
        convertBlock f mode ((List.range 32).map fun x => (val i (32 * b + x), drw i (32 * b + x)))
      (bs.flatMap fun b => b.2.1, bs.map fun b => b.1, bs.foldl (fun e b => e ||| b.2.2) evNone)
    else if copied then ((List.range n).map fun k => (raw i k).toNat, [], evNone)
    else
      let rs := (List.range n).map fun k => convertPlain f mode (drw i k) (val i k)
      (rs.map Prod.fst, [], rs.foldl (fun e x => e ||| x.2) evNone)
  let rows := (List.range n).map rowCodes
  let codes := ((List.range n).zip rows).flatMap fun x => ((List.range n).zip x.2.1).map fun y =>
    ((drainOffset f p.part.drainLayout n x.1 y.1).1, (drainOffset f p.part.drainLayout n x.1 y.1).2, y.2)
  let scales := ((List.range n).zip rows).flatMap fun x =>
    ((List.range x.2.2.1.length).zip x.2.2.1).map fun y => (drainScaleOffset f p.part.drainLayout n x.1 y.1, y.2)
  let tile := (List.range n).flatMap fun i => (List.range n).map fun k => tileNum isInt (raw i k)
  let nonfinite := tile.any fun v => !v.isFinite
  { addr := csBase L + descElem p.dd * 8, len := drainBytes f n, bytes := placeCodes f codes
    scaleAddr := csBase L + descScale p.dd * 8, scaleLen := if f.isMx then drainScaleBytes n else 0
    scaleBytes := scales.foldl (fun m y => SMap.set m y.1 (BitVec.ofNat 8 y.2) 0) []
    ledger := if p.part.ledgerEn then some p.part.ledgerSlot.toNat else none
    amax := tile.foldl (fun m v => max m (amaxCode v)) 0, nonfinite := nonfinite
    events := rows.foldl (fun e x => e ||| x.2.2)
      (if p.part.ledgerEn && nonfinite then evLedgerNonfinite else evNone) }

/-- Completion (04 R102): MATRIX_INSTRUCTIONS counts one, and SIG_TOKEN is signalled by one. -/
def Core.matrixDone (c : Core) (h : MatrixHead) : Core :=
  let d := { c with counters := { c.counters with matrix := c.counters.matrix + 1 } }
  if h.sigEn then d.signal h.sigToken.val 1 else d

/-- Every quadrant of an instruction with the part that governs it. -/
def quadrantParts (r : MatRun) : List (Nat × PartIssue) :=
  if r.apart then (List.range 4).zip r.parts
  else
    match r.parts with
    | p :: _ => (List.range 4).map fun q => (q, p)
    | [] => []

/-- The drains an instruction asks for: one per draining part. -/
def State.drainsOf (s : State) (L : Nat) (r : MatRun) : List DrainOut :=
  (((List.range r.parts.length).zip r.parts).filter fun x => x.2.part.drain).map fun x => s.drainOut L r x.1 x.2

/-- Bytes that an instruction's streamed operands ask of the operand port in each beat (02 R41, R55, R56). -/
def operandDemand (r : MatRun) : Nat :=
  let wd := widerOf (headFmts r.head).1 (headFmts r.head).2
  let side := fun (f : Fmt) (src : BitVec 2) => if src = 2 then 0 else partSide r.apart * rowBeatBytes f wd
  r.parts.foldl (fun n p => n + side (headFmts r.head).1 p.part.srcA + side (headFmts r.head).2 p.part.srcB) 0

/-- Beats beyond 32 in which the port of 512 B a beat cannot feed the instruction: feed bubbles of every quadrant (02 R56). -/
def portBubbles (r : MatRun) : Nat := (32 * operandDemand r + 511) / 512 - 32

/-- Quadrant-beats of an instruction by class (02 R58): 32 valid beats of four quadrants, the beats its operand port cannot feed, and
what else it met. -/
def CoreCounters.beats (k : CoreCounters) (port : Nat) (b : Beats) : CoreCounters :=
  { k with
    valid := k.valid + 128, feed := k.feed + BitVec.ofNat 64 (4 * port + b.feed)
    drain := k.drain + BitVec.ofNat 64 b.drain, power := k.power + BitVec.ofNat 64 b.power
    dummy := k.dummy + BitVec.ofNat 64 b.dummy, stopped := k.stopped + BitVec.ofNat 64 b.stopped
    bankConflict := k.bankConflict + BitVec.ofNat 64 b.conflict }

/-- Words of the instruction's operands that an earlier drain still has to write (02 R64). -/
def Core.operandsBlocked (c : Core) (r : MatRun) : Bool :=
  let earlier := (c.matRun.filter fun x => x.finalised).flatMap fun x => x.parts.flatMap (partWrites x.apart)
  (r.parts.flatMap (partReads r.apart r.head)).any fun w => earlier.any fun d => overlaps w.1 w.2 d.1 d.2

/-- A part with carry 0 names a bank of a quadrant whose drain is still in progress (02 R51). -/
def Core.bankBlocked (c : Core) (r : MatRun) : Bool :=
  (quadrantParts r).any fun x => !x.2.part.carry &&
    (c.matRun.filter fun y => y.finalised).any fun y => (quadrantParts y).any fun z =>
      z.1 == x.1 && z.2.part.drain && z.2.part.bank == x.2.part.bank

/-- The words an instruction reads, met one by one (05 R142): its operands, and the ledger records its drains pass through. -/
def State.meetOperands (s : State) (L : Nat) (r : MatRun) : State × List Nat :=
  let records := (r.parts.filter fun p => p.part.drain && p.part.ledgerEn).map fun p => (ledgerWord p.part.ledgerSlot.toNat, 16)
  (r.parts.flatMap (partReads r.apart r.head) ++ records).foldl (fun (acc : State × List Nat) w =>
    let m := acc.1.readRange (csBase L + w.1 * 8) (w.2 * 8) 0 L
    (m.1, acc.2 ++ m.2)) (s, [])

/-- The first accepted instruction that has not finalised, with those before it. -/
def splitRun (rs : List MatRun) : List MatRun × Option MatRun × List MatRun :=
  match rs with
  | [] => ([], none, [])
  | r :: t =>
    if r.finalised then
      let x := splitRun t
      (r :: x.1, x.2.1, x.2.2)
    else ([], some r, t)

/-- MATRIX_FINALISE: the oldest unfinalised instruction takes its operands, loads stages, finalises its bank with one
rounding and starts its drains (02 R48 to R50, R55, R57); one that does not drain completes here. A residue mismatch
fails the core (R52, R61). -/
def matrixFinalise (L : Nat) (mismatch : Bool) (beats : Beats) (s0 : State) : State :=
  let s := if (splitRun (s0.core L).matRun).2.1.isNone then s0.modCore L Core.acceptMatrix else s0
  match splitRun (s.core L).matRun with
  | (_, none, _) => s0
  | (done, some r, rest) =>
    if (s.core L).operandsBlocked r || (s.core L).bankBlocked r then s0
    else
      let m := s.meetOperands L r
      match m.2 with
      | b :: _ => m.1.coreWordLost L b
      | [] =>
        let s1 := (quadrantParts r).foldl (fun t x => t.finaliseQuadrant L r x.1 x.2) m.1
        let s2 := (s1.countCore L fun k => k.beats (portBubbles r) beats).modCore L fun c =>
          { c with arrayState := if rest.isEmpty then 2 else 1 }
        if mismatch then (s2.countCore L fun k => { k with selfCheck := k.selfCheck + 1 }).failCore L 1
        else
          let ds := s2.drainsOf L r
          if ds.isEmpty then
            (s2.modCore L fun c => { (c.matrixDone r.head) with matRun := done ++ rest }).settleUnit L
          else s2.modCore L fun c => { c with matRun := done ++ { r with finalised := true, drains := ds } :: rest }

def execMatrixFinalise (core : CoreId) (mismatch : Bool) (beats : Beats) (s : State) :
    Host.Outcome State Fault Refusal := .next (matrixFinalise core.val mismatch beats s)

/-- One drain lands: ledger, elements, scales and events (03 R81, R92, 04 R107). -/
def State.landDrain (s : State) (L : Nat) (d : DrainOut) : State :=
  let s1 := (s.ledgerTake L d).store d.addr d.len d.bytes
  let s2 := if d.scaleLen = 0 then s1 else s1.store d.scaleAddr d.scaleLen d.scaleBytes
  s2.modCore L fun c => c.addEvents d.events

/-- DRAIN_COMPLETE: the oldest finalised instruction's drains stand in core store and it completes (02 R50, 04 R102). -/
def drainComplete (L : Nat) (s : State) : State :=
  match (s.core L).matRun with
  | r :: t =>
    if r.finalised then
      let s1 := r.drains.foldl (fun u d => u.landDrain L d) s
      (s1.modCore L fun c => { (c.matrixDone r.head) with matRun := t }).settleUnit L
    else s
  | [] => s

def execDrainComplete (core : CoreId) (s : State) : Host.Outcome State Fault Refusal := .next (drainComplete core.val s)

/-! ### Ledger instructions (04 R119, R121) -/

/-- LEDGER_OPEN: refused on an open slot, for a format that 03 R91 does not allow, a HIST_LEN of 17 to 31 or an
APPLIED_EXP of -128 (04 R119, R121); else into the matrix queue. -/
def ledgerOpenIssue (L slot : Nat) (format : BitVec 4) (hist margin : Nat) (auto : Bool) (applied : Byte) (rsv : W64)
    (s : State) : State :=
  let c := s.core L
  s.issue L
    (match fmtOfCode format.toNat with
    | none => .raise stIllegal
    | some f =>
      if rsv ≠ 0 ∨ !ledgerFormat f ∨ 16 < hist ∨ applied = 0x80 ∨ (c.ledgerView slot).isSome then .raise stIllegal
      else if 16 ≤ c.matQ.length then .wait
      else
        .run ((s.modCore L fun c =>
          { c.advance 1 with
            matQ := c.matQ ++ [.ledgerOpen slot f (if hist = 0 then 16 else hist) margin auto applied] }).settleLedgers 16 L))

def execLedgerOpen (core : CoreId) (slot : BitVec 6) (format : BitVec 4) (histLen : BitVec 5) (margin : BitVec 3)
    (auto : Bool) (appliedExp : Byte) (rsv : W64) (s : State) : Host.Outcome State Fault Refusal :=
  .next (ledgerOpenIssue core.val slot.toNat format histLen.toNat margin.toNat auto appliedExp rsv s)

/-- LEDGER_CLOSE: refused on a closed slot (04 R121); else into the matrix queue. -/
def ledgerCloseIssue (L slot : Nat) (rsv : W64) (s : State) : State :=
  let c := s.core L
  s.issue L
    (if rsv ≠ 0 ∨ (c.ledgerView slot).isNone then .raise stIllegal
     else if 16 ≤ c.matQ.length then .wait
     else .run ((s.modCore L fun c => { c.advance 1 with matQ := c.matQ ++ [.ledgerClose slot] }).settleLedgers 16 L))

def execLedgerClose (core : CoreId) (slot : BitVec 6) (rsv : W64) (s : State) : Host.Outcome State Fault Refusal :=
  .next (ledgerCloseIssue core.val slot.toNat rsv s)

end Sys2Proof.Machine
end

