-- ==== Sys2Proof/Machine/CoreEvents.lean ====
section
/-! DEFINITION. What happens to a core besides its instructions (02 R58 to R61, 04 R101, R122) and to the words of its
memory (05 R142 to R145, R152). -/

namespace Sys2Proof.Machine

/-! ### Queues and the array -/

/-- A unit accepts what is at the front of its queue (04 R101). -/
def queuePlaceFreed (L : Nat) (q : QueueId) (s : State) : State :=
  match q with
  | .matrix => (s.modCore L Core.acceptMatrix).settleUnit L
  | .vector => (s.modCore L fun c => { c with vecQ := c.vecQ - 1 }).settleTurnEnd L
  | .ferry0 => s.startFerry L false
  | .ferry1 => s.startFerry L true
  | .sync => (s.modCore L fun c => { c with syncQ := c.syncQ - 1 }).settleTurnEnd L

def execQueuePlaceFreed (core : CoreId) (q : QueueId) (s : State) : Host.Outcome State Fault Refusal :=
  .next (queuePlaceFreed core.val q s)

/-- Quadrant-beats of class DUMMY are counted (02 R58, R69). -/
def State.addDummy (s : State) (L n : Nat) : State := s.countCore L fun k => { k with dummy := k.dummy + BitVec.ofNat 64 n }

/-- A region that does not run has no beats, and its arrays stand (02 R69, R70). -/
def State.arrayBeats (s : State) (L : Nat) : Bool := (s.cluster (L / 12)).region == .running

/-- DUMMY_GAP_EXPIRY: 2 us after the last valid beat the array leaves the matched current and ramps down in 20 steps
(02 R60). -/
def dummyGapExpiry (L qbeats : Nat) (s : State) : State :=
  if s.arrayBeats L && (s.core L).arrayState == 2 then
    (s.addDummy L qbeats).modCore L fun c => { c with arrayState := 3, ramp := 20 }
  else s

def execDummyGapExpiry (core : CoreId) (qbeats : Nat) (s : State) : Host.Outcome State Fault Refusal :=
  .next (dummyGapExpiry core.val qbeats s)

/-- RAMP_STEP: one of the ramp's equal steps; after the last the array stops (02 R60). -/
def rampStep (L qbeats : Nat) (s : State) : State :=
  if s.arrayBeats L && (s.core L).arrayState == 3 then
    (s.addDummy L qbeats).modCore L fun c => { c with ramp := c.ramp - 1, arrayState := if c.ramp ≤ 1 then 0 else 3 }
  else s

def execRampStep (core : CoreId) (qbeats : Nat) (s : State) : Host.Outcome State Fault Refusal :=
  .next (rampStep core.val qbeats s)

/-! ### Core health (02 R61) -/

/-- The positions of a cluster that a slot serves. -/
def State.served (s : State) (c : Nat) : List Nat :=
  ((List.range 12).filter fun p => (s.cluster c).map.getD p 0xF != 0xF).map fun p => c * 12 + p

/-- A new probe of one sequencer: an earlier probe that did not time out was answered, which ends a run of unanswered
ones. -/
def Core.probed (c : Core) : Core := { c with probe := true, unanswered := if c.probe then 0 else c.unanswered }

/-- LIVENESS_PROBE: every served sequencer of the cluster gets a probe (02 R61). -/
def livenessProbe (c : Nat) (s : State) : State := (s.served c).foldl (fun t L => t.modCore L Core.probed) s

def execLivenessProbe (cluster : ClusterId) (s : State) : Host.Outcome State Fault Refusal :=
  .next (livenessProbe cluster.val s)

/-- LIVENESS_PROBE_TIMEOUT: a probe that goes unanswered; the second in a row fails the core (02 R61, 13 R376). -/
def livenessProbeTimeout (L : Nat) (s : State) : State :=
  let c := s.core L
  if !c.probe then s
  else
    let s1 := s.modCore L fun k => { k with probe := false, unanswered := k.unanswered + 1 }
    if c.unanswered + 1 < 2 then s1 else s1.failCore L 0

def execLivenessProbeTimeout (core : CoreId) (s : State) : Host.Outcome State Fault Refusal :=
  .next (livenessProbeTimeout core.val s)

/-- CORRECTED_RATE_EXCEEDED: more than 256 corrected words in 1 s fail the core (02 R61). -/
def correctedRateExceeded (L : Nat) (s : State) : State := s.failCore L 2

def execCorrectedRateExceeded (core : CoreId) (s : State) : Host.Outcome State Fault Refusal :=
  .next (correctedRateExceeded core.val s)

/-! ### PHASE_HINT (04 R119, R122) -/

/-- PHASE_HINT: fields out of range are refused; a good one passes to the cluster control core and the sequencer goes on
(04 R119, R122, 12 R357). -/
def phaseHintVerdict (s : State) (L lead duration load : Nat) (rsv : W64) : Verdict :=
  if rsv ≠ 0 ∨ (load = 0 ∧ duration ≠ 0) ∨ (load ≠ 0 ∧ duration = 0) then .raise stIllegal
  else s.syncGate L <| .run ((s.modCore L fun c => c.enterSync.advance 1).takeHint (L / 12) ⟨load, lead, duration, some L, false⟩)

def execPhaseHintInstr (core : CoreId) (lead : Byte) (duration : W16) (load : BitVec 4) (rsv : W64) (s : State) :
    Host.Outcome State Fault Refusal :=
  .next (s.issue core.val (phaseHintVerdict s core.val lead.toNat duration.toNat load.toNat rsv))

/-! ### Scrubbing (05 R130, R137, R144, R145) -/

/-- Bank of a core store word and line within it (05 R130). -/
def bankOf (w : Nat) : Nat := (w / 8 % 128) ^^^ (w / 2 ^ 10 % 128) ^^^ (w / 2 ^ 17 % 16)

/-- First word of a line of a bank: the inverse of 05 R130. -/
def bankLine (b line : Nat) : Nat := line * 2 ^ 10 + (b ^^^ (line % 128) ^^^ (line / 2 ^ 7 % 16)) * 8

/-- The fold of a quarter offset above bit 9 (05 R137). -/
def sliceFold (a : Nat) : Nat :=
  (a / 2 ^ 10 % 8) ^^^ (a / 2 ^ 13 % 8) ^^^ (a / 2 ^ 16 % 8) ^^^ (a / 2 ^ 19 % 8) ^^^ (a / 2 ^ 22 % 8) ^^^ (a / 2 ^ 25 % 2)

/-- Slice of a quarter offset within its quarter's eight, and the offset of a line of a slice. -/
def sliceOf (a : Nat) : Nat := (a / 2 ^ 7 % 8) ^^^ sliceFold a
def sliceLine (sl line : Nat) : Nat := line * 2 ^ 10 + (sl ^^^ sliceFold (line * 2 ^ 10)) * 2 ^ 7

/-- What a scrub finds enters the words of its line. -/
def State.upsetWords (s : State) (w0 n : Nat) (us : List Upset) : State :=
  us.foldl (fun t u =>
    if u.word < n ∧ (0 < u.bits ∨ u.fold) then
      let e := SMap.getD t.wordErr (w0 + u.word) {}
      { t with wordErr := SMap.put t.wordErr (w0 + u.word) ⟨max e.bits u.bits, e.fold || u.fold⟩ }
    else t) s

/-- A scrubber meets one word in error: a correction is written back in the same access; an uncorrectable one takes the
path of 05 R145, R152 and 13 R373, R374 with FOUND_BY 1. -/
def State.scrubWord (s : State) (w : Nat) : State :=
  let r := s.meetWord w
  match r.2 with
  | .delivered =>
    { r.1 with wordErr := SMap.erase r.1.wordErr w, writeBack := r.1.writeBack.filter fun x => x != w }
  | .reload =>
    let g := w * 8 / 65536 * 65536
    r.1.modIsland ((g - 0x040000000000) / 2 ^ 28) fun x =>
      if x.reloading.contains g then x else { x with reloading := x.reloading ++ [g] }
  | .lost =>
    match placeOf (w * 8) with
    | .coreStore L _ => r.1.coreWordFound L w 1 0xFFFF
    | _ => r.1.wordEvent (w * 8) 4 1 0xFFFF none

/-- The words in error of a line, in order. -/
def State.scrubWords (s : State) (w0 n : Nat) : State :=
  ((s.wordErr.filter fun q => decide (w0 ≤ q.1) && decide (q.1 < w0 + n)).map Prod.fst).foldl State.scrubWord s

/-- One scrub: the bank or slice that the address names takes its next line (05 R144). Scrubbers of a region that does not
run, and of a lagoon that is not on, are suspended. A reserve slot of the address's cluster is scrubbed alike: its words are zeros that no
address names, and its pointer moves (R145; log 107). -/
def State.scrub (s : State) (a : Nat) (us : List Upset) (reserve : Option Nat) : State :=
  match placeOf a with
  | .coreStore L w =>
    if (s.cluster (L / 12)).region ≠ .running then s
    else
      let b := bankOf w
      let slot := reserve.getD ((s.cluster (L / 12)).map.getD (L % 12) 0xF)
      let key := slot * 128 + b
      let line := SMap.getD (s.cluster (L / 12)).scrub key 0
      let w0 := csBase L / 8 + bankLine b line
      let s1 := s.modCluster (L / 12) fun x => { x with scrub := SMap.set x.scrub key ((line + 1) % 2048) 0 }
      if reserve.isSome then (if (s.cluster (L / 12)).slotState slot = 1 then s1 else s)
      else
        let s2 := if line = 2047 then s1.countCore L fun k => { k with scrubPasses := k.scrubPasses + 1 } else s1
        (s2.upsetWords w0 8 us).scrubWords w0 8
  | .lagoon i q =>
    if (s.island i).lagoon ≠ 0 then s
    else
      let sl := sliceOf (a % 2 ^ 26)
      let key := q * 8 + sl
      let line := SMap.getD (s.island i).scrub key 0
      let w0 := (quarterBase (i * 4 + q) + sliceLine sl line) / 8
      let s1 := s.modIsland i fun x => { x with
        scrub := SMap.set x.scrub key ((line + 1) % 65536) 0
        scrubPasses := if line = 65535 then x.scrubPasses + 1 else x.scrubPasses }
      (s1.upsetWords w0 16 us).scrubWords w0 16
  | _ => s

/-- SCRUB_LINE: the first idle beat after T_min (05 R144). -/
def execScrubLine (addr : BitVec 48) (upsets : List Upset) (reserve : Option (Fin 14)) (s : State) : Host.Outcome State Fault Refusal :=
  .next (s.scrub addr.toNat upsets (reserve.map fun k => k.val))

/-- FORCED_SCRUB: the same scrub ahead of every port; a request of a core store bank that loses its beat to it counts in
BANK_CONFLICT_BEATS (05 R133, R144, R148). -/
def forcedScrub (a : Nat) (us : List Upset) (loser : Bool) (s : State) : State :=
  let s1 := s.scrub a us none
  match placeOf a with
  | .coreStore L _ =>
    if loser then s1.countCore L fun k => { k with bankConflict := k.bankConflict + 1 } else s1
  | _ => s1

def execForcedScrub (addr : BitVec 48) (upsets : List Upset) (loser : Bool) (s : State) :
    Host.Outcome State Fault Refusal := .next (forcedScrub addr.toNat upsets loser s)

/-- CORRECTED_WRITE_BACK: the queued write-back of a corrected word lands (05 R142). -/
def correctedWriteBack (a : Nat) (s : State) : State :=
  if s.writeBack.contains (a / 8) then
    { s with wordErr := SMap.erase s.wordErr (a / 8), writeBack := s.writeBack.filter fun x => x != a / 8 }
  else s

def execCorrectedWriteBack (addr : BitVec 48) (s : State) : Host.Outcome State Fault Refusal :=
  .next (correctedWriteBack addr.toNat s)

/-- LAGOON_GRANULE_RELOAD: the 64 KiB granule of a backed region takes its master's bytes (05 R152). A master that is
itself uncorrectable leaves the word on the unbacked path (R143). Reads that waited for the reload go on. -/
def lagoonGranuleReload (a : Nat) (s : State) : State :=
  match s.backedAt a with
  | none => s
  | some _ =>
    let g := a / 65536 * 65536
    let i := (g - 0x040000000000) / 2 ^ 28
    let found := if (s.island i).reloading.contains g then 1 else 0
    let r := s.reloadGranule a found 0xFFFF
    if r.2 then r.1.releaseHeld
    else
      ((r.1.modIsland i fun x => { x with reloading := x.reloading.filter fun y => y != g }).wordEvent a 4 found 0xFFFF none).releaseHeld

def execLagoonGranuleReload (addr : BitVec 48) (s : State) : Host.Outcome State Fault Refusal :=
  .next (lagoonGranuleReload addr.toNat s)

end Sys2Proof.Machine
end

