-- ==== Sys2Proof/Machine/Scalar.lean ====
section
/-! DEFINITION. Scalar instructions (04 R99, R100, R123, R124, R126, R127). -/

namespace Sys2Proof.Machine

/-- IMM32 sign-extended to 64 bits (04 R123). -/
def immOf (f : ScalarF) : W64 := f.imm.signExtend 64

/-- A register result: RD takes the value and the next word follows; a nonzero reserved bit is refused (04 R99). -/
def scalarResult (f : ScalarF) (s : State) (v : Core → W64) : State :=
  s.issue f.core.val
    (if f.rsv ≠ 0 then .raise stIllegal
     else .run (s.modCore f.core.val fun c => (c.setReg f.rd.val (v c)).advance 1))

def srcRR (f : ScalarF) (op : W64 → W64 → W64) (c : Core) : W64 := op (c.reg f.rs1.val) (c.reg f.rs2.val)
def srcRI (f : ScalarF) (op : W64 → W64 → W64) (c : Core) : W64 := op (c.reg f.rs1.val) (immOf f)

def opShl (a b : W64) : W64 := a <<< (b.toNat % 64)
def opShr (a b : W64) : W64 := a >>> (b.toNat % 64)
def opSar (a b : W64) : W64 := a.sshiftRight (b.toNat % 64)
def opSlt (a b : W64) : W64 := if a.toInt < b.toInt then 1 else 0
def opSltu (a b : W64) : W64 := if a.toNat < b.toNat then 1 else 0

/-- ADD (04 R124). -/
def execAdd (f : ScalarF) (s : State) : Host.Outcome State Fault Refusal :=
  .next (scalarResult f s (srcRR f fun a b => a + b))

/-- SUB (04 R124). -/
def execSub (f : ScalarF) (s : State) : Host.Outcome State Fault Refusal :=
  .next (scalarResult f s (srcRR f fun a b => a - b))

/-- MUL (low 64 bits) (04 R124). -/
def execMul (f : ScalarF) (s : State) : Host.Outcome State Fault Refusal :=
  .next (scalarResult f s (srcRR f fun a b => a * b))

/-- AND (04 R124). -/
def execAnd (f : ScalarF) (s : State) : Host.Outcome State Fault Refusal :=
  .next (scalarResult f s (srcRR f fun a b => a &&& b))

/-- OR (04 R124). -/
def execOr (f : ScalarF) (s : State) : Host.Outcome State Fault Refusal :=
  .next (scalarResult f s (srcRR f fun a b => a ||| b))

/-- XOR (04 R124). -/
def execXor (f : ScalarF) (s : State) : Host.Outcome State Fault Refusal :=
  .next (scalarResult f s (srcRR f fun a b => a ^^^ b))

/-- SHL by RS2 [5:0] (04 R124). -/
def execShl (f : ScalarF) (s : State) : Host.Outcome State Fault Refusal :=
  .next (scalarResult f s (srcRR f fun a b => opShl a b))

/-- SHR by RS2 [5:0] (04 R124). -/
def execShr (f : ScalarF) (s : State) : Host.Outcome State Fault Refusal :=
  .next (scalarResult f s (srcRR f fun a b => opShr a b))

/-- SAR by RS2 [5:0] (04 R124). -/
def execSar (f : ScalarF) (s : State) : Host.Outcome State Fault Refusal :=
  .next (scalarResult f s (srcRR f fun a b => opSar a b))

/-- SLT: 1 where RS1 is below RS2 as signed, else 0 (04 R124). -/
def execSlt (f : ScalarF) (s : State) : Host.Outcome State Fault Refusal :=
  .next (scalarResult f s (srcRR f fun a b => opSlt a b))

/-- SLTU: 1 where RS1 is below RS2 as unsigned, else 0 (04 R124). -/
def execSltu (f : ScalarF) (s : State) : Host.Outcome State Fault Refusal :=
  .next (scalarResult f s (srcRR f fun a b => opSltu a b))

/-- ADDI with IMM32 in place of RS2 (04 R124). -/
def execAddi (f : ScalarF) (s : State) : Host.Outcome State Fault Refusal :=
  .next (scalarResult f s (srcRI f fun a b => a + b))

/-- SUBI with IMM32 in place of RS2 (04 R124). -/
def execSubi (f : ScalarF) (s : State) : Host.Outcome State Fault Refusal :=
  .next (scalarResult f s (srcRI f fun a b => a - b))

/-- MULI with IMM32 in place of RS2 (04 R124). -/
def execMuli (f : ScalarF) (s : State) : Host.Outcome State Fault Refusal :=
  .next (scalarResult f s (srcRI f fun a b => a * b))

/-- ANDI with IMM32 in place of RS2 (04 R124). -/
def execAndi (f : ScalarF) (s : State) : Host.Outcome State Fault Refusal :=
  .next (scalarResult f s (srcRI f fun a b => a &&& b))

/-- ORI with IMM32 in place of RS2 (04 R124). -/
def execOri (f : ScalarF) (s : State) : Host.Outcome State Fault Refusal :=
  .next (scalarResult f s (srcRI f fun a b => a ||| b))

/-- XORI with IMM32 in place of RS2 (04 R124). -/
def execXori (f : ScalarF) (s : State) : Host.Outcome State Fault Refusal :=
  .next (scalarResult f s (srcRI f fun a b => a ^^^ b))

/-- SHLI with IMM32 in place of RS2 (04 R124). -/
def execShli (f : ScalarF) (s : State) : Host.Outcome State Fault Refusal :=
  .next (scalarResult f s (srcRI f fun a b => opShl a b))

/-- SHRI with IMM32 in place of RS2 (04 R124). -/
def execShri (f : ScalarF) (s : State) : Host.Outcome State Fault Refusal :=
  .next (scalarResult f s (srcRI f fun a b => opShr a b))

/-- SARI with IMM32 in place of RS2 (04 R124). -/
def execSari (f : ScalarF) (s : State) : Host.Outcome State Fault Refusal :=
  .next (scalarResult f s (srcRI f fun a b => opSar a b))

/-- SLTI with IMM32 in place of RS2 (04 R124). -/
def execSlti (f : ScalarF) (s : State) : Host.Outcome State Fault Refusal :=
  .next (scalarResult f s (srcRI f fun a b => opSlt a b))

/-- SLTUI with IMM32 in place of RS2 (04 R124). -/
def execSltui (f : ScalarF) (s : State) : Host.Outcome State Fault Refusal :=
  .next (scalarResult f s (srcRI f fun a b => opSltu a b))

/-- LI: RD := IMM32 (04 R124). -/
def execLi (f : ScalarF) (s : State) : Host.Outcome State Fault Refusal := .next (scalarResult f s fun _ => immOf f)

/-- LUI: RD := IMM32 * 2^32 (04 R124). -/
def execLui (f : ScalarF) (s : State) : Host.Outcome State Fault Refusal := .next (scalarResult f s fun _ => immOf f <<< 32)

/-- The word address of LD and ST, formed on 64 bits; outside core store there is none (04 R124). -/
def scalarAddr (f : ScalarF) (c : Core) : Option Nat :=
  let a := (c.reg f.rs1.val + immOf f).toNat
  if a < 2 ^ 21 then some a else none

/-- LD: one word into RD (04 R124). It waits for an earlier drain of the word (02 R64); a word that gives no data stops
the part (13 R373). -/
def loadVerdict (f : ScalarF) (s : State) : Verdict :=
  let L := f.core.val
  let c := s.core L
  if f.rsv ≠ 0 then .raise stIllegal
  else
    match scalarAddr f c with
    | none => .raise stUnmapped
    | some w =>
      if c.readBlocked w 1 then .wait
      else
        let r := s.readRange (csBase L + w * 8) 8 0 L
        match r.2 with
        | [] => .run (r.1.modCore L fun c => (c.setReg f.rd.val (r.1.readWord (csBase L + w * 8))).advance 1)
        | b :: _ => .stop (r.1.coreWordLost L b)

def execLd (f : ScalarF) (s : State) : Host.Outcome State Fault Refusal := .next (s.issue f.core.val (loadVerdict f s))

/-- ST: RS2 into one word (04 R124). A resident range and an open ledger record refuse it (08 R213, 03 R90). -/
def storeVerdict (f : ScalarF) (s : State) : Verdict :=
  let L := f.core.val
  let c := s.core L
  if f.rsv ≠ 0 then .raise stIllegal
  else
    match scalarAddr f c with
    | none => .raise stUnmapped
    | some w =>
      if s.writeRefused L w 1 then .raise stIllegal
      else if c.writeBlocked w 1 then .wait
      else .run ((s.writeWord (csBase L + w * 8) (c.reg f.rs2.val)).modCore L fun c => c.advance 1)

def execSt (f : ScalarF) (s : State) : Host.Outcome State Fault Refusal := .next (s.issue f.core.val (storeVerdict f s))

/-- PC + IMM32 in words (04 R124), within the word addresses of core store (R100). -/
def branchTarget (f : ScalarF) (c : Core) : Nat := (BitVec.ofNat 64 c.pc + immOf f).toNat % 2 ^ 21

/-- A branch: to PC + IMM32 where RS1 compares true with RS2, else to the next word (04 R124). -/
def branchResult (f : ScalarF) (s : State) (cond : W64 → W64 → Bool) : State :=
  s.issue f.core.val
    (if f.rsv ≠ 0 then .raise stIllegal
     else .run (s.modCore f.core.val fun c =>
       if cond (c.reg f.rs1.val) (c.reg f.rs2.val) then { c with pc := branchTarget f c } else c.advance 1))

/-- BEQ: equal (04 R124). -/
def execBeq (f : ScalarF) (s : State) : Host.Outcome State Fault Refusal :=
  .next (branchResult f s fun a b => a == b)

/-- BNE: not equal (04 R124). -/
def execBne (f : ScalarF) (s : State) : Host.Outcome State Fault Refusal :=
  .next (branchResult f s fun a b => a != b)

/-- BLT: signed less (04 R124; the spec does not name the comparison's signedness beside SLTU: log 20). -/
def execBlt (f : ScalarF) (s : State) : Host.Outcome State Fault Refusal :=
  .next (branchResult f s fun a b => decide (a.toInt < b.toInt))

/-- BGE: signed greater or equal (04 R124; the spec does not name the comparison's signedness beside SLTU: log 20). -/
def execBge (f : ScalarF) (s : State) : Host.Outcome State Fault Refusal :=
  .next (branchResult f s fun a b => decide (b.toInt ≤ a.toInt))

/-- JMP: to PC + IMM32 (04 R124). -/
def execJmp (f : ScalarF) (s : State) : Host.Outcome State Fault Refusal :=
  .next (s.issue f.core.val
    (if f.rsv ≠ 0 then .raise stIllegal
     else .run (s.modCore f.core.val fun c => { c with pc := branchTarget f c })))

/-- JAL: the next instruction's address to RD, then to PC + IMM32 (04 R124). -/
def execJal (f : ScalarF) (s : State) : Host.Outcome State Fault Refusal :=
  .next (s.issue f.core.val
    (if f.rsv ≠ 0 then .raise stIllegal
     else .run (s.modCore f.core.val fun c =>
       { c.setReg f.rd.val (BitVec.ofNat 64 (c.advance 1).pc) with pc := branchTarget f c })))

/-- JR: to RS1 [20:0] (04 R124). -/
def execJr (f : ScalarF) (s : State) : Host.Outcome State Fault Refusal :=
  .next (s.issue f.core.val
    (if f.rsv ≠ 0 then .raise stIllegal
     else .run (s.modCore f.core.val fun c => { c with pc := (c.reg f.rs1.val).toNat % 2 ^ 21 })))

/-- The special values of RDSPEC by IMM32 (04 R124): 0 logical core, 1 T_d, 2 T_s, 3 time base, 4 the job's cores. -/
def specialValue (s : State) (L : Nat) (n : Nat) : Option W64 :=
  let job := (s.standOf L).bind fun pl => (s.part pl.part).job
  match n with
  | 0 => some (BitVec.ofNat 64 L)
  | 1 => some (BitVec.ofNat 64 (job.elim 0 Job.td))
  | 2 => some (BitVec.ofNat 64 (job.elim 0 Job.ts))
  | 3 => some s.timeBase
  | 4 => some (BitVec.ofNat 64 (job.elim 0 fun j => j.placement.length))
  | _ => none

/-- RDSPEC: a special value to RD; other values of IMM32 are reserved (04 R124). -/
def execRdspec (f : ScalarF) (s : State) : Host.Outcome State Fault Refusal :=
  .next (match specialValue s f.core.val f.imm.toNat with
    | none => s.issue f.core.val (.raise stIllegal)
    | some v => scalarResult f s fun _ => v)

end Sys2Proof.Machine
end

