-- ==== Sys2Proof/Machine/Sync.lean ====
section
/-! DEFINITION. Synchronisation instructions (04 R117): tokens, fences and relay inboxes (02 R65 to R67). The ones that
hold the sequencer stand in `hold` until their condition is met. -/

namespace Sys2Proof.Machine

/-- What a WAIT meets (04 R117): the stored status of an error, its count, or nothing yet. -/
def waitVerdict (s : State) (L token count : Nat) : Verdict :=
  let k := (s.core L).token token
  if k.err then .raise k.status
  else if count ≤ k.count then
    .run (s.modCore L fun c =>
      { (c.setToken token { k with count := k.count - count }).beginSync.advance 1 with hold := .none, seq := .running })
  else .stop (s.modCore L fun c => { c.beginSync with hold := .wait token count, seq := .waitToken })

/-- WAIT (04 R117): COUNT 0 is refused. -/
def execWait (core : CoreId) (token : Reg) (count : W16) (rsv : W64) (s : State) : Host.Outcome State Fault Refusal :=
  .next (s.issue core.val
    (if rsv ≠ 0 ∨ count = 0 then .raise stIllegal
     else s.syncGate core.val (waitVerdict s core.val token.val count.toNat)))

/-- A held WAIT completes, or raises its token's status (04 R117, R126, R127). -/
def waitSatisfied (L : Nat) (s : State) : State :=
  match (s.core L).hold with
  | .wait t n =>
    match waitVerdict s L t n with
    | .raise st => s.raise L st
    | .run u => u.countIssue L
    | _ => s
  | _ => s

def execWaitSatisfied (core : CoreId) (s : State) : Host.Outcome State Fault Refusal := .next (waitSatisfied core.val s)

/-- A synchronisation instruction that holds nothing: its effect comes in the queue's order, and its place frees when the unit begins it
(04 R101). -/
def syncNow (L : Nat) (rsv : W64) (s : State) (f : Core → Core) : State :=
  s.issue L (if rsv ≠ 0 then .raise stIllegal else s.syncGate L (.run (s.modCore L fun c => (f c).enterSync.advance 1)))

/-- SIGNAL: COUNT is added to a local token (04 R117). -/
def execSignal (core : CoreId) (token : Reg) (count : W16) (rsv : W64) (s : State) :
    Host.Outcome State Fault Refusal := .next (syncNow core.val rsv s fun c => c.signal token.val count.toNat)

/-- SIGNAL_REMOTE: the count reaches the other core's token at this turn's commit (04 R114, R117). -/
def execSignalRemote (core : CoreId) (token rs : Reg) (count : W16) (rsv : W64) (s : State) :
    Host.Outcome State Fault Refusal :=
  let dest := ((s.core core.val).reg rs.val).toNat % 1024
  .next (s.issue core.val (if rsv ≠ 0 then .raise stIllegal
    else s.syncGate core.val (.run ((s.absorbSignal core.val dest token.val count.toNat).modCore core.val fun c =>
      { c with signals := c.signals ++ [(dest, token.val, count.toNat)] }.enterSync.advance 1))))

/-- What TOKEN_TEST reads (04 R117). -/
def Token.word (k : Token) : W64 :=
  BitVec.ofNat 64 (k.count + (if k.err then 65536 else 0) + (if k.overflow then 131072 else 0) +
    (if k.err then k.status.toNat * 2 ^ 32 else 0))

/-- TOKEN_TEST: a token into RD; it holds the queue and the sequencer until then (04 R117). -/
def execTokenTest (core : CoreId) (token rd : Reg) (rsv : W64) (s : State) : Host.Outcome State Fault Refusal :=
  .next (s.issue core.val (if rsv ≠ 0 then .raise stIllegal else s.syncGate core.val
    (.run (s.modCore core.val fun c => (c.setReg rd.val (c.token token.val).word).beginSync.advance 1))))

/-- TOKEN_CLEAR: count zero, both flags clear (04 R117). -/
def execTokenClear (core : CoreId) (token : Reg) (rsv : W64) (s : State) : Host.Outcome State Fault Refusal :=
  .next (syncNow core.val rsv s fun c => c.setToken token.val {})

/-- Every earlier instruction of the units selected has completed (04 R117). -/
def Core.fenceClear (c : Core) (units : BitVec 4) : Bool :=
  (!units.getLsbD 0 || (c.matQ.isEmpty && c.matRun.isEmpty)) && (!units.getLsbD 1 || c.vecQ == 0) &&
    (!units.getLsbD 2 || c.ferry0.isEmpty) && (!units.getLsbD 3 || c.ferry1.isEmpty)

def fenceVerdict (s : State) (L : Nat) (units : BitVec 4) : Verdict :=
  if (s.core L).fenceClear units then .run (s.modCore L fun c => { c.beginSync.advance 1 with hold := .none })
  else .stop (s.modCore L fun c => { c.beginSync with hold := .fence units })

/-- FENCE (04 R117). -/
def execFence (core : CoreId) (units : BitVec 4) (rsv : W64) (s : State) : Host.Outcome State Fault Refusal :=
  .next (s.issue core.val (if rsv ≠ 0 then .raise stIllegal else s.syncGate core.val (fenceVerdict s core.val units)))

/-- A held FENCE completes once its units are clear (04 R117). -/
def fenceSatisfied (L : Nat) (s : State) : State :=
  match (s.core L).hold with
  | .fence units =>
    match fenceVerdict s L units with
    | .run u => u.countIssue L
    | _ => s
  | _ => s

def execFenceSatisfied (core : CoreId) (s : State) : Host.Outcome State Fault Refusal := .next (fenceSatisfied core.val s)

/-- INBOX_OPEN: 2 to 64 slots at a 4 KiB aligned address of an inbox range (04 R117, 08 R213); its credits are the
slots (02 R66, log 17). -/
def inboxOpenVerdict (s : State) (L i w slotsM1 sizeM1 : Nat) (rsv : W64) : Verdict :=
  let slotWords := (sizeM1 + 1) * 512
  let total := (slotsM1 + 1) * slotWords
  let inRange := match s.imageOf L with
    | some (im, r) => im.holds r 2 w total
    | none => false
  let past := decide (2 ^ 21 < w + total)
  match firstStatus (rsv != 0 || slotsM1 == 0 || ((s.core L).inbox i).isOpen || (!past && !inRange))
      (decide (w % 512 ≠ 0)) past with
  | some st => .raise st
  | none =>
    let box : Inbox := { isOpen := true, base := w, slotWords := slotWords, slots := List.replicate (slotsM1 + 1) .empty }
    let s1 := s.modCore L fun c => (c.setInbox i box).enterSync.advance 1
    s.syncGate L <| .run { s1 with mesh := { s1.mesh with credits := SMap.put s1.mesh.credits (L * 8 + i) (slotsM1 + 1) } }

def execInboxOpen (core : CoreId) (inbox : Fin 8) (rs : Reg) (slotsM1 : BitVec 6) (sizeM1 : BitVec 10) (rsv : W64)
    (s : State) : Host.Outcome State Fault Refusal :=
  .next (s.issue core.val
    (inboxOpenVerdict s core.val inbox.val (((s.core core.val).reg rs.val).toNat % 2 ^ 21) slotsM1.toNat sizeM1.toNat rsv))

/-- The next slot in ring order, taken: its word address and its sender to RD (04 R117). -/
def takeVerdict (s : State) (L i rd : Nat) : Verdict :=
  let b := (s.core L).inbox i
  match b.slots.getD b.nextTake .empty with
  | .full snd src =>
    .run (s.modCore L fun c =>
      let c1 := c.setInbox i
        { b with slots := b.slots.set b.nextTake (.taken snd src), nextTake := (b.nextTake + 1) % b.slots.length }
      { (c1.setReg rd (BitVec.ofNat 64 (b.base + b.nextTake * b.slotWords + snd * 2 ^ 32))).beginSync.advance 1 with hold := .none })
  | _ => .stop (s.modCore L fun c => { c.beginSync with hold := .take i rd })

/-- INBOX_TAKE (04 R117): refused on an inbox that is not open. -/
def execInboxTake (core : CoreId) (inbox : Fin 8) (rd : Reg) (rsv : W64) (s : State) :
    Host.Outcome State Fault Refusal :=
  .next (s.issue core.val
    (if rsv ≠ 0 ∨ ((s.core core.val).inbox inbox.val).isOpen = false then .raise stIllegal
     else s.syncGate core.val (takeVerdict s core.val inbox.val rd.val)))

/-- A held INBOX_TAKE completes once its slot is full (04 R117). -/
def inboxTakeSatisfied (L : Nat) (s : State) : State :=
  match (s.core L).hold with
  | .take i rd =>
    match takeVerdict s L i rd with
    | .run u => u.countIssue L
    | _ => s
  | _ => s

def execInboxTakeSatisfied (core : CoreId) (s : State) : Host.Outcome State Fault Refusal :=
  .next (inboxTakeSatisfied core.val s)

/-- INBOX_FREE: the oldest taken slot is consumed; its credit returns at this turn's commit (04 R117, 02 R67). -/
def inboxFreeVerdict (s : State) (L i : Nat) (rsv : W64) : Verdict :=
  let b := (s.core L).inbox i
  if rsv ≠ 0 ∨ b.isOpen = false then .raise stIllegal
  else
    match b.slots.getD b.nextFree .empty with
    | .taken snd src =>
      s.syncGate L <| .run ((s.absorbCredit L snd i b.nextFree).modCore L fun c => (c.setInbox i
        { b with slots := b.slots.set b.nextFree (.freed snd src), nextFree := (b.nextFree + 1) % b.slots.length }).enterSync.advance 1)
    | _ => .raise stIllegal

def execInboxFree (core : CoreId) (inbox : Fin 8) (rsv : W64) (s : State) : Host.Outcome State Fault Refusal :=
  .next (s.issue core.val (inboxFreeVerdict s core.val inbox.val rsv))

/-- The inbox holds no full, taken or written slot (04 R117). -/
def Inbox.clearToClose (b : Inbox) : Bool :=
  b.slots.all fun x =>
    match x with
    | .empty | .freed _ _ => true
    | _ => false

/-- The freed slots of an inbox with their senders. -/
def Inbox.freedSlots (b : Inbox) : List (Nat × Nat) :=
  (List.range b.slots.length).filterMap fun i =>
    match b.slots.getD i .empty with
    | .freed snd _ => some (i, snd)
    | _ => none

/-- A close (04 R117): the credits of slots freed in this turn still return at its commit. -/
def closeVerdict (s : State) (L i : Nat) : Verdict :=
  let b := (s.core L).inbox i
  if b.clearToClose then
    let s1 := s.modCore L fun c =>
      { (c.setInbox i {}).beginSync.advance 1 with
        hold := .none, closedSlots := c.closedSlots ++ b.freedSlots.map fun f => (i, f.1, f.2) }
    .run { s1 with mesh := { s1.mesh with credits := SMap.erase s1.mesh.credits (L * 8 + i) } }
  else .stop (s.modCore L fun c => { c.beginSync with hold := .close i })

/-- INBOX_CLOSE (04 R117). -/
def execInboxClose (core : CoreId) (inbox : Fin 8) (rsv : W64) (s : State) : Host.Outcome State Fault Refusal :=
  .next (s.issue core.val
    (if rsv ≠ 0 ∨ ((s.core core.val).inbox inbox.val).isOpen = false then .raise stIllegal
     else s.syncGate core.val (closeVerdict s core.val inbox.val)))

/-- A held INBOX_CLOSE completes once no slot stands in its way (04 R117). -/
def inboxCloseSatisfied (L : Nat) (s : State) : State :=
  match (s.core L).hold with
  | .close i =>
    match closeVerdict s L i with
    | .run u => u.countIssue L
    | _ => s
  | _ => s

def execInboxCloseSatisfied (core : CoreId) (s : State) : Host.Outcome State Fault Refusal :=
  .next (inboxCloseSatisfied core.val s)

end Sys2Proof.Machine
end

