-- ==== Sys2Proof/Machine/Approx.lean ====
section
/-! DEFINITION. The vector unit's approximations (03 R89): the true value is computed to far more bits than FP32
holds, rounded toward zero, and a free choice then takes one of the FP32 numbers within the stated bound. Log 7. -/

namespace Sys2Proof.Machine

/-- Integer square root, bit by bit from bit `b`. -/
def isqrtFrom (b n acc : Nat) : Nat :=
  match b with
  | 0 => if (acc + 1) * (acc + 1) ≤ n then acc + 1 else acc
  | b + 1 =>
    let t := acc + 2 ^ (b + 1)
    if t * t ≤ n then isqrtFrom b n t else isqrtFrom b n acc

def isqrt (n : Nat) : Nat := isqrtFrom (bitLen n / 2 + 1) n 0

/-- A positive value m times 2^e toward zero in FP32, as a magnitude code. -/
def floorCode (m : Nat) (e : Int) : Nat := roundCode fmtFP32 1 false m e 0

/-- A code some steps up or down, held at zero below. -/
def stepCode (c : Nat) (d : Int) : Nat := ((c : Int) + d).toNat

/-- 1 ulp: the number below the true value or the next one; one below to one above an exact one. -/
def withinOne (op : Nat) (x : W32) (c : Nat) (exact : Bool) (pick : Fin 2) : Nat :=
  if exact then stepCode c ((Config.pickExactOne op x).val - 1) else c + pick.val

/-- 2 ulp: from one below to two above the number below the true value; two below and above an exact one. -/
def withinTwo (op : Nat) (x : W32) (c : Nat) (exact : Bool) : Nat :=
  if exact then stepCode c ((Config.approxPickExact op x).val - 2) else stepCode c ((Config.approxPick op x).val - 1)

/-- A magnitude code with its sign, infinity beyond the range. -/
def packCode (neg : Bool) (c : Nat) : W32 := BitVec.ofNat 32 (withSign fmtFP32 neg (min c 0x7F800000))

/-- VRCP: 1/x within 1 ulp; 1/0 is infinity and 1/infinity zero of the operand's sign (03 R89). Where the true value
lies beyond the format the spec states no result: a free value. -/
def vrcp (x : W32) : W32 × Events :=
  match num32 x with
  | .nan => (canonicalNan, evNanInput)
  | .inf n => (packCode n 0, evNone)
  | .fin n m e =>
    if m = 0 then (packCode n 0x7F800000, evNone)
    else
      let q := 2 ^ 400 / m
      let exact := decide (2 ^ 400 % m = 0)
      let c := floorCode q (-400 - e)
      if fmtFP32.maxCode < c then (Config.rcpBeyond x, evOverflow)
      else (packCode n (withinOne 0 x c exact (Config.rcpPick x)), evNone)

/-- VRSQRT: 1/sqrt(x) within 1 ulp; a zero of either sign gives +infinity, a negative value NaN (03 R89). -/
def vrsqrt (x : W32) : W32 × Events :=
  match num32 x with
  | .nan => (canonicalNan, evNanInput)
  | .inf true => (canonicalNan, evNanProduced)
  | .inf false => (packCode false 0, evNone)
  | .fin n m e =>
    if m = 0 then (packCode n 0x7F800000, evNone)
    else if n then (canonicalNan, evNanProduced)
    else
      let m2 := if e % 2 = 0 then m else 2 * m
      let e2 := if e % 2 = 0 then e else e - 1
      let q := isqrt (2 ^ 400 / m2)
      let c := floorCode q (-200 - e2 / 2)
      let exact := decide (q * q * m2 = 2 ^ 400)
      (packCode false (withinOne 1 x c exact (Config.rsqrtPick x)), evNone)

/-- Fraction bits of the fixed-point work. -/
def fxBits : Nat := 96

/-- Product of the 2^(2^-i) chosen by the bits of a fraction; `root` is 2^(2^-i) for the present i. -/
def exp2Bits (fuel f root acc : Nat) : Nat :=
  match fuel with
  | 0 => acc
  | k + 1 =>
    let acc' := if f.testBit k then acc * root / 2 ^ fxBits else acc
    exp2Bits k f (isqrt (root * 2 ^ fxBits)) acc'

/-- 2^f for a fraction f of `fxBits` bits, in fixed point from 1 to 2. -/
def exp2Frac (f : Nat) : Nat := exp2Bits fxBits f (isqrt (2 * 2 ^ (2 * fxBits))) (2 ^ fxBits)

/-- Bits of log2 of a mantissa in 1 to 2 (fixed point), by repeated squaring. -/
def log2Bits (fuel m acc : Nat) : Nat :=
  match fuel with
  | 0 => acc
  | k + 1 =>
    let sq := m * m / 2 ^ fxBits
    if 2 ^ (fxBits + 1) ≤ sq then log2Bits k (sq / 2) (2 * acc + 1) else log2Bits k sq (2 * acc)

/-- log2 e and ln 2 with `fxBits` fraction bits. -/
def log2eFx : Nat := 0x171547652B82FE1777D0FFDA0
def ln2Fx : Nat := 0xB17217F7D1CF79ABC9E3B398

/-- m times 2^e in fixed point, toward minus infinity. -/
def toFx (neg : Bool) (m : Nat) (e : Int) : Int :=
  let s := e + fxBits
  let v : Int := if neg then -(m : Int) else m
  if 0 ≤ s then v * 2 ^ s.toNat else v / 2 ^ (-s).toNat

/-- 2^t for a fixed-point t: out of the format's reach it is infinity or zero. -/
def exp2Fx (op : Nat) (x : W32) (t : Int) (exact : Bool) : W32 × Events :=
  let n := t / 2 ^ fxBits
  let f := (t % 2 ^ fxBits).toNat
  if 128 ≤ n then (packCode false 0x7F800000, evOverflow)
  else if n < -180 then (packCode false (withinTwo op x 0 false), evNone)
  else
    let c := withinTwo op x (floorCode (exp2Frac f) (n - fxBits)) (exact && decide (f = 0))
    (packCode false c, if fmtFP32.maxCode < c then evOverflow else evNone)

/-- VEXP (op 0) and VEXP2 (op 1): within 2 ulp; -infinity gives +0, overflow +infinity (03 R89). -/
def vexp (op : Nat) (x : W32) : W32 × Events :=
  match num32 x with
  | .nan => (canonicalNan, evNanInput)
  | .inf true => (packCode false 0, evNone)
  | .inf false => (packCode false 0x7F800000, evNone)
  | .fin n m e =>
    let big := decide (16 < e + bitLen m)
    if big then
      if n then (packCode false (withinTwo op x 0 false), evNone) else (packCode false 0x7F800000, evOverflow)
    else
      let t := toFx n m e
      if op = 1 then exp2Fx op x t true
      else exp2Fx op x (t * log2eFx / 2 ^ fxBits) (decide (m = 0))

/-- VLOG (op 2) and VLOG2 (op 3): within 2 ulp; zero gives -infinity, a negative value NaN (03 R89). -/
def vlog (op : Nat) (x : W32) : W32 × Events :=
  match num32 x with
  | .nan => (canonicalNan, evNanInput)
  | .inf true => (canonicalNan, evNanProduced)
  | .inf false => (packCode false 0x7F800000, evNone)
  | .fin n m e =>
    if m = 0 then (packCode true 0x7F800000, evNone)
    else if n then (canonicalNan, evNanProduced)
    else
      let l := Nat.log2 m
      let mant := if l ≤ fxBits then m * 2 ^ (fxBits - l) else m / 2 ^ (l - fxBits)
      let v : Int := (e + l) * 2 ^ fxBits + (log2Bits fxBits mant 0 : Int)
      let w : Int := if op = 3 then v else v * ln2Fx / 2 ^ fxBits
      let exact := decide (v % 2 ^ fxBits = 0) && (decide (op = 3) || decide (v = 0))
      (packCode (decide (w < 0)) (withinTwo op x (floorCode w.natAbs (-(fxBits : Int))) exact), evNone)

end Sys2Proof.Machine
end

