-- ==== Sys2Proof/Machine/Vector.lean ====
section
/-! DEFINITION. Vector instructions (03 R71 to R89, 04 R123, R125, R477). An instruction takes effect when it issues
into the vector queue, whose place QUEUE_PLACE_FREED gives back (log 12). -/

namespace Sys2Proof.Machine

/-- Issue into the vector queue (04 R101): a full queue holds the sequencer; the instruction takes a place. -/
def vectorIssue (f : VectorF) (s : State) (v : State → Verdict) : State :=
  s.issue f.core.val
    (if f.rsv ≠ 0 then .raise stIllegal
     else if 16 ≤ (s.core f.core.val).vecQ then .wait
     else
       match v s with
       | .run t => .run (t.modCore f.core.val fun c => { c.advance 1 with vecQ := c.vecQ + 1 })
       | r => r)

/-- Lanes into VD with their events. -/
def Core.laneResult (c : Core) (vd : Nat) (rs : List (W32 × Events)) : Core :=
  (c.setVreg vd (rs.map Prod.fst)).addEvents (rs.foldl (fun a r => a ||| r.2) evNone)

/-- A lane-wise operation over VS1, VS2 and VS3. -/
def laneWise (f : VectorF) (s : State) (op : W32 → W32 → W32 → W32 × Events) : State :=
  vectorIssue f s fun s =>
    .run (s.modCore f.core.val fun c =>
      c.laneResult f.vd.val ((List.range 512).map fun i =>
        op (c.lane f.vs1.val i) (c.lane f.vs2.val i) (c.lane f.vs3.val i)))

/-- A lane-wise operation that sets no event. -/
def plain (op : W32 → W32 → W32) (a b : W32) : W32 × Events := (op a b, evNone)

/-- VADD: FP32 sum (03 R89, 04 R125). -/
def execVadd (f : VectorF) (s : State) : Host.Outcome State Fault Refusal :=
  .next (laneWise f s fun a b _c => fadd a b)

/-- VSUB: FP32 difference (03 R89, 04 R125). -/
def execVsub (f : VectorF) (s : State) : Host.Outcome State Fault Refusal :=
  .next (laneWise f s fun a b _c => fsub a b)

/-- VMUL: FP32 product (03 R89, 04 R125). -/
def execVmul (f : VectorF) (s : State) : Host.Outcome State Fault Refusal :=
  .next (laneWise f s fun a b _c => fmul a b)

/-- VFMA: VS1 x VS2 + VS3, rounded once (03 R89, 04 R125). -/
def execVfma (f : VectorF) (s : State) : Host.Outcome State Fault Refusal :=
  .next (laneWise f s fun a b c => ffma a b c)

/-- VMIN: FP32 minimum (03 R89, 04 R125). -/
def execVmin (f : VectorF) (s : State) : Host.Outcome State Fault Refusal :=
  .next (laneWise f s fun a b _c => fpick false a b)

/-- VMAX: FP32 maximum (03 R89, 04 R125). -/
def execVmax (f : VectorF) (s : State) : Host.Outcome State Fault Refusal :=
  .next (laneWise f s fun a b _c => fpick true a b)

/-- VABS: FP32 magnitude of VS1 (03 R89, 04 R125). -/
def execVabs (f : VectorF) (s : State) : Host.Outcome State Fault Refusal :=
  .next (laneWise f s fun a _b _c => fabs a)

/-- VNEG: VS1 with the sign changed (03 R89, 04 R125). -/
def execVneg (f : VectorF) (s : State) : Host.Outcome State Fault Refusal :=
  .next (laneWise f s fun a _b _c => fneg a)

/-- VCMPEQ: lane mask of VS1 = VS2 (03 R89, 04 R125). -/
def execVcmpeq (f : VectorF) (s : State) : Host.Outcome State Fault Refusal :=
  .next (laneWise f s fun a b _c => fcmp (fun d => d == 0) a b)

/-- VCMPLT: lane mask of VS1 < VS2 (03 R89, 04 R125). -/
def execVcmplt (f : VectorF) (s : State) : Host.Outcome State Fault Refusal :=
  .next (laneWise f s fun a b _c => fcmp (fun d => decide (d < 0)) a b)

/-- VCMPLE: lane mask of VS1 <= VS2 (03 R89, 04 R125). -/
def execVcmple (f : VectorF) (s : State) : Host.Outcome State Fault Refusal :=
  .next (laneWise f s fun a b _c => fcmp (fun d => decide (d ≤ 0)) a b)

/-- VSEL: VS2 where the bits of VS1 are nonzero, else VS3 (03 R89, 04 R125). -/
def execVsel (f : VectorF) (s : State) : Host.Outcome State Fault Refusal :=
  .next (laneWise f s fun a b c => (if a ≠ 0 then b else c, evNone))

/-- VIADD: INT32 sum, wrapping (03 R89, 04 R125). -/
def execViadd (f : VectorF) (s : State) : Host.Outcome State Fault Refusal :=
  .next (laneWise f s fun a b _c => plain (fun x y => x + y) a b)

/-- VISUB: INT32 difference, wrapping (03 R89, 04 R125). -/
def execVisub (f : VectorF) (s : State) : Host.Outcome State Fault Refusal :=
  .next (laneWise f s fun a b _c => plain (fun x y => x - y) a b)

/-- VIMUL: INT32 product, wrapping (03 R89, 04 R125). -/
def execVimul (f : VectorF) (s : State) : Host.Outcome State Fault Refusal :=
  .next (laneWise f s fun a b _c => plain (fun x y => x * y) a b)

/-- VIADDS: INT32 sum, saturating (03 R89, 04 R125). -/
def execViadds (f : VectorF) (s : State) : Host.Outcome State Fault Refusal :=
  .next (laneWise f s fun a b _c => plain (fun x y => isat (x.toInt + y.toInt)) a b)

/-- VISUBS: INT32 difference, saturating (03 R89, 04 R125). -/
def execVisubs (f : VectorF) (s : State) : Host.Outcome State Fault Refusal :=
  .next (laneWise f s fun a b _c => plain (fun x y => isat (x.toInt - y.toInt)) a b)

/-- VIAND: bitwise and (03 R89, 04 R125). -/
def execViand (f : VectorF) (s : State) : Host.Outcome State Fault Refusal :=
  .next (laneWise f s fun a b _c => plain (fun x y => x &&& y) a b)

/-- VIOR: bitwise or (03 R89, 04 R125). -/
def execVior (f : VectorF) (s : State) : Host.Outcome State Fault Refusal :=
  .next (laneWise f s fun a b _c => plain (fun x y => x ||| y) a b)

/-- VIXOR: bitwise exclusive or (03 R89, 04 R125). -/
def execVixor (f : VectorF) (s : State) : Host.Outcome State Fault Refusal :=
  .next (laneWise f s fun a b _c => plain (fun x y => x ^^^ y) a b)

/-- Element i of a register in a format's width (04 R477). -/
def Core.element (c : Core) (v bits i : Nat) : Nat := (c.lane v (i * bits / 32)).toNat / 2 ^ (i * bits % 32) % 2 ^ bits

/-- The lanes that 512 elements of a width pack into, zero beyond them (04 R477). -/
def packElements (bits : Nat) (es : List Nat) : List W32 :=
  (List.range 512).map fun l =>
    let per := 32 / bits
    BitVec.ofNat 32 ((List.range per).foldr (fun k acc => es.getD (l * per + k) 0 + 2 ^ bits * acc) 0)

/-- The block scale of a lane: byte k of a register for lanes 32k to 32k + 31 (04 R477). -/
def Core.blockScale (c : Core) (v lane : Nat) : Nat := c.element v 8 (lane / 32)

def takesOrdinal (f : VectorF) : Bool := f.round == 4

/-- The draws of an instruction that takes a vector-draw ordinal (03 R87). -/
def vectorDraw (s : State) (f : VectorF) (lane : Nat) : Nat :=
  s.drawAt f.core.val f.stream.toNat 2 ((s.core f.core.val).vecOrd * 512 + lane)

/-- No ordinal is left (03 R87). -/
def ordinalsSpent (s : State) (f : VectorF) : Bool := decide (2 ^ 23 ≤ (s.core f.core.val).vecOrd)

def Core.takeOrdinal (c : Core) (b : Bool) : Core := if b then { c with vecOrd := c.vecOrd + 1 } else c

/-- VCVT.FROM, one lane (04 R477). -/
def fromLane (f : VectorF) (s : State) (fmt : Fmt) (i : Nat) : W32 × Events :=
  let c := s.core f.core.val
  let code := c.element f.vs1.val fmt.bits i
  let draw := if takesOrdinal f then vectorDraw s f i else 0
  if fmt.isMx then
    match scaleExp (c.blockScale (f.vs1.val + 1) i) with
    | none => (canonicalNan, evNanInput)
    | some x =>
      match elemNum fmt code with
      | .fin n m e =>
        let r := toIeee fmtFP32 f.round.toNat draw (.fin n m (e + x))
        (BitVec.ofNat 32 r.1, r.2)
      | .nan => (canonicalNan, evNanInput)
      | .inf n => (BitVec.ofNat 32 (withSign fmtFP32 n 0x7F800000), evNone)
  else if fmt.isInt then (BitVec.ofInt 32 (elemInt fmt code), evNone)
  else if fmt == .fp32 then (BitVec.ofNat 32 code, evNone)
  else
    let v := elemNum fmt code
    let r := toIeee fmtFP32 f.round.toNat draw v
    (BitVec.ofNat 32 r.1, r.2 ||| (if v.isNan then evNanInput else evNone))

/-- VCVT.FROM: the FMT elements of VS1 to FP32 or INT32 (04 R477). -/
def fromVerdict (f : VectorF) (s : State) : Verdict :=
  match fmtOfCode f.fmt.toNat with
  | none => .raise stIllegal
  | some fmt =>
    if decide (5 ≤ f.round.toNat) || (fmt.isMx && f.vs1.val == 31) || (takesOrdinal f && ordinalsSpent s f) then
      .raise stIllegal
    else
      .run (s.modCore f.core.val fun c =>
        (c.laneResult f.vd.val ((List.range 512).map (fromLane f s fmt))).takeOrdinal (takesOrdinal f))

def execVcvtFrom (f : VectorF) (s : State) : Host.Outcome State Fault Refusal := .next (vectorIssue f s (fromVerdict f))

/-- VCVT.TO, the 512 codes and their events; `scales` holds the block scales of an MX format (03 R82, 04 R477). -/
def toCodes (f : VectorF) (s : State) (fmt : Fmt) : List Nat × List Nat × Events :=
  let c := s.core f.core.val
  let src := (List.range 512).map fun i =>
    (num32 (c.lane f.vs1.val i), if takesOrdinal f then vectorDraw s f i else 0)
  let nanSeen := if src.any (fun v => v.1.isNan) then evNanInput else evNone
  if fmt.isMx then
    let bs := (List.range 16).map fun b => convertBlock fmt f.round.toNat ((src.drop (32 * b)).take 32)
    (bs.flatMap fun b => b.2.1, bs.map fun b => b.1, bs.foldl (fun a b => a ||| b.2.2) nanSeen)
  else if fmt == .fp32 then ((List.range 512).map fun i => (c.lane f.vs1.val i).toNat, [], evNone)
  else
    let rs := src.map fun v => convertPlain fmt f.round.toNat v.2 v.1
    (rs.map Prod.fst, [], rs.foldl (fun a r => a ||| r.2) nanSeen)

/-- VCVT.TO: FP32 to FMT with ROUND; an MX format's scales go to VD + 1 (04 R125, R477). -/
def toVerdict (f : VectorF) (s : State) : Verdict :=
  match fmtOfCode f.fmt.toNat with
  | none => .raise stIllegal
  | some fmt =>
    if decide (5 ≤ f.round.toNat) || (fmt.isMx && f.vd.val == 31) || (takesOrdinal f && ordinalsSpent s f) then
      .raise stIllegal
    else
      let r := toCodes f s fmt
      .run (s.modCore f.core.val fun c =>
        let c1 := c.setVreg f.vd.val (packElements fmt.bits r.1)
        let c2 := if fmt.isMx then c1.setVreg (f.vd.val + 1) (packElements 8 r.2.1) else c1
        (c2.addEvents r.2.2).takeOrdinal (takesOrdinal f))

def execVcvtTo (f : VectorF) (s : State) : Host.Outcome State Fault Refusal := .next (vectorIssue f s (toVerdict f))

/-- A lane reduction: the tree's result in lane 0, zero in the others (03 R89, 04 R125). -/
def reduceLanes (f : VectorF) (s : State) (op : W32 → W32 → W32 × Events) : State :=
  vectorIssue f s fun s =>
    .run (s.modCore f.core.val fun c => c.laneResult f.vd.val [tree (treeNode op) (c.vreg f.vs1.val)])

/-- VRSUM: pairwise sum over the lanes of VS1 (03 R89). -/
def execVrsum (f : VectorF) (s : State) : Host.Outcome State Fault Refusal := .next (reduceLanes f s fadd)

/-- VRMAX: pairwise maximum over the lanes of VS1 (03 R89). -/
def execVrmax (f : VectorF) (s : State) : Host.Outcome State Fault Refusal := .next (reduceLanes f s (fpick true))

/-- VRMIN: pairwise minimum over the lanes of VS1 (03 R89). -/
def execVrmin (f : VectorF) (s : State) : Host.Outcome State Fault Refusal := .next (reduceLanes f s (fpick false))

/-- VRCP: reciprocal of VS1 within the bound of 03 R89. -/
def execVrcp (f : VectorF) (s : State) : Host.Outcome State Fault Refusal := .next (laneWise f s fun a _b _c => vrcp a)

/-- VRSQRT: reciprocal square root of VS1 within the bound of 03 R89. -/
def execVrsqrt (f : VectorF) (s : State) : Host.Outcome State Fault Refusal := .next (laneWise f s fun a _b _c => vrsqrt a)

/-- VEXP: exponential, base e of VS1 within the bound of 03 R89. -/
def execVexp (f : VectorF) (s : State) : Host.Outcome State Fault Refusal := .next (laneWise f s fun a _b _c => vexp 0 a)

/-- VEXP2: exponential, base 2 of VS1 within the bound of 03 R89. -/
def execVexp2 (f : VectorF) (s : State) : Host.Outcome State Fault Refusal := .next (laneWise f s fun a _b _c => vexp 1 a)

/-- VLOG: logarithm, base e of VS1 within the bound of 03 R89. -/
def execVlog (f : VectorF) (s : State) : Host.Outcome State Fault Refusal := .next (laneWise f s fun a _b _c => vlog 2 a)

/-- VLOG2: logarithm, base 2 of VS1 within the bound of 03 R89. -/
def execVlog2 (f : VectorF) (s : State) : Host.Outcome State Fault Refusal := .next (laneWise f s fun a _b _c => vlog 3 a)

/-- VDRAW: one draw per lane from STREAM (03 R86, R87). -/
def drawVerdict (f : VectorF) (s : State) : Verdict :=
  if ordinalsSpent s f then .raise stIllegal
  else
    .run (s.modCore f.core.val fun c =>
      (c.setVreg f.vd.val ((List.range 512).map fun i => BitVec.ofNat 32 (vectorDraw s f i))).takeOrdinal true)

def execVdraw (f : VectorF) (s : State) : Host.Outcome State Fault Refusal := .next (vectorIssue f s (drawVerdict f))

/-- VDROP: VS1 in each lane whose draw is at least RS [31:0], zero in the others (04 R125). -/
def dropVerdict (f : VectorF) (s : State) : Verdict :=
  if ordinalsSpent s f then .raise stIllegal
  else
    .run (s.modCore f.core.val fun c =>
      (c.setVreg f.vd.val ((List.range 512).map fun i =>
        if (c.reg f.rs.val).toNat % 2 ^ 32 ≤ vectorDraw s f i then c.lane f.vs1.val i else 0)).takeOrdinal true)

def execVdrop (f : VectorF) (s : State) : Host.Outcome State Fault Refusal := .next (vectorIssue f s (dropVerdict f))

/-- RS + IMM12 x 256, on 64 bits (04 R125). -/
def vectorAddr (f : VectorF) (c : Core) : Nat := (c.reg f.rs.val + f.imm.signExtend 64 * 256).toNat

/-- VLD: the 2,048 bytes at the address into VD; it waits for earlier drains of the range (02 R64, R70). -/
def vldVerdict (f : VectorF) (s : State) : Verdict :=
  let L := f.core.val
  let c := s.core L
  let w := vectorAddr f c
  match firstStatus false (decide (w % 32 ≠ 0)) (decide (2 ^ 21 < w + 256)) with
  | some st => .raise st
  | none =>
    if c.readBlocked w 256 then .wait
    else
      let r := s.readRange (csBase L + w * 8) 2048 0 L
      match r.2 with
      | [] =>
        .run (r.1.modCore L fun c => c.setVreg f.vd.val ((List.range 512).map fun i =>
          BitVec.ofNat 32 (r.1.readNat (csBase L + w * 8 + 4 * i) 4)))
      | b :: _ => .stop (r.1.coreWordLost L b)

def execVld (f : VectorF) (s : State) : Host.Outcome State Fault Refusal := .next (vectorIssue f s (vldVerdict f))

/-- VST: VS1 at the address; an open ledger record and a resident range refuse it (03 R90, 08 R213). -/
def vstVerdict (f : VectorF) (s : State) : Verdict :=
  let L := f.core.val
  let c := s.core L
  let w := vectorAddr f c
  match firstStatus (s.writeRefused L w 256) (decide (w % 32 ≠ 0)) (decide (2 ^ 21 < w + 256)) with
  | some st => .raise st
  | none =>
    if c.writeBlocked w 256 then .wait
    else .run (s.writeBytes (csBase L + w * 8) ((c.vreg f.vs1.val).flatMap fun x => leBytes 4 x.toNat))

def execVst (f : VectorF) (s : State) : Host.Outcome State Fault Refusal := .next (vectorIssue f s (vstVerdict f))

/-- VSPLAT: RS to all lanes (04 R125): its low 32 bits, the lane's width (log 20). -/
def execVsplat (f : VectorF) (s : State) : Host.Outcome State Fault Refusal :=
  .next (vectorIssue f s fun s =>
    .run (s.modCore f.core.val fun c =>
      c.setVreg f.vd.val ((List.range 512).map fun _ => (c.reg f.rs.val).truncate 32)))

/-- VMOVS: lane IMM12 of VS1, sign-extended, to RS; IMM12 outside 0 to 511 is refused (04 R125). -/
def vmovsVerdict (f : VectorF) (s : State) : Verdict :=
  if f.imm.toNat < 512 then
    .run (s.modCore f.core.val fun c => c.setReg f.rs.val ((c.lane f.vs1.val f.imm.toNat).signExtend 64))
  else .raise stIllegal

def execVmovs (f : VectorF) (s : State) : Host.Outcome State Fault Refusal := .next (vectorIssue f s (vmovsVerdict f))

end Sys2Proof.Machine
end

