-- ==== Sys2Proof/Machine/Dispatch.lean ====
section
/-! DEFINITION. Each command's meaning: one direct call for each constructor of Instr. -/

namespace Sys2Proof.Machine

/-- The effect of a command on everything but the queue. -/
def exec (i : Instr) (s : State) : Host.Outcome State Fault Refusal :=
  match i with
  | .add f => Sys2Proof.Machine.execAdd f s
  | .sub f => Sys2Proof.Machine.execSub f s
  | .mul f => Sys2Proof.Machine.execMul f s
  | .and f => Sys2Proof.Machine.execAnd f s
  | .or f => Sys2Proof.Machine.execOr f s
  | .xor f => Sys2Proof.Machine.execXor f s
  | .shl f => Sys2Proof.Machine.execShl f s
  | .shr f => Sys2Proof.Machine.execShr f s
  | .sar f => Sys2Proof.Machine.execSar f s
  | .slt f => Sys2Proof.Machine.execSlt f s
  | .sltu f => Sys2Proof.Machine.execSltu f s
  | .addi f => Sys2Proof.Machine.execAddi f s
  | .subi f => Sys2Proof.Machine.execSubi f s
  | .muli f => Sys2Proof.Machine.execMuli f s
  | .andi f => Sys2Proof.Machine.execAndi f s
  | .ori f => Sys2Proof.Machine.execOri f s
  | .xori f => Sys2Proof.Machine.execXori f s
  | .shli f => Sys2Proof.Machine.execShli f s
  | .shri f => Sys2Proof.Machine.execShri f s
  | .sari f => Sys2Proof.Machine.execSari f s
  | .slti f => Sys2Proof.Machine.execSlti f s
  | .sltui f => Sys2Proof.Machine.execSltui f s
  | .li f => Sys2Proof.Machine.execLi f s
  | .lui f => Sys2Proof.Machine.execLui f s
  | .ld f => Sys2Proof.Machine.execLd f s
  | .st f => Sys2Proof.Machine.execSt f s
  | .beq f => Sys2Proof.Machine.execBeq f s
  | .bne f => Sys2Proof.Machine.execBne f s
  | .blt f => Sys2Proof.Machine.execBlt f s
  | .bge f => Sys2Proof.Machine.execBge f s
  | .jmp f => Sys2Proof.Machine.execJmp f s
  | .jal f => Sys2Proof.Machine.execJal f s
  | .jr f => Sys2Proof.Machine.execJr f s
  | .rdspec f => Sys2Proof.Machine.execRdspec f s
  | .vadd f => Sys2Proof.Machine.execVadd f s
  | .vsub f => Sys2Proof.Machine.execVsub f s
  | .vmul f => Sys2Proof.Machine.execVmul f s
  | .vfma f => Sys2Proof.Machine.execVfma f s
  | .vmin f => Sys2Proof.Machine.execVmin f s
  | .vmax f => Sys2Proof.Machine.execVmax f s
  | .vabs f => Sys2Proof.Machine.execVabs f s
  | .vneg f => Sys2Proof.Machine.execVneg f s
  | .vcmpeq f => Sys2Proof.Machine.execVcmpeq f s
  | .vcmplt f => Sys2Proof.Machine.execVcmplt f s
  | .vcmple f => Sys2Proof.Machine.execVcmple f s
  | .vsel f => Sys2Proof.Machine.execVsel f s
  | .viadd f => Sys2Proof.Machine.execViadd f s
  | .visub f => Sys2Proof.Machine.execVisub f s
  | .vimul f => Sys2Proof.Machine.execVimul f s
  | .viadds f => Sys2Proof.Machine.execViadds f s
  | .visubs f => Sys2Proof.Machine.execVisubs f s
  | .viand f => Sys2Proof.Machine.execViand f s
  | .vior f => Sys2Proof.Machine.execVior f s
  | .vixor f => Sys2Proof.Machine.execVixor f s
  | .vcvtFrom f => Sys2Proof.Machine.execVcvtFrom f s
  | .vcvtTo f => Sys2Proof.Machine.execVcvtTo f s
  | .vrsum f => Sys2Proof.Machine.execVrsum f s
  | .vrmax f => Sys2Proof.Machine.execVrmax f s
  | .vrmin f => Sys2Proof.Machine.execVrmin f s
  | .vrcp f => Sys2Proof.Machine.execVrcp f s
  | .vrsqrt f => Sys2Proof.Machine.execVrsqrt f s
  | .vexp f => Sys2Proof.Machine.execVexp f s
  | .vexp2 f => Sys2Proof.Machine.execVexp2 f s
  | .vlog f => Sys2Proof.Machine.execVlog f s
  | .vlog2 f => Sys2Proof.Machine.execVlog2 f s
  | .vdraw f => Sys2Proof.Machine.execVdraw f s
  | .vdrop f => Sys2Proof.Machine.execVdrop f s
  | .vld f => Sys2Proof.Machine.execVld f s
  | .vst f => Sys2Proof.Machine.execVst f s
  | .vsplat f => Sys2Proof.Machine.execVsplat f s
  | .vmovs f => Sys2Proof.Machine.execVmovs f s
  | .matrixGanged h p => Sys2Proof.Machine.execMatrixGanged h p s
  | .matrixApart h p0 p1 p2 p3 => Sys2Proof.Machine.execMatrixApart h p0 p1 p2 p3 s
  | .matrixFinalise core mismatch beats => Sys2Proof.Machine.execMatrixFinalise core mismatch beats s
  | .drainComplete core => Sys2Proof.Machine.execDrainComplete core s
  | .ferryGet f => Sys2Proof.Machine.execFerryGet f s
  | .ferryPut f => Sys2Proof.Machine.execFerryPut f s
  | .ferryPutReduce f => Sys2Proof.Machine.execFerryPutReduce f s
  | .ferryRelayPut f => Sys2Proof.Machine.execFerryRelayPut f s
  | .ferryTransferComplete core port => Sys2Proof.Machine.execFerryTransferComplete core port s
  | .relayCreditArrival core port => Sys2Proof.Machine.execRelayCreditArrival core port s
  | .reduceHoldAdmit site => Sys2Proof.Machine.execReduceHoldAdmit site s
  | .wait core token count rsv => Sys2Proof.Machine.execWait core token count rsv s
  | .waitSatisfied core => Sys2Proof.Machine.execWaitSatisfied core s
  | .signal core token count rsv => Sys2Proof.Machine.execSignal core token count rsv s
  | .signalRemote core token rs count rsv => Sys2Proof.Machine.execSignalRemote core token rs count rsv s
  | .tokenTest core token rd rsv => Sys2Proof.Machine.execTokenTest core token rd rsv s
  | .tokenClear core token rsv => Sys2Proof.Machine.execTokenClear core token rsv s
  | .fence core units rsv => Sys2Proof.Machine.execFence core units rsv s
  | .fenceSatisfied core => Sys2Proof.Machine.execFenceSatisfied core s
  | .inboxOpen core inbox rs slotsM1 sizeM1 rsv => Sys2Proof.Machine.execInboxOpen core inbox rs slotsM1 sizeM1 rsv s
  | .inboxTake core inbox rd rsv => Sys2Proof.Machine.execInboxTake core inbox rd rsv s
  | .inboxTakeSatisfied core => Sys2Proof.Machine.execInboxTakeSatisfied core s
  | .inboxFree core inbox rsv => Sys2Proof.Machine.execInboxFree core inbox rsv s
  | .inboxClose core inbox rsv => Sys2Proof.Machine.execInboxClose core inbox rsv s
  | .inboxCloseSatisfied core => Sys2Proof.Machine.execInboxCloseSatisfied core s
  | .turnBegin core opPoint rsv => Sys2Proof.Machine.execTurnBegin core opPoint rsv s
  | .turnEnd core live rc re rsv => Sys2Proof.Machine.execTurnEnd core live rc re rsv s
  | .phaseHintInstr core lead duration load rsv => Sys2Proof.Machine.execPhaseHintInstr core lead duration load rsv s
  | .ledgerOpen core slot format histLen margin auto appliedExp rsv => Sys2Proof.Machine.execLedgerOpen core slot format histLen margin auto appliedExp rsv s
  | .ledgerClose core slot rsv => Sys2Proof.Machine.execLedgerClose core slot rsv s
  | .queuePlaceFreed core q => Sys2Proof.Machine.execQueuePlaceFreed core q s
  | .dummyGapExpiry core qbeats => Sys2Proof.Machine.execDummyGapExpiry core qbeats s
  | .rampStep core qbeats => Sys2Proof.Machine.execRampStep core qbeats s
  | .livenessProbe cluster => Sys2Proof.Machine.execLivenessProbe cluster s
  | .livenessProbeTimeout core => Sys2Proof.Machine.execLivenessProbeTimeout core s
  | .correctedRateExceeded core => Sys2Proof.Machine.execCorrectedRateExceeded core s
  | .rankDurable core => Sys2Proof.Machine.execRankDurable core s
  | .turnCommit part => Sys2Proof.Machine.execTurnCommit part s
  | .turnOverrun core => Sys2Proof.Machine.execTurnOverrun core s
  | .partRebuildDone core => Sys2Proof.Machine.execPartRebuildDone core s
  | .jobLoadDone part => Sys2Proof.Machine.execJobLoadDone part s
  | .backedFillDone part region => Sys2Proof.Machine.execBackedFillDone part region s
  | .doublesCompare part => Sys2Proof.Machine.execDoublesCompare part s
  | .thirdCopyDone part addrDigest dataDigest => Sys2Proof.Machine.execThirdCopyDone part addrDigest dataDigest s
  | .scrubLine addr upsets reserve => Sys2Proof.Machine.execScrubLine addr upsets reserve s
  | .forcedScrub addr upsets loser => Sys2Proof.Machine.execForcedScrub addr upsets loser s
  | .correctedWriteBack addr => Sys2Proof.Machine.execCorrectedWriteBack addr s
  | .lagoonGranuleReload addr => Sys2Proof.Machine.execLagoonGranuleReload addr s
  | .meshReadReq p => Sys2Proof.Machine.execMeshReadReq p s
  | .meshReadData p => Sys2Proof.Machine.execMeshReadData p s
  | .meshWrite p => Sys2Proof.Machine.execMeshWrite p s
  | .meshReduce p => Sys2Proof.Machine.execMeshReduce p s
  | .meshRelay p => Sys2Proof.Machine.execMeshRelay p s
  | .meshAck p => Sys2Proof.Machine.execMeshAck p s
  | .meshStatus p => Sys2Proof.Machine.execMeshStatus p s
  | .meshToken p => Sys2Proof.Machine.execMeshToken p s
  | .meshCredit p => Sys2Proof.Machine.execMeshCredit p s
  | .parityDelta p => Sys2Proof.Machine.execParityDelta p s
  | .meshControl p => Sys2Proof.Machine.execMeshControl p s
  | .linkCrcError node port half back => Sys2Proof.Machine.execLinkCrcError node port half back s
  | .wireTest node port half => Sys2Proof.Machine.execWireTest node port half s
  | .wireTestDone node port half failing pauseNs => Sys2Proof.Machine.execWireTestDone node port half failing pauseNs s
  | .routerHalfInternalError node half => Sys2Proof.Machine.execRouterHalfInternalError node half s
  | .detourInstall node port half => Sys2Proof.Machine.execDetourInstall node port half s
  | .bulkResendTimeout src dest seq => Sys2Proof.Machine.execBulkResendTimeout src dest seq s
  | .assuredResendTimeout src dest seq => Sys2Proof.Machine.execAssuredResendTimeout src dest seq s
  | .busyResend src dest seq => Sys2Proof.Machine.execBusyResend src dest seq s
  | .resettingRetry src dest seq => Sys2Proof.Machine.execResettingRetry src dest seq s
  | .hbmChannelRetrain stack ch trigger => Sys2Proof.Machine.execHbmChannelRetrain stack ch trigger s
  | .hbmRetrainComplete stack ok durationUs => Sys2Proof.Machine.execHbmRetrainComplete stack ok durationUs s
  | .hbmUncorrectableRateRetire stack ch => Sys2Proof.Machine.execHbmUncorrectableRateRetire stack ch s
  | .hbmStackFault stack cause => Sys2Proof.Machine.execHbmStackFault stack cause s
  | .hbmTempRead stack temp => Sys2Proof.Machine.execHbmTempRead stack temp s
  | .hbmPatrol stack stripe upsets => Sys2Proof.Machine.execHbmPatrol stack stripe upsets s
  | .hbmSelfRefreshEntry stack => Sys2Proof.Machine.execHbmSelfRefreshEntry stack s
  | .hbmSelfRefreshExit stack => Sys2Proof.Machine.execHbmSelfRefreshExit stack s
  | .hbmClearDone part => Sys2Proof.Machine.execHbmClearDone part s
  | .flitCrcError e f => Sys2Proof.Machine.execFlitCrcError e f s
  | .linkControlFlit e missing => Sys2Proof.Machine.execLinkControlFlit e missing s
  | .laneFailure e lane => Sys2Proof.Machine.execLaneFailure e lane s
  | .lanePauseEnd e => Sys2Proof.Machine.execLanePauseEnd e s
  | .engineLinkUp e peerSeat peerEngine serial signed => Sys2Proof.Machine.execEngineLinkUp e peerSeat peerEngine serial signed s
  | .straitData e p => Sys2Proof.Machine.execStraitData e p s
  | .straitAck e p => Sys2Proof.Machine.execStraitAck e p s
  | .straitReduce e p => Sys2Proof.Machine.execStraitReduce e p s
  | .membership e p note => Sys2Proof.Machine.execMembership e p note s
  | .paceTime e p masterTime otherHops setPoints => Sys2Proof.Machine.execPaceTime e p masterTime otherHops setPoints s
  | .paceReport e p reports => Sys2Proof.Machine.execPaceReport e p reports s
  | .straitCommit e p note => Sys2Proof.Machine.execStraitCommit e p note s
  | .journalMirror e p entry => Sys2Proof.Machine.execJournalMirror e p entry s
  | .mirrorAck e p jseq => Sys2Proof.Machine.execMirrorAck e p jseq s
  | .straitStatus e p => Sys2Proof.Machine.execStraitStatus e p s
  | .straitBulkResend destSeat seq => Sys2Proof.Machine.execStraitBulkResend destSeat seq s
  | .straitAssuredResend destSeat seq => Sys2Proof.Machine.execStraitAssuredResend destSeat seq s
  | .paceReportTick => Sys2Proof.Machine.execPaceReportTick s
  | .paceTimeTick => Sys2Proof.Machine.execPaceTimeTick s
  | .linkDelayMeasure e tenthsNs => Sys2Proof.Machine.execLinkDelayMeasure e tenthsNs s
  | .joinElectionTimeout => Sys2Proof.Machine.execJoinElectionTimeout s
  | .memberLossTimeout seat unheard => Sys2Proof.Machine.execMemberLossTimeout seat unheard s
  | .collectiveComplete group turn slot status => Sys2Proof.Machine.execCollectiveComplete group turn slot status s
  | .datagramReceive port sid msgSeq kind fragIndex fragCount secondCopy authOk data => Sys2Proof.Machine.execDatagramReceive port sid msgSeq kind fragIndex fragCount secondCopy authOk data s
  | .fragmentTimeout sid msgSeq => Sys2Proof.Machine.execFragmentTimeout sid msgSeq s
  | .hello port version nonce ek => Sys2Proof.Machine.execHello port version nonce ek s
  | .hostAuth hs a => Sys2Proof.Machine.execHostAuth hs a s
  | .hostAuthResume hs a resume token => Sys2Proof.Machine.execHostAuthResume hs a resume token s
  | .handshakeTimeout hs => Sys2Proof.Machine.execHandshakeTimeout hs s
  | .keepalive r => Sys2Proof.Machine.execKeepalive r s
  | .closeSession r force => Sys2Proof.Machine.execCloseSession r force s
  | .counters r => Sys2Proof.Machine.execCounters r s
  | .bindPartition r layout partition hbmGib => Sys2Proof.Machine.execBindPartition r layout partition hbmGib s
  | .unbindPartition r partition => Sys2Proof.Machine.execUnbindPartition r partition s
  | .loadImage r partition qp remoteAddr rkey length => Sys2Proof.Machine.execLoadImage r partition qp remoteAddr rkey length s
  | .loadImagePullDone part image => Sys2Proof.Machine.execLoadImagePullDone part image s
  | .startJob r b => Sys2Proof.Machine.execStartJob r b s
  | .endJob r jobId => Sys2Proof.Machine.execEndJob r jobId s
  | .partitionReset r partition clearHbm => Sys2Proof.Machine.execPartitionReset r partition clearHbm s
  | .partitionResetDone part => Sys2Proof.Machine.execPartitionResetDone part s
  | .jobStatus r partition => Sys2Proof.Machine.execJobStatus r partition s
  | .openQp r port subport hostQpn hostGid hostPsn => Sys2Proof.Machine.execOpenQp r port subport hostQpn hostGid hostPsn s
  | .closeQp r qpn => Sys2Proof.Machine.execCloseQp r qpn s
  | .journalRead r fromSeq max mirror seat => Sys2Proof.Machine.execJournalRead r fromSeq max mirror seat s
  | .snapshot r partition drain qp remoteAddr rkey maxBytes => Sys2Proof.Machine.execSnapshot r partition drain qp remoteAddr rkey maxBytes s
  | .snapshotCopyDone part uncorrectable pauseUs copyUs => Sys2Proof.Machine.execSnapshotCopyDone part uncorrectable pauseUs copyUs s
  | .drainPageAck part bytes last refused => Sys2Proof.Machine.execDrainPageAck part bytes last refused s
  | .drainQpWaitTimeout part => Sys2Proof.Machine.execDrainQpWaitTimeout part s
  | .groupSnapshotTimeout part => Sys2Proof.Machine.execGroupSnapshotTimeout part s
  | .restore r b => Sys2Proof.Machine.execRestore r b s
  | .restoreDataDone part status => Sys2Proof.Machine.execRestoreDataDone part status s
  | .rollTest r clusters => Sys2Proof.Machine.execRollTest r clusters s
  | .rollTestClusterDone cluster results again durationUs => Sys2Proof.Machine.execRollTestClusterDone cluster results again durationUs s
  | .attest r nonce => Sys2Proof.Machine.execAttest r nonce s
  | .registerRead r addrs => Sys2Proof.Machine.execRegisterRead r addrs s
  | .phaseHint r partition leadUs durationUs load => Sys2Proof.Machine.execPhaseHint r partition leadUs durationUs load s
  | .stageUpdateImage r qp remoteAddr rkey length => Sys2Proof.Machine.execStageUpdateImage r qp remoteAddr rkey length s
  | .stageUpdateOpfw r qp remoteAddr rkey length => Sys2Proof.Machine.execStageUpdateOpfw r qp remoteAddr rkey length s
  | .stageUpdateTf r qp remoteAddr rkey length => Sys2Proof.Machine.execStageUpdateTf r qp remoteAddr rkey length s
  | .stagingPullDone o => Sys2Proof.Machine.execStagingPullDone o s
  | .rdmaWriteRequest qpn rkey addr data => Sys2Proof.Machine.execRdmaWriteRequest qpn rkey addr data s
  | .rdmaReadRequest qpn rkey addr length => Sys2Proof.Machine.execRdmaReadRequest qpn rkey addr length s
  | .cnpReceive qpn => Sys2Proof.Machine.execCnpReceive qpn s
  | .pfcPauseFrame port priority quanta => Sys2Proof.Machine.execPfcPauseFrame port priority quanta s
  | .arpRequest port sub ipv4 => Sys2Proof.Machine.execArpRequest port sub ipv4 s
  | .neighbourSolicitation port sub ipv6 => Sys2Proof.Machine.execNeighbourSolicitation port sub ipv6 s
  | .icmpEchoRequest port sub ip payload => Sys2Proof.Machine.execIcmpEchoRequest port sub ip payload s
  | .ptpMessage port sub offsetNs => Sys2Proof.Machine.execPtpMessage port sub offsetNs s
  | .leaseExpiry sid => Sys2Proof.Machine.execLeaseExpiry sid s
  | .retentionExpiry sid => Sys2Proof.Machine.execRetentionExpiry sid s
  | .subportLoss port sub fecCause => Sys2Proof.Machine.execSubportLoss port sub fecCause s
  | .subportReturn port sub => Sys2Proof.Machine.execSubportReturn port sub s
  | .inputApplied mv => Sys2Proof.Machine.execInputApplied mv s
  | .prechargeDone bankMv us => Sys2Proof.Machine.execPrechargeDone bankMv us s
  | .inputOutOfRange mv => Sys2Proof.Machine.execInputOutOfRange mv s
  | .stage0End railMv ok => Sys2Proof.Machine.execStage0End railMv ok s
  | .stage1Firmware failedPair => Sys2Proof.Machine.execStage1Firmware failedPair s
  | .stage2Image => Sys2Proof.Machine.execStage2Image s
  | .islandWaveDone found durationMs => Sys2Proof.Machine.execIslandWaveDone found durationMs s
  | .hbmTrainingDone failedChannels lostStacks => Sys2Proof.Machine.execHbmTrainingDone failedChannels lostStacks s
  | .coolingCheck baselineMilliC pulseMilliC drifted => Sys2Proof.Machine.execCoolingCheck baselineMilliC pulseMilliC drifted s
  | .hostLinkUpDone up failingLanes => Sys2Proof.Machine.execHostLinkUpDone up failingLanes s
  | .stageLimitExpiry => Sys2Proof.Machine.execStageLimitExpiry s
  | .joinDone members epoch master deputy masterTime engines => Sys2Proof.Machine.execJoinDone members epoch master deputy masterTime engines s
  | .ready startMs => Sys2Proof.Machine.execReady startMs s
  | .modResetAssert lowUs => Sys2Proof.Machine.execModResetAssert lowUs s
  | .modResetRelease => Sys2Proof.Machine.execModResetRelease s
  | .latchOpenAssert heldUs => Sys2Proof.Machine.execLatchOpenAssert heldUs s
  | .removalWritesDone => Sys2Proof.Machine.execRemovalWritesDone s
  | .presentBreak => Sys2Proof.Machine.execPresentBreak s
  | .sidebandAddressAssign setdasa addr => Sys2Proof.Machine.execSidebandAddressAssign setdasa addr s
  | .pldmSensorUpdate lidTemp => Sys2Proof.Machine.execPldmSensorUpdate lidTemp s
  | .enterStandbyEffecter => Sys2Proof.Machine.execEnterStandbyEffecter s
  | .leaveStandbyEffecter => Sys2Proof.Machine.execLeaveStandbyEffecter s
  | .vendorRegisterRead kind addr => Sys2Proof.Machine.execVendorRegisterRead kind addr s
  | .vendorRegisterWrite kind addr value => Sys2Proof.Machine.execVendorRegisterWrite kind addr value s
  | .registerWrite addr value => Sys2Proof.Machine.execRegisterWrite addr value s
  | .phaseFailure island domain phase => Sys2Proof.Machine.execPhaseFailure island domain phase s
  | .sectorPhaseFailure island phase => Sys2Proof.Machine.execSectorPhaseFailure island phase s
  | .dipWarning rail railMv => Sys2Proof.Machine.execDipWarning rail railMv s
  | .dipRecovery rail durationNs lowestMv => Sys2Proof.Machine.execDipRecovery rail durationNs lowestMv s
  | .dipBubbleRelease c => Sys2Proof.Machine.execDipBubbleRelease c s
  | .dipResetLevel c durationNs lowestMv => Sys2Proof.Machine.execDipResetLevel c durationNs lowestMv s
  | .regionOvercurrent c deciAmp => Sys2Proof.Machine.execRegionOvercurrent c deciAmp s
  | .overcurrentRelease c => Sys2Proof.Machine.execOvercurrentRelease c s
  | .overcurrentTrip c hottest => Sys2Proof.Machine.execOvercurrentTrip c hottest s
  | .sectorLimit island deciAmp => Sys2Proof.Machine.execSectorLimit island deciAmp s
  | .sectorLimitRelease island => Sys2Proof.Machine.execSectorLimitRelease island s
  | .junctionSensorRead c transit temp => Sys2Proof.Machine.execJunctionSensorRead c transit temp s
  | .throttleRecompute => Sys2Proof.Machine.execThrottleRecompute s
  | .shedRelease c => Sys2Proof.Machine.execShedRelease c s
  | .capShareTick d => Sys2Proof.Machine.execCapShareTick d s
  | .capOpPointStep => Sys2Proof.Machine.execCapOpPointStep s
  | .capBackstop inputW => Sys2Proof.Machine.execCapBackstop inputW s
  | .capBackstopRelease => Sys2Proof.Machine.execCapBackstopRelease s
  | .opPointSlewDone c => Sys2Proof.Machine.execOpPointSlewDone c s
  | .wakeRequest c => Sys2Proof.Machine.execWakeRequest c s
  | .wakeHeadroomTimeout c deciAmp => Sys2Proof.Machine.execWakeHeadroomTimeout c deciAmp s
  | .wakeHeaderStage c => Sys2Proof.Machine.execWakeHeaderStage c s
  | .wakeSettled c => Sys2Proof.Machine.execWakeSettled c s
  | .hintPrepare c => Sys2Proof.Machine.execHintPrepare c s
  | .hintDummyRamp c => Sys2Proof.Machine.execHintDummyRamp c s
  | .hintExpiry c => Sys2Proof.Machine.execHintExpiry c s
  | .pmWatchdogExpiry => Sys2Proof.Machine.execPmWatchdogExpiry s
  | .pmRestartDone => Sys2Proof.Machine.execPmRestartDone s
  | .securityWatchdogExpiry => Sys2Proof.Machine.execSecurityWatchdogExpiry s
  | .schedulerWatchdogExpiry => Sys2Proof.Machine.execSchedulerWatchdogExpiry s
  | .schedulerRestartDone durationUs => Sys2Proof.Machine.execSchedulerRestartDone durationUs s
  | .cccWatchdogExpiry c => Sys2Proof.Machine.execCccWatchdogExpiry c s
  | .lockstepMismatch pair => Sys2Proof.Machine.execLockstepMismatch pair s
  | .logAppendRequest unit source event => Sys2Proof.Machine.execLogAppendRequest unit source event s
  | .logHeadWritten => Sys2Proof.Machine.execLogHeadWritten s
  | .clusterResetDone c => Sys2Proof.Machine.execClusterResetDone c s
  | .dozeEntry c => Sys2Proof.Machine.execDozeEntry c s
  | .lagoonRetentionEntry island => Sys2Proof.Machine.execLagoonRetentionEntry island s
  | .lagoonRetentionExit island => Sys2Proof.Machine.execLagoonRetentionExit island s
  | .harbourEntry => Sys2Proof.Machine.execHarbourEntry s
  | .harbourExit => Sys2Proof.Machine.execHarbourExit s
  | .harbourStackIdle stack => Sys2Proof.Machine.execHarbourStackIdle stack s
  | .standbyExit up => Sys2Proof.Machine.execStandbyExit up s
  | .presentMake => Sys2Proof.Machine.execPresentMake s
  | .latchOpenRelease => Sys2Proof.Machine.execLatchOpenRelease s
  | .inputReturnsToRange mv => Sys2Proof.Machine.execInputReturnsToRange mv s
  | .mirrorWaitExpiry => Sys2Proof.Machine.execMirrorWaitExpiry s
  | .roceLocalAckTimeout qpn => Sys2Proof.Machine.execRoceLocalAckTimeout qpn s

end Sys2Proof.Machine
end

