-- ==== Sys2Proof/Machine/Sequencer.lean ====
section
/-! DEFINITION. The sequencers of the cores: fetch from the core's own core store, decode, and the instruction's meaning (04 R99, R100),
which is what a step does for the cores that run while no command waits (log 2). -/

namespace Sys2Proof.Machine

open Sys2Proof

/-- The word address of word k of the instruction at the program counter; fetch wraps at the end of core store (R100). -/
def Core.fetchAddr (c : Core) (k : Nat) : Nat := (c.pc + k) % 2 ^ 21

/-- n words of the instruction are read, each checked (05 R142); those that give no data are listed. -/
def State.fetchWords (s : State) (L n : Nat) : State × List Nat :=
  (List.range n).foldl (fun acc k =>
    let r := acc.1.readRange (csBase L + (s.core L).fetchAddr k * 8) 8 0 L
    (r.1, acc.2 ++ r.2)) (s, [])

/-- Word k of the instruction at the program counter. -/
def State.fetched (s : State) (L k : Nat) : W64 := s.readWord (csBase L + (s.core L).fetchAddr k * 8)

/-- The state that an outcome leaves; no instruction of a core stops the machine. -/
def stateAfter (o : Host.Outcome State Fault Refusal) (s : State) : State :=
  match o with
  | .next t => t
  | _ => s

/-- One instruction of a core: fetched whole, then refused with ILLEGAL_INSTRUCTION where it decodes to nothing (R99, R126 row 1), else
given its meaning. A word that gives no data takes the path of 13 R373. -/
def State.runInstruction (s : State) (L : CoreId) : State :=
  let h := s.fetchWords L.val 1
  match h.2 with
  | w :: _ => h.1.coreWordLost L.val w
  | [] =>
    let n := lengthOf (h.1.fetched L.val 0)
    let r := h.1.fetchWords L.val n
    match r.2 with
    | w :: _ => r.1.coreWordLost L.val w
    | [] =>
      match decodeCore L (r.1.fetched L.val) with
      | none => r.1.issue L.val (.raise stIllegal)
      | some i => stateAfter (exec i r.1) r.1

/-- Every sequencer that can take an instruction takes one, by ascending logical core. -/
def State.runCores (s : State) : State :=
  s.cores.foldl (fun t e => if h : e.1 < 576 then (if t.coreReady e.1 then t.runInstruction ⟨e.1, h⟩ else t) else t) s

/-- The time base counts 1 ns unless it is held back toward the master's time (09 R252). -/
def State.countTime (s : State) : State :=
  if s.arch.slew = 0 then { s with timeBase := s.timeBase + 1 } else { s with arch := { s.arch with slew := s.arch.slew - 1 } }

/-- One tick: nothing waits to run, the time base counts and the sequencers run on (log 2). -/
def State.tick (s : State) : State := s.countTime.runCores

end Sys2Proof.Machine
end

