-- ==== Sys2Proof/Machine/Step.lean ====
section
/-! DEFINITION. A step: the command at the front of the queue runs; on an empty queue a nanosecond passes
and the cores run their own programs (log 2). -/

namespace Sys2Proof.Machine

/-- The command at the front of the queue, on the state with the rest of the queue; on an empty queue the block ticks. -/
def step (s : State) : Host.Outcome State Fault Refusal :=
  match s.pending with
  | [] => .next s.tick
  | i :: rest => exec i { s with pending := rest }

/-- The command that a word spells, put at the front of the queue: none does, so that the state is unchanged (Decode.lean). -/
def State.withFetchWord (s : State) (nbits w : Nat) : State :=
  match Sys2Proof.decodeTableWord nbits w with
  | none => s
  | some i => { s with pending := i :: s.pending }

end Sys2Proof.Machine
end

