-- ==== Sys2Proof/Safety.lean ====
section
/-! DEFINITION. What a run keeps, whatever is commanded: the canonical form of memory, the fuse map (11 R315) and the field
defect log (11 R319). The statements are made in these terms. -/

namespace Sys2Proof.Machine

/-- The fuse map's fields (11 R315, R316). -/
def Nv.fuses (n : Nv) : W16 × W16 × BitVec 128 × Bool × BitVec 256 × BitVec 256 × BitVec 256 × SMap (BitVec 14) × SMap W32 ×
    SMap W64 :=
  (n.fuseVersion, n.productCode, n.serial, n.fusesOk, n.vendorDigest, n.ownerDigest0, n.ownerDigest1, n.slotBad, n.seamSpares,
    n.sramRepairs)

/-- Unit codes of the entries that the log holds or takes next (11 R319). -/
def DefectLog.units (l : DefectLog) : List W64 := (l.entries ++ l.waiting).map LogEntry.unit

/-- The log holds each unit once and at most 260,096 entries (11 R319). -/
def DefectLog.wf (l : DefectLog) : Prop := l.units.Nodup ∧ l.units.length ≤ 260096

/-- What every step keeps of a state: memory in its canonical form, and a log that obeys 11 R319. -/
def State.Inv (s : State) : Prop := memoryWf s.mem = true ∧ s.log.wf

/-- A command completes from a state: it answers a next state, of which `P` says what it holds. -/
def Completes (c : Instr) (s : State) (P : State → Prop) : Prop := ∃ t, exec c s = .next t ∧ P t

/-! ### A core's sequencer (04 R117 to R121, R127) -/

/-- One more instruction of core L is within its attempt (04 R127 step 5): none has failed, or this is a replay that has not
reached the place of the first failure; TURN_OVERRUN is no such place. -/
def State.Counts (s : State) (L : Nat) : Prop :=
  ∀ f, (s.core L).attempt.first = some f → f.status = stOverrun ∨ (s.core L).attempt.issued < f.ordinal

/-- Core L takes an instruction of its turn: its sequencer runs and nothing holds it. -/
def State.Takes (s : State) (L : Nat) : Prop := s.coreReady L = true ∧ (s.core L).inTurn = true ∧ s.Counts L

/-- An instruction of core L retires: the core becomes what `f` makes of it, with one more instruction counted in its attempt;
nothing else changes. -/
def State.retire (s : State) (L : Nat) (f : Core → Core) : State :=
  s.setCore L { f (s.core L) with attempt := { (s.core L).attempt with issued := (s.core L).attempt.issued + 1 } }

/-- A vector instruction retires into the vector queue: one place taken, the next word's address (04 R101). -/
def State.retireVector (s : State) (L : Nat) (f : Core → Core) : State :=
  s.retire L fun c => { (f c).advance 1 with vecQ := (f c).vecQ + 1 }

/-- No word of a run of memory stands in error (05 R142). -/
def State.Sound (s : State) (a n : Nat) : Prop := ∀ q ∈ s.wordErr, ¬ (a / 8 ≤ q.1 ∧ q.1 < (a + n + 7) / 8)

/-- A run of memory is read as it stands: no word of it is in error, and where it is HBM every stack answers for every channel
(05 R142, 06 R166 to R173). -/
def State.Readable (s : State) (a n : Nat) : Prop := s.Sound a n ∧ (a < 2 ^ 41 → s.allAnswer = true)

/-! ### The mesh (07) -/

/-- `t` differs from `s` on the mesh alone: its packets, the links' counters and stores, what leaves the block, and the free values
used up. -/
def State.OnMesh (s t : State) : Prop := t = { s with mesh := t.mesh, links := t.links, out := t.out, freeCtr := t.freeCtr }

/-! ### Host commands (10 R276 to R278) -/

/-- A command is new to its session and no second copy on the other path (10 R271); the session is not held and has the features and the
role that the command asks for: the module answers it by its own rules (10 R277, R278). -/
def State.Serves (s : State) (r : HostReq) (x : Session) (features : List Nat) (operator : Bool) : Prop :=
  s.answers = true ∧ s.session? r.sid = some x ∧ r.seq.toNat ≠ 0 ∧ x.lastCmd ≤ r.seq.toNat + 63 ∧ r.seq.toNat ≤ x.lastCmd + 64 ∧
    x.held = false ∧ SMap.get? x.kept r.seq.toNat = none ∧ x.lately r.seq.toNat s.timeBase.toNat = false ∧
    (∀ b ∈ features, x.has b = true) ∧ (operator = true → x.operator = true) ∧ r.malformed = false

/-- The session keeps this answer to the command (10 R277). -/
def State.Answered (t : State) (r : HostReq) (opcode : W16) (status detail : W16) (body : List Byte) : Prop :=
  ∃ x seq, t.session? r.sid = some x ∧
    SMap.get? x.kept r.seq.toNat = some ⟨opcode ||| 0x8000, status, detail, seq, r.seq, body⟩

end Sys2Proof.Machine
end

