-- ==== Sys2Proof/Certificates/Slice0/Obligations.lean ====
section
/-! DEFINITION. The statements for the provers. Each says what commands do from any state that meets its hypotheses, or what
every step keeps. -/

open Sys2Proof Sys2Proof.Machine

/-! ### The queue (log 2) -/

/-- A step runs the command at the front of the queue on the state with the rest of it. On an empty queue the time base counts one
nanosecond, or is held back by one that it owes the master's time (09 R252), and every sequencer that can take an instruction takes one,
by ascending core (the model's choice, log 2); nothing else changes.

A sequencer's instruction is fetched from its own core store at the program counter (04 R100): where its words are sound and spell an
instruction, the state becomes what that instruction makes of it, and where they spell none, ILLEGAL_INSTRUCTION is raised (04 R99,
R126). -/
def Obligations.StepRunsFrontCommand : Prop :=
  (∀ (s : State) (c : Instr) (rest : List Instr), s.pending = c :: rest → step s = exec c { s with pending := rest }) ∧
  (∀ (s : State), s.pending = [] →
    let u := if s.arch.slew = 0 then { s with timeBase := s.timeBase + 1 } else { s with arch := { s.arch with slew := s.arch.slew - 1 } }
    step s = .next (u.cores.foldl (fun t e => if h : e.1 < 576 then (if t.coreReady e.1 then t.runInstruction ⟨e.1, h⟩ else t) else t) u) ∧
      ((∀ L, s.coreReady L = false) → step s = .next u)) ∧
  (∀ (s : State) (L : CoreId), s.coreReady L.val = true →
    let word : Nat → W64 := fun k => s.readWord (csBase L.val + ((s.core L.val).pc + k) % 2 ^ 21 * 8)
    (∀ k < lengthOf (word 0), s.Sound (csBase L.val + ((s.core L.val).pc + k) % 2 ^ 21 * 8) 8) →
    (∀ i, decodeCore L word = some i → exec i s = .next (s.runInstruction L)) ∧
      (decodeCore L word = none → s.runInstruction L = s.raise L.val 0x0501))

/-- Every command of every state answers a next state, and adds to, drops from and reorders nothing of the queue that waits behind
it, but for an input above 63,000 mV (17 R462, R475), which stops the machine as outside the guarantee. -/
def Obligations.OnlyOvervoltageStops : Prop :=
  ∀ (c : Instr) (s : State),
    (∃ t, exec c s = .next t ∧ t.pending = s.pending) ∨
      ∃ mv : W32, c = .inputOutOfRange mv ∧ 63000 < mv.toNat ∧ exec c s = .fault .outsideGuarantee

/-! ### What every step keeps -/

/-- Every step keeps memory in its canonical form and the field defect log as 11 R319 has it: each unit once, at most 260,096
entries. -/
def Obligations.StepKeepsInvariant : Prop := ∀ (s t : State), s.Inv → step s = .next t → t.Inv

/-- The invariant holds at reset. -/
def Obligations.ResetHasInvariant : Prop := State.reset.Inv

/-- No step changes the fuse map (11 R315). -/
def Obligations.FuseMapNeverChanges : Prop := ∀ (s t : State), step s = .next t → t.nv.fuses = s.nv.fuses

/-- No step removes or changes an entry that the field defect log covers, and its generation never falls (11 R319). -/
def Obligations.LogEntriesNeverRemoved : Prop :=
  ∀ (s t : State), step s = .next t → s.log.entries <+: t.log.entries ∧ s.log.generation ≤ t.log.generation

/-! ### Scalar instructions (04 R100, R123, R124) -/

/-- The eleven register forms: RD takes the result of RS1 and RS2, the next word follows, and nothing else changes. s0 reads
as zero and discards writes (04 R100), as Core.reg and Core.setReg have it.

The eleven immediate forms take IMM32 sign-extended in place of RS2; LI takes it alone and LUI 2^32 times it. -/
def Obligations.ScalarResults : Prop :=
  (∀ (s : State) (f : ScalarF), s.Takes f.core.val → f.rsv = 0 →
     let ran : (W64 → W64 → W64) → Host.Outcome State Fault Refusal := fun op =>
       .next (s.retire f.core.val fun c => (c.setReg f.rd.val (op (c.reg f.rs1.val) (c.reg f.rs2.val))).advance 1)
     exec (.add f) s = ran (fun a b => a + b) ∧ exec (.sub f) s = ran (fun a b => a - b) ∧
       exec (.mul f) s = ran (fun a b => a * b) ∧ exec (.and f) s = ran (fun a b => a &&& b) ∧
       exec (.or f) s = ran (fun a b => a ||| b) ∧ exec (.xor f) s = ran (fun a b => a ^^^ b) ∧
       exec (.shl f) s = ran (fun a b => a <<< (b.toNat % 64)) ∧ exec (.shr f) s = ran (fun a b => a >>> (b.toNat % 64)) ∧
       exec (.sar f) s = ran (fun a b => a.sshiftRight (b.toNat % 64)) ∧
       exec (.slt f) s = ran (fun a b => if a.toInt < b.toInt then 1 else 0) ∧
       exec (.sltu f) s = ran (fun a b => if a.toNat < b.toNat then 1 else 0)) ∧
  (∀ (s : State) (f : ScalarF), s.Takes f.core.val → f.rsv = 0 →
     let imm : W64 := f.imm.signExtend 64
     let ran : (W64 → W64) → Host.Outcome State Fault Refusal := fun op =>
       .next (s.retire f.core.val fun c => (c.setReg f.rd.val (op (c.reg f.rs1.val))).advance 1)
     exec (.addi f) s = ran (fun a => a + imm) ∧ exec (.subi f) s = ran (fun a => a - imm) ∧
       exec (.muli f) s = ran (fun a => a * imm) ∧ exec (.andi f) s = ran (fun a => a &&& imm) ∧
       exec (.ori f) s = ran (fun a => a ||| imm) ∧ exec (.xori f) s = ran (fun a => a ^^^ imm) ∧
       exec (.shli f) s = ran (fun a => a <<< (imm.toNat % 64)) ∧ exec (.shri f) s = ran (fun a => a >>> (imm.toNat % 64)) ∧
       exec (.sari f) s = ran (fun a => a.sshiftRight (imm.toNat % 64)) ∧
       exec (.slti f) s = ran (fun a => if a.toInt < imm.toInt then 1 else 0) ∧
       exec (.sltui f) s = ran (fun a => if a.toNat < imm.toNat then 1 else 0) ∧
       exec (.li f) s = ran (fun _ => imm) ∧ exec (.lui f) s = ran (fun _ => imm <<< 32))

/-- Branches and jumps: the word address becomes PC + IMM32 within the 2^21 words of core store where the comparison holds, the
next word otherwise; JAL leaves the next word's address in RD, JR goes to RS1 [20:0]. Nothing else changes. BLT and BGE compare
as signed (the model's choice, log 20).

RDSPEC reads the logical core, the turn numbers, the time base and the job's cores by IMM32 0 to 4, and refuses any other. -/
def Obligations.BranchesJumpsAndSpecialValues : Prop :=
  (∀ (s : State) (f : ScalarF), s.Takes f.core.val → f.rsv = 0 →
     let target : Core → Nat := fun c => (BitVec.ofNat 64 c.pc + f.imm.signExtend 64).toNat % 2 ^ 21
     let branch : (W64 → W64 → Prop) → State → Prop := fun cond t =>
       t = s.retire f.core.val (fun c => { c with pc := target c }) ∧ cond ((s.core f.core.val).reg f.rs1.val) ((s.core f.core.val).reg f.rs2.val) ∨
       t = s.retire f.core.val (fun c => c.advance 1) ∧ ¬ cond ((s.core f.core.val).reg f.rs1.val) ((s.core f.core.val).reg f.rs2.val)
     Completes (.beq f) s (branch fun a b => a = b) ∧ Completes (.bne f) s (branch fun a b => a ≠ b) ∧
       Completes (.blt f) s (branch fun a b => a.toInt < b.toInt) ∧ Completes (.bge f) s (branch fun a b => b.toInt ≤ a.toInt) ∧
       exec (.jmp f) s = .next (s.retire f.core.val fun c => { c with pc := target c }) ∧
       exec (.jal f) s = .next (s.retire f.core.val fun c =>
         { c.setReg f.rd.val (BitVec.ofNat 64 ((c.pc + 1) % 2 ^ 21)) with pc := target c }) ∧
       exec (.jr f) s = .next (s.retire f.core.val fun c => { c with pc := (c.reg f.rs1.val).toNat % 2 ^ 21 })) ∧
  (∀ (s : State) (f : ScalarF), s.Takes f.core.val → f.rsv = 0 →
     let job := (s.standOf f.core.val).bind fun pl => (s.part pl.part).job
     let ran : W64 → Host.Outcome State Fault Refusal := fun v =>
       .next (s.retire f.core.val fun c => (c.setReg f.rd.val v).advance 1)
     (f.imm = 0 → exec (.rdspec f) s = ran (BitVec.ofNat 64 f.core.val)) ∧
       (f.imm = 1 → exec (.rdspec f) s = ran (BitVec.ofNat 64 (job.elim 0 Job.td))) ∧
       (f.imm = 2 → exec (.rdspec f) s = ran (BitVec.ofNat 64 (job.elim 0 Job.ts))) ∧
       (f.imm = 3 → exec (.rdspec f) s = ran s.timeBase) ∧
       (f.imm = 4 → exec (.rdspec f) s = ran (BitVec.ofNat 64 (job.elim 0 fun j => j.placement.length))) ∧
       (4 < f.imm.toNat → exec (.rdspec f) s = .next (s.raise f.core.val 0x0501)))

/-- LD reads one word of the core's own store into RD: where the address lies in core store, no earlier drain has to write the
word and no bit of it is in error, RD takes it and nothing else changes.

ST writes RS2 into one word of the core's own store, and nothing else changes: every byte outside those eight reads as
before, every register and every other core stays.

LD and ST beyond the last word of core store are refused with ADDRESS_UNMAPPED (04 R124, R126). -/
def Obligations.LoadsAndStoresOfOneWord : Prop :=
  (∀ (s : State) (f : ScalarF), s.Takes f.core.val → f.rsv = 0 →
     let a := ((s.core f.core.val).reg f.rs1.val + f.imm.signExtend 64).toNat
     a < 2 ^ 21 → (s.core f.core.val).readBlocked a 1 = false → s.Sound (csBase f.core.val + a * 8) 8 →
     exec (.ld f) s = .next (s.retire f.core.val fun c => (c.setReg f.rd.val (s.readWord (csBase f.core.val + a * 8))).advance 1)) ∧
  (∀ (s : State) (f : ScalarF), s.Takes f.core.val → f.rsv = 0 →
     let a := ((s.core f.core.val).reg f.rs1.val + f.imm.signExtend 64).toNat
     let v := (s.core f.core.val).reg f.rs2.val
     a < 2 ^ 21 → s.writeRefused f.core.val a 1 = false → (s.core f.core.val).writeBlocked a 1 = false →
     Completes (.st f) s fun t =>
       (∀ k, t.readByte k =
         if csBase f.core.val + a * 8 ≤ k ∧ k < csBase f.core.val + a * 8 + 8 then (v >>> (8 * (k - (csBase f.core.val + a * 8)))).truncate 8
         else s.readByte k) ∧
       t.cores = (s.retire f.core.val fun c => c.advance 1).cores ∧
       t = { s with mem := t.mem, wordErr := t.wordErr, writeBack := t.writeBack, cores := t.cores }) ∧
  (∀ (s : State) (f : ScalarF), s.Takes f.core.val → f.rsv = 0 →
     2 ^ 21 ≤ ((s.core f.core.val).reg f.rs1.val + f.imm.signExtend 64).toNat →
     exec (.ld f) s = .next (s.raise f.core.val 0x0201) ∧ exec (.st f) s = .next (s.raise f.core.val 0x0201))

/-- A scalar or vector instruction outside a turn, or with a reserved bit set, is refused with ILLEGAL_INSTRUCTION (04 R99, R120,
R126); one that the sequencer cannot take leaves the state as it is (the model's choice, log 11). -/
def Obligations.RefusedInstructionsRaise : Prop :=
  (∀ (s : State) (f : ScalarF) (c : Instr),
    c ∈ [.add f, .sub f, .mul f, .and f, .or f, .xor f, .shl f, .shr f, .sar f, .slt f, .sltu f, .addi f, .subi f, .muli f,
      .andi f, .ori f, .xori f, .shli f, .shri f, .sari f, .slti f, .sltui f, .li f, .lui f, .ld f, .st f, .beq f, .bne f,
      .blt f, .bge f, .jmp f, .jal f, .jr f, .rdspec f] →
    (s.coreReady f.core.val = false → exec c s = .next s) ∧
      (s.coreReady f.core.val = true → ((s.core f.core.val).inTurn = false ∨ f.rsv ≠ 0) →
        exec c s = .next (s.raise f.core.val 0x0501))) ∧
  ∀ (s : State) (f : VectorF) (c : Instr),
    c ∈ [.vadd f, .vsub f, .vmul f, .vfma f, .vmin f, .vmax f, .vabs f, .vneg f, .vcmpeq f, .vcmplt f, .vcmple f, .vsel f,
      .viadd f, .visub f, .vimul f, .viadds f, .visubs f, .viand f, .vior f, .vixor f, .vcvtFrom f, .vcvtTo f, .vrsum f,
      .vrmax f, .vrmin f, .vrcp f, .vrsqrt f, .vexp f, .vexp2 f, .vlog f, .vlog2 f, .vdraw f, .vdrop f, .vld f, .vst f,
      .vsplat f, .vmovs f] →
    (s.coreReady f.core.val = false → exec c s = .next s) ∧
      (s.coreReady f.core.val = true → ((s.core f.core.val).inTurn = false ∨ f.rsv ≠ 0) →
        exec c s = .next (s.raise f.core.val 0x0501))

/-- A core's first failing status in a turn is recorded with the instruction's address, and its part waits to be rebuilt and
run again on its own slot; nothing but that core, the contributions and the inbox slots it held changes (04 R127).

A second failure of the part in its turn (04 R127): the same status at the same address, or a second TURN_OVERRUN, ends
the turn and the job holds with it, unless it already holds for one; anything else fails the core, whose position the lowest-numbered reserve slot takes. -/
def Obligations.FailuresReplayThenEndOrSubstitute : Prop :=
  (∀ (s : State) (L : Nat) (st : W16) (pl : Stand), s.standOf L = some pl → (s.core L).attempt.first = none →
     (s.core L).attempt.durable = false → (st = 0x0503 → (s.core L).attempt.spared = false) →
     let t := s.raise L st
     (t.core L).attempt.first = some ⟨st, (s.core L).pc, (s.core L).attempt.issued⟩ ∧ (t.core L).attempt.rebuild = true ∧
       (t.core L).inTurn = false ∧ (t.core L).lastStatus = st ∧ (t.core L).vecQ = 0 ∧ (t.core L).matQ = [] ∧
       (t.core L).ferry0 = [] ∧ (t.core L).ferry1 = [] ∧ (t.core L).hold = .none ∧
       t = { s with cores := t.cores, mesh := t.mesh }) ∧
  (∀ (s : State) (L : Nat) (pl : Stand), s.standOf L = some pl → (s.core L).attempt.first = none → (s.core L).attempt.spared = true →
     ∃ j, ((s.raise L 0x0503).part pl.part).job = some j ∧ j.state = .holding ∧ j.reason = 2 ∧ j.holdStatus = true) ∧
  (∀ (s : State) (L : Nat) (st : W16) (pl : Stand) (f : Failure), s.standOf L = some pl →
     (s.core L).attempt.first = some f →
     let t := s.raise L st
     let x := s.cluster (L / 12)
     let again := f.status = st ∧ (f.addr = (s.core L).pc ∨ st = 0x0503)
     (again → (((s.part pl.part).job.map Job.holdStatus) = some false → (t.part pl.part).lastStatus = st) ∧
         ∃ j, (t.part pl.part).job = some j ∧ j.state = .holding ∧ j.reason = 2 ∧ j.holdStatus = true) ∧
       (∀ n, ¬ again → x.lowestReserve = some n → s.thirdRuns (L / 12) = false → x.map.getD (L % 12) 0xF ≠ 0xF →
         (t.cluster (L / 12)).map = x.map.set (L % 12) n ∧ (t.cluster (L / 12)).slotState n = 0 ∧
           (x.map.getD (L % 12) 0xF ≠ n → (t.cluster (L / 12)).slotState (x.map.getD (L % 12) 0xF) = 3) ∧
           (t.core L).attempt.rebuild = true ∧ (t.core L).attempt.cleared = true))

/-! ### Vector instructions (03 R89, 04 R125) -/

/-- The eight integer operations: every one of the 512 lanes of VD takes the result of the same lane of VS1 and VS2; no numeric
event is set, one place of the vector queue is taken, and nothing else changes.

The FP32 operations of 03 R89, lane by lane, with their events; comparisons write all ones or zero, VSEL takes VS2 where the
bits of VS1 are nonzero and VS3 elsewhere. One place of the vector queue is taken, and nothing else changes.

The reductions leave the pairwise tree's result over the lanes of VS1 in lane 0 of VD and zero in the others (03 R89).
(The model's readings: log 7, 12.) -/
def Obligations.VectorLanes : Prop :=
  (∀ (s : State) (f : VectorF), s.Takes f.core.val → f.rsv = 0 → (s.core f.core.val).vecQ < 16 →
     let ran : (W32 → W32 → W32) → Host.Outcome State Fault Refusal := fun op =>
       .next (s.retireVector f.core.val fun c =>
         c.setVreg f.vd.val ((List.range 512).map fun i => op (c.lane f.vs1.val i) (c.lane f.vs2.val i)))
     let sat : Int → W32 := fun i => BitVec.ofInt 32 (max (-2147483648) (min 2147483647 i))
     exec (.viadd f) s = ran (fun a b => a + b) ∧ exec (.visub f) s = ran (fun a b => a - b) ∧
       exec (.vimul f) s = ran (fun a b => a * b) ∧ exec (.viand f) s = ran (fun a b => a &&& b) ∧
       exec (.vior f) s = ran (fun a b => a ||| b) ∧ exec (.vixor f) s = ran (fun a b => a ^^^ b) ∧
       exec (.viadds f) s = ran (fun a b => sat (a.toInt + b.toInt)) ∧ exec (.visubs f) s = ran (fun a b => sat (a.toInt - b.toInt))) ∧
  (∀ (s : State) (f : VectorF), s.Takes f.core.val → f.rsv = 0 → (s.core f.core.val).vecQ < 16 →
     let ran : (W32 → W32 → W32 → W32 × Events) → Host.Outcome State Fault Refusal := fun op =>
       .next (s.retireVector f.core.val fun c => c.laneResult f.vd.val ((List.range 512).map fun i =>
         op (c.lane f.vs1.val i) (c.lane f.vs2.val i) (c.lane f.vs3.val i)))
     exec (.vadd f) s = ran (fun a b _ => fadd a b) ∧ exec (.vsub f) s = ran (fun a b _ => fsub a b) ∧
       exec (.vmul f) s = ran (fun a b _ => fmul a b) ∧ exec (.vfma f) s = ran (fun a b c => ffma a b c) ∧
       exec (.vmin f) s = ran (fun a b _ => fpick false a b) ∧ exec (.vmax f) s = ran (fun a b _ => fpick true a b) ∧
       exec (.vabs f) s = ran (fun a _ _ => fabs a) ∧ exec (.vneg f) s = ran (fun a _ _ => fneg a) ∧
       exec (.vcmpeq f) s = ran (fun a b _ => fcmp (fun d => d == 0) a b) ∧
       exec (.vcmplt f) s = ran (fun a b _ => fcmp (fun d => decide (d < 0)) a b) ∧
       exec (.vcmple f) s = ran (fun a b _ => fcmp (fun d => decide (d ≤ 0)) a b) ∧
       exec (.vsel f) s = ran (fun a b c => (if a ≠ 0 then b else c, evNone)) ∧
       exec (.vrcp f) s = ran (fun a _ _ => vrcp a) ∧ exec (.vrsqrt f) s = ran (fun a _ _ => vrsqrt a) ∧
       exec (.vexp f) s = ran (fun a _ _ => vexp 0 a) ∧ exec (.vexp2 f) s = ran (fun a _ _ => vexp 1 a) ∧
       exec (.vlog f) s = ran (fun a _ _ => vlog 2 a) ∧ exec (.vlog2 f) s = ran (fun a _ _ => vlog 3 a)) ∧
  (∀ (s : State) (f : VectorF), s.Takes f.core.val → f.rsv = 0 → (s.core f.core.val).vecQ < 16 →
     let ran : (W32 → W32 → W32 × Events) → Host.Outcome State Fault Refusal := fun op =>
       .next (s.retireVector f.core.val fun c => c.laneResult f.vd.val [tree (treeNode op) (c.vreg f.vs1.val)])
     exec (.vrsum f) s = ran fadd ∧ exec (.vrmax f) s = ran (fpick true) ∧ exec (.vrmin f) s = ran (fpick false))

/-- VSPLAT copies the low 32 bits of RS to every lane (log 20); VMOVS moves lane IMM12 of VS1, sign-extended, to RS; VDRAW draws once for each
lane and VDROP keeps the lanes whose draw is at least RS [31:0], each taking one vector ordinal, while any is left (03 R87).

VCVT.FROM and VCVT.TO convert all 512 elements by FMT and ROUND (04 R477): where FMT names a format, ROUND is 0 to 4, no
register pair runs past v31 and, under stochastic rounding, a vector ordinal is left, they retire with the converted lanes or
codes and their events, taking an ordinal for ROUND 4 alone (03 R87). -/
def Obligations.VectorMovesDrawsAndConversions : Prop :=
  (∀ (s : State) (f : VectorF), s.Takes f.core.val → f.rsv = 0 → (s.core f.core.val).vecQ < 16 →
     exec (.vsplat f) s = .next (s.retireVector f.core.val fun c =>
         c.setVreg f.vd.val ((List.range 512).map fun _ => (c.reg f.rs.val).truncate 32)) ∧
       (f.imm.toNat < 512 → exec (.vmovs f) s = .next (s.retireVector f.core.val fun c =>
         c.setReg f.rs.val ((c.lane f.vs1.val f.imm.toNat).signExtend 64))) ∧
       ((s.core f.core.val).vecOrd < 2 ^ 23 →
         exec (.vdraw f) s = .next (s.retireVector f.core.val fun c =>
           { c.setVreg f.vd.val ((List.range 512).map fun i => BitVec.ofNat 32 (s.drawAt f.core.val f.stream.toNat 2 (c.vecOrd * 512 + i))) with
             vecOrd := c.vecOrd + 1 }) ∧
         exec (.vdrop f) s = .next (s.retireVector f.core.val fun c =>
           { c.setVreg f.vd.val ((List.range 512).map fun i =>
               if (c.reg f.rs.val).toNat % 2 ^ 32 ≤ s.drawAt f.core.val f.stream.toNat 2 (c.vecOrd * 512 + i) then c.lane f.vs1.val i else 0) with
             vecOrd := c.vecOrd + 1 }))) ∧
  (∀ (s : State) (f : VectorF) (fmt : Fmt), s.Takes f.core.val → f.rsv = 0 → (s.core f.core.val).vecQ < 16 →
     fmtOfCode f.fmt.toNat = some fmt → f.round.toNat < 5 → (f.round = 4 → (s.core f.core.val).vecOrd < 2 ^ 23) →
     let ordinal : Core → Core := fun c => if f.round = 4 then { c with vecOrd := c.vecOrd + 1 } else c
     ((fmt.isMx = true → f.vs1.val ≠ 31) →
       exec (.vcvtFrom f) s = .next (s.retireVector f.core.val fun c =>
         ordinal (c.laneResult f.vd.val ((List.range 512).map (fromLane f s fmt))))) ∧
     ((fmt.isMx = true → f.vd.val ≠ 31) →
       exec (.vcvtTo f) s = .next (s.retireVector f.core.val fun c =>
         let c1 := c.setVreg f.vd.val (packElements fmt.bits (toCodes f s fmt).1)
         ordinal ((if fmt.isMx then c1.setVreg (f.vd.val + 1) (packElements 8 (toCodes f s fmt).2.1) else c1).addEvents
           (toCodes f s fmt).2.2))))

/-- VLD takes 2,048 aligned bytes of the core's own store into the lanes of VD; VST writes the lanes of VS1 there and changes no
other byte.

The vector instructions refused while the queue has a place (04 R125, R126, R477, 03 R87): with ILLEGAL_INSTRUCTION a
conversion whose FMT or ROUND is reserved or whose MX pair starts at v31, a VMOVS beyond lane 511, and a draw with no ordinal
left; with MISALIGNED and ADDRESS_UNMAPPED a VLD of an unaligned range and of one past the end of core store.
(The model's readings: log 12.) -/
def Obligations.VectorMemoryAndRefusals : Prop :=
  (∀ (s : State) (f : VectorF), s.Takes f.core.val → f.rsv = 0 → (s.core f.core.val).vecQ < 16 →
     let w := ((s.core f.core.val).reg f.rs.val + f.imm.signExtend 64 * 256).toNat
     let a := csBase f.core.val + w * 8
     w % 32 = 0 → w + 256 ≤ 2 ^ 21 →
     ((s.core f.core.val).readBlocked w 256 = false → s.Sound a 2048 →
       exec (.vld f) s = .next (s.retireVector f.core.val fun c =>
         c.setVreg f.vd.val ((List.range 512).map fun i => BitVec.ofNat 32 (s.readNat (a + 4 * i) 4)))) ∧
     (s.writeRefused f.core.val w 256 = false → (s.core f.core.val).writeBlocked w 256 = false →
       Completes (.vst f) s fun t =>
         (∀ i < 512, t.readNat (a + 4 * i) 4 = ((s.core f.core.val).lane f.vs1.val i).toNat) ∧
         (∀ k, ¬ (a ≤ k ∧ k < a + 2048) → t.readByte k = s.readByte k) ∧
         t.cores = (s.retireVector f.core.val id).cores ∧
         t = { s with mem := t.mem, wordErr := t.wordErr, writeBack := t.writeBack, cores := t.cores })) ∧
  (∀ (s : State) (f : VectorF), s.Takes f.core.val → f.rsv = 0 → (s.core f.core.val).vecQ < 16 →
     let w := ((s.core f.core.val).reg f.rs.val + f.imm.signExtend 64 * 256).toNat
     let refused : W16 → Host.Outcome State Fault Refusal := fun st => .next (s.raise f.core.val st)
     ((fmtOfCode f.fmt.toNat = none ∨ 5 ≤ f.round.toNat) → exec (.vcvtFrom f) s = refused 0x0501 ∧ exec (.vcvtTo f) s = refused 0x0501) ∧
       ((∃ fmt, fmtOfCode f.fmt.toNat = some fmt ∧ fmt.isMx = true) →
         (f.vs1.val = 31 → exec (.vcvtFrom f) s = refused 0x0501) ∧ (f.vd.val = 31 → exec (.vcvtTo f) s = refused 0x0501)) ∧
       (512 ≤ f.imm.toNat → exec (.vmovs f) s = refused 0x0501) ∧
       (2 ^ 23 ≤ (s.core f.core.val).vecOrd → exec (.vdraw f) s = refused 0x0501 ∧ exec (.vdrop f) s = refused 0x0501 ∧
         (f.round = 4 → exec (.vcvtFrom f) s = refused 0x0501 ∧ exec (.vcvtTo f) s = refused 0x0501)) ∧
       (w % 32 ≠ 0 → exec (.vld f) s = refused 0x0502) ∧
       (w % 32 = 0 → 2 ^ 21 < w + 256 → exec (.vld f) s = refused 0x0201))

/-! ### Matrix instructions (02 R45 to R58, 04 R102 to R109) -/

/-- MATRIX.G and MATRIX.A: where formats, rounding, pair, sources, drains and addresses pass the rules of 04 R108, R109, the queue
has a place and no drain goes to a pinned line, the instruction enters the matrix queue with its descriptors as captured at
issue and its ordinals, and the stages it loads are marked with its format and width; nothing else changes.

Matrix instructions refused with ILLEGAL_INSTRUCTION (04 R109, R126): a reserved bit set, a reserved format or ROUND, a pair that
02 R47 does not allow, an operand source of 3, a hold of a stage last loaded under another format or width (02 R55), and a drain
of an integer pair to anything but INT32 or FP32. -/
def Obligations.MatrixInstructionsQueueOrRaise : Prop :=
  (∀ (s : State) (h : MatrixHead) (fa fb : Fmt), s.Takes h.core.val → h.rsv = 0 → h.round.toNat < 5 →
     fmtOfCode h.fmtA.toNat = some fa → fmtOfCode h.fmtB.toNat = some fb → pairAllowed fa fb = true →
     (s.core h.core.val).matQ.length < 16 →
     let c := s.core h.core.val
     let captured : MatrixPart → PartIssue := fun p => ⟨p, c.reg p.ra.val, c.reg p.rb.val, c.reg p.rd.val⟩
     let good : Bool → Nat → MatrixPart → Prop := fun apart q p =>
       partIllegal s h.core.val apart q fa fb p (c.reg p.rd.val) = false ∧ partMisaligned fa fb (captured p) = false ∧
         partPastEnd apart fa fb (captured p) = false ∧
         ∀ w ∈ partWrites apart (captured p), c.pinned w.1 w.2 = false
     let queued : Bool → Nat → List MatrixPart → (SMap (Nat × Nat) → SMap (Nat × Nat)) → Host.Outcome State Fault Refusal :=
       fun apart words ps tags => .next (s.retire h.core.val fun c =>
         { c.advance words with
           matQ := c.matQ ++ [.work apart h (ps.map captured) c.matOrd c.drainOrd]
           matOrd := c.matOrd + 1, drainOrd := if ps.any (fun p => p.drain) then c.drainOrd + 1 else c.drainOrd
           stageTags := tags c.stageTags })
     (∀ p, good false 0 p → exec (.matrixGanged h p) s = queued false 2 [p] (tagStages false 0 fa fb p)) ∧
     (∀ p0 p1 p2 p3, good true 0 p0 → good true 1 p1 → good true 2 p2 → good true 3 p3 →
       exec (.matrixApart h p0 p1 p2 p3) s = queued true 5 [p0, p1, p2, p3] fun t =>
         tagStages true 3 fa fb p3 (tagStages true 2 fa fb p2 (tagStages true 1 fa fb p1 (tagStages true 0 fa fb p0 t))))) ∧
  (∀ (s : State) (h : MatrixHead) (p : MatrixPart), s.Takes h.core.val →
     let refused := exec (.matrixGanged h p) s = .next (s.raise h.core.val 0x0501)
     (fmtOfCode h.fmtA.toNat = none ∨ fmtOfCode h.fmtB.toNat = none → refused) ∧
     ∀ fa fb, fmtOfCode h.fmtA.toNat = some fa → fmtOfCode h.fmtB.toNat = some fb →
       (h.rsv ≠ 0 → refused) ∧ (5 ≤ h.round.toNat → refused) ∧ (pairAllowed fa fb = false → refused) ∧
         (p.rsv ≠ 0 → refused) ∧ (p.srcA = 3 → refused) ∧ (p.srcB = 3 → refused) ∧
         (∀ k < 4, p.srcA = 2 → SMap.get? (s.core h.core.val).stageTags (k * 2) ≠ some (fa.code, widerOf fa fb) → refused) ∧
         (∀ k < 4, p.srcB = 2 → SMap.get? (s.core h.core.val).stageTags (k * 2 + 1) ≠ some (fb.code, widerOf fa fb) → refused) ∧
         (∀ fd, p.drain = true → fa.isInt = true → fmtOfCode p.drainFmt.toNat = some fd → fd ≠ .int32 → fd ≠ .fp32 → refused))

/-- A matrix instruction that does not drain, alone in the array, with sound operands and no residue mismatch: its quadrants are
finalised one by one, its beats and the instruction are counted, the beats beyond 32 that its operands take at 512 B a beat among them,
its token is signalled, and the array stays at matched current (02 R41, R48, R49, R56, R58, 04 R102).

DRAIN_COMPLETE of an instruction with one plain drain: the tile's bytes stand at its address and no other byte changes, its
events join the core's, the instruction is counted and its token signalled (02 R50, 04 R102, R107).

A quadrant's finalisation gives each of its 64 x 64 cells of the bank named the value of 03 R76 to R79 for its row of the A
share and its row of the B share, carried on from the cell where the part carries; every other cell of both banks stays.
(The model's readings: log 13, 18.) -/
def Obligations.MatrixFinalisesAndDrains : Prop :=
  (∀ (s : State) (core : CoreId) (beats : Beats) (r : MatRun), (s.core core.val).matRun = [r] → r.finalised = false →
     (s.core core.val).matQ = [] → (s.core core.val).hold = .none →
     (∀ w ∈ r.parts.flatMap (partReads r.apart r.head), s.Sound (csBase core.val + w.1 * 8) (w.2 * 8)) →
     (∀ p ∈ r.parts, p.part.drain = false) → s.counting core.val = true →
     exec (.matrixFinalise core false beats) s =
       .next (((quadrantParts r).foldl (fun t x => t.finaliseQuadrant core.val r x.1 x.2) s).modCore core.val fun c =>
         let d := { c with arrayState := 2, matRun := [], counters := { c.counters with
           valid := c.counters.valid + 128
           feed := c.counters.feed + BitVec.ofNat 64 (4 * ((32 * operandDemand r + 511) / 512 - 32) + beats.feed)
           drain := c.counters.drain + BitVec.ofNat 64 beats.drain, power := c.counters.power + BitVec.ofNat 64 beats.power
           dummy := c.counters.dummy + BitVec.ofNat 64 beats.dummy, stopped := c.counters.stopped + BitVec.ofNat 64 beats.stopped
           bankConflict := c.counters.bankConflict + BitVec.ofNat 64 beats.conflict
           matrix := c.counters.matrix + 1 } }
         if r.head.sigEn then d.signal r.head.sigToken.val 1 else d)) ∧
  (∀ (s : State) (core : CoreId) (r : MatRun) (d : DrainOut), (s.core core.val).matRun = [r] → r.finalised = true →
     r.drains = [d] → d.ledger = none → d.scaleLen = 0 → (s.core core.val).matQ = [] → (s.core core.val).hold = .none →
     Completes (.drainComplete core) s fun t =>
       (∀ k, t.readByte k = if d.addr ≤ k ∧ k < d.addr + d.len then SMap.getD d.bytes (k - d.addr) 0 else s.readByte k) ∧
       t.cores = (s.modCore core.val fun c =>
         let e := { c with matRun := [], events := c.events ||| d.events
                           counters := { c.counters with matrix := c.counters.matrix + 1 } }
         if r.head.sigEn then e.signal r.head.sigToken.val 1 else e).cores ∧
       t = { s with mem := t.mem, wordErr := t.wordErr, writeBack := t.writeBack, cores := t.cores }) ∧
  (∀ (s : State) (L q : Nat) (r : MatRun) (p : PartIssue), q < 4 →
     let fa := (headFmts r.head).1
     let fb := (headFmts r.head).2
     let a := s.operandShare L r.apart q 0 fa (widerOf fa fb) p.part.srcA p.da
     let b := s.operandShare L r.apart q 1 fb (widerOf fa fb) p.part.srcB p.db
     let cell : Nat → Nat → Nat := fun i j => (64 * (q / 2) + i) * 128 + 64 * (q % 2) + j
     let bank := if p.part.bank then 16384 else 0
     let t := s.finaliseQuadrant L r q p
     (∀ i < 64, ∀ j < 64, SMap.getD (t.core L).banks (bank + cell i j) 0 =
       (cellValue fa fb r.head.round.toNat
         (if r.head.round = 4 then s.drawAt L r.head.stream.toNat 0 (r.ord * 16384 + cell i j) else 0) a b i j
         (if p.part.carry then some (SMap.getD (s.core L).banks (bank + cell i j) 0) else none)).1) ∧
     (∀ k, (∀ i < 64, ∀ j < 64, k ≠ bank + cell i j) → SMap.getD (t.core L).banks k 0 = SMap.getD (s.core L).banks k 0) ∧
     t = s.setCore L { s.core L with
       banks := (t.core L).banks, stages := (t.core L).stages, events := (t.core L).events })

/-- LEDGER_OPEN and LEDGER_CLOSE issue into the matrix queue while it has a place and behind an earlier instruction of the queue or the
array wait there, with nothing else changed. With the array idle they act at once: the record of 03 R91 stands at the slot's address, with
OPEN set and cleared, and no byte outside its 128 changes. As the queue leaves it, a slot opens only closed and closes only open (04 R119,
R121). -/
def Obligations.LedgerSlotsOpenAndClose : Prop :=
  ∀ (s : State) (core : CoreId) (slot : BitVec 6) (fc : BitVec 4) (fmt : Fmt) (hist : BitVec 5) (margin : BitVec 3)
    (auto : Bool) (applied : Byte), s.Takes core.val →
    let c := s.core core.val
    let open? := c.ledgerView slot.toNat
    let a := csBase core.val + 0xFFE000 + slot.toNat * 0x80
    let length := if hist = 0 then 16 else hist.toNat
    let kept : State → Prop := fun t => t = { s with mem := t.mem, wordErr := t.wordErr, writeBack := t.writeBack, cores := t.cores }
    (open? = none → fmtOfCode fc.toNat = some fmt → ledgerFormat fmt = true → hist.toNat ≤ 16 → applied ≠ 0x80 →
      (c.matQ.length < 16 → (c.matRun ≠ [] ∨ ∃ ap h ps o d rest, c.matQ = .work ap h ps o d :: rest) →
        exec (.ledgerOpen core slot fc hist margin auto applied 0) s = .next (s.retire core.val fun c =>
          { c.advance 1 with matQ := c.matQ ++ [.ledgerOpen slot.toNat fmt length margin.toNat auto applied] })) ∧
      (c.matQ = [] → c.matRun = [] → Completes (.ledgerOpen core slot fc hist margin auto applied 0) s fun t =>
        t.readNat a 2 = 1 ∧ t.readByte (a + 2) = BitVec.ofNat 8 fmt.code ∧ t.readByte (a + 3) = (if auto then 3 else 1) ∧
        t.readNat (a + 4) 1 = length ∧ t.readNat (a + 6) 1 = margin.toNat ∧
        t.readNat (a + 8) 2 = (applied.signExtend 16).toNat ∧ t.readNat (a + 0xA) 2 = (applied.signExtend 16).toNat ∧
        t.readNat (a + 0xC) 4 = 0 ∧ (∀ k, k < a ∨ a + 0x80 ≤ k → t.readByte k = s.readByte k) ∧
        t.cores = (s.retire core.val fun c => { c.advance 1 with ledgers := SMap.put c.ledgers slot.toNat fmt }).cores ∧ kept t)) ∧
    (open? ≠ none →
      (c.matQ.length < 16 → (c.matRun ≠ [] ∨ ∃ ap h ps o d rest, c.matQ = .work ap h ps o d :: rest) →
        exec (.ledgerClose core slot 0) s = .next (s.retire core.val fun c =>
          { c.advance 1 with matQ := c.matQ ++ [.ledgerClose slot.toNat] })) ∧
      (c.matQ = [] → c.matRun = [] → Completes (.ledgerClose core slot 0) s fun t =>
        t.readNat (a + 3) 1 = s.readNat (a + 3) 1 / 2 * 2 ∧ (∀ k, k ≠ a + 3 → t.readByte k = s.readByte k) ∧
        t.cores = (s.retire core.val fun c => { c.advance 1 with ledgers := SMap.erase c.ledgers slot.toNat }).cores ∧ kept t)) ∧
    (open? ≠ none → exec (.ledgerOpen core slot fc hist margin auto applied 0) s = .next (s.raise core.val 0x0501)) ∧
    (open? = none → exec (.ledgerClose core slot 0) s = .next (s.raise core.val 0x0501))

/-! ### Ferry instructions (04 R110 to R116) -/

/-- The four ferry instructions: where the rules of 04 R110 to R112 pass and the port has a place, the transfer joins its port with
the registers captured at issue, STRIDES zero for one row; a doubles part digests it (13 R380); nothing else changes. -/
def Obligations.FerryInstructionsQueue : Prop :=
  ∀ (s : State) (f : FerryF), s.Takes f.core.val →
    let c := s.core f.core.val
    let rn := (c.reg f.rn.val).toNat
    let strides : W64 := if f.rowsM1 = 0 then 0 else c.reg f.rs.val
    let xfer : FerryOp → Nat → Xfer := fun op remote =>
      { op := op, f := f, local0 := (c.reg f.rl.val).toNat % 2 ^ 21, remote := remote, rowBytes := rn, strides := strides }
    let far := (c.reg f.rr.val).toNat % 2 ^ 48
    let good : FerryOp → Xfer → Prop := fun op x =>
      ferryIllegal s op f x rn = false ∧ ferryMisaligned op f x = false ∧ ferryPastEnd x = false ∧
        ((c.port f.port).filter fun y => !y.started).length < 16
    let queued : Xfer → Host.Outcome State Fault Refusal := fun x =>
      .next ((s.absorbFerry x).retire f.core.val fun c => (c.setPort f.port (c.port f.port ++ [x])).advance 2)
    (good .get (xfer .get far) → (∀ w ∈ (xfer .get far).localWords, c.pinned w.1 w.2 = false) →
      exec (.ferryGet f) s = queued (xfer .get far)) ∧
    (good .put (xfer .put far) → exec (.ferryPut f) s = queued (xfer .put far)) ∧
    (good .putReduce (xfer .putReduce far) → exec (.ferryPutReduce f) s = queued (xfer .putReduce far)) ∧
    (good .relayPut (xfer .relayPut ((c.reg f.rr.val).toNat % 1024)) →
      exec (.ferryRelayPut f) s = queued (xfer .relayPut ((c.reg f.rr.val).toNat % 1024)))

/-- SVC 1 is allowed for GET and PUT of at most 4,096 bytes only: any other use is refused with ILLEGAL_INSTRUCTION (04 R112). -/
def Obligations.AssuredFerryLimit : Prop :=
  ∀ (s : State) (f : FerryF), s.Takes f.core.val → f.svc = true →
    let bytes := (f.rowsM1.toNat + 1) * ((s.core f.core.val).reg f.rn.val).toNat
    let refused := Host.Outcome.next (s.raise f.core.val 0x0501)
    (4096 < bytes → exec (.ferryGet f) s = refused ∧ exec (.ferryPut f) s = refused) ∧
      exec (.ferryPutReduce f) s = refused ∧ exec (.ferryRelayPut f) s = refused

/-- FERRY_TRANSFER_COMPLETE of a started transfer whose pieces have all moved: it leaves its port, SIG_TOKEN is signalled by one, an
RSIG waits for the commit, and a RELAY_PUT's source rows are pinned; memory stays (04 R113, R114, 08 R222). A GET whose last piece still
has to cross the core's own slot port takes its bytes first, and no other byte changes (04 R113, 05 R136).

A RELAY_PUT that waits for a credit takes it as it arrives: the reader's first empty slot is written for this sender, the pool holds one
credit less, and its rows leave, piece by piece (02 R66). A contribution that waits at an engine enters its hold once it fits (04 R115).
(The model's readings: log 14, 17.) -/
def Obligations.FerryTransfersMove : Prop :=
  (∀ (s : State) (core : CoreId) (port : Bool) (x : Xfer) (rest : List Xfer), (s.core core.val).port port = x :: rest →
     x.started = true → x.status = 0 → (s.core core.val).hold = .none →
     let left : State → Prop := fun t =>
       t.cores = (s.modCore core.val fun c =>
         let c1 := c.setPort port rest
         let c2 := if x.f.sigEn then c1.signal x.f.sigToken.val 1 else c1
         let c3 := if x.f.rsigEn then { c2 with signals := c2.signals ++ [(x.rsigCore, x.f.rsigToken.val, 1)] } else c2
         if x.op = .relayPut then
           { c3 with pins := c3.pins ++ x.localWords.map fun w => ⟨w.1, w.2, x.peer, x.f.inbox.toNat, x.slot.getD 0⟩ }
         else c3).cores ∧ t.clusters = s.clusters ∧ t.islands = s.islands ∧ t.sched = s.sched
     (x.pieces = [] → (x.op = .relayPut → x.slot.isSome = true) →
       Completes (.ferryTransferComplete core port) s fun t => left t ∧ t.mem = s.mem) ∧
     (∀ (q : Piece), x.op = .get → x.f.core = core → x.f.conv = 0 → x.pieces = [q] → q.via = none → 2 ^ 41 ≤ q.addr →
       let p := ((s.standOf core.val).map Stand.part).getD 0xFFFF
       let at' := csBase core.val + (x.local0 + q.row * x.localStride) * 8 + q.off
       s.accessStatus p q.addr q.n false = 0 → s.accessWaits q.addr q.n false = false → s.pinnedAt at' q.n = false → s.Sound q.addr q.n →
       Completes (.ferryTransferComplete core port) s fun t => left t ∧
         ∀ k, t.readByte k = if at' ≤ k ∧ k < at' + q.n then s.readByte (q.addr + (k - at')) else s.readByte k)) ∧
  ((∀ (s : State) (core : CoreId) (port : Bool) (x : Xfer) (rest : List Xfer) (k : Nat),
     (s.core core.val).port port = x :: rest → x.op = .relayPut → x.started = true → x.slot = none → x.status = 0 → x.f.core = core →
     (∀ y ∈ rest, y.op ≠ .relayPut) → (∀ i < x.rows, s.Sound (x.localAt i) x.rowBytes) →
     let d := x.peer
     let b := (s.core d).inbox x.f.inbox.toNat
     let key := d * 8 + x.f.inbox.toNat
     d ≠ core.val → b.isOpen = true → b.fillSlot = some k → 0 < SMap.getD s.mesh.credits key 0 → x.total ≤ b.slotWords * 8 →
     Completes (.relayCreditArrival core port) s fun t =>
       (∃ ps, (t.core core.val).port port = { x with slot := some k, pieces := ps } :: rest ∧
         ps.map (fun q => (q.row, q.off, q.n)) = x.chunks) ∧
       (t.core d).inbox x.f.inbox.toNat = { b with slots := b.slots.set k (.written core.val x.local0) } ∧
       SMap.getD t.mesh.credits key 0 + 1 = SMap.getD s.mesh.credits key 0 ∧ t.mem = s.mem) ∧
   (∀ (s : State) (site : W16) (c : Contribution), (s.mesh.waiting.filter fun x => x.site == site.toNat) = [c] →
     s.holdAdmits c = true → Completes (.reduceHoldAdmit site) s fun t => s.OnMesh t ∧ t.mesh.holds = s.mesh.holds ++ [c] ∧
       t.mesh.waiting = s.mesh.waiting.filter fun x => x.site != site.toNat))

/-! ### Synchronisation instructions (04 R117) -/

/-- SIGNAL, SIGNAL_REMOTE, TOKEN_TEST and TOKEN_CLEAR act at once: a count that would pass 65,535 stays there with the overflow
flag, a remote signal waits for the commit (a doubles part digests it, 13 R380), the token's word goes to RD, a cleared token counts zero with both flags clear. SIGNAL,
SIGNAL_REMOTE and TOKEN_CLEAR take a place of the synchronisation queue; TOKEN_TEST and WAIT begin after all that stand there, so that it
is empty (04 R101, R117).

WAIT takes COUNT from its token and goes on as soon as the token holds it, at once or, after holding the sequencer, when it is
satisfied; a token in error raises its status; COUNT 0 is refused. With 16 in the queue the sequencer waits (04 R101). -/
def Obligations.TokensAndWaits : Prop :=
  (∀ (s : State) (core : CoreId) (tok r : Reg) (n : W16), s.Takes core.val →
     let k := (s.core core.val).token tok.val
     ((s.core core.val).syncQ < 16 →
       exec (.signal core tok n 0) s = .next (s.retire core.val fun c => { (c.setToken tok.val
           (if 65535 < k.count + n.toNat then { k with count := 65535, overflow := true }
            else { k with count := k.count + n.toNat })).advance 1 with syncQ := c.syncQ + 1 }) ∧
         (let d := ((s.core core.val).reg r.val).toNat % 1024
          exec (.signalRemote core tok r n 0) s = .next ((s.absorbSignal core.val d tok.val n.toNat).retire core.val fun c =>
            { c.advance 1 with signals := c.signals ++ [(d, tok.val, n.toNat)], syncQ := c.syncQ + 1 })) ∧
         exec (.tokenTest core tok r 0) s = .next (s.retire core.val fun c => { (c.setReg r.val (BitVec.ofNat 64
           (k.count + 2 ^ 16 * k.err.toNat + 2 ^ 17 * k.overflow.toNat + 2 ^ 32 * (if k.err then k.status.toNat else 0)))).advance 1 with
           syncQ := 0 }) ∧
         exec (.tokenClear core tok 0) s = .next (s.retire core.val fun c =>
           { (c.setToken tok.val {}).advance 1 with syncQ := c.syncQ + 1 })) ∧
     (16 ≤ (s.core core.val).syncQ → exec (.signal core tok n 0) s = .next s ∧ exec (.signalRemote core tok r n 0) s = .next s ∧
       exec (.tokenTest core tok r 0) s = .next s ∧ exec (.tokenClear core tok 0) s = .next s ∧
       (n ≠ 0 → exec (.wait core tok n 0) s = .next s))) ∧
  (∀ (s : State) (core : CoreId) (tok : Reg) (n : W16),
     let k := (s.core core.val).token tok.val
     let taken := Host.Outcome.next (s.retire core.val fun c =>
       { (c.setToken tok.val { k with count := k.count - n.toNat }).advance 1 with hold := .none, seq := .running, syncQ := 0 })
     (s.Takes core.val → (s.core core.val).syncQ < 16 → n ≠ 0 →
       (k.err = false → n.toNat ≤ k.count → exec (.wait core tok n 0) s = taken) ∧
       (k.err = false → k.count < n.toNat → exec (.wait core tok n 0) s =
         .next (s.modCore core.val fun c => { c with hold := .wait tok.val n.toNat, seq := .waitToken, syncQ := 0 })) ∧
       (k.err = true → exec (.wait core tok n 0) s = .next (s.raise core.val k.status))) ∧
     (s.Takes core.val → exec (.wait core tok 0 0) s = .next (s.raise core.val 0x0501)) ∧
     ((s.core core.val).hold = .wait tok.val n.toNat → s.Counts core.val → k.err = false → n.toNat ≤ k.count →
       exec (.waitSatisfied core) s = taken))

/-- FENCE goes on once the units it selects have nothing left, at once or, after holding the sequencer, when it is satisfied.

INBOX_OPEN in an inbox range of the core's image opens the inbox with all its slots empty and as many credits; INBOX_CLOSE, at
once or held, closes it and takes its credits once no slot is full, taken or written, and the slots freed in this turn are kept for its
commit (04 R117, 02 R66, R67).

INBOX_TAKE, at once or held, takes the next full slot in ring order and gives RD its word address with its sender in [41:32];
INBOX_FREE frees the oldest taken slot and is refused where there is none (04 R117). Those that hold the sequencer begin with the
synchronisation queue empty, the others take a place in it (04 R101). (The model's readings: log 17, 21.) -/
def Obligations.FencesAndInboxes : Prop :=
  (∀ (s : State) (core : CoreId) (units : BitVec 4),
     let c := s.core core.val
     let clear := (units.getLsbD 0 = true → c.matQ = [] ∧ c.matRun = []) ∧ (units.getLsbD 1 = true → c.vecQ = 0) ∧
       (units.getLsbD 2 = true → c.ferry0 = []) ∧ (units.getLsbD 3 = true → c.ferry1 = [])
     let passed := Host.Outcome.next (s.retire core.val fun c => { c.advance 1 with hold := .none, syncQ := 0 })
     (s.Takes core.val → c.syncQ < 16 → clear → exec (.fence core units 0) s = passed) ∧
       (s.Takes core.val → c.syncQ < 16 → ¬ clear →
         exec (.fence core units 0) s = .next (s.modCore core.val fun c => { c with hold := .fence units, syncQ := 0 })) ∧
       (c.hold = .fence units → s.Counts core.val → clear → exec (.fenceSatisfied core) s = passed)) ∧
  (∀ (s : State) (core : CoreId) (i : Fin 8),
     let L := core.val
     let key := L * 8 + i.val
     (∀ (rs : Reg) (slotsM1 : BitVec 6) (sizeM1 : BitVec 10) (im : Image) (rank : Nat), s.Takes L → (s.core L).syncQ < 16 →
       let w := ((s.core L).reg rs.val).toNat % 2 ^ 21
       let words := (sizeM1.toNat + 1) * 512
       slotsM1 ≠ 0 → ((s.core L).inbox i.val).isOpen = false → s.imageOf L = some (im, rank) → w % 512 = 0 →
       w + (slotsM1.toNat + 1) * words ≤ 2 ^ 21 → im.holds rank 2 w ((slotsM1.toNat + 1) * words) = true →
       exec (.inboxOpen core i rs slotsM1 sizeM1 0) s = .next
         { s.retire L (fun c => { (c.setInbox i.val ⟨true, w, words, List.replicate (slotsM1.toNat + 1) .empty, 0, 0⟩).advance 1 with
             syncQ := c.syncQ + 1 }) with
           mesh := { s.mesh with credits := SMap.put s.mesh.credits key (slotsM1.toNat + 1) } }) ∧
     (((s.core L).inbox i.val).clearToClose = true →
       let closed := Host.Outcome.next
         { s.retire L (fun c => { (c.setInbox i.val {}).advance 1 with
             hold := .none, syncQ := 0, closedSlots := c.closedSlots ++ (c.inbox i.val).freedSlots.map fun f => (i.val, f) }) with
           mesh := { s.mesh with credits := SMap.erase s.mesh.credits key } }
       (s.Takes L → (s.core L).syncQ < 16 → ((s.core L).inbox i.val).isOpen = true → exec (.inboxClose core i 0) s = closed) ∧
         ((s.core L).hold = .close i.val → s.Counts L → exec (.inboxCloseSatisfied core) s = closed)) ∧
     (((s.core L).inbox i.val).clearToClose = false → ((s.core L).inbox i.val).isOpen = true → s.Takes L → (s.core L).syncQ < 16 →
       exec (.inboxClose core i 0) s = .next (s.modCore L fun c => { c with hold := .close i.val, syncQ := 0 }))) ∧
  (∀ (s : State) (core : CoreId) (i : Fin 8) (rd : Reg) (snd src : Nat),
     let L := core.val
     let b := (s.core L).inbox i.val
     (b.slots.getD b.nextTake .empty = .full snd src →
       let taken := Host.Outcome.next (s.retire L fun c =>
         { ((c.setInbox i.val { b with
             slots := b.slots.set b.nextTake (.taken snd src), nextTake := (b.nextTake + 1) % b.slots.length }).setReg rd.val
           (BitVec.ofNat 64 (b.base + b.nextTake * b.slotWords + snd * 2 ^ 32))).advance 1 with hold := .none, syncQ := 0 })
       (s.Takes L → (s.core L).syncQ < 16 → b.isOpen = true → exec (.inboxTake core i rd 0) s = taken) ∧
         ((s.core L).hold = .take i.val rd.val → s.Counts L → exec (.inboxTakeSatisfied core) s = taken)) ∧
     ((∀ n m, b.slots.getD b.nextTake .empty ≠ .full n m) → b.isOpen = true → s.Takes L → (s.core L).syncQ < 16 →
       exec (.inboxTake core i rd 0) s = .next (s.modCore L fun c => { c with hold := .take i.val rd.val, syncQ := 0 })) ∧
     (s.Takes L → b.isOpen = true →
       (b.slots.getD b.nextFree .empty = .taken snd src → (s.core L).syncQ < 16 →
         exec (.inboxFree core i 0) s = .next ((s.absorbCredit L snd i.val b.nextFree).retire L fun c => { (c.setInbox i.val { b with
           slots := b.slots.set b.nextFree (.freed snd src), nextFree := (b.nextFree + 1) % b.slots.length }).advance 1 with
           syncQ := c.syncQ + 1 })) ∧
       ((∀ n m, b.slots.getD b.nextFree .empty ≠ .taken n m) → exec (.inboxFree core i 0) s = .next (s.raise L 0x0501))))

/-! ### Turns (04 R119 to R121, 08 R223, R224) -/

/-- TURN_BEGIN at a turn's entry, once no signal of the last commit is on its way to the core (log 102), opens the part's turn at its
operating point and brings each live bank back from the carry area, word by word in row order, counting 64 FEED quadrant-beats for each;
other registers and memory stay (04 R114, R119, R120).

TURN_END of a core whose units are quiet ends its part at once: its live banks stand in the carry area, bank 0 first, no other
byte changes, the next entry is RE or the part's own entry, and SEQ_STATE shows the boundary; with a unit at work the
sequencer is held (04 R119, R120). -/
def Obligations.TurnsBeginAndEnd : Prop :=
  (∀ (s : State) (core : CoreId) (op : BitVec 4), s.coreReady core.val = true → (s.core core.val).inTurn = false →
     s.Counts core.val → op.toNat ≤ 8 → s.tokensDue core.val = [] →
     let c := s.core core.val
     let a := csBase core.val + c.carry * 8
     let a1 := if c.live.getLsbD 0 then a + 65536 else a
     s.Sound a (carryWords c.live * 8) →
     Completes (.turnBegin core op 0) s fun t =>
       (∀ i < 16384, SMap.getD (t.core core.val).banks i 0 =
         if c.live.getLsbD 0 then BitVec.ofNat 32 (s.readNat (a + 4 * i) 4) else SMap.getD c.banks i 0) ∧
       (∀ i < 16384, SMap.getD (t.core core.val).banks (16384 + i) 0 =
         if c.live.getLsbD 1 then BitVec.ofNat 32 (s.readNat (a1 + 4 * i) 4) else SMap.getD c.banks (16384 + i) 0) ∧
       t = s.retire core.val fun c => { c.advance 1 with
         inTurn := true, opPoint := op, banks := (t.core core.val).banks
         counters := { c.counters with feed := c.counters.feed + BitVec.ofNat 64 (64 * (c.live.getLsbD 0).toNat + 64 * (c.live.getLsbD 1).toNat) } }) ∧
  (∀ (s : State) (core : CoreId) (live : BitVec 2) (rc re : Reg), s.Takes core.val →
     let c := s.core core.val
     let w := (c.reg rc.val).toNat % 2 ^ 21
     let a := csBase core.val + w * 8
     let a1 := if live.getLsbD 0 then a + 65536 else a
     let next := if re = 0 then c.entry else (c.reg re.val).toNat % 2 ^ 21
     (live ≠ 0 → carryIllegal s core.val w live = false ∧ w % 512 = 0) → c.syncQ < 16 →
     let quiet := c.matQ = [] ∧ c.matRun = [] ∧ c.vecQ = 0 ∧ c.ferry0 = [] ∧ c.ferry1 = []
     (¬ quiet → exec (.turnEnd core live rc re 0) s =
       .next (s.retire core.val fun c => { c with hold := .turnEnd live w next, syncQ := 0 })) ∧
     (quiet → Completes (.turnEnd core live rc re 0) s fun t =>
       (∀ i < 16384, live.getLsbD 0 = true → t.readNat (a + 4 * i) 4 = (SMap.getD c.banks i 0).toNat) ∧
       (∀ i < 16384, live.getLsbD 1 = true → t.readNat (a1 + 4 * i) 4 = (SMap.getD c.banks (16384 + i) 0).toNat) ∧
       (∀ k, k < a ∨ a + carryWords live * 8 ≤ k → t.readByte k = s.readByte k) ∧
       t.cores = (s.modCore core.val fun c => { c with
         hold := .none, syncQ := 0, seq := .heldBoundary, inTurn := false, live := live, carry := w, nextEntry := next
         attempt := { c.attempt with issued := c.attempt.issued + 1, ended := true } }).cores ∧
       t = { s with mem := t.mem, wordErr := t.wordErr, writeBack := t.writeBack, cores := t.cores }))

/-! ### What happens to a core (02 R58 to R61, 04 R101, R122) -/

/-- A place of a queue comes free: the array takes the matrix instruction at the head and shows valid work, the vector and
synchronisation queues count one less, and a port's first queued transfer starts, its data leaving on the mesh (04 R101, 02 R68).

2 us after its last valid beat an array at matched current begins to ramp down, in 20 steps, and stops after the last;
every quadrant-beat reported counts as DUMMY (02 R58, R60), while its region runs and a slot serves its position (02 R70).

PHASE_HINT passes a good hint to its region, which honours it unless the power-management core restarts, LOAD 0 ending the phase; a LOAD
without a DURATION and a DURATION without a LOAD are refused (04 R119, R122, 12 R357). (The model's readings: log 11, 18.) -/
def Obligations.QueuesArrayAndHints : Prop :=
  (∀ (s : State) (core : CoreId), (s.core core.val).hold = .none →
     exec (.queuePlaceFreed core .vector) s = .next (s.modCore core.val fun c => { c with vecQ := c.vecQ - 1 }) ∧
     exec (.queuePlaceFreed core .sync) s = .next (s.modCore core.val fun c => { c with syncQ := c.syncQ - 1 }) ∧
     (∀ a h ps o d rest, (s.core core.val).matQ = .work a h ps o d :: rest →
       exec (.queuePlaceFreed core .matrix) s = .next (s.modCore core.val fun c =>
         { c with matQ := rest, matRun := c.matRun ++ [⟨a, h, ps, o, d, false, []⟩], arrayState := 1, apart := a, ramp := 0 })) ∧
     (∀ (port : Bool) (x : Xfer) (rest : List Xfer), (s.core core.val).port port = x :: rest → x.started = false → x.op ≠ .relayPut →
       (∀ i < x.rows, s.Sound (x.localAt i) x.rowBytes) →
       Completes (.queuePlaceFreed core (if port then .ferry1 else .ferry0)) s fun t =>
         (∃ ps, t.cores = (s.modCore core.val fun c => c.setPort port ({ x with started := true, peer := 0, pieces := ps } :: rest)).cores ∧
           (s.discards x = false → ps.map (fun q => (q.row, q.off, q.n)) = x.chunks)) ∧
         t = { s with cores := t.cores, mesh := t.mesh, links := t.links, out := t.out, freeCtr := t.freeCtr })) ∧
  (∀ (s : State) (core : CoreId) (n : Nat), s.counting core.val = true →
     let counted : Core → CoreCounters := fun c => { c.counters with dummy := c.counters.dummy + BitVec.ofNat 64 n }
     ((s.core core.val).arrayState = 2 → exec (.dummyGapExpiry core n) s =
       .next (s.modCore core.val fun c => { c with arrayState := 3, ramp := 20, counters := counted c })) ∧
     ((s.core core.val).arrayState = 3 → exec (.rampStep core n) s =
       .next (s.modCore core.val fun c =>
         { c with arrayState := if c.ramp ≤ 1 then 0 else 3, ramp := c.ramp - 1, counters := counted c }))) ∧
  (∀ (s : State) (core : CoreId) (lead : Byte) (dur : W16) (load : BitVec 4), s.Takes core.val → (s.core core.val).syncQ < 16 →
     let took := s.retire core.val fun c => { c.advance 1 with syncQ := c.syncQ + 1 }
     (load ≠ 0 → dur ≠ 0 → s.power.safeFloor = false →
       exec (.phaseHintInstr core lead dur load 0) s =
         .next (took.modCluster (core.val / 12) fun x => { x with
           hint := some ⟨load.toNat, lead.toNat, dur.toNat, some core.val, false⟩
           counters := { x.counters with honoured := x.counters.honoured + 1 } })) ∧
     (load = 0 → dur = 0 → s.power.safeFloor = false → (s.cluster (core.val / 12)).hint = none →
       exec (.phaseHintInstr core lead dur load 0) s =
         .next (took.modCluster (core.val / 12) fun x => { x with
           counters := { x.counters with honoured := x.counters.honoured + 1 } })) ∧
     (∀ h K, load = 0 → dur = 0 → s.power.safeFloor = false → (s.cluster (core.val / 12)).hint = some h → h.core = some K →
       exec (.phaseHintInstr core lead dur load 0) s =
         .next ((took.modCore K fun c => if c.arrayState = 2 then { c with arrayState := 3, ramp := 20 } else c).modCluster
           (core.val / 12) fun x => { x with
             hint := none, counters := { x.counters with honoured := x.counters.honoured + 1 } })) ∧
     ((load = 0 ↔ dur = 0) → s.power.safeFloor = true →
       exec (.phaseHintInstr core lead dur load 0) s =
         .next (took.modCluster (core.val / 12) fun x => { x with
           counters := { x.counters with ignored := x.counters.ignored + 1 } })) ∧
     ((load = 0 ∧ dur ≠ 0 ∨ load ≠ 0 ∧ dur = 0) →
       exec (.phaseHintInstr core lead dur load 0) s = .next (s.raise core.val 0x0501)))

/-- Three events that fail a core (02 R52, R61, 13 R376): a rate of corrected words above the limit, a second unanswered liveness
probe in a row, a residue mismatch. With a reserve slot in the cluster, the lowest-numbered one takes the position, the failed slot
stays out with the ring's skip link around it closed (01 R24), and the core store of the position reads zero (the model's choice for the new
slot, log 31). While a vote's third copy runs on the cluster's one reserve slot, the substitution waits (13 R400).

A liveness probe reaches every served sequencer of a cluster; one left unanswered counts, and the sequencer stays (02 R61). -/
def Obligations.CoreHealth : Prop :=
  (∀ (s : State) (core : CoreId) (n : Nat) (r : MatRun) (beats : Beats) (c : Instr),
     let x := s.cluster (core.val / 12)
     let old := x.map.getD (core.val % 12) 0xF
     c = .correctedRateExceeded core ∨
       (c = .livenessProbeTimeout core ∧ (s.core core.val).probe = true ∧ (s.core core.val).unanswered = 1) ∨
       (c = .matrixFinalise core true beats ∧ (s.core core.val).matRun = [r] ∧ r.finalised = false ∧
         s.wordErr = []) →
     x.lowestReserve = some n → s.thirdRuns (core.val / 12) = false → old ≠ 0xF →
     Completes c s fun t =>
       (t.cluster (core.val / 12)) = { x with
         map := x.map.set (core.val % 12) n, slots := SMap.put (SMap.put x.slots old 3) n 0, reserves := x.reserves - 1
         skips := x.skips ++ [old] } ∧
       (∀ k, csBase core.val ≤ k → k < csBase core.val + 2 ^ 24 → t.readByte k = 0) ∧
       (t.core core.val).inTurn = false ∧ (t.core core.val).seq ≠ .running) ∧
  (∀ (s : State) (core : CoreId),
     let x := s.cluster (core.val / 12)
     s.thirdRuns (core.val / 12) = true → x.reserveSlots.length = 1 → x.map.getD (core.val % 12) 0xF ≠ 0xF → x.failing = [] →
     Completes (.correctedRateExceeded core) s fun t => (∃ cause, t.cluster (core.val / 12) = { x with failing := [(core.val % 12, cause)] }) ∧
       (t.core core.val).inTurn = false ∧ (t.core core.val).seq ≠ .running) ∧
  ((∀ (s : State) (c : ClusterId), Completes (.livenessProbe c) s fun t =>
     (∀ p < 12, (s.cluster c.val).map.getD p 0xF ≠ 0xF →
       t.core (c.val * 12 + p) = { s.core (c.val * 12 + p) with
         probe := true, unanswered := if (s.core (c.val * 12 + p)).probe then 0 else (s.core (c.val * 12 + p)).unanswered }) ∧
     (∀ L, L / 12 ≠ c.val → t.core L = s.core L) ∧ t = { s with cores := t.cores }) ∧
   (∀ (s : State) (core : CoreId), (s.core core.val).probe = true → (s.core core.val).unanswered = 0 →
     exec (.livenessProbeTimeout core) s =
       .next (s.modCore core.val fun k => { k with probe := false, unanswered := 1 })))

/-! ### Jobs and turns (08 R211 to R229, 13 R378 to R382) -/

/-- A part that has ended leaves its rank's generation in the turn shadow and is durable: a new header stands in the generation that the
committed one is not in, and every carried page's place under the new page map holds the page as the core store has it (08 R220, R224);
an attempt at its limit raises TURN_OVERRUN (08 R223); a rebuilt part of a turn under way stands at its committed entry with its committed
registers and is counted as replayed where it had begun (08 R220). -/
def Obligations.PartsEndOverrunAndReplay : Prop :=
  (∀ (s : State) (core : CoreId) (pl : Stand) (im : Image) (j : Job), s.standOf core.val = some pl →
    (s.part pl.part).image = some im → (s.part pl.part).job = some j → j.state = .running →
    let c := s.core core.val
    let ready : Nat → Prop := fun c => s.inService c = true ∧ (s.cluster c).usable = true ∧ s.testing c = false
    (c.attempt.ended = true → c.attempt.durable = false → s.wordErr = [] → s.shadowWaits (s.part pl.part) im j pl.rank core.val = false →
      Completes (.rankDurable core) s fun t => (t.core core.val).attempt.durable = true ∧ t.clusters = s.clusters) ∧
    (c.attempt.rebuild = true → c.attempt.durable = false → (s.cluster (core.val / 12)).region = .running →
      (s.cluster (core.val / 12)).resetting = false → (s.cluster (core.val / 12)).failing = [] → s.testing (core.val / 12) = false →
      s.turnBegun j = false →
      s.wordErr = [] → s.allAnswer = true → (∀ L ∈ j.cores, ready (L / 12)) →
      Completes (.partRebuildDone core) s fun t => let sh := SMap.getD j.shadow pl.rank {}
        (t.core core.val).regs = sh.regs ∧ (t.core core.val).entry = sh.entry ∧ (t.core core.val).attempt.rebuild = false ∧
        (t.core core.val).live = sh.live ∧ (t.core core.val).ledgers = sh.ledgers ∧ ∀ L, L ∉ j.cores → t.core L = s.core L)) ∧
  ∀ (s : State) (core : CoreId) (pl : Stand) (im : Image) (j : Job), s.standOf core.val = some pl → pl.copyB = false →
    (s.part pl.part).image = some im → (s.part pl.part).job = some j → j.state = .running → j.waiting = false →
    let c := s.core core.val
    let x := s.part pl.part
    let sh := SMap.getD j.shadow pl.rank {}
    (c.attempt.ended = true → c.attempt.durable = false → j.req.body.doubles = false → j.req.body.group = false → c.ledgers = [] →
      s.wordErr = [] → s.shadowWaits x im j pl.rank core.val = false →
      Completes (.rankDurable core) s fun t =>
        t.cores = (s.modCore core.val fun c => { c with attempt := { c.attempt with durable := true } }).cores ∧
        ∃ k new, (t.part pl.part).job = some k ∧ k.pendingShadow = SMap.put j.pendingShadow pl.rank new ∧ k.td = j.td ∧
          new.regs = c.regs ∧ new.entry = c.nextEntry ∧ new.inboxes = c.inboxes ∧ new.ledgers = c.ledgers ∧ new.live = c.live ∧
          new.carry = c.carry ∧ new.gen = !sh.gen ∧
          (pl.rank < im.ranks → shadowBytes im.ranks ≤ x.bytes → x.base + x.bytes ≤ 2 ^ 41 → (im.carriedPages pl.rank).length ≤ 512 →
            ∀ n word, (im.carriedPages pl.rank)[n]? = some word → word + 512 ≤ 2 ^ 21 → ∀ b < 4096,
              t.readByte (x.pageAt im.ranks pl.rank (SMap.getD new.gens n false) n + b) = s.readByte (csBase core.val + word * 8 + b))) ∧
    (c.inTurn = true ∨ c.hold ≠ .none → c.attempt.rebuild = false → exec (.turnOverrun core) s = .next (s.raise core.val 0x0503)) ∧
    (c.attempt.rebuild = true → c.attempt.durable = false → (s.cluster (core.val / 12)).region = .running →
      (s.cluster (core.val / 12)).resetting = false → (s.cluster (core.val / 12)).failing = [] → s.testing (core.val / 12) = false →
      s.turnBegun j = true →
      s.wordErr = [] → s.allAnswer = true →
      Completes (.partRebuildDone core) s fun t =>
        (t.core core.val).regs = sh.regs ∧ (t.core core.val).pc = sh.entry ∧ (t.core core.val).seq = .running ∧
        (t.core core.val).inTurn = false ∧ (t.core core.val).attempt.rebuild = false ∧ (t.core core.val).live = sh.live ∧
        (t.core core.val).carry = sh.carry ∧ (t.core core.val).ledgers = sh.ledgers ∧
        (t.core core.val).tokens = tokensFrom c.startTokens ∧ (∀ L, L ∉ j.cores → t.core L = s.core L) ∧
        ∃ k, (t.part pl.part).job = some k ∧
          k.replayedParts = (if c.attempt.again then j.replayedParts + 1 else j.replayedParts) ∧
          k.turnReplays = (if c.attempt.again then j.turnReplays + 1 else j.turnReplays))

/-- A turn whose ranks are all durable commits: T_d and T_s rise by one, the shadow's pending generation becomes the committed one,
and the job completes with its last turn; where every cluster that hosts a rank is in service with its region running and no hold is due it
runs on, and what waited for the commit's memory is served (08 R224, R229). A doubles job commits once its digests have been compared,
and a group's once the master's commit has come (13 R381, 09 R255). A turn that lacks a rank stays.

A backed region takes its master's bytes and nothing else in memory changes; once every fill is complete and the hosting regions
run, the job's ranks stand at the code's entry with empty committed state and the job runs, a group's as soon as it is admitted (05 R149,
08 R211, R227, 09 R253). (The model's readings: log 32.) -/
def Obligations.JobsLoadAndCommit : Prop :=
  (∀ (s : State) (p : PartId) (j : Job), (s.part p.val).job = some j →
     let ready : Nat → Prop := fun c => s.inService c = true ∧ (s.cluster c).region = .running ∧ (s.cluster c).shed = false ∧
       s.testing c = false
     (s.allDurable j = false → exec (.turnCommit p) s = .next s) ∧
     (j.state = .running → s.allDurable j = true → s.sched.restarting = false → (j.req.body.doubles = true → j.compared = true) →
       (j.req.body.group = true → j.go.isSome = true) → s.combineWaits p.val j.td = false →
       ∃ t : State, exec (.turnCommit p) s = .next t.releaseHeld ∧ ((j.td + 1 = j.turns → (s.part p.val).queue = []) →
         ∃ k, (t.part p.val).job = some k ∧ k.td = j.td + 1 ∧ k.ts = j.ts + 1 ∧
         k.pendingShadow = [] ∧ k.shadow.map Prod.fst = j.pendingShadow.map Prod.fst ∧
         (t.part p.val).turnData = j.td + 1 ∧ (t.part p.val).turnStream = j.ts + 1 ∧
         (j.req.body.group = false → j.td + 1 = j.turns → k.state = .completed) ∧
         (j.req.body.group = false → j.td + 1 ≠ j.turns → j.leaseDue = false → j.lost = false → s.host.rollTests = [] →
           (∀ L ∈ j.cores, ready (L / 12)) → k.state = .running)))) ∧
  (∀ (s : State) (p : PartId) (im : Image) (j : Job), (s.part p.val).image = some im → (s.part p.val).job = some j →
     j.state = .loading →
     (∀ (k : Nat) (b : Backed), im.backed[k]? = some b →
       let src := (s.part p.val).base + b.master
       s.Readable src b.length → s.accessWaits src b.length false = false → s.accessWaits b.addr b.length true = false →
       Completes (.backedFillDone p k) s fun t =>
         (∀ a, t.readByte a = if b.addr ≤ a ∧ a < b.addr + b.length then s.readByte (src + (a - b.addr)) else s.readByte a) ∧
         t.part p.val = { s.part p.val with image := some { im with backed := im.backed.set k { b with filled := true } } } ∧
         t.cores = s.cores ∧ t.clusters = s.clusters) ∧
     (s.sched.restarting = false → j.loaded = false → (∀ b ∈ im.backed, b.filled = true) → s.wordErr = [] → s.allAnswer = true →
       (∀ L ∈ j.cores, s.inService (L / 12) = true ∧ (s.cluster (L / 12)).region = .running ∧ (s.cluster (L / 12)).shed = false ∧
         s.testing (L / 12) = false) →
       let stands : State → Job → Prop := fun t k => (t.part p.val).job = some k ∧ k.td = j.td ∧
         k.shadow = (List.range j.placement.length).map (fun r => (r, { entry := im.codeWord })) ∧
         (∀ L ∈ j.cores, (t.core L).entry = im.codeWord) ∧ (j.leaseDue = false → ∀ L, L ∉ j.cores → t.core L = s.core L)
       ((j.req.body.group = true → (s.group j.req.body.groupId).admitted = true) →
         Completes (.jobLoadDone p) s fun t => ∃ k, stands t k ∧ (j.leaseDue = false → k.state = .running) ∧
           (j.leaseDue = true → k.state = .holding ∧ k.holdLease = true)) ∧
       (j.req.body.group = true → (s.group j.req.body.groupId).admitted = false →
         Completes (.jobLoadDone p) s fun t => ∃ k, stands t k ∧ k.state = .loading ∧ k.loaded = true)))

/-- Doubles mode: equal digests of every rank's copies let the turn commit. A third copy that agrees with copy A resolves the vote and
fails copy B's core; one that agrees with copy B, with copy A's addresses, resolves it and fails copy A's core; where it agrees with neither
so, the job holds (13 R381). -/
def Obligations.DoublesCopiesAreCompared : Prop :=
  ∀ (s : State) (p : PartId) (j : Job), (s.part p.val).job = some j → j.state = .running → j.req.body.doubles = true →
    s.sched.restarting = false →
    (s.allDurable j = true → j.compared = false → j.vote = none →
      (∀ r < j.placement.length,
        (s.core (j.placement.getD r 0)).addrDigest = (s.core (j.placementB.getD r 0)).addrDigest ∧
          (s.core (j.placement.getD r 0)).dataDigest = (s.core (j.placementB.getD r 0)).dataDigest) →
      exec (.doublesCompare p) s = .next (s.modJob p.val fun j => { j with compared := true })) ∧
    (∀ (r c n : Nat) (ad dd : BitVec 128), j.vote = some ⟨[r], some c, false, false⟩ → (s.cluster c).failing = [] →
      (∀ k, (s.modJob p.val fun j => { j with vote := none }).thirdRuns k = false) →
      let la := j.placement.getD r 0
      let lb := j.placementB.getD r 0
      let a := (s.core la).addrDigest = leBytes 16 ad.toNat ∧ (s.core la).dataDigest = leBytes 16 dd.toNat
      let b := (s.core lb).addrDigest = leBytes 16 ad.toNat ∧ (s.core lb).dataDigest = leBytes 16 dd.toNat
      let fails : Nat → State → Prop := fun L t => (t.cluster (L / 12)).map = (s.cluster (L / 12)).map.set (L % 12) n
      (a → (s.cluster (lb / 12)).lowestReserve = some n → (s.cluster (lb / 12)).map.getD (lb % 12) 0xF ≠ 0xF →
        Completes (.thirdCopyDone p ad dd) s fun t =>
          (t.part p.val).job = some { j with vote := none, compared := true } ∧ fails lb t) ∧
      (¬ a → b → (s.core la).addrDigest = leBytes 16 ad.toNat → (s.cluster (la / 12)).lowestReserve = some n →
        (s.cluster (la / 12)).map.getD (la % 12) 0xF ≠ 0xF → Completes (.thirdCopyDone p ad dd) s fun t =>
          (∃ k, (t.part p.val).job = some k ∧ k.vote = none ∧ k.compared = true ∧ k.td = j.td) ∧ fails la t) ∧
      (¬ a → ¬ (b ∧ (s.core la).addrDigest = leBytes 16 ad.toNat) → Completes (.thirdCopyDone p ad dd) s fun t =>
        ∃ k, (t.part p.val).job = some k ∧ k.state = .holding ∧ k.holdStatus = true ∧ k.vote = none))

/-! ### Scrubbing and words in error (05 R142 to R152) -/

/-- A scrub of a bank or a slice in which nothing is in error moves its pointer to the next line, counting a pass after the last, and a
reserve slot's pointers move alike; a forced scrub also counts the request that loses its beat; scrubbers of a region that does not run, and
of a lagoon that is not on, stand still (05 R144, R145).

The write-back of a corrected word ends its error; a granule of a backed region takes its master's 64 KiB, counts in
LAGOON_RELOADS and leaves every other byte, and then the requests that waited for it are served (05 R142, R152). (The model's readings: log 41, 107.) -/
def Obligations.ScrubbingAndReloads : Prop :=
  (∀ (s : State) (addr : BitVec 48), s.wordErr = [] →
     (∀ (L w : Nat), placeOf addr.toNat = .coreStore L w →
       let c := L / 12
       let moved : Nat → State := fun slot =>
         let key := slot * 128 + bankOf w
         s.modCluster c fun x => { x with scrub := SMap.set x.scrub key ((SMap.getD (s.cluster c).scrub key 0 + 1) % 2048) 0 }
       let slot := (s.cluster c).map.getD (L % 12) 0xF
       let passed := if SMap.getD (s.cluster c).scrub (slot * 128 + bankOf w) 0 = 2047 then
           (moved slot).countCore L fun k => { k with scrubPasses := k.scrubPasses + 1 }
         else moved slot
       ((s.cluster c).region = .running →
         exec (.scrubLine addr [] none) s = .next passed ∧
         exec (.forcedScrub addr [] true) s = .next (passed.countCore L fun k => { k with bankConflict := k.bankConflict + 1 }) ∧
         ∀ k : Fin 14, (s.cluster c).slotState k.val = 1 → exec (.scrubLine addr [] (some k)) s = .next (moved k.val)) ∧
       ((s.cluster c).region ≠ .running → (∀ k, exec (.scrubLine addr [] k) s = .next s) ∧ exec (.forcedScrub addr [] true) s = .next s)) ∧
     (∀ (i q : Nat), placeOf addr.toNat = .lagoon i q →
       let key := q * 8 + sliceOf (addr.toNat % 2 ^ 26)
       let line := SMap.getD (s.island i).scrub key 0
       let passed := Host.Outcome.next (s.modIsland i fun x => { x with
         scrub := SMap.set x.scrub key ((line + 1) % 65536) 0
         scrubPasses := if line = 65535 then x.scrubPasses + 1 else x.scrubPasses })
       ((s.island i).lagoon = 0 → exec (.scrubLine addr [] none) s = passed ∧ exec (.forcedScrub addr [] false) s = passed) ∧
       ((s.island i).lagoon ≠ 0 → exec (.scrubLine addr [] none) s = .next s))) ∧
  ((∀ (s : State) (addr : BitVec 48), addr.toNat / 8 ∈ s.writeBack →
     exec (.correctedWriteBack addr) s = .next { s with
       wordErr := SMap.erase s.wordErr (addr.toNat / 8), writeBack := s.writeBack.filter fun x => x != addr.toNat / 8 }) ∧
   (∀ (s : State) (addr : BitVec 48) (p : Nat) (b : Backed), s.backedAt addr.toNat = some (p, b) →
     let g := addr.toNat / 65536 * 65536
     let src := (s.part p).base + b.master + (g - b.addr)
     let i := (g - 0x040000000000) / 2 ^ 28
     s.Readable src 65536 → ∃ t : State, exec (.lagoonGranuleReload addr) s = .next t.releaseHeld ∧
       (∀ a, t.readByte a = if g ≤ a ∧ a < g + 65536 then s.readByte (src + (a - g)) else s.readByte a) ∧
       t.island i = { s.island i with
         reloads := (s.island i).reloads + 1, reloading := (s.island i).reloading.filter fun y => y != g } ∧
       t.cores = s.cores))

/-! ### Mesh (07 R184 to R201) -/

/-- Requests at their endpoint (07 R194, R195, R200, R201, 04 R115, R116, 02 R66): READ_REQ sends the bytes back, WRITE and RELAY store
the payload and change no other byte, REDUCE enters its engines' holds or waits for them; each is received and acknowledged, in its class.

One that its window has taken before changes nothing, and is acknowledged again where it was sent again; TARGET_RESETTING leaves it
unreceived, any other refusal does not; one for a region that does not run waits in the node stop's 64 KiB, and past them is answered
busy; one that its memory makes wait is held there; another TYPE is discarded (R185). (The model's readings: log 19, 33.) -/
def Obligations.MeshRequestsAreServedOnce : Prop :=
  ∀ (s : State) (p : MeshPkt),
    let here := s.arrived p
    let taken := (here.receive p).1
    let acked : State → State := fun t => t.answer p 0x06 stOk
    (∀ c ∈ [(Instr.meshReadReq p, 0x01), (.meshWrite p, 0x03), (.meshReduce p, 0x04), (.meshRelay p, 0x05)],
      (p.typ.toNat ≠ c.2 → exec c.1 s = .next here) ∧
      (p.typ.toNat = c.2 → s.orphan p = true → exec c.1 s = .next here) ∧
      (p.typ.toNat = c.2 → s.orphan p = false → s.stale p = true →
        (p.resent = false → exec c.1 s = .next here) ∧
        (p.resent = true → s.hadBefore p = true → s.pendingAt p = false → exec c.1 s = .next (acked here))) ∧
      (p.typ.toNat = c.2 → s.orphan p = false → s.stale p = false →
        (s.requestStatus p = stResetting → exec c.1 s = .next (here.answer p 0x07 stResetting)) ∧
        (s.requestStatus p ≠ stOk → s.requestStatus p ≠ stResetting → exec c.1 s = .next (taken.answer p 0x07 (s.requestStatus p))) ∧
        (∀ a n wr, s.reach p = some (a, n, wr) → s.requestStatus p = stOk →
          (s.targetSleeps a = false → s.requestWaits p = true →
            exec c.1 s = .next { taken with mesh := { taken.mesh with held := taken.mesh.held ++ [p] } }) ∧
          (∀ L w, placeOf a = .coreStore L w → (s.cluster (L / 12)).region ≠ .running → (s.cluster (L / 12)).doze = false →
            let k := (a - 0x050000000000) / 2 ^ 24 / 12
            let ps := SMap.getD s.mesh.ejection k [] ++ [p]
            (ejectedBytes ps ≤ 65536 →
              exec c.1 s = .next { taken with mesh := { taken.mesh with ejection := SMap.put taken.mesh.ejection k ps } }) ∧
            (65536 < ejectedBytes ps → exec c.1 s = .next (here.answer p 0x07 stOk)))))) ∧
    (∀ a n wr, s.reach p = some (a, n, wr) → s.orphan p = false → s.stale p = false → s.requestStatus p = stOk →
      s.targetSleeps a = false → s.requestWaits p = false →
      let lands : State → Prop := fun t => t.cores = s.cores ∧
        ∀ k, t.readByte k = if a ≤ k ∧ k < a + p.payload.length then p.payload.getD (k - a) 0 else s.readByte k
      (p.typ.toNat = 0x01 → s.Readable a n → Completes (.meshReadReq p) s fun t => s.OnMesh t ∧
        t = acked (taken.sendPacket (meshPkt 0x02 p.assuredClass a p.src p.dest p.part 0 (s.viewBytes a n)))) ∧
      (p.typ.toNat = 0x03 → Completes (.meshWrite p) s lands) ∧
      (p.typ.toNat = 0x05 → exec (.meshRelay p) s = .next (acked (taken.writeBytes a p.payload)) ∧ Completes (.meshRelay p) s lands) ∧
      (∀ x q, p.typ.toNat = 0x04 → s.carried p = some (x, q) →
        let cs := (s.bySite a p.payload).map fun e => (⟨e.1, x.f.core.val, s.arch.seat, p.job, p.turn.toNat, x.f.redOp.toNat, e.2,
          p.dest, p.seq⟩ : Contribution)
        let t := cs.foldl State.addContribution taken
        s.OnMesh t ∧ exec (.meshReduce p) s = .next (if t.pendingAt p then t else acked t)))

/-- Answers and notices at their endpoint: READ_DATA lands in the core store of the GET that asked, ACK ends the packet it names and the
piece that it carried, STATUS keeps it for a resend or ends its transfer with the status, TOKEN reaches the core before its turn begins,
CREDIT returns one credit, a PARITY_DELTA is applied once and CONTROL names no memory; each is received once (07 R194 to R201, 04 R113,
R114, R116, 02 R65, R66, 06 R164). (The model's readings: log 19, 33, 102.) -/
def Obligations.MeshAnswersAct : Prop :=
  ∀ (s : State) (p : MeshPkt),
    let here := s.arrived p
    let taken := (here.receive p).1
    (p.typ.toNat = 0x02 → s.stale p = false → ∀ L x q, s.awaiting p = some (L, x, q) →
      s.pinnedAt (x.pieceLocal q).1 (x.pieceLocal q).2 = false →
      let data := if x.f.conv = 2 then unpackSix ((x.pieceLocal q).2 / 4) p.payload else p.payload
      let a := (x.pieceLocal q).1
      Completes (.meshReadData p) s fun t =>
        (∀ k, t.readByte k = if a ≤ k ∧ k < a + data.length then data.getD (k - a) 0 else s.readByte k) ∧
        t.cores = (s.modCore L fun c => c.mapXfers fun y =>
          if y.op = .get ∧ y.f.svc = p.assuredClass then y.without q else y).cores) ∧
    (p.typ.toNat = 0x06 →
      (s.answered p = none → exec (.meshAck p) s = .next here) ∧
      (∀ q L, s.answered p = some q → q ∉ s.mesh.queued → coreOfEndpoint q.src = some L →
        Completes (.meshAck p) s fun t => q ∉ t.mesh.sent ∧ t.mem = s.mem ∧
          t.cores = (s.modCore L fun c => c.mapXfers fun x => if x.op ≠ .get ∧ x.f.svc = q.assuredClass then
            { x with pieces := x.pieces.filter fun r => r.via != some (q.dest, q.seq) } else x).cores)) ∧
    (p.typ.toNat = 0x07 →
      (s.answered p = none → exec (.meshStatus p) s = .next here) ∧
      (∀ q, s.answered p = some q →
        let busy := (q.src, q.dest, q.seq, q.assuredClass)
        let key := (q.src, q.dest, q.seq)
        (p.status = stOk → exec (.meshStatus p) s =
          .next { here with mesh := { here.mesh with busy := s.mesh.busy.filter (· != busy) ++ [busy] } }) ∧
        (p.status = stResetting → q.assuredClass = true → exec (.meshStatus p) s =
          .next { here with mesh := { here.mesh with retry := s.mesh.retry.filter (· != key) ++ [key] } }) ∧
        (∀ L x k, p.status ≠ stOk → (p.status = stResetting → q.assuredClass = false) → coreOfEndpoint q.src = some L →
          s.carried q = some (x, k) → Completes (.meshStatus p) s fun t => t.mem = s.mem ∧
            t.cores = (s.modCore L fun c => c.mapXfers fun y =>
              if (y.pieceOf q).isSome then { y with pieces := [], status := p.status } else y).cores))) ∧
    (s.stale p = false →
      (p.typ.toNat = 0x08 → ∀ L, coreOfEndpoint p.dest = some L →
        Completes (.meshToken p) s fun t => t.mem = s.mem ∧
          ((s.sentPacket p.src p.dest true p.seq.toNat).isSome = true →
            t.cores = (s.modCore L fun c => c.startSignal (p.payloadNat 0 1 % 32) (p.payloadNat 2 2)).cores) ∧
          (s.sentPacket p.src p.dest true p.seq.toNat = none → t.cores = s.cores)) ∧
      (p.typ.toNat = 0x09 → ∀ d, coreOfEndpoint p.src = some d →
        let i := p.payloadNat 1 1 % 8
        let key := d * 8 + i
        let n := SMap.getD s.mesh.credits key 0
        let b := (s.core d).inbox i
        Completes (.meshCredit p) s fun t => s.OnMesh t ∧
          (p.payloadNat 0 1 = 0 → b.isOpen = true → n + b.occupied < b.slots.length → t.mesh.credits = SMap.put s.mesh.credits key (n + 1)) ∧
          (p.payloadNat 0 1 ≠ 0 ∨ b.isOpen = false ∨ b.slots.length ≤ n + b.occupied → t.mesh.credits = s.mesh.credits)) ∧
      (p.typ.toNat = 0x0A →
        let pl := s.granulePlace (p.address / 256 * 256)
        Completes (.parityDelta p) s fun t => t.mem = s.mem ∧ t.cores = s.cores ∧
          (s.gone pl.parityStack pl.ch = true → t.hbm.parity = s.hbm.parity) ∧
          (s.gone pl.parityStack pl.ch = false → ∀ key, SMap.getD t.hbm.parity key 0 = SMap.getD s.hbm.parity key 0 ^^^
            (if pl.stripe * 32 ≤ key ∧ key < pl.stripe * 32 + 32 then leWord ((p.payload.drop (8 * (key - pl.stripe * 32))).take 8) else 0))) ∧
      (p.typ.toNat = 0x0B → Completes (.meshControl p) s fun t => s.OnMesh t ∧ t = taken.answer p 0x06 stOk)) ∧
    (∀ c ∈ [(Instr.meshToken p, 0x08), (.meshCredit p, 0x09), (.parityDelta p, 0x0A), (.meshControl p, 0x0B)],
      (p.typ.toNat ≠ c.2 → exec c.1 s = .next here) ∧
      (p.typ.toNat = c.2 → s.stale p = true →
        (p.resent = false → exec c.1 s = .next here) ∧
        (p.resent = true → s.hadBefore p = true → exec c.1 s = .next (here.answer p 0x06 stOk))))

/-- A packet that no acknowledgement has ended goes again with RESEND set: a bulk one alone, an assured one as both copies, copy A from half
0 and copy B from half 1; one that met a busy or a resetting destination goes again once and is no longer listed (07 R189, R194, R195,
R200, R201). Nothing but the mesh changes. -/
def Obligations.UnansweredPacketsGoAgain : Prop :=
  ∀ (s : State) (src dest : W16) (seq : W32) (q : MeshPkt),
    let again : MeshPkt := { q with flags := q.flags ||| 8 }
    let a := nodeAt src
    let b := nodeAt dest
    let bulk : State → State := fun u => (u.bulkHalf a b).1.launch again (u.bulkHalf a b).2 (u.bulkWay a b (u.bulkHalf a b).2)
    let both : State → State := fun u =>
      (u.launch again false (u.copyWay a b false)).launch { again with flags := again.flags ||| 2 } true (u.copyWay a b true)
    let unlisted : Bool → State := fun cls =>
      { s with mesh := { s.mesh with busy := s.mesh.busy.filter fun x => x != (src, dest, seq, cls) } }
    let unretried : State := { s with mesh := { s.mesh with retry := s.mesh.retry.filter fun x => x != (src, dest, seq) } }
    (s.sentPacket src dest false seq.toNat = some q →
      (Completes (.bulkResendTimeout src dest seq) s fun t => s.OnMesh t ∧ t = bulk s) ∧
      ((src, dest, seq, false) ∈ s.mesh.busy → (src, dest, seq, true) ∉ s.mesh.busy →
        Completes (.busyResend src dest seq) s fun t => s.OnMesh t ∧ t = bulk (unlisted false))) ∧
    (s.sentPacket src dest true seq.toNat = some q →
      (Completes (.assuredResendTimeout src dest seq) s fun t => s.OnMesh t ∧ t = both s) ∧
      ((src, dest, seq, true) ∈ s.mesh.busy → (src, dest, seq, false) ∉ s.mesh.busy →
        Completes (.busyResend src dest seq) s fun t => s.OnMesh t ∧ t = both (unlisted true)) ∧
      ((src, dest, seq) ∈ s.mesh.retry → Completes (.resettingRetry src dest seq) s fun t => s.OnMesh t ∧ t = both unretried)) ∧
    (s.sentPacket src dest false seq.toNat = none → exec (.bulkResendTimeout src dest seq) s = .next s) ∧
    (s.sentPacket src dest true seq.toNat = none → exec (.assuredResendTimeout src dest seq) s = .next s)

/-- Links and router halves (07 R184, R190, R196, R197): a CRC error counts a replay, which the far end sends from its store, and 64
within 1 ms end a half without spares; sixteen within 1 ms pause a seam half for a test, which ends with nothing found, with one
failing wire spared while the group's spare is unused, with the spare used up, or with the half out of service at both ends, as sixteen
replays within 100 ms of a test that found nothing end it; a router half in error leaves all its ports; a detour that makes no cycle of
virtual channel 3 stands and clears BORROWED. -/
def Obligations.LinksAreSparedAndLost : Prop :=
  ∀ (s : State) (node : NodeId) (port : Fin 8) (h : Bool),
    let n := node.val
    let d := port.val
    let x := s.portSet n d
    let now := s.timeBase.toNat
    let lost : State → Prop := fun t => t.mem = s.mem ∧ t.cores = s.cores ∧
      (t.portSet n d).half h = 2 ∧ ∀ m, peerNode n d = some m → (t.portSet m (farPort d)).half h = 2
    (∀ (back : Fin 64), peerNode n d ≠ none → x.half h ≠ 2 →
      let times := ((x.replays h).filter fun t => decide (now - t < 100000000)) ++ [now]
      let few := (times.filter fun t => decide (now - t < 1000000)).length < 64
      let found := ∃ t, x.clean h = some t ∧ now - t < 100000000 ∧ 16 ≤ times.length
      ((isSeam n d = true ∧ ¬ found ∨ isSeam n d = false ∧ few) → exec (.linkCrcError node port h back) s =
        .next ((s.modPort n d fun x => { x.setReplays h times with retries := x.retries + 1 }).emit
          (.transferReplay (unitCode 0x05 n d (if h then 1 else 0)) (s.replayed n d h back.val)))) ∧
      ((isSeam n d = true ∧ found ∨ isSeam n d = false ∧ ¬ few) → Completes (.linkCrcError node port h back) s lost)) ∧
    (peerNode n d ≠ none → isSeam n d = true → x.half h = 0 → 16 ≤ x.recent h now 1000000 → exec (.wireTest node port h) s =
      .next ((s.modLink n d fun x => x.setHalf h 1).modPort n d fun x => { x with wireTests := x.wireTests + 1 })) ∧
    (∀ (pause : W32), x.half h = 1 →
      exec (.wireTestDone node port h [] pause) s =
        .next ((s.modLink n d fun x => x.setHalf h 0).modPort n d fun x => (x.setReplays h []).setClean h (some now)) ∧
      (∀ (g : Fin 32) (w : Fin 130), w.val < 129 → (x.spared h).getLsbD g.val = false → (x.usedSpare h).getLsbD g.val = false →
        g.val * 256 + w.val ∉ x.steered h →
        Completes (.wireTestDone node port h [(g, w)] pause) s fun t =>
          (t.portSet n d).half h = 0 ∧ (t.portSet n d).spared h = x.spared h ||| BitVec.ofNat 32 (2 ^ g.val) ∧
          (t.portSet n d).steered h = x.steered h ++ [g.val * 256 + w.val] ∧ t.mem = s.mem ∧ t.cores = s.cores) ∧
      (∀ (g : Fin 32), (x.spared h).getLsbD g.val = false → Completes (.wireTestDone node port h [(g, 129)] pause) s fun t =>
        (t.portSet n d).half h = 0 ∧ (t.portSet n d).usedSpare h = x.usedSpare h ||| BitVec.ofNat 32 (2 ^ g.val)) ∧
      (∀ (g : Fin 32), (x.spared h).getLsbD g.val = true → peerNode n d ≠ none →
        Completes (.wireTestDone node port h [(g, 129)] pause) s lost) ∧
      (∀ (g : Fin 32) (w v : Fin 130), w.val < 129 → v.val < 129 → w ≠ v → peerNode n d ≠ none → g.val * 256 + w.val ∉ x.steered h →
        g.val * 256 + v.val ∉ x.steered h → Completes (.wireTestDone node port h [(g, w), (g, v)] pause) s lost)) ∧
    ((n, h) ∉ s.mesh.routersOut → Completes (.routerHalfInternalError node h) s fun t =>
      (∀ k < 8, peerNode n k ≠ none → (t.portSet n k).half h = 2) ∧ t.mesh.routersOut = s.mesh.routersOut ++ [(n, h)]) ∧
    (∀ m, peerNode n d = some m → x.half h = 2 → (n, d, h) ∉ s.mesh.detours →
      let u := { s with mesh := { s.mesh with detours := s.mesh.detours ++ [(n, d, h)] } }
      exec (.detourInstall node port h) s =
        .next (if noCycle 800 u.channelDeps then u.modLink n d fun x => { x with borrowed := false } else s))

/-! ### HBM (06 R166 to R175) -/

/-- A channel in service starts a retraining that nothing blocks; success releases it, a first failure tries again at once, a second
retires it. A retired channel stays retired, the fifth of a stack takes the stack out, as a stack fault does (06 R166, R167, R172).
Where a wait ends, the requests that waited are served from the state so reached: `hbmResumes`. -/
def Obligations.HbmChannelsRetrainAndRetire : Prop :=
  ∀ (s : State) (k : StackId) (ch : ChannelId) (trig : Fin 4) (us : W32),
    let x := s.stack k.val
    let others : State → Prop := fun t => t.mem = s.mem ∧ t.cores = s.cores ∧ ∀ i, i ≠ k.val → t.stack i = s.stack i
    let bits : BitVec 32 := x.retired ||| BitVec.ofNat 32 (2 ^ ch.val)
    let few := ((List.range 32).filter fun i => bits.getLsbD i).length < 5
    let retires : State → Prop := fun t => others t ∧ (t.stack k.val).retired = bits ∧
      (few → (t.stack k.val).state = x.state) ∧ (¬ few → (t.stack k.val).state = .lost)
    let resumes : Instr → (State → Prop) → Prop := fun c P => ∃ t, exec c s = .next t.hbmResumes ∧ P t ∧ t.mesh.held = s.mesh.held
    (x.state = .inService → x.retired.getLsbD ch.val = false → s.retrainBlocked k.val ch.val = false →
      exec (.hbmChannelRetrain k ch trig) s = .next (s.modStack k.val fun y => { y with
        retraining := true, retrainCh := ch.val, attempts := 1, trigger := trig.val, retrains := y.retrains + 1 })) ∧
    (x.state = .inService → x.retraining = true →
      resumes (.hbmRetrainComplete k true us) (fun t => others t ∧ t.stack k.val = { x with retraining := false }) ∧
      (x.attempts < 2 → exec (.hbmRetrainComplete k false us) s =
        .next (s.modStack k.val fun y => { y with attempts := 2, retrains := y.retrains + 1 })) ∧
      (2 ≤ x.attempts → x.retrainCh = ch.val → x.retired.getLsbD ch.val = false →
        resumes (.hbmRetrainComplete k false us) fun t => retires t ∧ (t.stack k.val).retraining = false)) ∧
    (x.state ≠ .lost → x.retired.getLsbD ch.val = false → resumes (.hbmUncorrectableRateRetire k ch) retires) ∧
    (∀ cause, x.state ≠ .lost → resumes (.hbmStackFault k cause) fun t =>
      others t ∧ t.stack k.val = { x with state := .lost, retraining := false } ∧ (s.hbm.lost = none → t.hbm.lost = some k.val))

/-- A temperature sets its step at once when it rises, and a step is left only 3 C below its threshold; where a hold ends, what waited is
served. Patrol passes over a sound stripe and corrects one word, or one parity word, of it; a stack in service enters self-refresh, in
harbour after 10 ms without access too, and leaves it; a clear ends with zeros at the two ends of its range and no other byte changed, once
no channel makes it wait (06 R171, R173, R174, R175, R179, 15 R434). (The model's readings: log 43.) -/
def Obligations.HbmHeatPatrolRefreshAndClear : Prop :=
  ∀ (s : State) (k : StackId),
    let x := s.stack k.val
    (∀ (c : Byte),
      let step := if c.toNat < 85 then 0 else if c.toNat < 95 then 1 else if c.toNat < 100 then 2 else 3
      ∃ v : BitVec 2, let t := s.modStack k.val fun y => { y with temp := c, thermal := v }
        exec (.hbmTempRead k c) s = .next (if x.thermal = 3 ∧ v ≠ 3 then t.hbmResumes else t) ∧
        (x.thermal.toNat ≤ step → v.toNat = step) ∧ step ≤ v.toNat ∧ (step ≤ x.thermal.toNat → v.toNat ≤ x.thermal.toNat) ∧
        (x.thermal = 1 → 82 < c.toNat → c.toNat < 85 → v = 1) ∧ (c.toNat ≤ 82 → v = 0) ∧
        (x.thermal = 2 → 92 < c.toNat → c.toNat < 95 → v = 2) ∧ (x.thermal = 3 → 97 < c.toNat → c.toNat < 100 → v = 3)) ∧
    (∀ (stripe : Nat) (u : Upset), x.state = .inService → x.retraining = false → x.thermal ≠ 3 → s.shareWritten k.val stripe = true →
      s.wordErr = [] → u.fold = false → 0 < u.bits → u.bits ≤ 2 →
      (s.hbm.mode = true → exec (.hbmPatrol k stripe []) s = .next s ∧
        (u.word < 512 → s.stripeWord stripe u.word * 8 < 2 ^ 41 → (s.granulePlace (s.stripeWord stripe u.word * 8)).stack = k.val →
          x.retired.getLsbD (channelOf stripe) = false →
          exec (.hbmPatrol k stripe [u]) s = .next (s.modStack k.val fun y => { y with corrected := y.corrected + 1 }))) ∧
      (s.hbm.mode = false → s.hbm.parityErr = [] →
        (∀ n < 32, (List.range 15).foldl (fun acc j => acc ^^^ s.readWord (s.granuleAddr stripe j + 8 * n)) 0 = s.parityWord stripe n) →
        (Completes (.hbmPatrol k stripe []) s fun t => t.mem = s.mem ∧ t.hbm = s.hbm ∧ ∀ i, t.stack i = s.stack i) ∧
        (480 ≤ u.word → u.word < 512 → s.patrolsParity stripe = true → Completes (.hbmPatrol k stripe [u]) s fun t =>
          t.mem = s.mem ∧ t.hbm = s.hbm ∧ ∀ i, t.stack i =
            if i = parityStackOf stripe then { s.stack i with corrected := (s.stack i).corrected + 1 } else s.stack i))) ∧
    (x.state = .inService →
      let entered := Host.Outcome.next (s.modStack k.val fun y => { y with state := .selfRefresh })
      exec (.hbmSelfRefreshEntry k) s = entered ∧ (s.chassis.mode = 3 → exec (.harbourStackIdle k) s = entered)) ∧
    (x.state = .selfRefresh → exec (.hbmSelfRefreshExit k) s = .next (s.modStack k.val fun y => { y with state := .inService }).releaseHeld) ∧
    (∀ (p : PartId), (s.part p.val).hbmClearing = true →
      let ends := s.rangeEnds (s.part p.val).base (s.part p.val).bytes
      ((∀ e ∈ ends, s.hbmWaits e.1 e.2 true = false) → Completes (.hbmClearDone p) s fun t =>
        (∀ a, t.readByte a = if ends.any (fun e => decide (e.1 ≤ a) && decide (a < e.1 + e.2)) then 0 else s.readByte a) ∧
        t.part p.val = { s.part p.val with hbmClearing := false, image := none } ∧ t.cores = s.cores) ∧
      ((∃ e ∈ ends, s.hbmWaits e.1 e.2 true = true) → exec (.hbmClearDone p) s = .next s))

/-! ### Strait links and the archipelago (09) -/

/-- The links between modules (09 R236 to R242, R247, R252): an engine in service counts and reports the first bad flit and discards the rest,
replays from the one that the far end misses, and keeps its measured delay; a lane that fails pauses its link, and the pause ends with the
spare in its place, with a lane less, or with the engine out of service below four; a trained engine enters service with at least
four lanes, the peer of R241 and a peer's identity that is known and signed, and stays out of it otherwise, its whole trunk where the
identity fails. (The model's readings: log 46, 110, 115.) -/
def Obligations.StraitLinksAndLanes : Prop :=
  ∀ (s : State) (e : EngineId),
    let x := s.engine e.val
    let still : State → Prop := fun t => t.mem = s.mem ∧ t.cores = s.cores
    (x.state = 2 →
      (∀ f : Flit, x.missing = none → Flit.bad f x.expect = true → exec (.flitCrcError e f) s =
        .next ((s.modEngine e.val fun y => { y with retries := y.retries + 1, missing := some x.expect }).emit
          (.linkReplay (unitCode 0x0B e.val 0 0 ||| (x.expect.zeroExtend 64 <<< 32))))) ∧
      (∀ f : Flit, x.missing ≠ none → exec (.flitCrcError e f) s = .next s) ∧
      (∀ missing, exec (.linkControlFlit e missing) s = .next (s.emit (.flits e.val (x.store.dropWhile fun f => f.seq != missing)))) ∧
      (∀ tenths : W64, exec (.linkDelayMeasure e tenths) s = .next (s.modEngine e.val fun y => { y with delay := tenths.toNat })) ∧
      (∀ lane : Fin 9, x.laneUse.getLsbD lane.val = true → lane.val ∉ x.paused → exec (.laneFailure e lane) s =
        .next (s.modEngine e.val fun y => { y with
          paused := y.paused ++ [lane.val], good := y.good &&& ~~~(BitVec.ofNat 9 (2 ^ lane.val)) }))) ∧
    (Completes (.lanePauseEnd e) s fun t => still t ∧ (t.engine e.val).paused = [] ∧ (t.engine e.val).waiting = [] ∧
      ∀ lane : Fin 9, x.state = 2 → x.paused = [lane.val] →
        let left := x.laneUse &&& ~~~(BitVec.ofNat 9 (2 ^ lane.val))
        let spare := (List.range 9).find? fun l => !x.laneUse.getLsbD l && x.good.getLsbD l
        (∀ l, x.width = 8 → spare = some l → (t.engine e.val).laneUse = left ||| BitVec.ofNat 9 (2 ^ l) ∧ (t.engine e.val).state = 2) ∧
        (x.width ≠ 8 ∨ spare = none →
          (4 ≤ ({ x with laneUse := left } : Engine).width → (t.engine e.val).laneUse = left ∧ (t.engine e.val).state = 2) ∧
          (({ x with laneUse := left } : Engine).width < 4 → (t.engine e.val).laneUse = 0 ∧ (t.engine e.val).state = 3))) ∧
    (∀ (peerSeat : Fin 64) (peerEngine : Fin 24) (serial : BitVec 128) (signed : Bool) (trunk ps pe : Nat),
      s.arch.trunkOf e.val = some (trunk, ps, pe) → x.state ≠ 2 →
      let good := s.lanesLogged e.val
      let wide := 4 ≤ ({ x with laneUse := firstEight good } : Engine).width
      let known := signed = true ∧ s.knownPeer peerSeat.val serial = true
      (ps = peerSeat.val → pe = peerEngine.val → known →
        (wide → Completes (.engineLinkUp e peerSeat peerEngine serial signed) s fun t => still t ∧
          (t.engine e.val).state = 2 ∧ (t.engine e.val).laneUse = firstEight good ∧ (t.engine e.val).good = good ∧
          (t.engine e.val).trunk = trunk ∧ (t.engine e.val).peerSeat = ps ∧ (t.engine e.val).peerEngine = pe ∧
          (s.arch.state ≠ 1 → s.arch.state ≠ 3 → ∀ i, i ≠ e.val → t.engine i = s.engine i)) ∧
        (¬ wide → Completes (.engineLinkUp e peerSeat peerEngine serial signed) s fun t => still t ∧
          (t.engine e.val).state = 3 ∧ (t.engine e.val).laneUse = 0)) ∧
      (ps = peerSeat.val → pe = peerEngine.val → ¬ known → Completes (.engineLinkUp e peerSeat peerEngine serial signed) s fun t => still t ∧
        ∀ k < 24, (s.arch.trunkOf k).map Prod.fst = some trunk → (t.engine k).state = 3 ∧ (t.engine k).laneUse = 0) ∧
      ((ps ≠ peerSeat.val ∨ pe ≠ peerEngine.val) → Completes (.engineLinkUp e peerSeat peerEngine serial signed) s fun t => still t ∧
        (t.engine e.val).state = 3 ∧ (t.engine e.val).laneUse = 0))

/-- Packets that reach their seat (09 R243 to R245, R257 to R259, R265): DATA lands at its offset in the group's partition and changes no other
byte; REDUCE waits for the member's other partial blocks, and with the last one the combined block goes on to the next seat or lands at
its place; ACK and a busy STATUS end the packet they name, and any other STATUS ends its turn's collectives. One of another TYPE is
discarded, one for another seat goes on, one of a turn that this member has yet to commit is left for its resend, one refused is answered
with its status; one not acknowledged goes again. (The model's readings: log 19, 22.) -/
def Obligations.StraitPacketsMoveBlocks : Prop :=
  (∀ (s : State) (e : EngineId) (p : StraitPkt), s.arch.topology ≠ 0 → (s.engine e.val).state = 2 →
    let here := s.straitArrive e.val p
    let mine := p.destSeat.toNat = s.arch.seat
    let lands : Nat → List Byte → State → Prop := fun a data t => t.cores = s.cores ∧
      ∀ k, t.readByte k = if a ≤ k ∧ k < a + data.length then data.getD (k - a) 0 else s.readByte k
    (∀ c ∈ [(Instr.straitData e p, 0x01), (.straitAck e p, 0x02), (.straitReduce e p, 0x03), (.straitStatus e p, 0x09),
        (.membership e p (.join 0), 0x04), (.paceTime e p 0 0 [], 0x05), (.paceReport e p [], 0x06), (.journalMirror e p [], 0x08),
        (.straitCommit e p (.snapshotRequest 0 0), 0x07), (.mirrorAck e p 0, 0x02)],
      (p.typ.toNat ≠ c.2 → exec c.1 s = .next here) ∧
      (p.typ.toNat = c.2 → ¬ mine → exec c.1 s = .next (here.forward e.val p))) ∧
    (mine → ∀ c ∈ [(Instr.straitData e p, 0x01), (.straitReduce e p, 0x03)], p.typ.toNat = c.2 →
      (s.tooEarly p.groupId p.turn.toNat = true → exec c.1 s = .next here) ∧
      (s.tooEarly p.groupId p.turn.toNat = false → (here.straitFresh p).2 = true →
        let st := s.straitStatusOf p.groupId p.addr.toNat p.data.length
        st ≠ stOk → ∃ node, exec c.1 s = .next ((here.straitFresh p).1.straitAnswer node p 0x09 st))) ∧
    (mine → s.tooEarly p.groupId p.turn.toNat = false → (here.straitFresh p).2 = true → ∀ k, s.groupHome p.groupId = some k →
      s.straitStatusOf p.groupId p.addr.toNat p.data.length = stOk →
      (p.typ.toNat = 0x01 → Completes (.straitData e p) s (lands ((s.part k).base + p.addr.toNat) p.data)) ∧
      (∀ c h, p.typ.toNat = 0x03 → s.reductionAt p.groupId p.turn.toNat p.addr.toNat (s.groupMapOf k) false = some (c, h) →
        let feeders := s.arch.feeders (s.groupMapOf k) h s.arch.seat
        let b : PartialBlock := ⟨p.addr.toNat, p.srcSeat.toNat, e.val, p.data⟩
        let data := combineBlock c.desc.red (s.readBytes ((s.part k).base + p.addr.toNat) p.data.length) p.data
        ((∃ f ∈ feeders, f ≠ p.srcSeat.toNat ∧ ∀ y ∈ c.arrived, y.addr = p.addr.toNat → y.seat ≠ f) →
          Completes (.straitReduce e p) s fun t => t.mem = s.mem ∧ t.cores = s.cores ∧
            t.arch.collectives = s.arch.collectives.map fun y => if y = c then { c with arrived := c.arrived ++ [b] } else y) ∧
        (feeders = [p.srcSeat.toNat] → (∀ y ∈ c.arrived, y.addr ≠ p.addr.toNat) →
          (∀ d, s.arch.onward (s.groupMapOf k) h s.arch.seat = some d → Completes (.straitReduce e p) s fun t =>
            t.mem = s.mem ∧ t.cores = s.cores ∧
            ∃ q ∈ t.arch.sent, q.2.typ = 0x03 ∧ q.2.destSeat = BitVec.ofNat 8 d ∧ q.2.addr = BitVec.ofNat 64 p.addr.toNat ∧ q.2.data = data) ∧
          (s.arch.onward (s.groupMapOf k) h s.arch.seat = none → Completes (.straitReduce e p) s
            (lands ((s.part k).base + (c.desc.placeOf s.arch.size h + (p.addr.toNat - (c.desc.src + h.off)))) data))))) ∧
    (mine → p.typ.toNat = 0x02 → exec (.straitAck e p) s = .next (here.straitDone p)) ∧
    (∀ q, mine → p.typ.toNat = 0x09 → (s.arch.sent.find? fun q => q.2.destSeat == p.srcSeat &&
        q.2.flags.getLsbD 0 == p.flags.getLsbD 0 && q.2.seq == p.seq) = some q →
      (p.status = stOk → exec (.straitStatus e p) s = .next (here.straitDone p)) ∧
      (p.status ≠ stOk → exec (.straitStatus e p) s =
        .next ((here.straitDone p).failCollectives q.2.groupId q.2.turn.toNat p.status)))) ∧
  (∀ (s : State) (dest : Fin 64) (seq : W32) (q : Nat × StraitPkt),
    let sent : Bool → Option (Nat × StraitPkt) := fun cls =>
      s.arch.sent.find? fun q => q.2.destSeat.toNat == dest.val && q.2.flags.getLsbD 0 == cls && q.2.seq == seq
    (sent false = some q → exec (.straitBulkResend dest seq) s = .next (s.leaveStrait q.1 { q.2 with flags := q.2.flags ||| 4 })) ∧
    (sent true = some q → exec (.straitAssuredResend dest seq) s = .next (s.leaveStrait q.1 q.2)))

/-- Membership, time and pace: the master takes a joining seat and tells every member, the election makes the lowest eligible seat
master, lost seats leave the map while the rest may go on and isolate this module where it may not, a leaving seat leaves it as planned; a
member follows the map, the set points and, by at most 200 ns a message, the time that the master sends, and reports its pace
(09 R247 to R254). (The model's readings: log 23, 24.) -/
def Obligations.MembershipTimeAndPace : Prop :=
  ∀ (s : State),
    let still : State → Prop := fun t => t.mem = s.mem ∧ t.nv = s.nv
    let own := BitVec.ofNat 64 (2 ^ s.arch.seat)
    (∀ (e : EngineId) (p : StraitPkt), s.arch.topology ≠ 0 → (s.engine e.val).state = 2 → p.destSeat.toNat = s.arch.seat →
      ((s.straitArrive e.val p).straitFresh p).2 = true →
      (p.typ.toNat = 0x04 →
        (∀ seat : Fin 64, s.arch.state = 2 → s.arch.role = 3 → s.arch.members.getLsbD seat.val = false →
          let members := s.arch.members ||| BitVec.ofNat 64 (2 ^ seat.val)
          Completes (.membership e p (.join seat)) s fun t => still t ∧
            t.arch.members = members ∧ t.arch.epoch = s.arch.epoch + 1 ∧
            (t.arch.master, t.arch.deputy) = (s.arch.elect members).getD (s.arch.master, s.arch.deputy) ∧
            ∀ k ∈ seatsOf members, k ≠ s.arch.seat → .membership k (t.arch.mapNote false) ∈ t.out) ∧
        (∀ (m : W64) (ep : W16) (ma de : Fin 64) (planned : Bool), m.getLsbD s.arch.seat = true →
          Completes (.membership e p (.map m ep ma de planned)) s fun t => still t ∧
            t.arch.state = (if s.arch.state = 1 ∧ s.start.ready = false then 1 else 2) ∧
            t.arch.members = m ∧ t.arch.epoch = ep ∧ t.arch.master = ma.val ∧ t.arch.deputy = de.val ∧
            t.arch.role = (if s.arch.seat = ma.val then 3 else if s.arch.seat = de.val then 2 else 1)) ∧
        (∀ seat : Fin 64, s.arch.members.getLsbD seat.val = true → seat.val ≠ s.arch.seat →
          s.arch.decides (s.arch.members &&& ~~~(BitVec.ofNat 64 (2 ^ seat.val))) = true →
          Completes (.membership e p (.leave seat)) s fun t => still t ∧ t.arch.epoch = s.arch.epoch + 1 ∧
            t.arch.members = s.arch.members &&& ~~~(BitVec.ofNat 64 (2 ^ seat.val)))) ∧
      (∀ (mt hops : W64), p.typ.toNat = 0x05 → p.srcSeat.toNat = s.arch.master →
        let off := (s.timeBase - mt) * 10 - (BitVec.ofNat 64 (s.engine e.val).delay + hops)
        (Completes (.paceTime e p mt hops []) s fun t => still t ∧ t.arch.timeOffset = off ∧
          t.timeBase = s.timeBase + BitVec.ofNat 64 (min 200 (if off.toInt < 0 then (-off.toInt).toNat / 10 else 0)) ∧
          t.arch.slew = min 200 (if off.toInt < 0 then 0 else off.toNat / 10)) ∧
        (∀ (g : W32) (v : W16), (s.groupPart g).isSome = true → (∀ k j, (s.part k).job = some j → j.lost = false) →
          Completes (.paceTime e p mt hops [(g, v)]) s fun t => still t ∧ t.group g = { s.group g with setPoint := some v.toNat })) ∧
      (∀ (g : W32) (pace : W16), p.typ.toNat = 0x06 → s.arch.role = 3 → Completes (.paceReport e p [(g, pace)]) s fun t => still t ∧
        (t.group g).pace = SMap.put (s.group g).pace p.srcSeat.toNat pace.toNat ∧
        ∃ low v, (t.group g).setPoint = some v ∧ (∀ q ∈ (t.group g).pace, low ≤ q.2) ∧ (∃ q ∈ (t.group g).pace, low = q.2) ∧
          v ≤ low ∧ (v = low ∨ (s.group g).setPoint = some v) ∧
          (seatsOf (s.group g).map ≠ [] → (∀ k ∈ seatsOf (s.group g).map, (SMap.get? (t.group g).pace k).isSome = true) → v = low))) ∧
    (s.arch.state = 1 →
      let members := s.arch.members ||| own
      (∀ d, s.arch.elect members = some (s.arch.seat, d) → Completes .joinElectionTimeout s fun t => still t ∧
        t.arch.members = members ∧ t.arch.master = s.arch.seat ∧ t.arch.deputy = d ∧ t.arch.role = 3 ∧
        t.arch.epoch = s.arch.epoch + 1 ∧ t.arch.state = (if s.start.ready then 2 else 1)) ∧
      ((∀ d, s.arch.elect members ≠ some (s.arch.seat, d)) →
        exec .joinElectionTimeout s = .next { s with arch := { s.arch with members := members, electing := true } })) ∧
    (∀ (seat : Fin 64) (unheard : W64), s.arch.state = 2 → s.arch.members.getLsbD seat.val = true → seat.val ≠ s.arch.seat →
      let same := (s.arch.lossFrom.map fun t => decide (s.timeBase.toNat - t < 50000000)).getD false
      let noted : Arch := if same then s.arch else { s.arch with
        prevMembers := s.arch.members, prevMaster := s.arch.master, prevDeputy := s.arch.deputy, lossFrom := some s.timeBase.toNat }
      let side := s.arch.members &&& ~~~((unheard ||| BitVec.ofNat 64 (2 ^ seat.val)) &&& s.arch.members &&& ~~~own)
      let on := goesOn noted.prevMembers side noted.prevMaster noted.prevDeputy
      (on = false → Completes (.memberLossTimeout seat unheard) s fun t => still t ∧
        t.arch.members = side ∧ t.arch.state = 3 ∧ t.arch.role = 0 ∧ t.arch.epoch = s.arch.epoch) ∧
      (on = true → s.arch.decides side = true → Completes (.memberLossTimeout seat unheard) s fun t => still t ∧
        t.arch.members = side ∧ t.arch.state = 2 ∧ t.arch.epoch = s.arch.epoch + 1) ∧
      (on = true → s.arch.decides side = false → exec (.memberLossTimeout seat unheard) s = .next { s with arch := noted })) ∧
    (s.arch.state = 2 → s.arch.role ≠ 3 → Completes .paceReportTick s fun t => still t ∧
      .paceReport s.arch.master (s.homeGroups.map fun e => (e.1, BitVec.ofNat 16 (s.sustained e.2))) ∈ t.out) ∧
    (s.arch.role = 3 → Completes .paceTimeTick s fun t => still t ∧ ∀ k ∈ s.otherSeats,
      .paceTime k s.timeBase (s.arch.groups.filterMap fun e =>
        e.2.setPoint.map fun x => (BitVec.ofNat 32 e.1, BitVec.ofNat 16 x)) ∈ t.out)

/-- Group commits, mirrors and collectives: a durable notice counts at the master, and the last one of the map decides the turn and tells
every member; the deputy keeps the decision, and a commit frees the member's turn; the holder keeps the last 131,072 entries of a
seat, an acknowledgement ends the wait of its entry, and a collective that completes leaves the list, holding its job where it failed;
5 ms without the mirror's answer a removal goes on (09 R255, R258, R260, R265, 13 R398, 16 R454). -/
def Obligations.GroupCommitsAndMirrors : Prop :=
  (∀ (s : State) (e : EngineId) (p : StraitPkt), s.arch.topology ≠ 0 → (s.engine e.val).state = 2 → p.destSeat.toNat = s.arch.seat →
    (p.typ.toNat = 0x07 → ((s.straitArrive e.val p).straitFresh p).2 = true →
      (∀ (seat : Fin 64) (g : W32) (map turn : W64) (d : BitVec 128), s.arch.role = 3 →
        (∀ x, (s.group g).decided = some x → x.1 ≠ turn.toNat ∨ seat.val = s.arch.seat) →
        let durable := SMap.put (s.group g).durable seat.val (turn.toNat, d)
        let all := seatsOf map ≠ [] ∧ ∀ k ∈ seatsOf map, ((SMap.get? durable k).map fun x => x.1) = some turn.toNat
        (¬ all → Completes (.straitCommit e p (.durable seat g map turn d)) s fun t =>
          t.group g = { s.group g with map := map, durable := durable } ∧ t.mem = s.mem ∧ t.sched = s.sched) ∧
        (all → Completes (.straitCommit e p (.durable seat g map turn d)) s fun t => t.mem = s.mem ∧
          ∃ mm, (t.group g).decided = some (turn.toNat, mm) ∧ (t.group g).durable = [] ∧
            (mm = true ↔ ∃ x ∈ durable, ∃ y ∈ durable, x.2.2 ≠ y.2.2) ∧
            ∀ k ∈ seatsOf map, k ≠ s.arch.seat → .commit k (.commit g turn mm) ∈ t.out)) ∧
      (∀ (g : W32) (turn : W64) (mm : Bool) (k : Nat) (j : Job), s.groupPart g = some k → (s.part k).job = some j →
        j.td = turn.toNat → j.go = none → s.allDurable j = false →
        Completes (.straitCommit e p (.commit g turn mm)) s fun t =>
          (t.part k).job = some { j with go := some mm, waiting := false } ∧ (t.group g).held = [] ∧ t.mem = s.mem) ∧
      (∀ (g : W32) (turn map : W64) (mm : Bool), Completes (.straitCommit e p (.decision g turn mm map)) s fun t => t.mem = s.mem ∧
        t.sched = s.sched ∧ t.group g = { s.group g with decided := some (turn.toNat, mm), map := map }) ∧
      (∀ (seat : Fin 64) (g : W32), s.arch.role = 3 → Completes (.straitCommit e p (.snapshotRequest seat g)) s fun t => t.mem = s.mem ∧
        t.sched = s.sched ∧ t.group g = { s.group g with snapAsked := (s.group g).snapAsked ++ [seat.val] })) ∧
    (∀ entry, p.typ.toNat = 0x08 → ((s.straitArrive e.val p).straitFresh p).2 = true →
      Completes (.journalMirror e p entry) s fun t => t.mem = s.mem ∧
        let ring := SMap.getD s.arch.mirrors p.srcSeat.toNat [] ++ [entry]
        SMap.getD t.arch.mirrors p.srcSeat.toNat [] = ring.drop (ring.length - 131072)) ∧
    (∀ n : W64, p.typ.toNat = 0x02 → s.chassis.leaving ≠ some n.toNat → Completes (.mirrorAck e p n) s fun t => t.mem = s.mem ∧
      t.arch.mirrorWait = s.arch.mirrorWait.filter (fun k => k != n.toNat) ∧
      t.host.delayed = s.host.delayed.filter (fun d => t.arch.mirrorWait.contains d.1))) ∧
  (∀ (s : State) (g : W32) (c : Collective) (k : Nat) (j : Job) (slot : Byte) (turn : W64) (st : W16),
    (s.arch.collectives.find? fun c => c.group == g && c.turn == turn.toNat && c.slot == slot.toNat) = some c →
    s.groupPart g = some k → (s.part k).job = some j →
    Completes (.collectiveComplete g turn slot st) s fun t => t.arch.collectives = s.arch.collectives.filter (fun x => x != c) ∧
      (st ≠ stOk → (∃ j, (t.part k).job = some j ∧ j.state = .holding ∧ j.reason = 2) ∧
        (j.holdStatus = false → (t.part k).lastStatus = st))) ∧
  (∀ (s : State), s.chassis.removal = 1 → exec .mirrorWaitExpiry s = .next { s with
    chassis := { s.chassis with removal := 2, removing := true, leaving := none }, host := { s.host with staging := none } })

/-! ### Hosts (10) -/

/-- Datagrams and handshakes: a datagram that its checks refuse is dropped and counted, a good one counts and renews its session's
lease; HELLO opens a handshake with the transcript and the keys of R273 and answers it, and answers the same nonce alike; HOST_AUTH with a
key of the image and a signature that verifies opens the session under its provisional ID with the keys of R273 and the features that
request and key share, and none where it does not verify, each answered by SESSION_READY; RESUME with the session's token moves it to the new keys; two seconds end a
handshake (10 R269 to R275, R278, R283, R286). (The model's readings: log 8, 55.) -/
def Obligations.HandshakesOpenSessions : Prop :=
  ∀ (s : State) (hs : W64) (h : Handshake) (a : HostAuth) (k : HostKey),
    let still : State → Prop := fun t => t.mem = s.mem ∧ t.cores = s.cores ∧ t.nv = s.nv ∧ t.sched = s.sched
    (∀ (port : Fin 2) (sid seq : W64) (kind : Byte) (i n : W16) (copy ok : Bool) (data : List Byte), s.hears = true →
      let refused := s.datagramOk sid seq kind.toNat i.toNat n.toNat data.length ok = false
      (refused → exec (.datagramReceive port sid seq kind i n copy ok data) s =
        .next (s.modHostPort port.val fun h => { h with drops := h.drops + 1 })) ∧
      (¬ refused → Completes (.datagramReceive port sid seq kind i n copy ok data) s fun t => still t ∧
        (t.hostPort port.val).rx = (s.hostPort port.val).rx + 1 ∧
        ∀ x, s.session? sid = some x → t.session? sid = some { x with
          port := port.val, leaseFrom := if x.held then x.leaseFrom else s.timeBase.toNat })) ∧
    (∀ (sid seq : W64), Completes (.fragmentTimeout sid seq) s fun t => (∀ m ∈ t.host.partials, ¬ (m.sid = sid ∧ m.seq = seq)) ∧
      t = { s with host := { s.host with partials := t.host.partials } }) ∧
    (∀ (port : Fin 2) (v : W16) (nonce : BitVec 256) (ek : List Byte), s.hears = true →
      ((∀ h ∈ s.host.handshakes ++ s.host.answered, h.nonce ≠ nonce) → s.host.handshakes.length < 64 → Completes (.hello port v nonce ek) s fun t => still t ∧
        ∃ n : Handshake, t.host.handshakes = s.host.handshakes ++ [n] ∧ n.port = port.val ∧ n.nonce = nonce ∧
          n.transcript = shake256 (helloBody v nonce ek ++ n.hello) 64 ∧
          n.keys = shake256 (leBytes 32 n.secret.toNat ++ n.transcript ++ [1]) 64 ∧ .moduleHello n.id n.hello ∈ t.out) ∧
      (((s.host.handshakes ++ s.host.answered).find? fun h => h.nonce == nonce) = some h → Completes (.hello port v nonce ek) s fun t => still t ∧
        t.host.handshakes = s.host.handshakes ∧ .moduleHello h.id h.hello ∈ t.out)) ∧
    (s.answers = true → (s.host.handshakes.find? fun h => h.id == hs) = some h → s.hostKey a.keyId = some k →
      (s.host.sessions.length < 4096 → a.sigValid = true → authRefusal a = none →
        Completes (.hostAuth hs a) s fun t => still t ∧ (∀ q ∈ t.host.handshakes, q.id ≠ h.id) ∧
          ∃ x, t.session? h.id = some x ∧ x.tenant = k.tenant ∧ x.operator = k.operator ∧ x.held = false ∧ x.lastCmd = 0 ∧ x.kept = [] ∧
            x.features = (a.features &&& 0x3FFF &&& k.featureMask) ||| 1 ∧ x.leaseFrom = s.timeBase.toNat ∧
            x.keys = shake256 (leBytes 32 h.secret.toNat ++ h.transcript ++ shake256 (authBody a none) 64 ++ [2]) 64 ∧
            .sessionReady h.id (t.readyBody h.id 0 0) ∈ t.out) ∧
      (s.host.sessions.length < 4096 → a.sigValid = false → Completes (.hostAuth hs a) s fun t => still t ∧
        t.host.sessions = s.host.sessions ∧ (∀ q ∈ t.host.handshakes, q.id ≠ h.id) ∧ .sessionReady h.id (s.readyBody h.id 0x0101 0) ∈ t.out) ∧
      (∀ sid x, s.session? sid = some x → a.sigValid = true → k.tenant = x.tenant → x.lockedUntil ≤ s.timeBase.toNat → authRefusal a = none →
        Completes (.hostAuthResume hs a sid x.token) s fun t => (s.ownedParts sid = [] → still t) ∧
          ∃ y, t.session? sid = some y ∧ y.held = false ∧ y.keyId = k.keyId ∧ y.lastCmd = x.lastCmd ∧ y.kept = x.kept ∧
            y.leaseFrom = s.timeBase.toNat ∧
            y.keys = shake256 (leBytes 32 h.secret.toNat ++ h.transcript ++ shake256 (authBody a (some (sid, x.token))) 64 ++ [2]) 64) ∧
      (∀ sid x token, s.session? sid = some x → a.sigValid = true → k.tenant = x.tenant → x.lockedUntil ≤ s.timeBase.toNat →
        token ≠ x.token → Completes (.hostAuthResume hs a sid token) s fun t => still t ∧
          .sessionReady h.id (s.readyBody h.id 0x0107 0) ∈ t.out ∧ ∃ y, t.session? sid = some y ∧ y.token = x.token ∧ y.held = x.held)) ∧
    (Completes (.handshakeTimeout hs) s fun t => (∀ q ∈ t.host.handshakes ++ t.host.answered, q.id ≠ hs) ∧
      t = { s with host := { s.host with handshakes := t.host.handshakes, answered := t.host.answered } })

/-- Commands of a session in the order of 10 R277 and R278: one outside the window is dropped, a kept answer goes again, a held session is
answered LEASE_EXPIRED, a second copy within 100 ms on two paths is discarded, a missing feature FEATURE_NOT_NEGOTIATED, a malformed body ILLEGAL_INSTRUCTION. KEEPALIVE and COUNTERS are answered,
CLOSE_SESSION ends the session; the lease's end holds it, and the end of retention ends a held one (10 R271, R281 to R287). -/
def Obligations.SessionsAnswerAndEnd : Prop :=
  ∀ (s : State) (r : HostReq) (x : Session),
    let renewed : State → Prop := fun t => t.mem = s.mem ∧ t.cores = s.cores ∧ t.sched = s.sched ∧ t.journal = s.journal
    (s.Serves r x [0] false →
      (Completes (.keepalive r) s fun t => renewed t ∧ t.Answered r 0x0001 0 0 [] ∧
        ∃ y, t.session? r.sid = some y ∧ y.leaseFrom = s.timeBase.toNat ∧ y.lastCmd = max x.lastCmd r.seq.toNat) ∧
      (Completes (.counters r) s fun t => renewed t ∧ t.Answered r 0x0003 0 0 (leBytes 8 eventCodes.length ++
        eventCodes.flatMap fun c => leBytes 8 c.toNat ++ leBytes 8 (SMap.getD s.eventCounts c.toNat 0).toNat)) ∧
      (∀ force, (s.ownedParts r.sid = [] → Completes (.closeSession r force) s fun t =>
        t.session? r.sid = none ∧ t.mem = s.mem ∧ t.cores = s.cores ∧ t.sched = s.sched)) ∧
      (Completes (.closeSession r true) s fun t => t.session? r.sid = none)) ∧
    (s.answers = true → s.session? r.sid = some x → x.held = false → r.seq.toNat ≠ 0 → x.lastCmd ≤ r.seq.toNat + 63 →
      r.seq.toNat ≤ x.lastCmd + 64 → x.lately r.seq.toNat s.timeBase.toNat = true →
      exec (.keepalive r) s = .next (s.setSession r.sid { x with leaseFrom := s.timeBase.toNat })) ∧
    (s.answers = true → s.session? r.sid = some x → r.seq.toNat ≠ 0 → x.lastCmd ≤ r.seq.toNat + 63 → r.seq.toNat ≤ x.lastCmd + 64 →
      x.lately r.seq.toNat s.timeBase.toNat = false →
      (x.held = true → SMap.get? x.kept r.seq.toNat = none → Completes (.keepalive r) s fun t => renewed t ∧ t.Answered r 0x0001 0x0106 0 []) ∧
      (x.held = false → ∀ k, SMap.get? x.kept r.seq.toNat = some k → (k.journalSeq = 0 ∨ s.arch.mirrorWait = []) →
        Completes (.keepalive r) s fun t => renewed t ∧ .response r.sid k ∈ t.out) ∧
      (x.held = false → SMap.get? x.kept r.seq.toNat = none → x.has 0 = false →
        Completes (.keepalive r) s fun t => renewed t ∧ t.Answered r 0x0001 0x0104 0 []) ∧
      (x.held = false → SMap.get? x.kept r.seq.toNat = none → x.has 0 = true → r.malformed = true →
        Completes (.keepalive r) s fun t => renewed t ∧ t.Answered r 0x0001 0x0501 1 [])) ∧
    (s.answers = true → s.session? r.sid = some x → r.seq.toNat + 63 < x.lastCmd → exec (.keepalive r) s = .next s) ∧
    (∀ sid, s.sched.restarting = false → s.session? sid = some x →
      (x.held = false → Completes (.leaseExpiry sid) s fun t => t.mem = s.mem ∧ t.cores = s.cores ∧
        t.session? sid = some { x with held := true, leaseFrom := s.timeBase.toNat } ∧ ∀ q ∈ t.host.qps, q.2.sid ≠ sid) ∧
      (x.held = true → Completes (.retentionExpiry sid) s fun t => (s.ownedParts sid = [] → t.mem = s.mem ∧ t.cores = s.cores) ∧
        t.session? sid = none ∧ ∀ q ∈ t.host.qps, q.2.sid ≠ sid))

/-- BIND_PARTITION binds the lowest free range that fits, in another layout once no partition that changes is bound, whose clusters then reset,
and changes nothing for a partition the session holds; UNBIND_PARTITION and PARTITION_RESET start a reset that
resets every cluster of the partition and clears its lagoon quarters, and its end frees what was unbound; JOB_STATUS reads the
partition's registers and jobs (08 R208, R209, 10 R279, R280, 15 R428). (The model's readings: log 56, 62.) -/
def Obligations.PartitionsBindAndReset : Prop :=
  ∀ (s : State) (r : HostReq) (x : Session) (p : PartId) (pw : W16), pw.toNat = p.val →
    let y := s.part p.val
    (∀ (layout : Byte) (gib : W32) (b : Nat), s.Serves r x [1] false → layout.toNat = s.sched.active → y.session = none → y.clearing = none →
      s.mayBind x r.sid layout.toNat p.val = true → 0 < gib.toNat → gib.toNat ≤ (if s.hbm.mode then 2028 else 1900) →
      s.bindingBase gib.toNat = some b →
      Completes (.bindPartition r layout pw gib) s fun t => t.mem = s.mem ∧ t.cores = s.cores ∧
        t.part p.val = { y with session := some r.sid, tenant := x.tenant, baseGib := b, sizeGib := gib.toNat } ∧
        t.Answered r 0x0010 0 0 (leBytes 8 (b * 2 ^ 30) ++ leBytes 8 (gib.toNat * 2 ^ 30) ++ leBytes 8 (clusterMask (s.clustersOf p.val)))) ∧
    (∀ (layout : Byte) (gib : W32) (b : Nat), s.Serves r x [1] false → layout.toNat ≠ s.sched.active → y.session = none → y.clearing = none →
      s.mayBind x r.sid layout.toNat p.val = true → 0 < gib.toNat → gib.toNat ≤ (if s.hbm.mode then 2028 else 1900) →
      s.bindingBase gib.toNat = some b → let new := s.sched.layouts.getD layout.toNat []
      (∀ q ∈ s.changed new, (s.part q).session = none) → Completes (.bindPartition r layout pw gib) s fun t =>
        t.sched.active = layout.toNat ∧ (t.part p.val).session = some r.sid ∧ (t.part p.val).tenant = x.tenant ∧
        (t.part p.val).baseGib = b ∧ (t.part p.val).sizeGib = gib.toNat ∧
        ∀ c < 48, (s.sched.layouts.getD s.sched.active []).getD c 0xFF ≠ new.getD c 0xFF → (t.cluster c).resetting = true) ∧
    (∀ (layout : Byte), s.Serves r x [1] false → y.session = some r.sid → y.clearing = none →
      s.mayBind x r.sid layout.toNat p.val = true → 0 < y.sizeGib → y.sizeGib ≤ (if s.hbm.mode then 2028 else 1900) →
      Completes (.bindPartition r layout pw (BitVec.ofNat 32 y.sizeGib)) s fun t => t.mem = s.mem ∧ t.cores = s.cores ∧ t.part p.val = y ∧
        t.Answered r 0x0010 0 0 (s.bindingBody p.val)) ∧
    (s.Serves r x [1] false → y.session = some r.sid → y.clearing = none →
      let starts : Bool → State → Prop := fun unbind t => (∃ k, (t.part p.val).clearing = some k ∧ k.unbind = unbind) ∧
        (t.part p.val).queue = [] ∧ (∀ c ∈ s.clustersOf p.val, (t.cluster c).resetting = true) ∧
        (∀ c ∈ s.clustersOf p.val, ∀ a, quarterBase c ≤ a → a < quarterBase c + 2 ^ 26 → t.readByte a = 0)
      Completes (.unbindPartition r pw) s (starts true) ∧
        (∀ clear, Completes (.partitionReset r pw clear) s fun t => starts false t ∧ (t.part p.val).hbmClearing = clear) ∧
        Completes (.jobStatus r pw) s fun t => t.mem = s.mem ∧ t.sched = s.sched ∧ t.Answered r 0x0016 0 0
          (([0, 8, 16, 24, 32].flatMap fun o => leBytes 8 (s.partReg p.val o).toNat) ++
            ((y.job.toList.map fun j => j.req.id) ++ y.queue.map fun q => q.id).flatMap fun i => leBytes 8 i.toNat)) ∧
    (∀ k, s.sched.restarting = false → y.clearing = some k → y.hbmClearing = false → (∀ c ∈ s.clustersOf p.val, (s.cluster c).resetting = false) →
      Completes (.partitionResetDone p) s fun t => t.mem = s.mem ∧ t.cores = s.cores ∧
        t.part p.val = if k.unbind then {} else { y with clearing := none, job := none })

/-- LOAD_IMAGE starts its pull and answers when it ends; an image that passes stands at the binding's base and is the loaded one; START_JOB
joins the queue behind a present job and loads at once where there is none, END_JOB discards a present job or takes one out of the queue,
and PHASE_HINT reaches every running region of the partition
(08 R210, R211, 10 R277 to R280, 12 R357). (The model's readings: log 51, 56.) -/
def Obligations.ImagesLoadAndJobsQueue : Prop :=
  ∀ (s : State) (r : HostReq) (x : Session) (p : PartId) (pw : W16), pw.toNat = p.val →
    let y := s.part p.val
    (∀ (qp : W32) (addr : W64) (rkey : W32) (len : W64), s.Serves r x [1, 2] false → y.session = some r.sid → s.ownsQp r.sid qp = true →
      len ≠ 0 → len.toNat ≤ y.bytes → y.busy = false → y.load = none → y.restore = none → y.clearing = none →
      Completes (.loadImage r pw qp addr rkey len) s fun t => t.mem = s.mem ∧ t.cores = s.cores ∧ .rdmaRead qp addr len ∈ t.out ∧
        ∃ l, (t.part p.val).load = some l ∧ l.sid = r.sid ∧ l.cmdSeq = r.seq ∧ l.length = len.toNat) ∧
    (∀ (l : PendingLoad) (bs : List Byte), s.sched.restarting = false → y.load = some l → s.session? l.sid = some x → s.imageRefusal p.val l.length (some bs) = none →
      Completes (.loadImagePullDone p (some bs)) s fun t =>
        (∀ a, t.readByte a = if y.base ≤ a ∧ a < y.base + bs.length then bs.getD (a - y.base) 0 else s.readByte a) ∧
        t.part p.val = { y with load := none, image := some (readImage bs) } ∧ t.cores = s.cores) ∧
    (∀ (l : PendingLoad) (got : Option (List Byte)), s.sched.restarting = false → y.load = some l →
      s.imageRefusal p.val l.length got ≠ none →
      Completes (.loadImagePullDone p got) s fun t => t.mem = s.mem ∧ t.cores = s.cores ∧ t.part p.val = { y with load := none }) ∧
    (∀ (b : StartJobBody) (im : Image), s.Serves r x ([1] ++ (if b.doubles then [10] else []) ++ if b.group then [9] else []) false →
      b.partition = pw → y.session = some r.sid → startJobRange y b = false → y.image = some im → y.load = none → y.restore = none →
      y.clearing = none → clustersNeeded im.ranks b.doubles ≤ (s.clusterOrder p.val false).length → y.jobCount < 16 →
      Completes (.startJob r b) s fun t => t.mem = s.mem ∧
        ∃ id, t.Answered r 0x0013 0 0 (leBytes 8 id.toNat ++ [BitVec.ofNat 8 y.jobCount]) ∧
          (y.busy = true → t.cores = s.cores ∧ t.part p.val = { y with queue := y.queue ++ [⟨id, r.sid, x.tenant, b⟩] }) ∧
          (y.busy = false → y.queue = [] → clustersNeeded im.ranks b.doubles ≤ (s.clusterOrder p.val im.relay).length →
            ∃ j, (t.part p.val).job = some j ∧ j.req = ⟨id, r.sid, x.tenant, b⟩ ∧ j.state = .loading ∧ j.td = 0 ∧ j.ts = 0 ∧
              (t.part p.val).queue = [])) ∧
    (∀ (j : Job), s.Serves r x [1] false → y.job = some j → y.restore = none → y.clearing = none →
      s.findJob r.sid j.req.id = some (p.val, true) →
      Completes (.endJob r j.req.id) s fun t => t.mem = s.mem ∧ t.Answered r 0x0014 0 0 [] ∧ (y.queue = [] →
        (∃ k, (t.part p.val).job = some k ∧ k.state = .discarded) ∧ ∀ L ∈ j.cores, (t.core L).inTurn = false)) ∧
    (∀ (id : W64), s.Serves r x [1] false → y.restore = none → y.clearing = none → s.findJob r.sid id = some (p.val, false) →
      Completes (.endJob r id) s fun t => t.mem = s.mem ∧ t.cores = s.cores ∧ t.Answered r 0x0014 0 0 [] ∧
        t.part p.val = { y with queue := y.queue.filter fun q => q.id != id }) ∧
    (∀ (lead : W16) (dur : W32) (load : Byte), s.Serves r x [8] false → y.session = some r.sid → y.clearing = none → load ≠ 0 → dur ≠ 0 →
      load.toNat ≤ 15 → s.power.safeFloor = false →
      Completes (.phaseHint r pw lead dur load) s fun t => t.mem = s.mem ∧ t.cores = s.cores ∧ t.Answered r 0x0080 0 0 [] ∧
        ∀ c ∈ s.clustersOf p.val, (s.cluster c).region = .running →
          (t.cluster c).hint = some ⟨load.toNat, lead.toNat, dur.toNat, none, false⟩) ∧
    (∀ (lead : W16), s.Serves r x [8] false → y.session = some r.sid → y.clearing = none → s.power.safeFloor = false →
      Completes (.phaseHint r pw lead 0 0) s fun t => t.mem = s.mem ∧ t.Answered r 0x0080 0 0 [] ∧
        ∀ c ∈ s.clustersOf p.val, (s.cluster c).region = .running → (t.cluster c).hint = none)

/-- OPEN_QP and CLOSE_QP; RDMA under the queue pair's rkey within program space writes and reads exactly the bytes asked for, and is refused
without effect under another, and waits while its memory's requests do; a congestion notification gives a rate, the eighth unanswered try fails the queue pair
(10 R281, R289, R290, 06 R172, R173). The rate's value is free (log 6). (The model's readings: log 57, 60, 111.) -/
def Obligations.QueuePairsMoveData : Prop :=
  ∀ (s : State) (r : HostReq) (x : Session) (qpn rkey : W32) (q : Qp) (addr : W64),
    (∀ (port sub : Byte) (hq hp : W32) (gid : BitVec 128), s.Serves r x [2] false → port.toNat ≤ 1 →
      sub.toNat < subPortsOf (s.hostPort port.toNat).mode → hq.toNat < 2 ^ 24 → hp.toNat < 2 ^ 24 →
      (s.host.qps.filter fun q => q.2.sid == r.sid).length < 16 → s.host.qps.length < 2048 →
      Completes (.openQp r port sub hq gid hp) s fun t => t.mem = s.mem ∧ (s.ownedParts r.sid = [] → t.sched = s.sched) ∧
        ∃ n z, t.qp? (BitVec.ofNat 32 n) = some z ∧ z.sid = r.sid ∧ z.port = port.toNat ∧ z.sub = sub.toNat ∧ z.hostQpn = hq ∧
          z.hostGid = gid ∧ z.hostPsn = hp ∧ z.failed = !(s.hostPort port.toNat).up.getLsbD sub.toNat) ∧
    (s.Serves r x [2] false → s.ownsQp r.sid qpn = true → Completes (.closeQp r qpn) s fun t =>
      t.qp? qpn = none ∧ t.mem = s.mem ∧ t.Answered r 0x0021 0 0 []) ∧
    (s.liveQp qpn = some q →
      (∀ data p, s.rdmaStatus q q.rkey addr.toNat data.length true = (0, some p) → s.hbmWaits addr.toNat data.length true = false →
        Completes (.rdmaWriteRequest qpn q.rkey addr data) s fun t => t.cores = s.cores ∧ .rdmaAck qpn ∈ t.out ∧
          ∀ a, t.readByte a = if addr.toNat ≤ a ∧ a < addr.toNat + data.length then data.getD (a - addr.toNat) 0 else s.readByte a) ∧
      (∀ n p, s.rdmaStatus q q.rkey addr.toNat n false = (0, some p) → s.Readable addr.toNat n →
        Completes (.rdmaReadRequest qpn q.rkey addr n) s fun t => t.mem = s.mem ∧ t.cores = s.cores ∧
          .rdmaData qpn (s.readBytes addr.toNat n) ∈ t.out) ∧
      (∀ data p, s.rdmaStatus q q.rkey addr.toNat data.length true = (0, some p) → s.hbmWaits addr.toNat data.length true = true →
        exec (.rdmaWriteRequest qpn q.rkey addr data) s = .next s) ∧
      (∀ n p, s.rdmaStatus q q.rkey addr.toNat n false = (0, some p) → s.hbmWaits addr.toNat n false = true →
        exec (.rdmaReadRequest qpn q.rkey addr n) s = .next s) ∧
      (rkey ≠ q.rkey → ∀ data n,
        (Completes (.rdmaWriteRequest qpn rkey addr data) s fun t => t.mem = s.mem ∧ t.cores = s.cores ∧ .rdmaNak qpn 0x0201 ∈ t.out) ∧
        Completes (.rdmaReadRequest qpn rkey addr n) s fun t => t.mem = s.mem ∧ t.cores = s.cores ∧ .rdmaNak qpn 0x0201 ∈ t.out)) ∧
    (s.qp? qpn = some q →
      (Completes (.cnpReceive qpn) s fun t => t.mem = s.mem ∧ ∃ v, t.qp? qpn = some { q with rate := v }) ∧
      (q.retries < 7 → exec (.roceLocalAckTimeout qpn) s =
        .next { s with host := { s.host with qps := SMap.put s.host.qps qpn.toNat { q with retries := q.retries + 1 } } }) ∧
      (7 ≤ q.retries → Completes (.roceLocalAckTimeout qpn) s fun t => t.mem = s.mem ∧ t.qp? qpn = some { q with failed := true }))

/-- Frames at a sub-port in service are answered for its own addresses with its MAC or the payload, a PFC frame pauses bulk traffic of its
priority alone, network time is kept beside the time base; a sub-port that is lost leaves service with its queue pairs, and one that
returns serves again (10 R266 to R268, R288). (The model's readings: log 53.) -/
def Obligations.HostPortsServe : Prop :=
  ∀ (s : State) (port : Fin 2) (sub : Fin 4) (c : SubPortCfg),
    (s.subPort port.val sub.val = some c →
      (c.prefix4 ≠ 0 → exec (.arpRequest port sub c.ipv4) s = .next (s.emit (.frame port.val sub.val 0 (leBytes 6 c.mac.toNat)))) ∧
      (∀ ip, (c.prefix4 = 0 ∨ ip ≠ c.ipv4) → exec (.arpRequest port sub ip) s = .next s) ∧
      (c.prefix6 ≠ 0 → exec (.neighbourSolicitation port sub c.ipv6) s = .next (s.emit (.frame port.val sub.val 1 (leBytes 6 c.mac.toNat)))) ∧
      (∀ ip, (c.prefix6 = 0 ∨ ip ≠ c.ipv6) → exec (.neighbourSolicitation port sub ip) s = .next s) ∧
      (∀ data, c.prefix6 ≠ 0 → exec (.icmpEchoRequest port sub c.ipv6 data) s = .next (s.emit (.frame port.val sub.val 2 data))) ∧
      (∀ off, exec (.ptpMessage port sub off) s = .next { s with host := { s.host with ptpOffset := off, ptpHeard := true } })) ∧
    (s.subPort port.val sub.val = none → (∀ ip, exec (.arpRequest port sub ip) s = .next s) ∧
      (∀ ip, exec (.neighbourSolicitation port sub ip) s = .next s) ∧ (∀ ip data, exec (.icmpEchoRequest port sub ip data) s = .next s) ∧
      ∀ off, exec (.ptpMessage port sub off) s = .next s) ∧
    (∀ (prio : Fin 8) (quanta : W16),
      (s.pfcPriority = some prio.val → exec (.pfcPauseFrame port prio quanta) s =
        .next (s.modHostPort port.val fun h => { h with paused := quanta.toNat })) ∧
      (s.pfcPriority ≠ some prio.val → exec (.pfcPauseFrame port prio quanta) s = .next s)) ∧
    (∀ fec, (s.hostPort port.val).up.getLsbD sub.val = true → Completes (.subportLoss port sub fec) s fun t => t.mem = s.mem ∧ t.cores = s.cores ∧
      (t.hostPort port.val).up = (s.hostPort port.val).up &&& ~~~(BitVec.ofNat 4 (2 ^ sub.val)) ∧
      (t.hostPort port.val).failovers = (s.hostPort port.val).failovers + 1 ∧
      ∀ e ∈ t.host.qps, e.2.port = port.val → e.2.sub = sub.val → e.2.failed = true) ∧
    (s.start.ready = true → s.chassis.standby = false → (s.hostPort port.val).up.getLsbD sub.val = false →
      sub.val < subPortsOf (s.hostPort port.val).mode → Completes (.subportReturn port sub) s fun t => t.mem = s.mem ∧ t.cores = s.cores ∧
        (t.hostPort port.val).up = (s.hostPort port.val).up ||| BitVec.ofNat 4 (2 ^ sub.val) ∧ (t.hostPort port.val).training = false)

/-- Snapshots and restores: a snapshot of a running job waits for its commit; its copy ends kept or draining, or without the snapshot where
a word gave no data, and the job goes on; each page acknowledged is released and the last ends the drain; a drain without a queue pair and a
group that does not ask end it; RESTORE clears the partition's quarters and waits for the data, which a fault ends and which otherwise
brings the job back at its T_d (13 R388 to R398). (The model's readings: log 48, 54, 61.) -/
def Obligations.SnapshotsAndRestores : Prop :=
  ∀ (s : State) (r : HostReq) (x : Session) (p : PartId) (pw : W16), pw.toNat = p.val →
    let y := s.part p.val
    (∀ (j : Job) (drain : Bool) (qp rkey : W32) (addr maxBytes : W64), s.Serves r x [4] false → y.session = some r.sid → y.job = some j →
      j.state = .running → (drain = true → s.ownsQp r.sid qp = true) → y.snapBusy = false → y.restore = none → y.clearing = none →
      s.snapshotMib p.val + s.areaUsed p.val ≤ 14336 →
      Completes (.snapshot r pw drain qp addr rkey maxBytes) s fun t => t.mem = s.mem ∧ t.cores = s.cores ∧
        ∃ k, t.part p.val = { y with snap := some k } ∧ k.phase = .requested ∧ k.jobId = j.req.id ∧ k.drain = drain ∧
          k.groupAsked = j.req.body.group ∧ t.Answered r 0x0040 0 0 (leBytes 8 k.id.toNat)) ∧
    (∀ (k : Snapshot), y.snap = some k →
      (∀ (lost : Bool) (us cs : W32), s.sched.restarting = false → k.phase = .copying → ∃ t : State,
        exec (.snapshotCopyDone p lost us cs) s = .next (t.startTests.startTurns p.val) ∧ t.mem = s.mem ∧
        (lost = true → (t.part p.val).snap = none) ∧
        (lost = false → (∀ c ∈ s.clustersOf p.val, s.Sound (quarterBase c) (2 ^ 26)) →
          let k' : Snapshot := { k with pauseUs := us, copyUs := cs }
          (k.drain = false → t.cores = s.cores ∧ t.part p.val = { y with snap := some { k' with phase := .kept } }) ∧
          (k.drain = true → s.leastBytes p.val k' ≤ k.maxBytes.toNat → t.cores = s.cores ∧
            ∃ d, (t.part p.val).snap = some d ∧ d.phase = .draining))) ∧
      (∀ bytes, k.phase = .draining → k.waitQp = false →
        (Completes (.drainPageAck p bytes false false) s fun t => t.mem = s.mem ∧
          t.part p.val = { y with snap := some { k.release with sent := k.sent + bytes.toNat } }) ∧
        (Completes (.drainPageAck p bytes true false) s fun t => t.mem = s.mem ∧ t.part p.val = { y with snap := none }) ∧
        Completes (.drainPageAck p bytes false true) s fun t => t.mem = s.mem ∧ t.part p.val = { y with snap := none }) ∧
      (k.phase = .draining → k.waitQp = true → s.session? k.sid = some x → x.held = false →
        Completes (.drainQpWaitTimeout p) s fun t => t.mem = s.mem ∧ t.part p.val = { y with snap := none }) ∧
      (∀ j, y.job = some j → k.phase = .requested → k.groupAsked = true → k.groupTurn = none →
        Completes (.groupSnapshotTimeout p) s fun t => t.mem = s.mem ∧ t.part p.val = { y with snap := none })) ∧
    (∀ (b : RestoreBody) (f : Found), s.Serves r x [4] false → b.partition = pw → (b.fromHost.isSome = true → s.ownsQp r.sid b.qp = true) →
      y.session = some r.sid → s.findSnapshot r.sid b = some f → s.restoreBlocked b f.k.jobId = false → y.clearing = none → f.signed = true →
      y.image.map (fun i => i.digest) = some f.digest → f.hbmBytes ≤ y.bytes → f.versions = true →
      clustersNeeded ((y.image.map fun i => i.ranks).getD 0) f.k.doubles ≤ (s.clusterOrder p.val false).length →
      b.dataTurn.toNat = f.k.td → b.streamTurn.toNat = f.streamTurn →
      (b.rebase = false → f.streamJob = f.k.jobId ∧ f.streamTurn = f.k.td) →
      Completes (.restore r b) s fun t => t.Answered r 0x0041 0 0 (leBytes 8 f.k.td ++ leBytes 8 f.streamTurn) ∧
        (∃ k, (t.part p.val).restore = some k ∧ k.jobId = f.k.jobId ∧ k.td = f.k.td ∧ k.ts = (if b.rebase then f.k.td else f.streamTurn)) ∧
        ∀ c ∈ s.clustersOf p.val, ∀ a, quarterBase c ≤ a → a < quarterBase c + 2 ^ 26 → t.readByte a = 0) ∧
    (∀ (k : Restore), s.sched.restarting = false → y.restore = some k →
      (∀ st, st ≠ 0 → Completes (.restoreDataDone p st) s fun t => t.mem = s.mem ∧
        t.part p.val = { y with restore := none, job := none }) ∧
      ((∃ c ∈ s.clustersOf p.val, s.testing c = true) → exec (.restoreDataDone p 0) s = .next s) ∧
      ((∀ c ∈ s.clustersOf p.val, s.testing c = false) → k.group = false → (∀ j, y.job = some j → j.req.body.group = false) →
        clustersNeeded ((y.image.map fun i => i.ranks).getD 0) k.doubles ≤
          (s.clusterOrder p.val ((y.image.map fun i => i.relay).getD false)).length →
        ∃ t : State, exec (.restoreDataDone p 0) s = .next (t.runLoaded p.val) ∧ (t.part p.val).restore = none ∧
          (t.part p.val).turnData = k.td ∧ ∃ j, (t.part p.val).job = some j ∧ j.td = k.td ∧ j.ts = k.ts ∧ j.epoch = k.epoch + 1 ∧
            j.keys = k.keys ∧ j.state = .loading))

/-- Trust: JOURNAL_READ, REGISTER_READ and ATTEST answer with what the session may read and change nothing else; ROLL_TEST marks the
clusters that wait for it, and one whose slots agree returns to use; STAGE_UPDATE empties the inactive slot and its bits and pulls, and
what it pulled is pending only where it passes (10 R281, R295, 11 R331, 13 R384 to R387, 14 R419, R420).
(The model's readings: log 8, 52, 88.) -/
def Obligations.TrustCommandsAnswer : Prop :=
  ∀ (s : State) (r : HostReq) (x : Session),
    let reads : State → Prop := fun t => t.mem = s.mem ∧ t.cores = s.cores ∧ t.sched = s.sched ∧ t.nv = s.nv ∧ t.journal = s.journal
    (∀ (frm : W64) (max : W16) (seat : Byte), s.Serves r x [3] false → 0 < max.toNat → max.toNat ≤ 500 →
      Completes (.journalRead r frm max false seat) s fun t => reads t ∧
        t.Answered r 0x0030 0 0 (s.journalBody { x with leaseFrom := s.timeBase.toNat } r.sid frm.toNat max.toNat)) ∧
    (∀ (frm : W64) (max : W16) (seat : Byte), s.Serves r x [3, 9] false → 0 < max.toNat → max.toNat ≤ 500 →
      Completes (.journalRead r frm max true seat) s fun t => reads t ∧ ∃ body, t.Answered r 0x0030 0 0 body ∧
        (SMap.get? s.arch.mirrors seat.toNat = none → body = journalHead 0 0 0 s.host.ptp.toNat 0 false)) ∧
    (∀ (addrs : List W64), s.Serves r x [7] false → 0 < addrs.length → addrs.length ≤ 64 →
      (∀ a ∈ addrs, a.toNat % 8 = 0 ∧ ∃ v, s.readReg a.toNat = some v) → Completes (.registerRead r addrs) s fun t => reads t ∧
        ∃ body, t.Answered r 0x0070 0 0 body ∧ body.length = 8 * addrs.length) ∧
    (∀ (nonce : BitVec 256), s.Serves r x [6] false → Completes (.attest r nonce) s fun t => reads t ∧
      ∃ body, t.Answered r 0x0060 0 0 body ∧ body.take 8 = leBytes 4 0x544F5551 ++ [1, 0, 0x76, 0x05] ∧ (body.drop 24).take 32 = leBytes 32 nonce.toNat ∧
        (body.drop 56).take 8 = leBytes 8 r.sid.toNat ∧ (s.log.chainHead.length = 16 → (body.drop 320).take 16 = s.log.chainHead)) ∧
    (∀ (c : ClusterId) (p : Nat), s.Serves r x [5] false → s.partOf c.val = some p → (s.part p).session = some r.sid →
      (s.part p).clearing = none → (∀ k ∈ s.host.rollTests, k.cluster ≠ c.val) →
      Completes (.rollTest r (BitVec.ofNat 64 (2 ^ c.val))) s fun t => t.Answered r 0x0050 0 0 [] ∧
        (∃ k ∈ t.host.rollTests, k.cluster = c.val ∧ k.sid = r.sid ∧ k.cmdSeq = r.seq) ∧
        (s.host.rollTests = [] → s.testCanStart c.val = false → t.mem = s.mem ∧ t.cores = s.cores)) ∧
    (∀ (c : ClusterId) (k : RollTest) (results again : List SlotResult) (ref : Nat) (us : W32),
      (s.host.rollTests.find? fun k => k.cluster == c.val && k.running) = some k →
      majority (if (majority results).isSome then results else again) = some ref →
      let bad := failing (if (majority results).isSome then results else again) ref
      ∃ t : State, exec (.rollTestClusterDone c results again us) s = .next (t.endTest c.val) ∧
        (bad = [] → t.mem = s.mem ∧ t.cores = s.cores ∧ t.clusters = s.clusters) ∧
        (∀ n, bad = [n] → (s.cluster c.val).slotState n = 1 → n ∉ (s.cluster c.val).map → t.mem = s.mem ∧ t.cores = s.cores ∧
          t.cluster c.val = { s.cluster c.val with
            slots := SMap.put (s.cluster c.val).slots n 3, reserves := (s.cluster c.val).reserves - 1 })) ∧
    (∀ (qp rkey : W32) (addr len : W64), s.Serves r x [12] true → s.ownsQp r.sid qp = true → s.host.staging = none →
      let starts : Nat → Nat → State → Prop := fun kind bit t => .rdmaRead qp addr len ∈ t.out ∧ t.mem = s.mem ∧
        (∃ g, t.host.staging = some g ∧ g.kind = kind ∧ g.sid = r.sid) ∧ t.nv.pending.getLsbD bit = false ∧ t.nv.proven.getLsbD bit = false
      (37568 ≤ len.toNat → len.toNat ≤ 2 ^ 20 → Completes (.stageUpdateImage r qp addr rkey len) s fun t => starts 0 2 t ∧
        SMap.get? t.nv.images (1 - s.nv.imageActive) = none ∧ t.nv.tf = s.nv.tf ∧ t.nv.opfw = s.nv.opfw) ∧
      (32768 ≤ len.toNat → len.toNat ≤ 2 ^ 26 → Completes (.stageUpdateOpfw r qp addr rkey len) s fun t => starts 1 1 t ∧
        SMap.get? t.nv.opfw (1 - s.nv.opfwActive) = none ∧ t.nv.tf = s.nv.tf ∧ t.nv.images = s.nv.images) ∧
      (32768 ≤ len.toNat → len.toNat ≤ 2 ^ 24 → Completes (.stageUpdateTf r qp addr rkey len) s fun t => starts 2 0 t ∧
        SMap.get? t.nv.tf (1 - s.nv.tfActive) = none ∧ t.nv.opfw = s.nv.opfw ∧ t.nv.images = s.nv.images)) ∧
    (∀ (o : StagedObject) (g : Staging), s.host.staging = some g → g.kind ≤ 2 → Completes (.stagingPullDone o) s fun t => t.mem = s.mem ∧
      t.host.staging = none ∧
      (s.nv.stagedOk o g.kind = true → t.nv.pending.getLsbD (stageBit g.kind) = true ∧ t.host.stagingOutcome = 0) ∧
      (s.nv.stagedOk o g.kind = false → t.nv.pending = s.nv.pending ∧ t.host.stagingOutcome = 0x0601))

/-! ### The stages of a start (11 R301 to R334, 14 R408 to R410, 16 R448) -/

/-- An input in range starts stage 0 of a present, latched module, a latched trip only after a fall below 40 V, and starts nothing else; the
main switch closes with the bank within 1 V of the input; power good ends stage 0 with a report of 64 bytes; a failure ends the start and
sets ALERT_STAGE (11 R301, R305, R307, 15 R426, 16 R448). (The model's readings: log 64.) -/
def Obligations.InputStartsStageZero : Prop :=
  ∀ (s : State) (mv rail us : W32),
    let x := s.chassis
    let starts := x.present = true ∧ x.latchOpen = false ∧ x.main = false ∧ x.applied = false ∧ 40000 ≤ mv.toNat ∧ mv.toNat ≤ 59500 ∧
      (x.tripped = true → x.fellBelow = true)
    (starts → exec (.inputApplied mv) s = .next { s with
        timeBase := 0, power := { s.power with inputMv := mv.toNat }
        chassis := { x with inputMv := mv.toNat, applied := true, tripped := false, indicator := false }
        start := { active := true } }) ∧
    (¬ starts → exec (.inputApplied mv) s = .next s) ∧
    (x.applied = true → x.main = false → s.start.active = true →
      (x.inputMv ≤ mv.toNat + 1000 → mv.toNat ≤ x.inputMv + 1000 → exec (.prechargeDone mv us) s =
        .next { s with chassis := { x with main := true }, start := { s.start with prechargeUs := us.toNat } }) ∧
      (mv.toNat + 1000 < x.inputMv → exec (.prechargeDone mv us) s = .next s)) ∧
    (s.start.active = true → s.start.stage = 0 →
      (x.main = true → Completes (.stage0End rail true) s fun t => t = { s with start := t.start } ∧ t.start.stage = 1 ∧
        t.start.active = true ∧ ∃ r, SMap.get? t.start.reports 0 = some r ∧ r.length = 64 ∧ r.take 2 = [0, 1] ∧
          r.drop 32 = leBytes 4 x.inputMv ++ leBytes 4 rail.toNat ++ leBytes 4 s.start.prechargeUs ++ List.replicate 20 0) ∧
      Completes (.stage0End rail false) s fun t => t.start.active = false ∧ t.start.failed = true ∧ t.start.stage = 0 ∧
        t.chassis.alerts = x.alerts ||| 1 ∧ t.nv = s.nv ∧ t.log = s.log ∧ ∃ r, SMap.get? t.start.reports 0 = some r ∧
          r.take 2 = [0, 3] ∧ (r.drop 16).take 8 = leBytes 8 (if x.main then 0 else 0x11))

/-- Stage 1 counts the start, runs the active firmware that passes or the newer staged one that is pending, on trial with its PENDING bit
cleared, and fails where the fuses do not pass or a lockstep pair fails; stage 2 takes the active image or the newer pending one, and
fails with none (11 R314, R327, R328, 14 R408, R409). (The model's readings: log 8, 28.) -/
def Obligations.FirmwareAndImageChosen : Prop :=
  ∀ (s : State),
    let n := s.nv
    let passed : Nat → State → Prop := fun k t => t.start.stage = k + 1 ∧ t.start.active = s.start.active
    let stopped : Nat → State → Prop := fun k t => t.start.stage = k ∧ t.start.active = false ∧ t.start.failed = true ∧
      t.chassis.alerts = s.chassis.alerts ||| 1
    (s.inStage 1 = true →
      (∀ pair, Completes (.stage1Firmware pair) s fun t => t.nv.startCount = n.startCount + 1 ∧ (passed 1 t ∨ stopped 1 t)) ∧
      (∀ pair, n.fusesOk = false ∨ n.productCode ≠ 0x0576 → Completes (.stage1Firmware pair) s fun t => stopped 1 t ∧ t.nv.pending = n.pending) ∧
      ∀ tf op : FwImage, n.fusesOk = true → n.productCode = 0x0576 → n.firmwarePasses 1 tf = true → n.firmwarePasses 2 op = true →
        runTogether tf op = true → SMap.get? n.opfw n.opfwActive = some op → n.pending.getLsbD 1 = false → s.start.tfOutcome = 0 →
        (SMap.get? n.tf n.tfActive = some tf → n.pending.getLsbD 0 = false →
          (Completes (.stage1Firmware none) s fun t => passed 1 t ∧ t.start.tfSlot = n.tfActive ∧ t.start.tfVersion = tf.version ∧
            t.start.tfTrial = false ∧ t.start.opfwSlot = n.opfwActive ∧ t.start.opfwVersion = op.version ∧
            t.nv = { n with startCount := n.startCount + 1, generation := n.generation + 1 }) ∧
          ∀ k : Fin 3, Completes (.stage1Firmware (some k)) s fun t => stopped 1 t ∧
            ∃ r, SMap.get? t.start.reports 1 = some r ∧ (r.drop 16).take 8 = leBytes 8 (0x0E + 256 * k.val)) ∧
        (∀ old, SMap.get? n.tf n.tfActive = some old → SMap.get? n.tf (1 - n.tfActive) = some tf → n.pending.getLsbD 0 = true →
          old.version.toNat < tf.version.toNat → Completes (.stage1Firmware none) s fun t => passed 1 t ∧ t.start.tfSlot = 1 - n.tfActive ∧
            t.start.tfTrial = true ∧ t.nv.pending.getLsbD 0 = false ∧ t.nv.tfActive = n.tfActive)) ∧
    (s.inStage 2 = true →
      let a := n.imageActive
      (∀ m, n.imageAt a = some m → n.imagePasses m = true → n.pending.getLsbD 2 = false → Completes .stage2Image s fun t => passed 2 t ∧
        t.start.image = some m ∧ t.start.imageSlot = a ∧ t.sched.layouts = m.layouts ∧ t.hbm.imageMode = (m.hbmMode != 0) ∧
        t.arch.topology = m.topology.toNat ∧ t.arch.seat = m.seat.toNat ∧ t.nv = n) ∧
      (∀ m w, n.imageAt a = some w → n.imageAt (1 - a) = some m → n.imagePasses m = true → n.pending.getLsbD 2 = true →
        w.version.toNat < m.version.toNat → Completes .stage2Image s fun t => passed 2 t ∧ t.start.image = some m ∧
          t.nv.imageActive = 1 - a ∧ t.nv.proven = n.proven ||| 4 ∧ t.nv.pending.getLsbD 2 = false) ∧
      (n.imageOk a = false → n.imageOk (1 - a) = false → Completes .stage2Image s fun t => stopped 2 t ∧ t.start.image = s.start.image))

/-- A wave brings up its islands. Whatever the fuses, the log and the bad slots found: a region with five phases out or more is dark; a cluster
with at least twelve good slots, a region that runs and a control core of its pair takes its first twelve good slots as its positions and
the rest as reserves and runs at point 1; any other is out of service. A lost transit or lagoon domain or a failed island ends the start,
the last wave ends stage 3 (01 R26, R37, 11 R301, R309 to R312, R320). A phase lost at bring-up is isolated (11 R310). -/
def Obligations.IslandsComeUpInWaves : Prop :=
  ∀ (s : State) (found : List IslandFindings) (ms : W16), s.inStage 3 = true → s.start.wave < 5 →
    let w := s.start.wave
    let mine : Nat → Prop := fun c => c / 4 ∈ waveIslands w
    (Completes (.islandWaveDone found ms) s fun t => t.start.wave = w + 1) ∧
    (∀ (i : IslandId) (d : Fin 8) (ph : Fin 12), i.val ∈ waveIslands w → d.val < 4 →
      Completes (.islandWaveDone [{ island := i, badSlots := [], wires := [], lostPhases := [(d, ph)], failed := false }] ms) s fun t =>
        (t.cluster (i.val * 4 + d.val)).isolated.getLsbD ph.val = true) ∧
    ((∀ f ∈ found, f.wires = [] ∧ f.lostPhases = []) → Completes (.islandWaveDone found ms) s fun t =>
      (∀ c, mine c → let x := t.cluster c
        let good := t.goodSlots c
        let lit := bitCount x.isolated ≤ 4
        let serves := 12 ≤ good.length ∧ lit ∧ ¬ (t.cccLogged c = true ∧ t.cccLogged (partner c) = true)
        (lit → x.region = .running ∧ x.op = 1) ∧ (¬ lit → x.region = .dark ∧ x.op = 0) ∧
        (serves → x.map = good.take 12 ∧ x.active = 12 ∧ x.reserves = good.length - 12) ∧
        (¬ serves → x.map = List.replicate 12 0xF ∧ x.active = 0 ∧ x.reserves = 0) ∧
        (∀ i < 14, (i ∈ good ↔ t.factoryBad c i = false ∧ t.fieldBad c i = false) ∧ x.slotState i =
          if t.factoryBad c i then 2 else if t.fieldBad c i then 3 else if serves ∧ i ∉ good.take 12 then 1 else 0) ∧
        (serves → (∀ i ∈ waveIslands w, (t.island i).attachIsolated ≠ 0xFF) → ∀ p < 12, (t.core (c * 12 + p)).seq = .noTurn) ∧
        (w ≠ 0 → x.isolated = (s.cluster c).isolated) ∧
        (w = 0 → ∀ u ∈ s.loggedUnits 0x0D, unitByte u 2 < 4 → unitByte u 1 * 4 + unitByte u 2 = c → unitByte u 3 < 12 →
          x.isolated.getLsbD (unitByte u 3) = true)) ∧
      (∀ f ∈ found, found.find? (fun g => g.island.val == f.island.val) = some f → f.island.val ∈ waveIslands w → ∀ b ∈ f.badSlots,
        s.log.units.length < 260096 - 1000 → t.fieldBad (f.island.val * 4 + b.1.val) b.2.val = true) ∧
      (w ≠ 0 → (∀ i ∈ waveIslands w, (t.island i).attachIsolated ≠ 0xFF) → ∀ c, ¬ mine c → t.cluster c = s.cluster c) ∧
      let lost := ∃ i ∈ waveIslands w, (t.island i).transitIsolated = 0xF ∨ (t.island i).lagoonIsolated = 0x3F ∨
        ((found.find? fun f => f.island.val == i).map IslandFindings.failed) = some true
      (lost → t.start.active = false ∧ t.start.failed = true ∧ t.start.stage = 3) ∧
      (¬ lost → w < 4 → t.start.active = true ∧ t.start.stage = 3 ∧ t.start.waveMs = s.start.waveMs ++ [ms.toNat]) ∧
      (¬ lost → w = 4 → (t.cutNode = none → t.start.active = true ∧ t.start.stage = 4) ∧
        (t.cutNode ≠ none → t.start.active = false ∧ t.start.failed = true)))

/-- Training without a failure puts the image's mode in force, or, where the log lists a stack or a channel, the protected one; a logged stack
is lost and a logged channel retired; what the log makes unreconstructable ends the start. A cooling response within the class's limit puts
the class in force, and else air, with ALERT_COOLING; a first drift repeats the check. Both works done, the cap is latched and stage 5 begins
(06 R155, R170, 11 R301, R329, R330, 12 R351). (The model's readings: log 70, 71.) -/
def Obligations.MemoryTrainsAndCoolingFits : Prop :=
  ∀ (s : State) (m : MorrikImage), s.inStage 4 = true → s.start.image = some m →
    let capOf : Nat → Nat := fun k => if m.operatorCapW.toNat = 0 then classCap k else min m.operatorCapW.toNat (classCap k)
    let named := s.loggedStacks ≠ [] ∨ s.loggedChannels ≠ []
    let broken := unreconstructable s.loggedStacks s.loggedChannels = true
    (s.start.trained = false → ∀ (chans : List (StackId × ChannelId)) (lost : List StackId),
      Completes (.hbmTrainingDone chans lost) s fun t =>
        (t.hbm.override = true ↔ s.hbm.imageMode = true ∧ named) ∧ (t.hbm.mode = true ↔ s.hbm.imageMode = true ∧ ¬ named) ∧
        (∀ k < 16, s.loggedStacks.contains k → (t.stack k).state = .lost) ∧
        (∀ c ∈ s.loggedChannels, c.1 < 16 → c.2 < 32 → (s.stack c.1).state ≠ .lost → (t.stack c.1).retired.getLsbD c.2 = true) ∧
        (¬ broken → (∀ k ∈ lost, (t.stack k.val).state = .lost) ∧
          ∀ c ∈ chans, (t.stack c.1.val).state = .lost ∨ (t.stack c.1.val).retired.getLsbD c.2.val = true) ∧
        (∀ k : StackId, (s.stack k.val).state ≠ .lost → s.loggedStacks.contains k.val = false → k ∉ lost → (∀ c ∈ chans, c.1 ≠ k) →
          (t.stack k.val).state = .inService ∧ ((∀ c ∈ s.loggedChannels, c.1 ≠ k.val) → (t.stack k.val).retired = (s.stack k.val).retired)) ∧
        (broken → t.start.active = false ∧ t.start.failed = true ∧ t.start.stage = 4) ∧
        (¬ broken → t.start.trained = true ∧
          (s.start.cooled = true → t.start.stage = 5 ∧ t.power.capW = capOf s.start.coolingInForce ∧ t.hbm.prevMode = t.hbm.mode) ∧
          (s.start.cooled = false → t.start.stage = 4 ∧ t.power = s.power))) ∧
    (s.start.cooled = false → ∀ base pulse,
      let r := 5 * (pulse - base)
      let cls := m.coolingClass.toNat
      let force := if r ≤ [30000, 10000, 6000].getD cls 30000 then cls else 0
      (Completes (.coolingCheck base pulse false) s fun t => t.start.cooled = true ∧ t.start.response = r ∧ t.start.coolingInForce = force ∧
        t.chassis.alerts = (if force = cls then s.chassis.alerts else s.chassis.alerts ||| 4) ∧
        (s.start.trained = true → t.start.stage = 5 ∧ t.power.capW = capOf force) ∧ (s.start.trained = false → t.start.stage = 4)) ∧
      (s.start.drifted = false → exec (.coolingCheck base pulse true) s =
        .next { s with start := { s.start with drifted := true, again := s.start.again + 1 } }) ∧
      (s.start.drifted = true → Completes (.coolingCheck base pulse true) s fun t => t.start.cooled = true ∧ t.start.coolingInForce = 0 ∧
        (s.start.trained = true → t.start.stage = 5 ∧ t.power.capW = capOf 0)))

/-- Stage 5 ends with the sub-ports that trained, and stage 6 at once where the image names no archipelago; a join sets map, role and
time base, and its trained engines with four good lanes are in service; a limit ends stage 5 or 6 degraded; ready opens the journal under a new ID and makes
the running firmware active, a trial's proven (09 R247, R252, 11 R301, R303, 14 R409). (The model's readings: log 72, 73.) -/
def Obligations.LinksJoinAndReady : Prop :=
  ∀ (s : State),
    let ended : State → Prop := fun t => if s.arch.topology = 0 then t.start.stage = 7 else t.start.stage = 6 ∧ t.arch.state = 1
    (s.inStage 5 = true →
      (∀ (up : Byte) (lanes : W16), Completes (.hostLinkUpDone up lanes) s fun t => ended t ∧
        (t.hostPort 0).up.toNat = up.toNat % 16 % 2 ^ subPortsOf (s.hostPort 0).mode ∧
        (t.hostPort 1).up.toNat = up.toNat / 16 % 2 ^ subPortsOf (s.hostPort 1).mode) ∧
      Completes .stageLimitExpiry s ended) ∧
    (s.inStage 6 = true → Completes .stageLimitExpiry s fun t => t.start.stage = 7 ∧ t.arch = s.arch) ∧
    (∀ (members : W64) (epoch : W16) (master deputy : Fin 64) (time : W64) (engines : BitVec 24),
      s.arch.state = 1 → s.inStage 6 = true ∨ s.start.ready = true →
      Completes (.joinDone members epoch master deputy time engines) s fun t =>
        t.arch.state = 2 ∧ t.arch.members = members ∧ t.arch.epoch = epoch ∧ t.arch.master = master.val ∧ t.arch.deputy = deputy.val ∧
        t.arch.role = (if s.arch.seat = master.val then 3 else if s.arch.seat = deputy.val then 2 else 1) ∧ t.timeBase = time ∧
        t.start.stage = (if s.start.ready then s.start.stage else 7) ∧
        ∀ e < 24, (s.arch.trunkOf e).isSome → (s.engine e).state = 1 → (t.engine e).state =
          if engines.getLsbD e ∧ 4 ≤ ({ s.engine e with laneUse := firstEight (s.engine e).good }).width then 2 else 3) ∧
    (∀ ms, s.inStage 7 = true → Completes (.ready ms) s fun t => t.start.ready = true ∧ t.start.active = false ∧ t.start.stage = 7 ∧
      t.start.tfTrial = false ∧ t.start.opfwTrial = false ∧ t.journal.id = Config.free64 s.freeCtr ∧ t.chassis.alerts = s.chassis.alerts ||| 1 ∧
      t.nv.tfActive = s.start.tfSlot ∧ t.nv.opfwActive = s.start.opfwSlot ∧ t.nv.startCount = s.nv.startCount ∧
      (s.start.tfTrial = true → t.nv.proven.getLsbD 0 = true) ∧ (s.start.opfwTrial = true → t.nv.proven.getLsbD 1 = true))

/-! ### Pins, removal and the sideband (15 R426, R427, R437, R439, 16 R450 to R457) -/

/-- Main power goes when presence breaks or the input leaves its range, with all that is volatile; MOD_RESET# low for 1 ms resets the
module and holds it until release, but not during removal; an open latch takes the module out of service, and its end opens the main
switch; the sideband gives an address, reports sensors and reads registers; a register write clears alerts by W1C and changes nothing else, answered
OK, or ADDRESS_UNMAPPED where no register block stands (00 R12, 15 R426, R427, R437, R439, 16 R450 to
R457, 00 R14). (The model's readings: log 75 to 78.) -/
def Obligations.PinsAndSidebandAct : Prop :=
  ∀ (s : State),
    let x := s.chassis
    let dark : State → Prop := fun t => t.chassis.main = false ∧ t.chassis.applied = false ∧ t.start = {} ∧ t.mem = [] ∧ t.cores = [] ∧
      t.sched = {} ∧ t.journal = {} ∧ t.timeBase = 0 ∧ t.nv = s.nv
    (exec .presentMake s = .next { s with chassis := { x with present := true } } ∧
      exec .latchOpenRelease s = .next { s with chassis := { x with latchOpen := false } } ∧
      (x.main = true → Completes .presentBreak s fun t => dark t ∧ t.chassis.present = false ∧ t.log.entries = s.log.entries) ∧
      (x.main = false → exec .presentBreak s = .next { s with
        chassis := { x with applied := false, present := false, indicator := false }, start := {} }) ∧
      ∀ mv : W32, mv.toNat ≤ 63000 →
        (mv.toNat < 40000 ∨ 59500 < mv.toNat → x.main = true → Completes (.inputOutOfRange mv) s fun t => dark t ∧
          t.chassis.inputMv = mv.toNat ∧ t.chassis.fellBelow = (x.fellBelow || decide (mv.toNat < 40000))) ∧
        (mv.toNat < 40000 ∨ 59500 < mv.toNat → x.main = false → exec (.inputOutOfRange mv) s = .next { s with
          chassis := { x with applied := false, inputMv := mv.toNat, fellBelow := x.fellBelow || decide (mv.toNat < 40000) }, start := {} }) ∧
        (40000 ≤ mv.toNat → mv.toNat ≤ 59500 → exec (.inputOutOfRange mv) s = .next s ∧ exec (.inputReturnsToRange mv) s =
          .next { s with chassis := { x with inputMv := mv.toNat, tripped := x.tripped && !x.fellBelow } })) ∧
    ((∀ us, us < 100 → exec (.modResetAssert us) s = .next s) ∧
      (∀ us, 1000 ≤ us → x.removal ≠ 0 ∨ x.main = false →
        exec (.modResetAssert us) s = .next { s with chassis := { x with modReset := true } }) ∧
      (∀ us, 1000 ≤ us → x.removal = 0 → x.main = true → Completes (.modResetAssert us) s fun t =>
        t.chassis.modReset = true ∧ t.chassis.main = true ∧ t.mem = [] ∧ t.cores = [] ∧ t.sched = {} ∧ t.start.active = false ∧
        t.start.ready = false ∧ t.start.kind = 1 ∧ t.start.resetCause = 1 ∧ t.start.prevReports = s.start.reports ∧
        t.hbm.prevMode = s.hbm.prevMode ∧ t.timeBase = s.timeBase ∧ t.nv = s.nv ∧ t.log.entries = s.log.entries) ∧
      (let held := x.main = true ∧ x.removal = 0 ∧ s.start.kind = 1 ∧ s.start.active = false ∧ s.start.ready = false ∧ s.start.failed = false
       x.modReset = true → (held → exec .modResetRelease s = .next { s with
          chassis := { x with modReset := false }
          start := { s.start with active := true, zero := s.timeBase.toNat, before := 0, begun := 0 } }) ∧
        (¬ held → exec .modResetRelease s = .next { s with chassis := { x with modReset := false } }))) ∧
    ((∀ us, 1000 ≤ us → x.latchOpen = false → x.main = true → x.removal = 0 → s.start.ready = true →
        Completes (.latchOpenAssert us) s fun t => t.chassis.latchOpen = true ∧ t.chassis.removing = true ∧
          t.chassis.alerts = x.alerts ||| 32 ∧ t.host.partials = [] ∧ t.mem = s.mem ∧ t.cores = s.cores ∧
          (s.arch.topology = 0 → t.chassis.removal = 2 ∧ t.host.staging = none) ∧
          (s.arch.topology ≠ 0 → 2 ≤ s.arch.state → x.standby = false → (t.chassis.removal = 1 ∨ t.chassis.removal = 2) ∧
            t.arch.state = 0 ∧ t.arch.members = s.arch.members &&& ~~~(seatBit s.arch.seat))) ∧
      (∀ us, 1000 ≤ us → x.latchOpen = false → x.main = true → x.removal = 0 → s.start.ready = false →
        exec (.latchOpenAssert us) s = .next { s with
          chassis := { x with latchOpen := true, removal := 2, removing := true, leaving := none }
          start := { s.start with active := false }, host := { s.host with staging := none } }) ∧
      (∀ us, us < 1000 ∨ x.latchOpen = true → exec (.latchOpenAssert us) s = .next s) ∧
      (x.removal = 1 → exec .mirrorWaitExpiry s = .next { s with
        chassis := { x with removal := 2, removing := true, leaving := none }, host := { s.host with staging := none } }) ∧
      (x.removal = 2 → Completes .removalWritesDone s fun t => dark t ∧ t.chassis.removal = 0 ∧ t.chassis.indicator = true ∧
        t.log.entries = s.log.entries ++ s.log.waiting)) ∧
    (x.main = true → s.start.ready = true →
      (∀ b addr, exec (.sidebandAddressAssign b addr) s = .next { s with chassis := { x with dynAddr := some addr } }) ∧
      (∀ lid, Completes (.pldmSensorUpdate lid) s fun t => t.chassis = { x with lidTemp := lid } ∧ ∃ hot die mode,
        t.out = s.out ++ [.sensors [s.power.inputMv, s.power.inputW, hot, die, lid.toNat, s.power.capW, mode]]) ∧
      (∀ a v : W64,
        (vendorReadable a.toNat = true → exec (.vendorRegisterRead 1 a) s = .next (s.emit (.sideband 0 ((s.readReg a.toNat).getD 0)))) ∧
        (vendorReadable a.toNat = false → exec (.vendorRegisterRead 1 a) s = .next (s.emit (.sideband 0x0201 0))) ∧
        (a.toNat = 0x07F00000B000 →
          (Completes (.vendorRegisterWrite 2 a v) s fun t => t.chassis.alerts = x.alerts &&& ~~~(v.truncate 6) ∧
            ∃ r, t.out = s.out ++ [.sideband 0 r]) ∧
          exec (.registerWrite a v) s =
            .next (State.emit { s with chassis := { x with alerts := x.alerts &&& ~~~(v.truncate 6) } } (.access 0))) ∧
        (a.toNat ≠ 0x07F00000B000 → exec (.vendorRegisterWrite 2 a v) s = .next (s.emit (.sideband 0x0201 0)) ∧
          exec (.registerWrite a v) s = .next (s.emit (.access (if (s.readReg a.toNat).isSome then 0 else 0x0201))))))

/-! ### Phases, dips and currents (12 R335 to R350) -/

/-- A phase that fails is isolated: a region with seven left goes dark, a transit or lagoon domain with none left resets the module
with cause 6, an attach domain with none loses its stacks. A dip fills half the beats until 2 us after recovery, with the boost banks of the
waking neighbours behind it; a reset-level dip resets the cluster, and the third in 10 s lowers its ceiling. A transit or lagoon rail below
its warning level is paced, 18 % below its set point paused, and below 55 % of it resets the module. Over-current adds 16/64, a trip resets the cluster and a second one within
1 s substitutes the hottest slot; the sector limit steps by 1/64 (12 R335, R337 to R339, R344 to R346, R349, R350).
(The model's readings: log 37, 38, 119.) -/
def Obligations.SupplyFaultsAct : Prop :=
  ∀ (s : State) (i : IslandId),
    let y := s.island i.val
    (∀ (d : Fin 4) (ph : Fin 12), let c := i.val * 4 + d.val
      let x := s.cluster c
      let bits := x.isolated ||| BitVec.ofNat 12 (2 ^ ph.val)
      (x.isolated.getLsbD ph.val = true → exec (.phaseFailure i (d.castLE (by decide)) ph) s = .next s) ∧
      (x.isolated.getLsbD ph.val = false → Completes (.phaseFailure i (d.castLE (by decide)) ph) s fun t =>
        (t.cluster c).isolated = bits ∧ (t.cluster c).counters.isolations = x.counters.isolations + 1 ∧
        (bitCount bits ≤ 4 → (t.cluster c).region = x.region ∧ t.cores = s.cores) ∧ (5 ≤ bitCount bits → (t.cluster c).region = .dark) ∧
        (2 ≤ bitCount bits → t.chassis.alerts.getLsbD 3 = true))) ∧
    (∀ ph : Fin 12,
      (∀ bits, ph.val < 4 → y.transitIsolated.getLsbD ph.val = false → bits = y.transitIsolated ||| BitVec.ofNat 4 (2 ^ ph.val) →
        Completes (.phaseFailure i 4 ph) s fun t =>
          (bitCount bits < 4 → t.island i.val = { y with transitIsolated := bits } ∧ t.cores = s.cores) ∧
          (bitCount bits = 4 → s.chassis.main = true → t.start.resetCause = 6 ∧ t.cores = [] ∧ t.timeBase = s.timeBase)) ∧
      (∀ bits, ph.val < 6 → y.lagoonIsolated.getLsbD ph.val = false → bits = y.lagoonIsolated ||| BitVec.ofNat 6 (2 ^ ph.val) →
        Completes (.phaseFailure i 5 ph) s fun t =>
          (bitCount bits < 6 → t.island i.val = { y with lagoonIsolated := bits }) ∧
          (bitCount bits = 6 → s.chassis.main = true → t.start.resetCause = 6)) ∧
      (∀ bits, ph.val < 8 → i.val ≠ 4 → i.val ≠ 7 → y.attachIsolated.getLsbD ph.val = false →
        bits = y.attachIsolated ||| BitVec.ofNat 8 (2 ^ ph.val) → Completes (.phaseFailure i 6 ph) s fun t =>
          t.island i.val = { y with attachIsolated := bits } ∧
          ∀ k < 16, if bits = 0xFF ∧ clusterAt (attachNode k) / 4 = i.val then (t.stack k).state = .lost else t.stack k = s.stack k) ∧
      (4 ≤ ph.val ∨ y.transitIsolated.getLsbD ph.val = true → exec (.phaseFailure i 4 ph) s = .next s) ∧
      (6 ≤ ph.val ∨ y.lagoonIsolated.getLsbD ph.val = true → exec (.phaseFailure i 5 ph) s = .next s) ∧
      (8 ≤ ph.val ∨ i.val = 4 ∨ i.val = 7 ∨ y.attachIsolated.getLsbD ph.val = true → exec (.phaseFailure i 6 ph) s = .next s)) ∧
    (∀ ph : Fin 4, y.sectorIsolated.getLsbD ph.val = false → Completes (.sectorPhaseFailure i ph) s fun t =>
      t.island i.val = { y with sectorIsolated := y.sectorIsolated ||| BitVec.ofNat 4 (2 ^ ph.val) } ∧
      (y.sectorIsolated = 0 → t.chassis.alerts.getLsbD 3 = true)) ∧
    (∀ amp, exec (.sectorLimit i amp) s =
        .next (s.modIsland i.val fun z => { z with sectorCurrent := amp.toNat, bSector := min 63 (y.bSector + 1) }) ∧
      exec (.sectorLimitRelease i) s = .next (s.modIsland i.val fun z => { z with bSector := 0 })) ∧
    (∀ mv : W16, let w := mv.toNat
      let pacing : Nat → Nat := fun set => if 100 * w < 82 * set then 2 else if 100 * w < 91 * set then 1 else 0
      (100 * w < 55 * 720 → s.chassis.main = true → Completes (.dipWarning (.transit i) mv) s fun t => t.start.resetCause = 6 ∧ t.cores = []) ∧
      (55 * 720 ≤ 100 * w → exec (.dipWarning (.transit i) mv) s = .next (s.modIsland i.val fun z => { z with transitRail := pacing 720 })) ∧
      (100 * w < 55 * 700 → s.chassis.main = true → Completes (.dipWarning (.lagoon i) mv) s fun t => t.start.resetCause = 6 ∧ t.cores = []) ∧
      (55 * 700 ≤ 100 * w → exec (.dipWarning (.lagoon i) mv) s = .next (s.modIsland i.val fun z => { z with lagoonRail := pacing 700 })) ∧
      ∀ ns, exec (.dipRecovery (.transit i) ns mv) s = .next (s.modIsland i.val fun z => { z with transitRail := 0 }) ∧
        exec (.dipRecovery (.lagoon i) ns mv) s = .next (s.modIsland i.val fun z => { z with lagoonRail := 0 }).releaseHeld) ∧
    ∀ c : ClusterId, let x := s.cluster c.val
      let mine : Nat → Prop := fun k => k / 4 = c.val / 4
      (∀ ns low, x.region = .running →
        (Completes (.dipWarning (.region c) low) s fun t => t.cores = s.cores ∧ ∀ k,
          let y := if k = c.val then { x with bDip := 32, dipping := true } else s.cluster k
          t.cluster k = if mine k ∧ y.bank = .reserve then { y with bank := .supports (c.val % 4) } else y) ∧
        Completes (.dipResetLevel c ns low) s fun t => (t.cluster c.val).resetting = true ∧
          (t.cluster c.val).region = (if x.shed then .gated else .dark) ∧
          (t.cluster c.val).counters.dipResets = x.counters.dipResets + 1 ∧
          (t.cluster c.val).ceilingDrop =
            x.ceilingDrop + (if 2 ≤ (x.dipTimes.filter fun u => decide (s.timeBase.toNat - u < 10000000000)).length then 1 else 0) ∧
          ∀ p < 12, (t.core (c.val * 12 + p)).inTurn = false) ∧
      (∀ amp, exec (.regionOvercurrent c amp) s = .next (s.modCluster c.val fun z => { z with
        current := amp.toNat, bOver := if x.region = .running then 16 else z.bOver })) ∧
      (exec (.overcurrentRelease c) s = .next (s.modCluster c.val fun z => { z with bOver := 0 })) ∧
      (x.dipping = false → exec (.dipBubbleRelease c) s = .next (s.modCluster c.val fun z => { z with bDip := 0 })) ∧
      (∀ ns low, Completes (.dipRecovery (.region c) ns low) s fun t => t.cores = s.cores ∧ ∀ k,
        let y := s.cluster k
        let z := if mine k ∧ y.bank = .supports (c.val % 4) then { y with bank := .reserve } else y
        t.cluster k = (if k = c.val ∧ x.dipping = true then
            { z with dipping := false, counters := { z.counters with dips := z.counters.dips + 1 } } else z) ∧
          SMap.getD t.eventCounts 0x8011 0 = SMap.getD s.eventCounts 0x8011 0 + (if x.dipping = true ∧ 10000 < ns.toNat then 1 else 0)) ∧
      ∀ (hot : Fin 14), x.region = .running → Completes (.overcurrentTrip c hot) s fun t => (t.cluster c.val).resetting = true ∧
        (t.cluster c.val).counters.trips = x.counters.trips + 1 ∧ (t.cluster c.val).tripTime = some s.timeBase.toNat ∧
        (x.tripTime = none → (t.cluster c.val).map = x.map) ∧
        ∀ u p n, x.tripTime = some u → s.timeBase.toNat - u < 1000000000 → x.map.idxOf? hot.val = some p → p < 12 → x.lowestReserve = some n → s.thirdRuns c.val = false →
          (t.cluster c.val).map = x.map.set p n

/-! ### Heat and the cap (12 R352, R354, R356) -/

/-- A region sheds at 105 C, one in its cluster reset too (12 R368), at 110 C whatever the firmware does, and at 120 C main power goes for good; above 100 C each degree
adds 6/64, at most 30/64; a shed region may wake below 95 C. The cap's grants never exceed the demands, keep the floors and stay
within the cap; where all demands fit the cap, each class is granted its own; a lone
compute demand beyond the cap slows by the lacking fraction, rounded up to 1/64. The backstop adds 16/64 while it acts (12 R352, R354,
R356, R368, 16 R455). (The model's readings: log 36.) -/
def Obligations.HeatAndCapAct : Prop :=
  ∀ (s : State),
    (∀ (c : ClusterId) (transit : Bool) (temp : Byte), let x := s.cluster c.val
      let read := s.modCluster c.val fun z => { z with temp := temp.toNat }
      (120 ≤ temp.toNat → Completes (.junctionSensorRead c transit temp) s fun t =>
        t.chassis.main = false ∧ t.chassis.tripped = true ∧ t.mem = [] ∧ t.cores = [] ∧ t.nv = s.nv) ∧
      (temp.toNat < 120 → exec (.junctionSensorRead c true temp) s =
        .next (s.modIsland (c.val / 4) fun z => { z with transitTemp := temp.toNat })) ∧
      (temp.toNat < 100 → exec (.junctionSensorRead c false temp) s = .next read) ∧
      (100 ≤ temp.toNat → temp.toNat < 105 → exec (.junctionSensorRead c false temp) s =
        .next (if x.temp < 100 then read.alert 1 else read)) ∧
      (105 ≤ temp.toNat → temp.toNat < 120 → x.region = .waking → exec (.junctionSensorRead c false temp) s =
        .next (if x.temp < 100 then read.alert 1 else read)) ∧
      (105 ≤ temp.toNat → temp.toNat < 120 → x.region = .running ∨ x.region = .gated ∨ x.region = .dark ∧ x.resetting = true → x.shed = false →
        s.power.safeFloor = false ∨ 110 ≤ temp.toNat → Completes (.junctionSensorRead c false temp) s fun t => (t.cluster c.val).region = .gated ∧ (t.cluster c.val).shed = true ∧
          (t.cluster c.val).op = 0 ∧ (t.cluster c.val).counters.sheds = x.counters.sheds + 1 ∧ t.chassis.alerts.getLsbD 1 = true) ∧
      (temp.toNat < 120 → Completes (.junctionSensorRead c false temp) s fun t => (t.cluster c.val).temp = temp.toNat ∧
        (105 ≤ temp.toNat → x.region = .dark → x.resetting = false → (t.cluster c.val).region = .dark)) ∧
      (x.shed = true → x.temp < 95 → Completes (.shedRelease c) s fun t => (t.cluster c.val).shed = false ∧ t.cores = s.cores ∧
        ((s.hostedBy c.val).isSome = false → (t.cluster c.val).released = true) ∧
        SMap.getD t.eventCounts 0x8012 0 = SMap.getD s.eventCounts 0x8012 0 + (if (s.hostedBy c.val).isSome then 1 else 0)) ∧
      (x.shed = false ∨ 95 ≤ x.temp → exec (.shedRelease c) s = .next s)) ∧
    (s.power.safeFloor = false → Completes .throttleRecompute s fun t => ∀ c < 48, t.cluster c = { s.cluster c with
      bThrottle := if (s.cluster c).temp < 100 then 0 else min 30 (6 * ((s.cluster c).temp - 100)) }) ∧
    (s.power.safeFloor = true → exec .throttleRecompute s = .next s ∧ exec .capOpPointStep s = .next s ∧
      ∀ d, exec (.capShareTick d) s = .next { s with power := { s.power with inputW := d.inputW, inputMv := d.inputMv } }) ∧
    (∀ d : Demands, s.power.safeFloor = false →
      let demand : Nat → Nat := fun k => [d.assured, d.hbm, d.compute, d.bulk].getD k 0
      (Completes (.capShareTick d) s fun t => t.power.bCap ≤ 56 ∧ t.power.inputW = d.inputW ∧ t.power.inputMv = d.inputMv ∧
        t.cores = s.cores ∧ t.clusters = s.clusters) ∧
      (s.capOrder.Perm [0, 1, 2, 3] → Completes (.capShareTick d) s fun t =>
        let grant : Nat → Nat := fun k => t.power.grants.getD k 0
        (∀ k < 4, grant k ≤ demand k ∧ (if k = 0 then demand k else demand k / 8) ≤ grant k) ∧
        8 * (grant 0 + grant 1 + grant 2 + grant 3) ≤ max (8 * (s.power.capW - d.fixed)) (8 * d.assured + d.hbm + d.compute + d.bulk) ∧
        (grant 2 = d.compute → t.power.bCap = 0)) ∧
      (s.capOrder.Perm [0, 1, 2, 3] → d.fixed + d.assured + d.hbm + d.compute + d.bulk ≤ s.power.capW →
        Completes (.capShareTick d) s fun t => t.power.bCap = 0 ∧ t.power.grants = [d.assured, d.hbm, d.compute, d.bulk] ∧
          t.power.inputW = d.inputW ∧ t.cores = s.cores) ∧
      (s.capOrder.Perm [0, 1, 2, 3] → d.assured = 0 → d.hbm = 0 → d.bulk = 0 → s.power.capW < d.fixed + d.compute →
        d.fixed + d.compute ≤ s.power.capW + 7 * (s.power.capW - d.fixed) → Completes (.capShareTick d) s fun t =>
          t.power.bCap = (64 * (d.compute + d.fixed - s.power.capW) + d.compute - 1) / d.compute)) ∧
    (s.power.safeFloor = false →
      (8 < s.power.bCap → exec .capOpPointStep s = .next { s with power := { s.power with capCut := min 7 (s.power.capCut + 1) } }) ∧
      (s.power.bCap = 0 → s.power.underUsed = true →
        exec .capOpPointStep s = .next { s with power := { s.power with capCut := s.power.capCut - 1 } }) ∧
      (s.power.bCap ≤ 8 → ¬ (s.power.bCap = 0 ∧ s.power.underUsed = true) → exec .capOpPointStep s = .next s)) ∧
    (∀ w, Completes (.capBackstop w) s fun t => t = { s with power := { s.power with backstop := true, inputW := w.toNat } } ∧
      (∀ c, t.bubbles c = max 16 (s.bubbles c)) ∧ (t.powerReg 0x10).toNat / 4 % 4 = 2) ∧
    (let t : State := { s with power := { s.power with backstop := false } };
      exec .capBackstopRelease s = .next t ∧ (t.powerReg 0x10).toNat / 4 % 4 ≠ 2)

/-! ### Operating points, wakes, hints and the safe floor (12 R343, R348, R357, R358, R360) -/

/-- A region takes the lowest point that reaches its ceiling; a wake joins its sector's queue, closes eight header stages in turn, its boost
bank in reserve, and then runs, or is gated again if it is too hot by then; a hint prepares, ramps its array up and, ended, down; an expiry of the power-management pair holds every region at point 2 or
below until the restart, and one in a trial of firmware resets the module with cause 5 (12 R344, R348, R352, R357, R358, R360, R368,
14 R409).
(The model's readings: log 35, 80.) -/
def Obligations.PointsWakesAndHints : Prop :=
  ∀ (s : State) (c : ClusterId),
    let x := s.cluster c.val
    let only : State → Prop := fun t => ∀ k, k ≠ c.val → t.cluster k = s.cluster k
    (x.region = .running → s.power.safeFloor = false → Completes (.opPointSlewDone c) s fun t => only t ∧
      1 ≤ (t.cluster c.val).op ∧ (t.cluster c.val).op ≤ 8 ∧ s.ceilingPace c.val ≤ nominalPace (t.cluster c.val).op ∧
      ∀ o, 1 ≤ o → o < (t.cluster c.val).op → nominalPace o < s.ceilingPace c.val) ∧
    (x.region = .running → s.power.safeFloor = true → Completes (.opPointSlewDone c) s fun t => only t ∧
      1 ≤ (t.cluster c.val).op ∧ (t.cluster c.val).op ≤ 2) ∧
    (x.region ≠ .running → exec (.opPointSlewDone c) s = .next (s.modCluster c.val fun z => { z with op := 0 })) ∧
    (x.released = true → Completes (.wakeRequest c) s fun t => (t.cluster c.val).released = false ∧ t.cores = s.cores ∧
      SMap.getD t.eventCounts 0x8012 0 = SMap.getD s.eventCounts 0x8012 0 + 1) ∧
    (x.released = false → (x.shed = true → exec (.wakeRequest c) s = .next s) ∧
      (x.region ≠ .running → x.shed = false → s.inService c.val = true → (s.island (c.val / 4)).wakes.contains c.val = false →
        exec (.wakeRequest c) s = .next (s.modIsland (c.val / 4) fun z => { z with wakes := z.wakes ++ [c.val] }))) ∧
    (s.wakeTurn c.val = true →
      (x.wake = none → s.power.safeFloor = false → ∀ amp, Completes (.wakeHeadroomTimeout c amp) s fun t =>
        1 ≤ (t.island (c.val / 4)).bHeadroom ∧ (t.island (c.val / 4)).bHeadroom ≤ 63 ∧ t.cores = s.cores ∧
        (t.cluster c.val).counters.deferred = x.counters.deferred + 1 ∧
        SMap.getD t.eventCounts 0x8014 0 = SMap.getD s.eventCounts 0x8014 0 + 1) ∧
      (s.neighbourDips c.val = false →
        (x.wake = none → s.power.safeFloor = false →
          exec (.wakeHeaderStage c) s = .next (s.modCluster c.val fun z => { z with
            region := .waking, wake := some 1, bank := .reserve })) ∧
        (∀ n, x.wake = some n → n < 8 → exec (.wakeHeaderStage c) s = .next (s.modCluster c.val fun z => { z with wake := some (n + 1) })))) ∧
    (s.wakeTurn c.val = false ∨ s.neighbourDips c.val = true → exec (.wakeHeaderStage c) s = .next s) ∧
    (x.wake = some 8 → x.temp < 105 → Completes (.wakeSettled c) s fun t => (t.cluster c.val).region = .running ∧
      (t.cluster c.val).wake = none ∧ (t.cluster c.val).doze = false ∧ (t.cluster c.val).bank = .own ∧
      c.val ∉ (t.island (c.val / 4)).wakes) ∧
    (x.wake = some 8 → x.shed = false → 110 ≤ x.temp ∨ 105 ≤ x.temp ∧ s.power.safeFloor = false → Completes (.wakeSettled c) s fun t =>
      (t.cluster c.val).region = .gated ∧ (t.cluster c.val).shed = true) ∧
    (∀ h, x.hint = some h →
      (s.power.safeFloor = false → x.region = .running →
        (Completes (.hintPrepare c) s fun t => only t ∧ t.cluster c.val = { x with hint := some { h with prepared := true } }) ∧
        Completes (.hintDummyRamp c) s fun t => t.clusters = s.clusters ∧ s.power.bCap ≤ t.power.bCap ∧
          (∀ L ∈ s.hintCores c.val h, (s.core L).arrayState = 0 ∨ (s.core L).arrayState = 3 → (t.core L).arrayState = 2) ∧
          ∀ K, K ∉ s.hintCores c.val h → t.core K = s.core K) ∧
      (s.power.safeFloor = true ∨ x.region ≠ .running → exec (.hintPrepare c) s = .next s ∧ exec (.hintDummyRamp c) s = .next s) ∧
      Completes (.hintExpiry c) s fun t => t.cluster c.val = { x with hint := none } ∧
        (∀ L, h.core = some L → s.hintCores c.val h = [L]) ∧
        ∀ L ∈ s.hintCores c.val h, (s.core L).arrayState = 2 → (t.core L).arrayState = 3 ∧ (t.core L).ramp = 20) ∧
    (x.hint = none → exec (.hintDummyRamp c) s = .next s ∧ exec (.hintExpiry c) s = .next s ∧
      Completes (.hintPrepare c) s fun t => (∀ k, t.cluster k = s.cluster k) ∧ t.cores = s.cores) ∧
    (let recent := (s.power.expiries.filter fun u => decide (s.timeBase.toNat - u < 600000000000)).length;
      (s.onTrial = false → recent < 2 → Completes .pmWatchdogExpiry s fun t => t.power.safeFloor = true ∧
        t.power.bCap = max s.power.bCap 16 ∧ t.firmware.pmRestarts = s.firmware.pmRestarts + 1 ∧ t.cores = s.cores ∧
        ∀ k < 48, (t.cluster k).op = min (s.cluster k).op 2 ∧ (t.cluster k).region = (s.cluster k).region) ∧
      (s.chassis.main = true → s.onTrial = true → Completes .pmWatchdogExpiry s fun t =>
        t.start.resetCause = 5 ∧ t.power = {} ∧ t.timeBase = s.timeBase)) ∧
    (s.power.safeFloor = false ∨ s.pairsOff = true → exec .pmRestartDone s = .next s) ∧
    (s.power.safeFloor = true → s.pairsOff = false → Completes .pmRestartDone s fun t => t.power = { s.power with safeFloor := false } ∧ t.cores = s.cores ∧
      ∀ k < 48, (s.cluster k).region = .running → s.ceilingPace k ≤ nominalPace (t.cluster k).op)

/-! ### Firmware, the log and low power (11 R319, 14 R402 to R414, 15 R429 to R435) -/

/-- An expiry of the security pair resets the module, as any pair's does in a trial of firmware; one of the scheduler pair restarts it;
a control core's partner adopts its cluster, or both leave service; a unit that is out enters the log under the next head, any other
request is counted; a cluster reset leaves its region running at point 1. While the scheduler core restarts its timers stop and no job of
its own goes on (10 R283, 11 R319, 14 R402, R404, R409 to R413, R424, 15 R429). (The model's readings: log 63, 73, 120.) -/
def Obligations.WatchdogsAndLogAct : Prop :=
  ∀ (s : State),
    let recent := (s.firmware.schedExpiries.filter fun u => decide (s.timeBase.toNat - u < 600000000000)).length
    let restarts : W64 → Nat → State → Prop := fun mism cause t => t.sched = { s.sched with restarting := true } ∧
      t.firmware.schedRestarts = s.firmware.schedRestarts + 1 ∧ t.firmware.schedCause = cause ∧ t.firmware.mismatches = mism ∧
      t.cores = s.cores ∧ t.mem = s.mem ∧ t.start = s.start
    let resets : Byte → State → Prop := fun cause t => t.start.resetCause = cause ∧ t.start.kind = 1 ∧ t.cores = [] ∧
      t.timeBase = s.timeBase ∧ t.nv = s.nv ∧ t.log.entries = s.log.entries
    (s.chassis.main = true → Completes .securityWatchdogExpiry s (resets (if s.onTrial then 5 else 2)) ∧
      Completes (.lockstepMismatch 0) s (resets (if s.onTrial then 5 else 3)) ∧
      (s.onTrial = true → Completes .schedulerWatchdogExpiry s (resets 5) ∧ Completes (.lockstepMismatch 2) s (resets 5))) ∧
    (s.onTrial = false → recent < 2 → Completes .schedulerWatchdogExpiry s (restarts s.firmware.mismatches 0) ∧
      Completes (.lockstepMismatch 2) s (restarts (s.firmware.mismatches + 1) 1)) ∧
    (s.sched.restarting = true → s.pairsOff = false → ∀ us, ∃ t : State, exec (.schedulerRestartDone us) s = .next t.runWaiting ∧
      t.sched.restarting = false ∧ (s.start.ready = true → t.start.deferred = []) ∧
      SMap.getD t.eventCounts 0x8003 0 = SMap.getD s.eventCounts 0x8003 0 + 1) ∧
    (s.sched.restarting = false ∨ s.pairsOff = true → ∀ us, exec (.schedulerRestartDone us) s = .next s) ∧
    (s.sched.restarting = true → ∀ (p : PartId) (sid : W64), exec (.leaseExpiry sid) s = .next s ∧ exec (.retentionExpiry sid) s = .next s ∧
      exec (.jobLoadDone p) s = .next s ∧ exec (.turnCommit p) s = .next s ∧ exec (.partitionResetDone p) s = .next s ∧
      exec (.doublesCompare p) s = .next s) ∧
    (s.sched.restarting = true → s.pairsOff = false → s.host.waiting = [] → (∀ p, (s.part p).job = none) → ∀ us, Completes (.schedulerRestartDone us) s fun t =>
      t.sched = { s.sched with restarting := false } ∧ t.host.waiting = [] ∧ t.cores = s.cores ∧ (s.start.ready = true →
        t.start.deferred = [] ∧ t.journal.next = s.journal.next + 1 + s.start.deferred.length ∧
        SMap.getD t.eventCounts 0x8003 0 = SMap.getD s.eventCounts 0x8003 0 + 1)) ∧
    (∀ c : ClusterId, let q := if c.val % 2 = 0 then c.val + 1 else c.val - 1
      s.onTrial = false → (s.cluster c.val).cccDown = false →
      ((s.cluster q).cccDown = false → Completes (.cccWatchdogExpiry c) s fun t => (t.cluster c.val).cccDown = true ∧
        (t.cluster c.val).map = (s.cluster c.val).map ∧ (t.cluster q).cccDown = false ∧
        t.firmware.adoptions = s.firmware.adoptions + 1 ∧ SMap.getD t.eventCounts 0x8001 0 = SMap.getD s.eventCounts 0x8001 0 + 1) ∧
      ((s.cluster q).cccDown = true → Completes (.cccWatchdogExpiry c) s fun t => (t.cluster c.val).cccDown = true ∧
        t.inService c.val = false ∧ t.inService q = false)) ∧
    (∀ u src ev,
      (s.unitOut u = false → exec (.logAppendRequest u src ev) s =
        .next { s with firmware := { s.firmware with refused := s.firmware.refused + 1 } }) ∧
      (s.unitOut u = true → s.log.units.contains u = true → exec (.logAppendRequest u src ev) s = .next s) ∧
      (s.unitOut u = true → s.log.units.contains u = false → s.log.units.length < 260096 → Completes (.logAppendRequest u src ev) s fun t =>
        t = { s with log := t.log } ∧ ∃ e, t.log = { s.log with waiting := s.log.waiting ++ [e] } ∧ e.unit = u ∧ e.source = src ∧
          e.event = ev ∧ e.time = s.timeBase ∧ e.startCount = s.nv.startCount) ∧
      (s.unitOut u = true → s.log.units.contains u = false → 260096 ≤ s.log.units.length → exec (.logAppendRequest u src ev) s =
        .next { s with log := { s.log with full := true } })) ∧
    (exec .logHeadWritten s = .next (if s.log.waiting = [] then s else { s with log := { s.log with
      entries := s.log.entries ++ s.log.waiting, waiting := [], generation := s.log.generation + 1 } })) ∧
    (∀ c : ClusterId, (s.cluster c.val).resetting = true →
      Completes (.clusterResetDone c) s fun t => (t.cluster c.val).resetting = false ∧
        ((s.cluster c.val).shed = true → (t.cluster c.val).region = (s.cluster c.val).region) ∧
        ((s.cluster c.val).shed = false → (t.cluster c.val).region = .running ∧ (t.cluster c.val).op = 1))

/-- Outside a trial of firmware (14 R409), an expiry of the scheduler pair or of the power-management pair (a lockstep mismatch counts
as one, 14 R402) that is the third of its pair within 600 s of the first resets the module with RESET_CAUSE 4; a third later than that,
a second and a first reset nothing, so a single fault never does (14 R414). -/
def Obligations.ThirdExpiryResets : Prop :=
  ∀ (s : State), s.onTrial = false →
    let now := s.timeBase.toNat
    let resets : Instr → Prop := fun c => Completes c s fun t => t.start.resetCause = 4 ∧ t.start.kind = 1 ∧ t.start.ready = false ∧
      t.cores = [] ∧ t.timeBase = s.timeBase ∧ t.nv = s.nv
    let keeps : Instr → Prop := fun c => Completes c s fun t => t.start = s.start ∧ t.cores = s.cores ∧ t.mem = s.mem ∧
      t.sched.parts = s.sched.parts ∧ t.timeBase = s.timeBase ∧ t.nv = s.nv
    let counted : Instr → List Nat → Prop := fun c earlier =>
      (∀ first second, earlier = [first, second] → first ≤ second →
        (s.chassis.main = true → now - first < 600000000000 → resets c) ∧ (600000000000 < now - first → keeps c)) ∧
      (earlier.length < 2 → keeps c)
    counted .schedulerWatchdogExpiry s.firmware.schedExpiries ∧ counted (.lockstepMismatch 2) s.firmware.schedExpiries ∧
      counted .pmWatchdogExpiry s.power.expiries ∧ counted (.lockstepMismatch 1) s.power.expiries

/-- An idle region dozes, four dozing regions put their lagoon in retention, an access ends it. Harbour darkens every region, turns the
lagoons off and puts the stacks in self-refresh; its exit brings stacks and lagoons back, the lagoons zero, and then serves what waited for
them. Standby is entered from harbour alone, with the ports off, and left as asked (15 R431 to R435, 16 R452). (The model's readings: log
74, 79.) -/
def Obligations.LowPowerStates : Prop :=
  ∀ (s : State),
    let x := s.chassis
    let bare : Core → Core := fun k => { k with arrayState := 0, ramp := 0 }
    let served : State → State → Prop := fun u t => t.mem = u.releaseHeld.mem ∧ t.cores = u.releaseHeld.cores ∧ u.cores = s.cores ∧
      ∀ a, u.readByte a = if 0x040000000000 ≤ a ∧ a < 0x0400C0000000 then 0 else s.readByte a
    let awake : State → Prop := fun t => t.chassis.mode = 0 ∧ t.chassis.standby = false ∧ t.chassis.alerts.getLsbD 4 = true ∧
      (∀ i < 12, (t.island i).lagoon = 0) ∧ (∀ k < 16, (t.stack k).state ≠ .selfRefresh) ∧ ∃ u, served u t
    (∀ c : ClusterId,
      let dozes := (s.cluster c.val).region = .running ∧ (s.cluster c.val).resetting = false ∧ s.start.ready = true ∧
        s.restful c.val = true
      (dozes → Completes (.dozeEntry c) s fun t => (t.cluster c.val).region = .gated ∧ (t.cluster c.val).doze = true ∧
        (t.cluster c.val).op = 0 ∧ t.mem = s.mem ∧ (∀ k, k ≠ c.val → t.cluster k = s.cluster k) ∧
        ∀ L, t.core L = if L / 12 = c.val then bare (s.core L) else s.core L) ∧
      (¬ dozes → exec (.dozeEntry c) s = .next s)) ∧
    (∀ i : IslandId,
      let all := (s.island i.val).lagoon = 0 ∧ ∀ k < 4, (s.cluster (i.val * 4 + k)).doze = true
      (all → exec (.lagoonRetentionEntry i) s = .next (s.modIsland i.val fun z => { z with lagoon := 1 })) ∧
      (¬ all → exec (.lagoonRetentionEntry i) s = .next s) ∧
      ∃ u : State, exec (.lagoonRetentionExit i) s = .next u.releaseHeld ∧ u.mem = s.mem ∧ u.cores = s.cores ∧
        ∀ k, u.island k = if k = i.val ∧ (s.island k).lagoon = 1 then { s.island k with lagoon := 0 } else s.island k) ∧
    (s.mayHarbour = false → exec .harbourEntry s = .next s) ∧
    (s.mayHarbour = true → Completes .harbourEntry s fun t => t.chassis =
        { x with mode := 3, harbourEntries := x.harbourEntries + 1, alerts := x.alerts ||| 16 } ∧
      (∀ c < 48, (t.cluster c).region = .dark) ∧ (∀ i < 12, (t.island i).lagoon = 2) ∧
      (∀ k < 16, (t.stack k).state = if (s.stack k).state = .inService then .selfRefresh else (s.stack k).state) ∧
      t.mem = s.mem ∧ t.sched = s.sched ∧ ∀ L, bare (t.core L) = bare (s.core L) ∧
        (L < 576 → (s.cluster (L / 12)).region ≠ .dark → t.core L = bare (s.core L))) ∧
    ((x.mode = 3 ∨ x.mode = 6) ∧ x.standby = false → Completes .harbourExit s awake) ∧
    (¬ ((x.mode = 3 ∨ x.mode = 6) ∧ x.standby = false) → exec .harbourExit s = .next s) ∧
    (x.mode = 3 → Completes .enterStandbyEffecter s fun t => t.chassis.mode = 4 ∧ t.chassis.standby = true ∧
      (t.hostPort 0).up = 0 ∧ (t.hostPort 1).up = 0 ∧ (∃ o, t.out = o ++ [.effecter true]) ∧
      (∀ k < 16, (t.stack k).state ≠ .inService) ∧ (∀ e, (t.engine e).state = 0) ∧
      (s.arch.topology = 0 ∨ t.arch.state < 2)) ∧
    (x.mode ≠ 3 → exec .enterStandbyEffecter s = .next (s.emit (.effecter false)) ∧
      (x.mode ≠ 4 → exec .leaveStandbyEffecter s = .next (s.emit (.effecter false)))) ∧
    (x.mode = 3 ∨ x.mode = 4 → exec .leaveStandbyEffecter s =
      .next (State.emit { s with chassis := { x with mode := 6 } } (.effecter true))) ∧
    (x.standby = true → x.mode = 6 → ∀ up : Byte, Completes (.standbyExit up) s fun t => awake t ∧
      (t.hostPort 0).up.toNat = up.toNat % 16 % 2 ^ subPortsOf (s.hostPort 0).mode ∧
      t.arch.state = (if s.arch.topology = 0 then s.arch.state else 1))

/-! ### Program preference (12 R343) -/

/-- The program preference of a region is the highest OP_POINT of the turns that run on its cores, 0 counting as the class ceiling and a
point above the ceiling as the ceiling; a region on which no turn runs, and that no hint raises, takes point 1 at its pace (12 R343). -/
def Obligations.PreferenceIsHighestPoint : Prop :=
  ∀ (s : State) (c : ClusterId),
    let turn : Nat → Prop := fun p => p < 12 ∧ (s.core (c.val * 12 + p)).inTurn = true
    let point : Nat → Nat := fun p =>
      let o := (s.core (c.val * 12 + p)).opPoint.toNat
      if o = 0 ∨ s.ceiling c.val < o then s.ceiling c.val else o
    ((∃ p, turn p) → (∀ p, turn p → point p ≤ s.preferred c.val) ∧ ∃ p, turn p ∧ s.preferred c.val = point p) ∧
    ((∀ p, ¬ turn p) → s.preferred c.val = 1 ∧ ((s.cluster c.val).region = .running → (s.cluster c.val).hint = none →
      Completes (.opPointSlewDone c) s fun t => (t.cluster c.val).op = 1 ∧ t.pace c.val = 400 * (64 - t.bubbles c.val) / 64))
end

