-- ==== Sys2Proof/Laws/SparseMap.lean ====
section
/-! SUPPORT. The laws of the sparse map: what a read gives after each operation, and that each keeps the canonical form. -/

namespace Sys2Proof

variable {α : Type}

@[simp] theorem SMap.getD_nil (k : Nat) (d : α) : SMap.getD [] k d = d := rfl

theorem SMap.getD_cons (a : Nat) (v : α) (t : SMap α) (k : Nat) (d : α) :
    SMap.getD ((a, v) :: t) k d = if a = k then v else SMap.getD t k d := rfl

/-! ### Rising keys -/

theorem SMap.risingFrom_cons {a : Nat} {v : α} {t : SMap α} {lo : Nat} :
    SMap.risingFrom ((a, v) :: t) lo = true ↔ lo ≤ a ∧ SMap.risingFrom t (a + 1) = true := by
  simp [SMap.risingFrom]

theorem SMap.risingFrom_mono {m : SMap α} {lo lo' : Nat} (hle : lo' ≤ lo) (h : SMap.risingFrom m lo = true) :
    SMap.risingFrom m lo' = true := by
  cases m with
  | nil => rfl
  | cons p t =>
    rw [SMap.risingFrom_cons] at h ⊢
    exact ⟨hle.trans h.1, h.2⟩

theorem SMap.le_of_risingFrom {m : SMap α} {lo : Nat} (h : SMap.risingFrom m lo = true) : ∀ p ∈ m, lo ≤ p.1 := by
  induction m generalizing lo with
  | nil => simp
  | cons q t ih =>
    rw [SMap.risingFrom_cons] at h
    intro p hp
    rcases List.mem_cons.1 hp with rfl | hp
    · exact h.1
    · have := ih h.2 p hp
      omega

theorem SMap.risingFrom_of_le {m : SMap α} {lo hi : Nat} (h : SMap.risingFrom m lo = true) (hm : ∀ p ∈ m, hi ≤ p.1) :
    SMap.risingFrom m hi = true := by
  cases m with
  | nil => rfl
  | cons p t =>
    rw [SMap.risingFrom_cons] at h ⊢
    exact ⟨hm p (by simp), h.2⟩

theorem SMap.risingFrom_filter {m : SMap α} {lo : Nat} (p : Nat × α → Bool) (h : SMap.risingFrom m lo = true) :
    SMap.risingFrom (m.filter p) lo = true := by
  induction m generalizing lo with
  | nil => rfl
  | cons q t ih =>
    rw [SMap.risingFrom_cons] at h
    have ht := ih h.2
    rw [List.filter_cons]
    split
    · exact SMap.risingFrom_cons.2 ⟨h.1, ht⟩
    · exact SMap.risingFrom_mono (by omega) ht

theorem SMap.risingFrom_append {m n : SMap α} {lo hi : Nat} (hm : SMap.risingFrom m lo = true) (hn : SMap.risingFrom n hi = true)
    (hlt : ∀ p ∈ m, p.1 < hi) (hle : lo ≤ hi) : SMap.risingFrom (m ++ n) lo = true := by
  induction m generalizing lo with
  | nil => exact SMap.risingFrom_mono hle hn
  | cons q t ih =>
    rw [SMap.risingFrom_cons] at hm
    rw [List.cons_append, SMap.risingFrom_cons]
    have hq := hlt q (by simp)
    exact ⟨hm.1, ih hm.2 (fun p hp => hlt p (by simp [hp])) (by omega)⟩

theorem SMap.risingFrom_shift {m : SMap α} {lo : Nat} (k : Nat) (h : SMap.risingFrom m lo = true) :
    SMap.risingFrom (m.map fun p => (p.1 + k, p.2)) (lo + k) = true := by
  induction m generalizing lo with
  | nil => rfl
  | cons q t ih =>
    rw [SMap.risingFrom_cons] at h
    rw [List.map_cons, SMap.risingFrom_cons]
    have := ih h.2
    rw [show q.1 + 1 + k = q.1 + k + 1 by omega] at this
    exact ⟨by omega, this⟩

theorem SMap.risingFrom_put {m : SMap α} {lo k : Nat} (v : α) (hk : lo ≤ k) (h : SMap.risingFrom m lo = true) :
    SMap.risingFrom (SMap.put m k v) lo = true := by
  induction m generalizing lo with
  | nil => simp [SMap.put, SMap.risingFrom, hk]
  | cons q t ih =>
    rw [SMap.risingFrom_cons] at h
    unfold SMap.put
    split
    · exact SMap.risingFrom_cons.2 ⟨hk, SMap.risingFrom_cons.2 ⟨by omega, h.2⟩⟩
    · split
      · subst_vars
        exact SMap.risingFrom_cons.2 h
      · exact SMap.risingFrom_cons.2 ⟨h.1, ih (by omega) h.2⟩

/-! ### Reads -/

theorem SMap.getD_of_lt {m : SMap α} {lo k : Nat} (h : SMap.risingFrom m lo = true) (hk : k < lo) (d : α) :
    SMap.getD m k d = d := by
  induction m generalizing lo with
  | nil => rfl
  | cons q t ih =>
    rw [SMap.risingFrom_cons] at h
    rw [SMap.getD_cons, if_neg (by omega)]
    exact ih h.2 (by omega)

theorem SMap.getD_put (m : SMap α) (k j : Nat) (v d : α) :
    SMap.getD (SMap.put m k v) j d = if j = k then v else SMap.getD m j d := by
  induction m with
  | nil => simp [SMap.put, SMap.getD, eq_comm]
  | cons q t ih =>
    obtain ⟨a, w⟩ := q
    unfold SMap.put
    split_ifs <;> simp only [SMap.getD_cons, ih] <;> split_ifs <;> first | rfl | omega

@[simp] theorem SMap.getD_put_same (m : SMap α) (k : Nat) (v d : α) : SMap.getD (SMap.put m k v) k d = v := by
  simp [SMap.getD_put]

theorem SMap.getD_put_other (m : SMap α) {k j : Nat} (v d : α) (h : j ≠ k) :
    SMap.getD (SMap.put m k v) j d = SMap.getD m j d := by
  simp [SMap.getD_put, h]

theorem SMap.get?_cons (a : Nat) (v : α) (t : SMap α) (k : Nat) :
    SMap.get? ((a, v) :: t) k = if a = k then some v else SMap.get? t k := rfl

theorem SMap.get?_put (m : SMap α) (k j : Nat) (v : α) :
    SMap.get? (SMap.put m k v) j = if j = k then some v else SMap.get? m j := by
  induction m with
  | nil => simp [SMap.put, SMap.get?, eq_comm]
  | cons q t ih =>
    obtain ⟨a, w⟩ := q
    unfold SMap.put
    split_ifs <;> simp only [SMap.get?_cons, ih] <;> split_ifs <;> first | rfl | omega

@[simp] theorem SMap.get?_put_same (m : SMap α) (k : Nat) (v : α) : SMap.get? (SMap.put m k v) k = some v := by
  simp [SMap.get?_put]

/-- A second value at a key takes the place of the first. -/
@[simp] theorem SMap.put_put (m : SMap α) (k : Nat) (v w : α) : SMap.put (SMap.put m k v) k w = SMap.put m k w := by
  induction m with
  | nil => simp [SMap.put]
  | cons p t ih =>
    obtain ⟨a, x⟩ := p
    unfold SMap.put
    by_cases h1 : k < a
    · simp [h1, SMap.put]
    · by_cases h2 : a = k
      · subst h2; simp [SMap.put]
      · simp [h1, h2, SMap.put, ih]

theorem SMap.getD_erase (m : SMap α) (k j : Nat) (d : α) :
    SMap.getD (SMap.erase m k) j d = if j = k then d else SMap.getD m j d := by
  induction m with
  | nil => simp [SMap.erase, SMap.getD]
  | cons q t ih =>
    obtain ⟨a, w⟩ := q
    unfold SMap.erase at ih ⊢
    rw [List.filter_cons, SMap.getD_cons]
    by_cases ha : a = k
    · rw [if_neg (by simp [ha]), ih]
      split_ifs <;> first | rfl | omega
    · rw [if_pos (by simp [ha]), SMap.getD_cons, ih]
      split_ifs <;> first | rfl | omega

theorem SMap.getD_set [DecidableEq α] (m : SMap α) (k j : Nat) (v d : α) :
    SMap.getD (SMap.set m k v d) j d = if j = k then v else SMap.getD m j d := by
  unfold SMap.set
  split
  · rw [SMap.getD_erase]
    split <;> simp_all
  · rw [SMap.getD_put]

@[simp] theorem SMap.getD_set_same [DecidableEq α] (m : SMap α) (k : Nat) (v d : α) :
    SMap.getD (SMap.set m k v d) k d = v := by
  simp [SMap.getD_set]

theorem SMap.getD_set_other [DecidableEq α] (m : SMap α) {k j : Nat} (v d : α) (h : j ≠ k) :
    SMap.getD (SMap.set m k v d) j d = SMap.getD m j d := by
  simp [SMap.getD_set, h]

theorem SMap.getD_normal [DecidableEq α] (m : SMap α) (k : Nat) (d : α) :
    SMap.getD (SMap.normal m d) k d = SMap.getD m k d := by
  induction m with
  | nil => rfl
  | cons q t ih =>
    obtain ⟨a, w⟩ := q
    change SMap.getD (SMap.set (SMap.normal t d) a w d) k d = _
    rw [SMap.getD_set, SMap.getD_cons, ih]
    split_ifs <;> first | rfl | omega

theorem SMap.getD_append (m n : SMap α) (k : Nat) (d : α) (h : ∀ p ∈ m, p.1 ≠ k) :
    SMap.getD (m ++ n) k d = SMap.getD n k d := by
  induction m with
  | nil => rfl
  | cons q t ih =>
    rw [List.cons_append, SMap.getD_cons, if_neg (h q (by simp))]
    exact ih fun p hp => h p (by simp [hp])

theorem SMap.getD_append_left (m n : SMap α) (k : Nat) (d : α) (h : SMap.getD n k d = d) :
    SMap.getD (m ++ n) k d = SMap.getD m k d := by
  induction m with
  | nil => exact h
  | cons q t ih => rw [List.cons_append, SMap.getD_cons, SMap.getD_cons, ih]

theorem SMap.getD_of_forall_ne (m : SMap α) (k : Nat) (d : α) (h : ∀ p ∈ m, p.1 ≠ k) : SMap.getD m k d = d := by
  have := SMap.getD_append m [] k d h
  simpa using this

theorem SMap.getD_filter (m : SMap α) (k : Nat) (d : α) (p : Nat × α → Bool) (h : ∀ q ∈ m, q.1 = k → p q = true) :
    SMap.getD (m.filter p) k d = SMap.getD m k d := by
  induction m with
  | nil => rfl
  | cons q t ih =>
    have ht := ih fun r hr => h r (by simp [hr])
    rw [List.filter_cons]
    split
    · rw [SMap.getD_cons, SMap.getD_cons, ht]
    · rename_i hp
      rw [ht, SMap.getD_cons, if_neg]
      intro he
      exact hp (h q (by simp) he)

theorem SMap.getD_shift (m : SMap α) (lo k : Nat) (d : α) :
    SMap.getD (m.map fun p => (p.1 + lo, p.2)) (k + lo) d = SMap.getD m k d := by
  induction m with
  | nil => rfl
  | cons q t ih =>
    rw [List.map_cons, SMap.getD_cons, SMap.getD_cons, ih]
    simp

/-- What a read gives after a run of entries has been replaced: the new run inside it, what stood before outside it. -/
theorem SMap.getD_splice (m : SMap α) (lo len : Nat) (es : SMap α) (k : Nat) (d : α) :
    SMap.getD (SMap.splice m lo len es) k d =
      if lo ≤ k ∧ k < lo + len then SMap.getD es (k - lo) d else SMap.getD m k d := by
  unfold SMap.splice
  by_cases h1 : k < lo
  · rw [if_neg (by omega), List.append_assoc, SMap.getD_append_left]
    · exact SMap.getD_filter _ _ _ _ fun q _ he => by simp [he, h1]
    · apply SMap.getD_of_forall_ne
      intro p hp
      simp only [List.mem_append, List.mem_map, List.mem_filter, decide_eq_true_eq] at hp
      rcases hp with ⟨q, _, rfl⟩ | ⟨_, h⟩
      · simp only; omega
      · omega
  · by_cases h2 : k < lo + len
    · rw [if_pos (by omega), List.append_assoc, SMap.getD_append, SMap.getD_append_left]
      · obtain ⟨j, rfl⟩ : ∃ j, k = j + lo := ⟨k - lo, by omega⟩
        rw [SMap.getD_shift, Nat.add_sub_cancel]
        exact SMap.getD_filter _ _ _ _ fun q _ he => by simp only [he, decide_eq_true_eq]; omega
      · apply SMap.getD_of_forall_ne
        intro p hp
        simp only [List.mem_filter, decide_eq_true_eq] at hp
        omega
      · intro p hp
        simp only [List.mem_filter, decide_eq_true_eq] at hp
        omega
    · rw [if_neg (by omega), SMap.getD_append]
      · exact SMap.getD_filter _ _ _ _ fun q _ he => by simp only [he, decide_eq_true_eq]; omega
      · intro p hp
        simp only [List.mem_append, List.mem_map, List.mem_filter, decide_eq_true_eq] at hp
        rcases hp with ⟨_, h⟩ | ⟨q, ⟨_, h⟩, rfl⟩ <;> omega

/-! ### The canonical form -/

theorem SMap.wf_iff [DecidableEq α] {m : SMap α} {d : α} : SMap.wf m d = true ↔ SMap.risingFrom m 0 = true ∧ ∀ p ∈ m, p.2 ≠ d := by
  simp [SMap.wf]

@[simp] theorem SMap.wf_nil [DecidableEq α] (d : α) : SMap.wf ([] : SMap α) d = true := rfl

theorem SMap.wf_filter [DecidableEq α] {m : SMap α} {d : α} (p : Nat × α → Bool) (h : SMap.wf m d = true) : SMap.wf (m.filter p) d = true := by
  rw [SMap.wf_iff] at h ⊢
  exact ⟨SMap.risingFrom_filter p h.1, fun q hq => h.2 q (List.mem_of_mem_filter hq)⟩

theorem SMap.mem_put {m : SMap α} {k : Nat} {v : α} {p : Nat × α} (h : p ∈ SMap.put m k v) : p = (k, v) ∨ p ∈ m := by
  induction m with
  | nil => simpa [SMap.put] using h
  | cons q t ih =>
    unfold SMap.put at h
    split at h
    · simpa using h
    · split at h
      · rcases List.mem_cons.1 h with h | h
        · exact .inl h
        · exact .inr (by simp [h])
      · rcases List.mem_cons.1 h with h | h
        · exact .inr (by simp [h])
        · rcases ih h with h | h
          · exact .inl h
          · exact .inr (by simp [h])

theorem SMap.wf_put [DecidableEq α] {m : SMap α} {k : Nat} {v d : α} (hv : v ≠ d) (h : SMap.wf m d = true) : SMap.wf (SMap.put m k v) d = true := by
  rw [SMap.wf_iff] at h ⊢
  refine ⟨SMap.risingFrom_put v (Nat.zero_le _) h.1, fun p hp => ?_⟩
  rcases SMap.mem_put hp with rfl | hp
  · exact hv
  · exact h.2 p hp

theorem SMap.wf_set [DecidableEq α] {m : SMap α} {k : Nat} {v d : α} (h : SMap.wf m d = true) : SMap.wf (SMap.set m k v d) d = true := by
  unfold SMap.set
  split
  · exact SMap.wf_filter _ h
  · exact SMap.wf_put ‹_› h

/-- The normal form is canonical, whatever it is made from. -/
theorem SMap.wf_normal [DecidableEq α] (m : SMap α) (d : α) : SMap.wf (SMap.normal m d) d = true := by
  induction m with
  | nil => rfl
  | cons q t ih => exact SMap.wf_set ih

theorem SMap.wf_splice [DecidableEq α] {m es : SMap α} {d : α} (lo len : Nat) (hm : SMap.wf m d = true) (he : SMap.wf es d = true) :
    SMap.wf (SMap.splice m lo len es) d = true := by
  rw [SMap.wf_iff] at hm he ⊢
  constructor
  · unfold SMap.splice
    have hr : SMap.risingFrom (m.filter fun p => decide (lo + len ≤ p.1)) (lo + len) = true :=
      SMap.risingFrom_of_le (SMap.risingFrom_filter _ hm.1) fun p hp => by
        simpa using (List.mem_filter.1 hp).2
    have hmid : SMap.risingFrom ((es.filter fun p => decide (p.1 < len)).map fun p => (p.1 + lo, p.2)) lo = true := by
      have := SMap.risingFrom_shift lo (SMap.risingFrom_filter (fun p => decide (p.1 < len)) he.1)
      simpa using this
    rw [List.append_assoc]
    refine SMap.risingFrom_append (SMap.risingFrom_filter _ hm.1)
      (SMap.risingFrom_append hmid hr (fun p hp => ?_) (by omega)) (fun p hp => ?_) (Nat.zero_le lo)
    · simp only [List.mem_map, List.mem_filter, decide_eq_true_eq] at hp
      obtain ⟨q, ⟨_, h⟩, rfl⟩ := hp
      simp only
      omega
    · simpa using (List.mem_filter.1 hp).2
  · intro p hp
    simp only [SMap.splice, List.mem_append, List.mem_map, List.mem_filter] at hp
    rcases hp with (⟨h, _⟩ | ⟨q, ⟨h, _⟩, rfl⟩) | ⟨h, _⟩
    · exact hm.2 p h
    · exact he.2 q h
    · exact hm.2 p h

end Sys2Proof
end

