-- ==== Sys2Proof/Laws/Evolves.lean ====
section
/-! SUPPORT. How a state may evolve under any operation of the model: memory keeps its canonical form, the queue and the fuse
map stand, and the field defect log only grows (11 R315, R319). Stated over the four parts of a state it looks at, so that an
update of any other part leaves it as it is. -/

namespace Sys2Proof.Machine

/-- The log that `l` became keeps its covered entries, its generation never falls, and it stays well-formed. -/
structure DefectLog.Grows (l l' : DefectLog) : Prop where
  entries : l.entries <+: l'.entries
  generation : l.generation ≤ l'.generation
  wf : l.wf → l'.wf

/-- What the parts `mem`, `pending`, `nv` and `log` have to do with the state `s0` they came from. -/
structure Evo (s0 : State) (mem : SMap Byte) (pending : List Instr) (nv : Nv) (log : DefectLog) : Prop where
  mem : memoryWf s0.mem = true → memoryWf mem = true
  pending : pending = s0.pending
  fuses : nv.fuses = s0.nv.fuses
  log : s0.log.Grows log

/-- `t` evolved from `s0`. -/
@[reducible] def State.Evolves (s0 t : State) : Prop := Evo s0 t.mem t.pending t.nv t.log

theorem DefectLog.Grows.refl (l : DefectLog) : l.Grows l := ⟨List.prefix_refl _, Nat.le_refl _, id⟩

theorem DefectLog.Grows.trans {l m n : DefectLog} (h : l.Grows m) (k : m.Grows n) : l.Grows n :=
  ⟨h.entries.trans k.entries, h.generation.trans k.generation, fun w => k.wf (h.wf w)⟩

theorem State.Evolves.refl (s : State) : s.Evolves s := ⟨id, rfl, rfl, .refl _⟩

theorem State.Evolves.trans {s t u : State} (h : s.Evolves t) (k : t.Evolves u) : s.Evolves u :=
  ⟨fun w => k.mem (h.mem w), k.pending.trans h.pending, k.fuses.trans h.fuses, h.log.trans k.log⟩

variable {s0 s : State}

/-- A fold of operations evolves a state if each of them does. -/
theorem State.Evolves.foldl {β : Type} {f : State → β → State} (hf : ∀ t x, s0.Evolves t → s0.Evolves (f t x)) (l : List β)
    (h : s0.Evolves s) : s0.Evolves (l.foldl f s) := by
  induction l generalizing s with
  | nil => exact h
  | cons x t ih => exact ih (hf s x h)

/-- The same where the fold carries something beside the state. -/
theorem State.Evolves.foldl_fst {β γ : Type} {f : State × γ → β → State × γ}
    (hf : ∀ t x, s0.Evolves t.1 → s0.Evolves (f t x).1) (l : List β) {a : State × γ} (h : s0.Evolves a.1) :
    s0.Evolves (l.foldl f a).1 := by
  induction l generalizing a with
  | nil => exact h
  | cons x t ih => exact ih (hf a x h)

/-- Memory after a store is in the canonical form: the one operation by which it changes. -/
theorem State.store_evolves {a n : Nat} {es : SMap Byte} (h : s0.Evolves s) : s0.Evolves (s.store a n es) :=
  ⟨fun w => SMap.wf_splice _ _ (h.mem w) (SMap.wf_normal _ _), h.pending, h.fuses, h.log⟩

/-- What the checks of an instruction come to evolved from `s0`, where it leaves a state at all. -/
def Verdict.Evolves (s0 : State) (v : Verdict) : Prop :=
  match v with
  | .run t => s0.Evolves t
  | .stop t => s0.Evolves t
  | _ => True

theorem Verdict.Evolves.run {t : State} (h : s0.Evolves t) : Verdict.Evolves s0 (.run t) := h
theorem Verdict.Evolves.stop {t : State} (h : s0.Evolves t) : Verdict.Evolves s0 (.stop t) := h
theorem Verdict.Evolves.wait : Verdict.Evolves s0 .wait := trivial
theorem Verdict.Evolves.raise {st : W16} : Verdict.Evolves s0 (.raise st) := trivial

theorem Verdict.Evolves.of_run {v : Verdict} {t : State} (hv : v = .run t) (h : v.Evolves s0) : s0.Evolves t := by
  subst hv
  exact h

theorem DefectLog.Grows.append {l0 l : DefectLog} {e : LogEntry} (h : l0.Grows l) (hu : e.unit ∉ l.units)
    (hn : l.units.length < 260096) : l0.Grows { l with waiting := l.waiting ++ [e] } := by
  refine ⟨h.entries, h.generation, fun w => ?_⟩
  obtain ⟨nd, -⟩ := h.wf w
  simp only [DefectLog.wf, DefectLog.units, List.map_append, List.map_cons, List.map_nil, ← List.append_assoc] at *
  refine ⟨List.nodup_append.2 ⟨nd, by simp, ?_⟩, by simp at *; omega⟩
  intro a ha b hb hab
  simp only [List.mem_singleton] at hb
  exact hu (by simpa [hab, hb] using ha)

/-- An append asked for: no unit twice, none beyond the log's size (11 R319). -/
theorem State.logRequest_evolves {unit : W64} {source : Byte} {ev : W16} (h : s0.Evolves s) :
    s0.Evolves (s.logRequest unit source ev) := by
  unfold State.logRequest
  dsimp only
  split
  · exact h
  · split
    · exact ⟨h.mem, h.pending, h.fuses, h.log.entries, h.log.generation, h.log.wf⟩
    · rename_i hu hn
      refine ⟨h.mem, h.pending, h.fuses, h.log.append ?_ ?_⟩
      · intro hm
        obtain ⟨e, he, heq⟩ := List.mem_map.1 hm
        exact hu (List.any_eq_true.2 ⟨e, he, by simpa using heq⟩)
      · simp only [DefectLog.units, List.length_map, List.length_append]
        omega

theorem DefectLog.cover_grows (l : DefectLog) : l.Grows l.cover := by
  unfold DefectLog.cover
  split
  · exact .refl _
  · refine ⟨List.prefix_append _ _, by simp, fun w => ?_⟩
    simpa [DefectLog.wf, DefectLog.units] using w

theorem DefectLog.covered_grows (l : DefectLog) : l.Grows l.covered := by
  refine ⟨List.prefix_refl _, Nat.le_refl _, fun w => ⟨?_, ?_⟩⟩
  · have := w.1
    simp only [DefectLog.units, DefectLog.covered, List.map_append, List.append_nil] at *
    exact (List.nodup_append.1 this).1
  · have := w.2
    simp only [DefectLog.units, DefectLog.covered, List.map_append, List.length_append, List.append_nil] at *
    omega

/-! ### Writes of the state block: they leave the fuse map -/

theorem Evo.withNv {m : SMap Byte} {q : List Instr} {n k : Nv} {l : DefectLog} (h : Evo s0 m q n l) (hk : k.fuses = n.fuses) :
    Evo s0 m q k l := ⟨h.mem, h.pending, hk.trans h.fuses, h.log⟩

variable {m : SMap Byte} {q : List Instr} {n : Nv} {l : DefectLog}

theorem Evo.clearPending {bit : Nat} (h : Evo s0 m q n l) : Evo s0 m q (n.clearPending bit) l :=
  h.withNv (by unfold Nv.clearPending; split <;> rfl)

theorem Evo.chooseImage (h : Evo s0 m q n l) : Evo s0 m q n.chooseImage.nv l := by
  refine h.withNv ?_
  unfold Nv.chooseImage
  dsimp only
  repeat' split
  all_goals rfl

theorem Evo.commitFirmware {st : Start} (h : Evo s0 m q n l) : Evo s0 m q (n.commitFirmware st) l := by
  refine h.withNv ?_
  unfold Nv.commitFirmware
  dsimp only
  repeat' split
  all_goals rfl

theorem Evo.place {o : StagedObject} {kind : Nat} (h : Evo s0 m q n l) : Evo s0 m q (n.place o kind) l := by
  refine h.withNv ?_
  unfold Nv.place
  repeat' split
  all_goals rfl

theorem Evo.startCount {a : Nat} {g : W32} (h : Evo s0 m q n l) :
    Evo s0 m q { n with startCount := a, generation := g } l := h.withNv rfl

theorem Evo.slots {b c : BitVec 3} {g : W32} {tf opfw : SMap FwImage} {im : SMap MorrikImage} (h : Evo s0 m q n l) :
    Evo s0 m q { n with pending := b, proven := c, generation := g, tf := tf, opfw := opfw, images := im } l := h.withNv rfl

theorem Evo.staged {b : BitVec 3} {g : W32} (h : Evo s0 m q n l) : Evo s0 m q { n with pending := b, generation := g } l :=
  h.withNv rfl

theorem Evo.cover (h : Evo s0 m q n l) : Evo s0 m q n l.cover := ⟨h.mem, h.pending, h.fuses, h.log.trans (DefectLog.cover_grows _)⟩

end Sys2Proof.Machine
end

