-- ==== Sys2Proof/Laws/EvolvesAccess.lean ====
section
/-! SUPPORT. Every operation of Machine/Access.lean evolves the state (Laws/Evolves.lean). -/

set_option linter.unreachableTactic false
set_option linter.unusedTactic false

namespace Sys2Proof.Machine

theorem State.setCore_evolves {orig : State} {s : State} {L : Nat} {c : Core} (hev : orig.Evolves s) :
    orig.Evolves (State.setCore s L c) := by
  unfold State.setCore
  repeat' (first | with_reducible assumption | intro _ | split | dsimp only)

theorem State.modCore_evolves {orig : State} {s : State} {L : Nat} {f : Core → Core} (hev : orig.Evolves s) :
    orig.Evolves (State.modCore s L f) := by
  unfold State.modCore
  repeat' (first | with_reducible (first | assumption | apply State.setCore_evolves) | intro _ | split | dsimp only)

theorem State.setCluster_evolves {orig : State} {s : State} {c : Nat} {x : Cluster} (hev : orig.Evolves s) :
    orig.Evolves (State.setCluster s c x) := by
  unfold State.setCluster
  repeat' (first | with_reducible assumption | intro _ | split | dsimp only)

theorem State.modCluster_evolves {orig : State} {s : State} {c : Nat} {f : Cluster → Cluster} (hev : orig.Evolves s) :
    orig.Evolves (State.modCluster s c f) := by
  unfold State.modCluster
  repeat' (first | with_reducible (first | assumption | apply State.setCluster_evolves) | intro _ | split | dsimp only)

theorem State.setIsland_evolves {orig : State} {s : State} {i : Nat} {x : Island} (hev : orig.Evolves s) :
    orig.Evolves (State.setIsland s i x) := by
  unfold State.setIsland
  repeat' (first | with_reducible assumption | intro _ | split | dsimp only)

theorem State.modIsland_evolves {orig : State} {s : State} {i : Nat} {f : Island → Island} (hev : orig.Evolves s) :
    orig.Evolves (State.modIsland s i f) := by
  unfold State.modIsland
  repeat' (first | with_reducible (first | assumption | apply State.setIsland_evolves) | intro _ | split | dsimp only)

theorem State.setPart_evolves {orig : State} {s : State} {p : Nat} {x : Part} (hev : orig.Evolves s) :
    orig.Evolves (State.setPart s p x) := by
  unfold State.setPart
  repeat' (first | with_reducible assumption | intro _ | split | dsimp only)

theorem State.modPart_evolves {orig : State} {s : State} {p : Nat} {f : Part → Part} (hev : orig.Evolves s) :
    orig.Evolves (State.modPart s p f) := by
  unfold State.modPart
  repeat' (first | with_reducible (first | assumption | apply State.setPart_evolves) | intro _ | split | dsimp only)

theorem State.modJob_evolves {orig : State} {s : State} {p : Nat} {f : Job → Job} (hev : orig.Evolves s) :
    orig.Evolves (State.modJob s p f) := by
  unfold State.modJob
  repeat' (first | with_reducible (first | assumption | apply State.modPart_evolves) | intro _ | split | dsimp only)

theorem State.emit_evolves {orig : State} {s : State} {o : Output} (hev : orig.Evolves s) :
    orig.Evolves (State.emit s o) := by
  unfold State.emit
  repeat' (first | with_reducible assumption | intro _ | split | dsimp only)

theorem State.countCore_evolves {orig : State} {s : State} {L : Nat} {f : CoreCounters → CoreCounters} (hev : orig.Evolves s) :
    orig.Evolves (State.countCore s L f) := by
  unfold State.countCore
  repeat' (first | with_reducible (first | assumption | apply State.modCore_evolves | apply counters_evolves) | intro _ | split | dsimp only)

theorem State.fresh_evolves {orig : State} {s : State} (hev : orig.Evolves s) :
    orig.Evolves (State.fresh s).2 := by
  unfold State.fresh
  repeat' (first | with_reducible assumption | intro _ | split | dsimp only)

theorem State.writeBytes_evolves {orig : State} {s : State} {a : Nat} {bs : List Byte} (hev : orig.Evolves s) :
    orig.Evolves (State.writeBytes s a bs) := by
  unfold State.writeBytes
  repeat' (first | with_reducible (first | assumption | apply State.store_evolves) | intro _ | split | dsimp only)

theorem State.writeWord_evolves {orig : State} {s : State} {a : Nat} {w : W64} (hev : orig.Evolves s) :
    orig.Evolves (State.writeWord s a w) := by
  unfold State.writeWord
  repeat' (first | with_reducible (first | assumption | apply State.writeBytes_evolves) | intro _ | split | dsimp only)

theorem State.zero_evolves {orig : State} {s : State} {a : Nat} {n : Nat} (hev : orig.Evolves s) :
    orig.Evolves (State.zero s a n) := by
  unfold State.zero
  repeat' (first | with_reducible (first | assumption | apply State.store_evolves) | intro _ | split | dsimp only)

theorem State.copy_evolves {orig : State} {s : State} {src : Nat} {dst : Nat} {n : Nat} (hev : orig.Evolves s) :
    orig.Evolves (State.copy s src dst n) := by
  unfold State.copy
  repeat' (first | with_reducible (first | assumption | apply State.store_evolves) | intro _ | split | dsimp only)

end Sys2Proof.Machine
end

