-- ==== Sys2Proof/Laws/EvolvesMeshNet.lean ====
section
/-! SUPPORT. Every operation of Machine/MeshNet.lean evolves the state (Laws/Evolves.lean). -/

set_option linter.unreachableTactic false
set_option linter.unusedTactic false

namespace Sys2Proof.Machine

theorem State.setStack_evolves {orig : State} {s : State} {i : Nat} {x : Stack} (hev : orig.Evolves s) :
    orig.Evolves (State.setStack s i x) := by
  unfold State.setStack
  repeat' (first | with_reducible assumption | intro _ | split | dsimp only)

theorem State.modStack_evolves {orig : State} {s : State} {i : Nat} {f : Stack → Stack} (hev : orig.Evolves s) :
    orig.Evolves (State.modStack s i f) := by
  unfold State.modStack
  repeat' (first | with_reducible (first | assumption | apply State.setStack_evolves) | intro _ | split | dsimp only)

theorem State.setPort_evolves {orig : State} {s : State} {n : Nat} {d : Nat} {x : PortSet} (hev : orig.Evolves s) :
    orig.Evolves (State.setPort s n d x) := by
  unfold State.setPort
  repeat' (first | with_reducible assumption | intro _ | split | dsimp only)

theorem State.modPort_evolves {orig : State} {s : State} {n : Nat} {d : Nat} {f : PortSet → PortSet} (hev : orig.Evolves s) :
    orig.Evolves (State.modPort s n d f) := by
  unfold State.modPort
  repeat' (first | with_reducible (first | assumption | apply State.setPort_evolves) | intro _ | split | dsimp only)

theorem State.countWay_evolves {orig : State} {s : State} {assured : Bool} {n : Nat} {way : List (Nat × Nat × Bool × Nat)} (hev : orig.Evolves s) :
    orig.Evolves (State.countWay s assured n way) := by
  unfold State.countWay
  repeat' (first | with_reducible (first | assumption | apply State.modPort_evolves | apply State.Evolves.foldl | apply State.Evolves.foldl_fst) | intro _ | split | dsimp only)

theorem State.keepTransfers_evolves {orig : State} {s : State} {p : MeshPkt} {way : List (Nat × Nat × Bool × Nat)} (hev : orig.Evolves s) :
    orig.Evolves (State.keepTransfers s p way) := by
  unfold State.keepTransfers
  repeat' (first | with_reducible (first | assumption | apply State.store_evolves | apply State.modPort_evolves | apply State.Evolves.foldl | apply State.Evolves.foldl_fst) | intro _ | split | dsimp only)

theorem State.launch_evolves {orig : State} {s : State} {p : MeshPkt} {h : Bool} {way : Option (List (Nat × Nat × Bool × Nat))} (hev : orig.Evolves s) :
    orig.Evolves (State.launch s p h way) := by
  unfold State.launch
  repeat' (first | with_reducible (first | assumption | apply State.emit_evolves | apply State.countWay_evolves | apply State.keepTransfers_evolves) | intro _ | split | dsimp only)

theorem State.bulkHalf_evolves {orig : State} {s : State} {src : Nat} {dst : Nat} (hev : orig.Evolves s) :
    orig.Evolves (State.bulkHalf s src dst).1 := by
  unfold State.bulkHalf
  repeat' (first | with_reducible (first | assumption | apply State.fresh_evolves) | intro _ | split | dsimp only)

theorem State.inject_evolves {orig : State} {s : State} {p : MeshPkt} (hev : orig.Evolves s) :
    orig.Evolves (State.inject s p) := by
  unfold State.inject
  repeat' (first | with_reducible (first | assumption | apply State.launch_evolves | apply State.bulkHalf_evolves) | intro _ | split | dsimp only)

theorem State.traffic_evolves {orig : State} {s : State} {assured : Bool} {src : Nat} {dst : Nat} {bytes : Nat} (hev : orig.Evolves s) :
    orig.Evolves (State.traffic s assured src dst bytes) := by
  unfold State.traffic
  repeat' (first | with_reducible (first | assumption | apply State.countWay_evolves | apply State.bulkHalf_evolves) | intro _ | split | dsimp only)

theorem State.sendPacket_evolves {orig : State} {s : State} {p : MeshPkt} (hev : orig.Evolves s) :
    orig.Evolves (State.sendPacket s p) := by
  unfold State.sendPacket
  repeat' (first | with_reducible (first | assumption | apply State.inject_evolves) | intro _ | split | dsimp only)

theorem State.sendQueued_evolves {orig : State} {s : State} {src : W16} (hev : orig.Evolves s) :
    orig.Evolves (State.sendQueued s src) := by
  unfold State.sendQueued
  repeat' (first | with_reducible (first | assumption | apply State.inject_evolves | apply State.Evolves.foldl | apply State.Evolves.foldl_fst) | intro _ | split | dsimp only)

theorem State.answer_evolves {orig : State} {s : State} {p : MeshPkt} {typ : Nat} {st : W16} (hev : orig.Evolves s) :
    orig.Evolves (State.answer s p typ st) := by
  unfold State.answer
  repeat' (first | with_reducible (first | assumption | apply State.inject_evolves) | intro _ | split | dsimp only)

theorem State.arrived_evolves {orig : State} {s : State} {p : MeshPkt} (hev : orig.Evolves s) :
    orig.Evolves (State.arrived s p) := by
  unfold State.arrived
  repeat' (first | with_reducible assumption | intro _ | split | dsimp only)

theorem State.receive_evolves {orig : State} {s : State} {p : MeshPkt} (hev : orig.Evolves s) :
    orig.Evolves (State.receive s p).1 := by
  unfold State.receive
  generalize (s.window p).accept p.seq.toNat = o
  cases o with
  | none => exact hev
  | some w => exact ⟨hev.mem, hev.pending, hev.fuses, hev.log⟩

theorem State.acknowledged_evolves {orig : State} {s : State} {src : W16} {dest : W16} {assured : Bool} {seq : Nat} (hev : orig.Evolves s) :
    orig.Evolves (State.acknowledged s src dest assured seq) := by
  unfold State.acknowledged
  repeat' (first | with_reducible (first | assumption | apply State.sendQueued_evolves) | intro _ | split | dsimp only)

theorem State.dropPackets_evolves {orig : State} {s : State} {f : MeshPkt → Bool} (hev : orig.Evolves s) :
    orig.Evolves (State.dropPackets s f) := by
  unfold State.dropPackets
  repeat' (first | with_reducible assumption | intro _ | split | dsimp only)

end Sys2Proof.Machine
end

