-- ==== Sys2Proof/Laws/EvolvesStraitNet.lean ====
section
/-! SUPPORT. Every operation of Machine/StraitNet.lean evolves the state (Laws/Evolves.lean). -/

set_option linter.unreachableTactic false
set_option linter.unusedTactic false

namespace Sys2Proof.Machine

theorem State.modEngine_evolves {orig : State} {s : State} {e : Nat} {f : Engine → Engine} (hev : orig.Evolves s) :
    orig.Evolves (State.modEngine s e f) := by
  unfold State.modEngine
  repeat' (first | with_reducible assumption | intro _ | split | dsimp only)

theorem State.sendFlits_evolves {orig : State} {s : State} {e : Nat} {p : StraitPkt} (hev : orig.Evolves s) :
    orig.Evolves (State.sendFlits s e p) := by
  unfold State.sendFlits
  repeat' (first | with_reducible (first | assumption | apply State.emit_evolves | apply State.store_evolves | apply State.modEngine_evolves) | intro _ | split | dsimp only)

theorem State.leaveEngine_evolves {orig : State} {s : State} {src : Nat} {e : Nat} {p : StraitPkt} (hev : orig.Evolves s) :
    orig.Evolves (State.leaveEngine s src e p) := by
  unfold State.leaveEngine
  repeat' (first | with_reducible (first | assumption | apply State.traffic_evolves | apply State.modEngine_evolves | apply State.sendFlits_evolves) | intro _ | split | dsimp only)

theorem State.leaveAny_evolves {orig : State} {s : State} {src : Nat} {es : List Nat} {p : StraitPkt} (hev : orig.Evolves s) :
    orig.Evolves (State.leaveAny s src es p) := by
  unfold State.leaveAny
  repeat' (first | with_reducible (first | assumption | apply State.fresh_evolves | apply State.leaveEngine_evolves) | intro _ | split | dsimp only)

theorem State.leaveStrait_evolves {orig : State} {s : State} {src : Nat} {p : StraitPkt} (hev : orig.Evolves s) :
    orig.Evolves (State.leaveStrait s src p) := by
  unfold State.leaveStrait
  repeat' (first | with_reducible (first | assumption | apply State.leaveAny_evolves) | intro _ | split | dsimp only)

theorem State.sendStrait_evolves {orig : State} {s : State} {src : Nat} {typ : Nat} {assured : Bool} {dest : Nat} {group : W32} {turn : Nat} {addr : Nat} {status : W16} {data : List Byte} (hev : orig.Evolves s) :
    orig.Evolves (State.sendStrait s src typ assured dest group turn addr status data) := by
  unfold State.sendStrait
  repeat' (first | with_reducible (first | assumption | apply State.leaveStrait_evolves) | intro _ | split | dsimp only)

theorem State.straitAnswer_evolves {orig : State} {s : State} {src : Nat} {p : StraitPkt} {typ : Nat} {st : W16} (hev : orig.Evolves s) :
    orig.Evolves (State.straitAnswer s src p typ st) := by
  unfold State.straitAnswer
  repeat' (first | with_reducible (first | assumption | apply State.leaveStrait_evolves) | intro _ | split | dsimp only)

theorem State.forward_evolves {orig : State} {s : State} {e : Nat} {p : StraitPkt} (hev : orig.Evolves s) :
    orig.Evolves (State.forward s e p) := by
  unfold State.forward
  repeat' (first | with_reducible (first | assumption | apply State.leaveAny_evolves) | intro _ | split | dsimp only)

theorem State.straitArrive_evolves {orig : State} {s : State} {e : Nat} {p : StraitPkt} (hev : orig.Evolves s) :
    orig.Evolves (State.straitArrive s e p) := by
  unfold State.straitArrive
  repeat' (first | with_reducible (first | assumption | apply State.modEngine_evolves) | intro _ | split | dsimp only)

theorem State.straitPacket_evolves {orig : State} {s : State} {e : Nat} {p : StraitPkt} {typ : Nat} {act : State → State} (hev : orig.Evolves s) (hact : ∀ t, orig.Evolves t → orig.Evolves (act t)) :
    orig.Evolves (State.straitPacket s e p typ act) := by
  unfold State.straitPacket
  repeat' (first | with_reducible (first | assumption | apply hact | apply State.forward_evolves | apply State.straitArrive_evolves) | intro _ | split | dsimp only)

theorem State.straitFresh_evolves {orig : State} {s : State} {p : StraitPkt} (hev : orig.Evolves s) :
    orig.Evolves (State.straitFresh s p).1 := by
  unfold State.straitFresh
  repeat' (first | with_reducible (first | assumption | apply State.accept_evolves) | intro _ | split | dsimp only)

theorem State.straitTake_evolves {orig : State} {s : State} {e : Nat} {p : StraitPkt} {typ : Nat} {f : State → State} (hev : orig.Evolves s) (hf : ∀ t, orig.Evolves t → orig.Evolves (f t)) :
    orig.Evolves (State.straitTake s e p typ f) := by
  unfold State.straitTake
  repeat' (first | with_reducible (first | assumption | apply hf | apply State.traffic_evolves | apply State.straitAnswer_evolves | apply State.straitPacket_evolves | apply State.straitFresh_evolves) | intro _ | split | dsimp only)

theorem State.straitDone_evolves {orig : State} {s : State} {p : StraitPkt} (hev : orig.Evolves s) :
    orig.Evolves (State.straitDone s p) := by
  unfold State.straitDone
  repeat' (first | with_reducible assumption | intro _ | split | dsimp only)

theorem State.sendMember_evolves {orig : State} {s : State} {seat : Nat} {n : MemberNote} (hev : orig.Evolves s) :
    orig.Evolves (State.sendMember s seat n) := by
  unfold State.sendMember
  repeat' (first | with_reducible (first | assumption | apply State.emit_evolves | apply State.sendStrait_evolves) | intro _ | split | dsimp only)

theorem State.sendCommit_evolves {orig : State} {s : State} {seat : Nat} {g : W32} {n : CommitNote} (hev : orig.Evolves s) :
    orig.Evolves (State.sendCommit s seat g n) := by
  unfold State.sendCommit
  repeat' (first | with_reducible (first | assumption | apply State.emit_evolves | apply State.sendStrait_evolves) | intro _ | split | dsimp only)

end Sys2Proof.Machine
end

