-- ==== Sys2Proof/Laws/EvolvesOps.lean ====
section
/-! SUPPORT. Every operation of Machine/Ops.lean evolves the state (Laws/Evolves.lean). -/

set_option linter.unreachableTactic false
set_option linter.unusedTactic false

namespace Sys2Proof.Machine

theorem State.countEvent_evolves {orig : State} {s : State} {code : W16} (hev : orig.Evolves s) :
    orig.Evolves (State.countEvent s code) := by
  unfold State.countEvent
  repeat' (first | with_reducible assumption | intro _ | split | dsimp only)

theorem State.mirrorOut_evolves {orig : State} {s : State} {e : JEntry} (hev : orig.Evolves s) :
    orig.Evolves (State.mirrorOut s e) := by
  unfold State.mirrorOut
  repeat' (first | with_reducible (first | assumption | apply State.sendStrait_evolves) | intro _ | split | dsimp only)

theorem State.scheduled_evolves {orig s t : State} (hs : orig.Evolves s) (ht : orig.Evolves t) : orig.Evolves (s.scheduled t) := by
  unfold State.scheduled
  split <;> assumption

theorem State.modHostPort_evolves {orig : State} {s : State} {i : Nat} {f : HostPort → HostPort} (hev : orig.Evolves s) :
    orig.Evolves (State.modHostPort s i f) := by
  unfold State.modHostPort
  repeat' (first | with_reducible assumption | intro _ | split | dsimp only)

theorem State.countTx_evolves {orig : State} {s : State} {sid : W64} {bytes : Nat} (hev : orig.Evolves s) :
    orig.Evolves (State.countTx s sid bytes) := by
  unfold State.countTx
  repeat' (first | with_reducible (first | assumption | apply State.modHostPort_evolves) | intro _ | split | dsimp only)

theorem State.journalPut_evolves {orig : State} {s : State} {e0 : JEntry} (hev : orig.Evolves s) :
    orig.Evolves (State.journalPut s e0) := by
  unfold State.journalPut
  repeat' (first | with_reducible (first | assumption | apply State.emit_evolves | apply State.mirrorOut_evolves | apply State.countTx_evolves) | intro _ | split | dsimp only)

theorem State.journalWrite_evolves {orig : State} {s : State} {kind : Nat} {code : W16} {turn : Nat} {who : Concern} {detail : List Byte} (hev : orig.Evolves s) :
    orig.Evolves (State.journalWrite s kind code turn who detail) := by
  unfold State.journalWrite
  repeat' (first | with_reducible (first | assumption | apply State.journalPut_evolves) | intro _ | split | dsimp only)

theorem State.flushDeferred_evolves {orig : State} {s : State} (hev : orig.Evolves s) :
    orig.Evolves (State.flushDeferred s) := by
  unfold State.flushDeferred
  repeat' (first | with_reducible (first | assumption | apply State.journalPut_evolves | apply State.Evolves.foldl | apply State.Evolves.foldl_fst) | intro _ | split | dsimp only)

theorem State.event_evolves {orig : State} {s : State} {code : W16} {p : Option Nat} {detail : List Byte} (hev : orig.Evolves s) :
    orig.Evolves (State.event s code p detail) := by
  unfold State.event
  repeat' (first | with_reducible (first | assumption | apply State.countEvent_evolves | apply State.journalWrite_evolves) | intro _ | split | dsimp only)

theorem State.laneEvent_evolves {orig : State} {s : State} {e : Nat} {lane : Nat} {outcome : Nat} (hev : orig.Evolves s) :
    orig.Evolves (State.laneEvent s e lane outcome) := by
  unfold State.laneEvent
  repeat' (first | with_reducible (first | assumption | apply State.event_evolves) | intro _ | split | dsimp only)

theorem State.engineOut_evolves {orig : State} {s : State} {e : Nat} (hev : orig.Evolves s) :
    orig.Evolves (State.engineOut s e) := by
  unfold State.engineOut
  repeat' (first | with_reducible (first | assumption | apply State.modEngine_evolves | apply State.laneEvent_evolves) | intro _ | split | dsimp only)

theorem State.withdrawHeld_evolves {orig : State} {s : State} {p : Nat} {L : Option Nat} (hev : orig.Evolves s) :
    orig.Evolves (State.withdrawHeld s p L) := by
  unfold State.withdrawHeld
  repeat' (first | with_reducible assumption | intro _ | split | dsimp only)

theorem State.withdrawSlots_evolves {orig : State} {s : State} {L : Nat} (hev : orig.Evolves s) :
    orig.Evolves (State.withdrawSlots s L) := by
  unfold State.withdrawSlots
  repeat' (first | with_reducible (first | assumption | apply State.modCore_evolves | apply State.Evolves.foldl | apply State.Evolves.foldl_fst) | intro _ | split | dsimp only)

theorem State.dropTraffic_evolves {orig : State} {s : State} {L : Nat} (hev : orig.Evolves s) :
    orig.Evolves (State.dropTraffic s L) := by
  unfold State.dropTraffic
  repeat' (first | with_reducible (first | assumption | apply State.dropPackets_evolves) | intro _ | split | dsimp only)

theorem State.withdrawPart_evolves {orig : State} {s : State} {p : Nat} {L : Nat} (hev : orig.Evolves s) :
    orig.Evolves (State.withdrawPart s p L) := by
  unfold State.withdrawPart
  repeat' (first | with_reducible (first | assumption | apply State.withdrawHeld_evolves | apply State.withdrawSlots_evolves | apply State.dropTraffic_evolves) | intro _ | split | dsimp only)

theorem State.abandonParts_evolves {orig : State} {s : State} {p : Nat} (hev : orig.Evolves s) :
    orig.Evolves (State.abandonParts s p) := by
  unfold State.abandonParts
  repeat' (first | with_reducible (first | assumption | apply State.modCore_evolves | apply State.modJob_evolves | apply State.withdrawPart_evolves | apply State.Evolves.foldl | apply State.Evolves.foldl_fst) | intro _ | split | dsimp only)

theorem State.tellGroup_evolves {orig : State} {s : State} {p : Nat} {ended : Bool} (hev : orig.Evolves s) :
    orig.Evolves (State.tellGroup s p ended) := by
  unfold State.tellGroup
  repeat' (first | with_reducible (first | assumption | apply State.sendMember_evolves | apply State.Evolves.foldl | apply State.Evolves.foldl_fst) | intro _ | split | dsimp only)

theorem State.enterHold_evolves {orig : State} {s : State} {p : Nat} (hev : orig.Evolves s) :
    orig.Evolves (State.enterHold s p) := by
  unfold State.enterHold
  repeat' (first | with_reducible (first | assumption | apply State.modJob_evolves | apply State.journalWrite_evolves | apply State.tellGroup_evolves) | intro _ | split | dsimp only)

theorem State.holdStatus_evolves {orig : State} {s : State} {p : Nat} {st : W16} (hev : orig.Evolves s) :
    orig.Evolves (State.holdStatus s p st) := by
  unfold State.holdStatus
  repeat' (first | with_reducible (first | assumption | apply State.modPart_evolves | apply State.modJob_evolves | apply State.abandonParts_evolves | apply State.enterHold_evolves) | intro _ | split | dsimp only)

theorem State.holdCapacity_evolves {orig : State} {s : State} {p : Nat} (hev : orig.Evolves s) :
    orig.Evolves (State.holdCapacity s p) := by
  unfold State.holdCapacity
  repeat' (first | with_reducible (first | assumption | apply State.modJob_evolves | apply State.abandonParts_evolves | apply State.enterHold_evolves) | intro _ | split | dsimp only)

theorem State.queueWake_evolves {orig : State} {s : State} {c : Nat} (hev : orig.Evolves s) :
    orig.Evolves (State.queueWake s c) := by
  unfold State.queueWake
  repeat' (first | with_reducible (first | assumption | apply State.modIsland_evolves) | intro _ | split | dsimp only)

theorem State.awaitRebuild_evolves {orig : State} {s : State} {L : Nat} {cleared : Bool} (hev : orig.Evolves s) :
    orig.Evolves (State.awaitRebuild s L cleared) := by
  unfold State.awaitRebuild
  repeat' (first | with_reducible (first | assumption | apply State.modCore_evolves | apply State.withdrawPart_evolves | apply Verdict.Evolves.run | apply Verdict.Evolves.stop | apply Verdict.Evolves.wait | apply Verdict.Evolves.raise) | intro _ | split | dsimp only)

theorem State.renameCores_evolves {orig : State} {s : State} {p : Nat} {moved : List Nat} {mv : Nat → Nat} (hev : orig.Evolves s) :
    orig.Evolves (State.renameCores s p moved mv) := by
  unfold State.renameCores
  repeat' (first | with_reducible (first | assumption | apply State.modCore_evolves | apply State.modJob_evolves | apply State.Evolves.foldl | apply State.Evolves.foldl_fst) | intro _ | split | dsimp only)

theorem State.landTokens_evolves {orig : State} {s : State} {L : Nat} (hev : orig.Evolves s) :
    orig.Evolves (State.landTokens s L) := by
  unfold State.landTokens
  repeat' (first | with_reducible (first | assumption | apply State.modCore_evolves | apply State.receive_evolves | apply State.acknowledged_evolves | apply State.Evolves.foldl | apply State.Evolves.foldl_fst) | intro _ | split | dsimp only)

theorem State.moveRanks_evolves {orig : State} {s : State} {p : Nat} {c : Nat} {d : Nat} (hev : orig.Evolves s) :
    orig.Evolves (State.moveRanks s p c d) := by
  unfold State.moveRanks
  repeat' (first | with_reducible (first | assumption | apply State.setCore_evolves | apply State.modCore_evolves | apply State.modPart_evolves | apply State.modJob_evolves | apply State.withdrawPart_evolves | apply State.queueWake_evolves | apply State.awaitRebuild_evolves | apply State.renameCores_evolves | apply State.landTokens_evolves | apply State.Evolves.foldl | apply State.Evolves.foldl_fst) | intro _ | split | dsimp only)

theorem State.clusterUnusable_evolves {orig : State} {s : State} {c : Nat} {shed : Bool} (hev : orig.Evolves s) :
    orig.Evolves (State.clusterUnusable s c shed) := by
  unfold State.clusterUnusable
  repeat' (first | with_reducible (first | assumption | apply State.modJob_evolves | apply State.holdCapacity_evolves | apply State.awaitRebuild_evolves | apply State.moveRanks_evolves | apply State.Evolves.foldl | apply State.Evolves.foldl_fst) | intro _ | split | dsimp only)

theorem State.loseCluster_evolves {orig : State} {s : State} {c : Nat} {cause : Nat} (hev : orig.Evolves s) :
    orig.Evolves (State.loseCluster s c cause) := by
  unfold State.loseCluster
  repeat' (first | with_reducible (first | assumption | apply State.modCore_evolves | apply State.modCluster_evolves | apply State.event_evolves | apply State.clusterUnusable_evolves | apply State.Evolves.foldl | apply State.Evolves.foldl_fst) | intro _ | split | dsimp only)

theorem State.failCore_evolves {orig : State} {s : State} {L : Nat} {cause : Nat} (hev : orig.Evolves s) :
    orig.Evolves (State.failCore s L cause) := by
  unfold State.failCore
  repeat' (first | with_reducible (first | assumption | apply State.modCore_evolves | apply State.setCluster_evolves | apply State.modCluster_evolves | apply State.zero_evolves | apply State.event_evolves | apply State.logRequest_evolves | apply State.awaitRebuild_evolves | apply State.loseCluster_evolves) | intro _ | split | dsimp only)

theorem State.raise_evolves {orig : State} {s : State} {L : Nat} {st : W16} (hev : orig.Evolves s) :
    orig.Evolves (State.raise s L st) := by
  unfold State.raise
  repeat' (first | with_reducible (first | assumption | apply State.modCore_evolves | apply State.holdStatus_evolves | apply State.awaitRebuild_evolves | apply State.failCore_evolves | apply Verdict.Evolves.run | apply Verdict.Evolves.stop | apply Verdict.Evolves.wait | apply Verdict.Evolves.raise) | intro _ | split | dsimp only)

theorem State.countIssue_evolves {orig : State} {s : State} {L : Nat} (hev : orig.Evolves s) :
    orig.Evolves (State.countIssue s L) := by
  unfold State.countIssue
  repeat' (first | with_reducible (first | assumption | apply State.modCore_evolves | apply State.failCore_evolves | apply Verdict.Evolves.run | apply Verdict.Evolves.stop | apply Verdict.Evolves.wait | apply Verdict.Evolves.raise) | intro _ | split | dsimp only)

end Sys2Proof.Machine
end

