-- ==== Sys2Proof/Laws/EvolvesHbmOps.lean ====
section
/-! SUPPORT. Every operation of Machine/HbmOps.lean evolves the state (Laws/Evolves.lean). -/

set_option linter.unreachableTactic false
set_option linter.unusedTactic false

namespace Sys2Proof.Machine

theorem State.hostTraffic_evolves {orig : State} {s : State} {port : Nat} {a : Nat} {n : Nat} {toMemory : Bool} (hev : orig.Evolves s) :
    orig.Evolves (State.hostTraffic s port a n toMemory) := by
  unfold State.hostTraffic
  repeat' (first | with_reducible (first | assumption | apply State.traffic_evolves | apply State.Evolves.foldl | apply State.Evolves.foldl_fst) | intro _ | split | dsimp only)

theorem State.markWritten_evolves {orig : State} {s : State} {a : Nat} {n : Nat} (hev : orig.Evolves s) :
    orig.Evolves (State.markWritten s a n) := by
  unfold State.markWritten
  repeat' (first | with_reducible (first | assumption | apply State.Evolves.foldl | apply State.Evolves.foldl_fst) | intro _ | split | dsimp only)

theorem State.bufferWrite_evolves {orig : State} {s : State} {a : Nat} {n : Nat} (hev : orig.Evolves s) :
    orig.Evolves (State.bufferWrite s a n) := by
  unfold State.bufferWrite
  repeat' (first | with_reducible (first | assumption | apply State.Evolves.foldl | apply State.Evolves.foldl_fst) | intro _ | split | dsimp only)

theorem State.foldParity_evolves {orig : State} {s : State} {ds : List (Nat × W64)} (hev : orig.Evolves s) :
    orig.Evolves (State.foldParity s ds) := by
  unfold State.foldParity
  repeat' (first | with_reducible (first | assumption | apply State.Evolves.foldl | apply State.Evolves.foldl_fst) | intro _ | split | dsimp only)

theorem State.sendDelta_evolves {orig : State} {s : State} {g : Nat} {ds : List (Nat × W64)} (hev : orig.Evolves s) :
    orig.Evolves (State.sendDelta s g ds) := by
  unfold State.sendDelta
  repeat' (first | with_reducible (first | assumption | apply State.sendPacket_evolves | apply State.foldParity_evolves) | intro _ | split | dsimp only)

theorem State.settleDeltas_evolves {orig : State} {s : State} (hev : orig.Evolves s) :
    orig.Evolves (State.settleDeltas s) := by
  unfold State.settleDeltas
  repeat' (first | with_reducible (first | assumption | apply State.receive_evolves | apply State.acknowledged_evolves | apply State.Evolves.foldl | apply State.Evolves.foldl_fst) | intro _ | split | dsimp only)

theorem State.freshParity_evolves {orig : State} {s : State} {ts : List Nat} (hev : orig.Evolves s) :
    orig.Evolves (State.freshParity s ts) := by
  unfold State.freshParity
  repeat' (first | with_reducible assumption | intro _ | split | dsimp only)

theorem State.rowWrite_evolves {orig : State} {s : State} {a : Nat} {n : Nat} {es : SMap Byte} {row : Nat × Nat} (hev : orig.Evolves s) :
    orig.Evolves (State.rowWrite s a n es row) := by
  unfold State.rowWrite
  repeat' (first | with_reducible (first | assumption | apply State.store_evolves | apply State.markWritten_evolves | apply State.bufferWrite_evolves | apply State.foldParity_evolves | apply State.sendDelta_evolves | apply State.freshParity_evolves | apply State.Evolves.foldl | apply State.Evolves.foldl_fst) | intro _ | split | dsimp only)

theorem State.deviceWrite_evolves {orig : State} {s : State} {a : Nat} {n : Nat} {es : SMap Byte} (hev : orig.Evolves s) :
    orig.Evolves (State.deviceWrite s a n es) := by
  unfold State.deviceWrite
  repeat' (first | with_reducible (first | assumption | apply State.rowWrite_evolves) | intro _ | split | dsimp only)

theorem State.firmwareWrite_evolves {orig : State} {s : State} {a : Nat} {n : Nat} {es : SMap Byte} (hev : orig.Evolves s) :
    orig.Evolves (State.firmwareWrite s a n es) := by
  unfold State.firmwareWrite
  repeat' (first | with_reducible (first | assumption | apply State.store_evolves | apply State.markWritten_evolves | apply State.foldParity_evolves) | intro _ | split | dsimp only)

theorem State.clearBlocks_evolves {orig : State} {s : State} {a : Nat} {n : Nat} (hev : orig.Evolves s) :
    orig.Evolves (State.clearBlocks s a n) := by
  unfold State.clearBlocks
  repeat' (first | with_reducible (first | assumption | apply State.store_evolves | apply State.foldParity_evolves) | intro _ | split | dsimp only)

theorem State.clearEnds_evolves {orig : State} {s : State} {a : Nat} {n : Nat} (hev : orig.Evolves s) :
    orig.Evolves (State.clearEnds s a n) := by
  unfold State.clearEnds
  repeat' (first | with_reducible (first | assumption | apply State.firmwareWrite_evolves | apply State.Evolves.foldl | apply State.Evolves.foldl_fst) | intro _ | split | dsimp only)

theorem State.clearHbm_evolves {orig : State} {s : State} {a : Nat} {n : Nat} (hev : orig.Evolves s) :
    orig.Evolves (State.clearHbm s a n) := by
  unfold State.clearHbm
  repeat' (first | with_reducible (first | assumption | apply State.clearBlocks_evolves | apply State.clearEnds_evolves) | intro _ | split | dsimp only)

theorem State.wordEvent_evolves {orig : State} {s : State} {a : Nat} {path : Nat} {found : Nat} {core : Nat} {p : Option Nat} (hev : orig.Evolves s) :
    orig.Evolves (State.wordEvent s a path found core p) := by
  unfold State.wordEvent
  repeat' (first | with_reducible (first | assumption | apply State.event_evolves) | intro _ | split | dsimp only)

theorem State.correctWord_evolves {orig : State} {s : State} {w : Nat} (hev : orig.Evolves s) :
    orig.Evolves (State.correctWord s w) := by
  unfold State.correctWord
  repeat' (first | with_reducible (first | assumption | apply State.modIsland_evolves | apply State.countCore_evolves | apply State.modStack_evolves) | intro _ | split | dsimp only)

theorem State.countLost_evolves {orig : State} {s : State} {w : Nat} (hev : orig.Evolves s) :
    orig.Evolves (State.countLost s w) := by
  unfold State.countLost
  repeat' (first | with_reducible (first | assumption | apply State.modIsland_evolves | apply State.countCore_evolves | apply State.modStack_evolves | apply State.uncorrectable_evolves) | intro _ | split | dsimp only)

theorem State.uncorrectable_evolves {orig : State} {s : State} {w : Nat} {fold : Bool} (hev : orig.Evolves s) :
    orig.Evolves (State.uncorrectable s w fold).1 := by
  unfold State.uncorrectable
  repeat' (first | with_reducible (first | assumption | apply State.writeWord_evolves | apply State.modStack_evolves | apply State.countLost_evolves) | intro _ | split | dsimp only)

theorem State.meetWord_evolves {orig : State} {s : State} {w : Nat} (hev : orig.Evolves s) :
    orig.Evolves (State.meetWord s w).1 := by
  unfold State.meetWord
  repeat' (first | with_reducible (first | assumption | apply State.writeWord_evolves | apply State.correctWord_evolves | apply State.uncorrectable_evolves) | intro _ | split | dsimp only)

theorem State.serveAbsent_evolves {orig : State} {s : State} {a : Nat} {n : Nat} (hev : orig.Evolves s) :
    orig.Evolves (State.serveAbsent s a n).1 := by
  unfold State.serveAbsent
  repeat' (first | with_reducible (first | assumption | apply State.modStack_evolves | apply State.countLost_evolves | apply State.Evolves.foldl | apply State.Evolves.foldl_fst) | intro _ | split | dsimp only)

theorem State.meetRange_evolves {orig : State} {s : State} {a : Nat} {n : Nat} (hev : orig.Evolves s) :
    orig.Evolves (State.meetRange s a n).1 := by
  unfold State.meetRange
  repeat' (first | with_reducible (first | assumption | apply State.meetWord_evolves | apply State.serveAbsent_evolves | apply State.Evolves.foldl | apply State.Evolves.foldl_fst) | intro _ | split | dsimp only)

theorem State.refill_evolves {orig : State} {s : State} {src : Nat} {g : Nat} {n : Nat} (hev : orig.Evolves s) :
    orig.Evolves (State.refill s src g n) := by
  unfold State.refill
  repeat' (first | with_reducible (first | assumption | apply State.modIsland_evolves | apply State.copy_evolves | apply State.traffic_evolves) | intro _ | split | dsimp only)

theorem State.reloadGranule_evolves {orig : State} {s : State} {a : Nat} {found : Nat} {core : Nat} (hev : orig.Evolves s) :
    orig.Evolves (State.reloadGranule s a found core).1 := by
  unfold State.reloadGranule
  repeat' (first | with_reducible (first | assumption | apply State.wordEvent_evolves | apply State.meetRange_evolves | apply State.refill_evolves) | intro _ | split | dsimp only)

theorem State.readRange_evolves {orig : State} {s : State} {a : Nat} {n : Nat} {found : Nat} {core : Nat} (hev : orig.Evolves s) :
    orig.Evolves (State.readRange s a n found core).1 := by
  unfold State.readRange
  repeat' (first | with_reducible (first | assumption | apply State.meetWord_evolves | apply State.serveAbsent_evolves | apply State.reloadGranule_evolves | apply State.Evolves.foldl | apply State.Evolves.foldl_fst) | intro _ | split | dsimp only)

theorem State.loseStack_evolves {orig : State} {s : State} {k : Nat} {cause : Nat} (hev : orig.Evolves s) :
    orig.Evolves (State.loseStack s k cause) := by
  unfold State.loseStack
  repeat' (first | with_reducible (first | assumption | apply State.modStack_evolves | apply State.event_evolves | apply State.logRequest_evolves) | intro _ | split | dsimp only)

theorem State.channelEvent_evolves {orig : State} {s : State} {k : Nat} {ch : Nat} {outcome : Nat} {trigger : Nat} {attempts : Nat} {us : Nat} (hev : orig.Evolves s) :
    orig.Evolves (State.channelEvent s k ch outcome trigger attempts us) := by
  unfold State.channelEvent
  repeat' (first | with_reducible (first | assumption | apply State.event_evolves) | intro _ | split | dsimp only)

theorem State.retireChannel_evolves {orig : State} {s : State} {k : Nat} {ch : Nat} {trigger : Nat} {attempts : Nat} {us : Nat} (hev : orig.Evolves s) :
    orig.Evolves (State.retireChannel s k ch trigger attempts us) := by
  unfold State.retireChannel
  repeat' (first | with_reducible (first | assumption | apply State.modStack_evolves | apply State.logRequest_evolves | apply State.loseStack_evolves | apply State.channelEvent_evolves) | intro _ | split | dsimp only)

end Sys2Proof.Machine
end

