-- ==== Sys2Proof/Laws/EvolvesOperands.lean ====
section
/-! SUPPORT. Every operation of Machine/Operands.lean evolves the state (Laws/Evolves.lean). -/

set_option linter.unreachableTactic false
set_option linter.unusedTactic false

namespace Sys2Proof.Machine

theorem State.writeJobBlock_evolves {orig : State} {s : State} {p : Nat} {rank : Nat} {L : Nat} (hev : orig.Evolves s) :
    orig.Evolves (State.writeJobBlock s p rank L) := by
  unfold State.writeJobBlock
  repeat' (first | with_reducible (first | assumption | apply State.store_evolves) | intro _ | split | dsimp only)

theorem State.copyRead_evolves {orig : State} {s : State} {src : Nat} {dst : Nat} {n : Nat} (hev : orig.Evolves s) :
    orig.Evolves (State.copyRead s src dst n).1 := by
  unfold State.copyRead
  repeat' (first | with_reducible (first | assumption | apply State.copy_evolves | apply State.readRange_evolves) | intro _ | split | dsimp only)

theorem State.copyAll_evolves {orig : State} {s : State} {cs : List (Nat × Nat × Nat)} (hev : orig.Evolves s) :
    orig.Evolves (State.copyAll s cs).1 := by
  unfold State.copyAll
  repeat' (first | with_reducible (first | assumption | apply State.copyRead_evolves | apply State.Evolves.foldl | apply State.Evolves.foldl_fst) | intro _ | split | dsimp only)

theorem State.loadResident_evolves {orig : State} {s : State} {p : Nat} {rank : Nat} {L : Nat} (hev : orig.Evolves s) :
    orig.Evolves (State.loadResident s p rank L).1 := by
  unfold State.loadResident
  repeat' (first | with_reducible (first | assumption | apply State.copyAll_evolves) | intro _ | split | dsimp only)

theorem State.loadCarried_evolves {orig : State} {s : State} {im : Image} {p : Nat} {rank : Nat} {L : Nat} {sh : RankShadow} (hev : orig.Evolves s) :
    orig.Evolves (State.loadCarried s im p rank L sh).1 := by
  unfold State.loadCarried
  repeat' (first | with_reducible (first | assumption | apply State.copyAll_evolves) | intro _ | split | dsimp only)

theorem State.resendRows_evolves {orig : State} {s : State} {snd : Nat} {at' : Nat} {rows : List (Nat × Nat)} (hev : orig.Evolves s) :
    orig.Evolves (State.resendRows s snd at' rows).1 := by
  unfold State.resendRows
  repeat' (first | with_reducible (first | assumption | apply State.copy_evolves | apply State.readRange_evolves | apply State.Evolves.foldl | apply State.Evolves.foldl_fst) | intro _ | split | dsimp only)

theorem State.resendSlots_evolves {orig : State} {s : State} {L : Nat} {inboxes : SMap Inbox} (hev : orig.Evolves s) :
    orig.Evolves (State.resendSlots s L inboxes).1 := by
  unfold State.resendSlots
  repeat' (first | with_reducible (first | assumption | apply State.resendRows_evolves | apply State.Evolves.foldl | apply State.Evolves.foldl_fst) | intro _ | split | dsimp only)

theorem State.rewritePage_evolves {orig : State} {s : State} {L : Nat} {w : Nat} (hev : orig.Evolves s) :
    orig.Evolves (State.rewritePage s L w) := by
  unfold State.rewritePage
  repeat' (first | with_reducible (first | assumption | apply State.zero_evolves | apply State.wordEvent_evolves | apply State.writeJobBlock_evolves | apply State.copyAll_evolves | apply State.resendSlots_evolves | apply State.Evolves.foldl | apply State.Evolves.foldl_fst) | intro _ | split | dsimp only)

theorem State.coreWordFound_evolves {orig : State} {s : State} {L : Nat} {w : Nat} {found : Nat} {reader : Nat} (hev : orig.Evolves s) :
    orig.Evolves (State.coreWordFound s L w found reader) := by
  unfold State.coreWordFound
  repeat' (first | with_reducible (first | assumption | apply State.modCore_evolves | apply State.awaitRebuild_evolves | apply State.failCore_evolves | apply State.wordEvent_evolves | apply State.rewritePage_evolves) | intro _ | split | dsimp only)

theorem State.coreWordLost_evolves {orig : State} {s : State} {L : Nat} {w : Nat} (hev : orig.Evolves s) :
    orig.Evolves (State.coreWordLost s L w) := by
  unfold State.coreWordLost
  repeat' (first | with_reducible (first | assumption | apply State.coreWordFound_evolves) | intro _ | split | dsimp only)

theorem State.rebuildCore_evolves {orig : State} {s : State} {L : Nat} (hev : orig.Evolves s) :
    orig.Evolves (State.rebuildCore s L) := by
  unfold State.rebuildCore
  repeat' (first | with_reducible (first | assumption | apply State.modCore_evolves | apply State.zero_evolves | apply State.holdStatus_evolves | apply State.awaitRebuild_evolves | apply State.wordEvent_evolves | apply State.writeJobBlock_evolves | apply State.loadResident_evolves | apply State.loadCarried_evolves | apply State.resendSlots_evolves | apply State.coreWordFound_evolves | apply Verdict.Evolves.run | apply Verdict.Evolves.stop | apply Verdict.Evolves.wait | apply Verdict.Evolves.raise) | intro _ | split | dsimp only)

theorem State.issue_evolves {orig : State} {s : State} {L : Nat} {v : Verdict} (h : orig.Evolves s) (hv : v.Evolves orig) :
    orig.Evolves (s.issue L v) := by
  unfold State.issue
  split
  · split
    · cases v with
      | wait => exact h
      | raise st => exact State.raise_evolves h
      | run t => exact State.countIssue_evolves hv
      | stop t => exact hv
    · exact State.raise_evolves h
  · exact h

theorem State.syncGate_evolves {orig : State} {s : State} {L : Nat} {v : Verdict} (hv : Verdict.Evolves orig v) :
    Verdict.Evolves orig (s.syncGate L v) := by
  unfold State.syncGate
  split
  · exact .wait
  · exact hv

theorem State.saveBanks_evolves {orig : State} {s : State} {L : Nat} {live : BitVec 2} {carry : Nat} (hev : orig.Evolves s) :
    orig.Evolves (State.saveBanks s L live carry) := by
  unfold State.saveBanks
  repeat' (first | with_reducible (first | assumption | apply State.store_evolves) | intro _ | split | dsimp only)

theorem State.settleTurnEnd_evolves {orig : State} {s : State} {L : Nat} (hev : orig.Evolves s) :
    orig.Evolves (State.settleTurnEnd s L) := by
  unfold State.settleTurnEnd
  repeat' (first | with_reducible (first | assumption | apply State.modCore_evolves | apply State.saveBanks_evolves) | intro _ | split | dsimp only)

theorem State.ledgerCommit_evolves {orig : State} {s : State} {L : Nat} {slot : Nat} {f : Fmt} {td : Nat} (hev : orig.Evolves s) :
    orig.Evolves (State.ledgerCommit s L slot f td) := by
  unfold State.ledgerCommit
  repeat' (first | with_reducible (first | assumption | apply State.writeBytes_evolves | apply State.Evolves.foldl | apply State.Evolves.foldl_fst) | intro _ | split | dsimp only)

theorem State.ledgerTake_evolves {orig : State} {s : State} {L : Nat} {d : DrainOut} (hev : orig.Evolves s) :
    orig.Evolves (State.ledgerTake s L d) := by
  unfold State.ledgerTake
  repeat' (first | with_reducible (first | assumption | apply State.writeBytes_evolves) | intro _ | split | dsimp only)

theorem State.absorbEffect_evolves {orig : State} {s : State} {L : Nat} {dest : Nat} {len : Nat} {kind : Nat} {data : List Byte} (hev : orig.Evolves s) :
    orig.Evolves (State.absorbEffect s L dest len kind data) := by
  unfold State.absorbEffect
  repeat' (first | with_reducible (first | assumption | apply State.modCore_evolves) | intro _ | split | dsimp only)

theorem State.absorbSignal_evolves {orig : State} {s : State} {L : Nat} {dest : Nat} {token : Nat} {count : Nat} (hev : orig.Evolves s) :
    orig.Evolves (State.absorbSignal s L dest token count) := by
  unfold State.absorbSignal
  repeat' (first | with_reducible (first | assumption | apply State.absorbEffect_evolves) | intro _ | split | dsimp only)

theorem State.absorbCredit_evolves {orig : State} {s : State} {L : Nat} {sender : Nat} {inbox : Nat} {slot : Nat} (hev : orig.Evolves s) :
    orig.Evolves (State.absorbCredit s L sender inbox slot) := by
  unfold State.absorbCredit
  repeat' (first | with_reducible (first | assumption | apply State.absorbEffect_evolves) | intro _ | split | dsimp only)

end Sys2Proof.Machine
end

