-- ==== Sys2Proof/Laws/EvolvesMeshOps.lean ====
section
/-! SUPPORT. Every operation of Machine/MeshOps.lean evolves the state (Laws/Evolves.lean). -/

set_option linter.unreachableTactic false
set_option linter.unusedTactic false

namespace Sys2Proof.Machine

theorem State.wakeFor_evolves {orig : State} {s : State} {a : Nat} (hev : orig.Evolves s) :
    orig.Evolves (State.wakeFor s a) := by
  unfold State.wakeFor
  repeat' (first | with_reducible (first | assumption | apply State.queueWake_evolves) | intro _ | split | dsimp only)

theorem State.cowPage_evolves {orig : State} {s : State} {p : Nat} {page : Nat} (hev : orig.Evolves s) :
    orig.Evolves (State.cowPage s p page) := by
  unfold State.cowPage
  repeat' (first | with_reducible (first | assumption | apply State.modPart_evolves | apply State.journalWrite_evolves) | intro _ | split | dsimp only)

theorem State.partWriteRow_evolves {orig : State} {s : State} {p : Nat} {a : Nat} {n : Nat} {es : SMap Byte} {row : Nat × Nat} (hev : orig.Evolves s) :
    orig.Evolves (State.partWriteRow s p a n es row) := by
  unfold State.partWriteRow
  repeat' (first | with_reducible (first | assumption | apply State.rowWrite_evolves | apply State.cowPage_evolves | apply State.Evolves.foldl | apply State.Evolves.foldl_fst) | intro _ | split | dsimp only)

theorem State.partWrite_evolves {orig : State} {s : State} {p : Nat} {a : Nat} {n : Nat} {es : SMap Byte} (hev : orig.Evolves s) :
    orig.Evolves (State.partWrite s p a n es) := by
  unfold State.partWrite
  repeat' (first | with_reducible (first | assumption | apply State.partWriteRow_evolves) | intro _ | split | dsimp only)

theorem State.addContribution_evolves {orig : State} {s : State} {c : Contribution} (hev : orig.Evolves s) :
    orig.Evolves (State.addContribution s c) := by
  unfold State.addContribution
  repeat' (first | with_reducible assumption | intro _ | split | dsimp only)

theorem State.combineRun_evolves {orig : State} {s : State} {p : Nat} {op : Nat} {a : Nat} {data : List Byte} (hev : orig.Evolves s) :
    orig.Evolves (State.combineRun s p op a data) := by
  unfold State.combineRun
  repeat' (first | with_reducible (first | assumption | apply State.wordEvent_evolves | apply State.readRange_evolves | apply State.partWrite_evolves | apply State.Evolves.foldl | apply State.Evolves.foldl_fst) | intro _ | split | dsimp only)

theorem State.combine_evolves {orig : State} {s : State} {c : Contribution} (hev : orig.Evolves s) :
    orig.Evolves (State.combine s c) := by
  unfold State.combine
  repeat' (first | with_reducible (first | assumption | apply State.combineRun_evolves | apply State.Evolves.foldl | apply State.Evolves.foldl_fst) | intro _ | split | dsimp only)

end Sys2Proof.Machine
end

