-- ==== Sys2Proof/Laws/EvolvesTransfers.lean ====
section
/-! SUPPORT. Every operation of Machine/Transfers.lean evolves the state (Laws/Evolves.lean). -/

set_option linter.unreachableTactic false
set_option linter.unusedTactic false

namespace Sys2Proof.Machine

theorem State.remoteWordLost_evolves {orig : State} {s : State} {L : Nat} {w : Nat} (hev : orig.Evolves s) :
    orig.Evolves (State.remoteWordLost s L w) := by
  unfold State.remoteWordLost
  repeat' (first | with_reducible (first | assumption | apply State.modCore_evolves | apply State.holdStatus_evolves | apply State.awaitRebuild_evolves | apply State.wordEvent_evolves) | intro _ | split | dsimp only)

theorem State.readLost_evolves {orig : State} {s : State} {L : Nat} {w : Nat} (hev : orig.Evolves s) :
    orig.Evolves (State.readLost s L w) := by
  unfold State.readLost
  repeat' (first | with_reducible (first | assumption | apply State.awaitRebuild_evolves | apply State.coreWordFound_evolves | apply State.coreWordLost_evolves | apply State.remoteWordLost_evolves) | intro _ | split | dsimp only)

theorem State.sendPiece_evolves {orig : State} {s : State} {x : Xfer} {i : Nat} {ch : Nat × Nat} (hev : orig.Evolves s) :
    orig.Evolves (State.sendPiece s x i ch).1 := by
  unfold State.sendPiece
  repeat' (first | with_reducible (first | assumption | apply State.sendPacket_evolves) | intro _ | split | dsimp only)

theorem State.readSource_evolves {orig : State} {s : State} {x : Xfer} (hev : orig.Evolves s) :
    orig.Evolves (State.readSource s x).1 := by
  unfold State.readSource
  repeat' (first | with_reducible (first | assumption | apply State.readRange_evolves | apply State.Evolves.foldl | apply State.Evolves.foldl_fst) | intro _ | split | dsimp only)

theorem State.sendXfer_evolves {orig : State} {s : State} {L : Nat} {port : Bool} {k : Nat} (hev : orig.Evolves s) :
    orig.Evolves (State.sendXfer s L port k) := by
  unfold State.sendXfer
  repeat' (first | with_reducible (first | assumption | apply State.modCore_evolves | apply State.setPort_evolves | apply State.coreWordLost_evolves | apply State.sendPiece_evolves | apply State.readSource_evolves | apply State.Evolves.foldl | apply State.Evolves.foldl_fst) | intro _ | split | dsimp only)

theorem State.serveRead_evolves {orig : State} {s : State} {p : MeshPkt} {a : Nat} {n : Nat} (hev : orig.Evolves s) :
    orig.Evolves (State.serveRead s p a n) := by
  unfold State.serveRead
  repeat' (first | with_reducible (first | assumption | apply State.sendPacket_evolves | apply State.wordEvent_evolves | apply State.readRange_evolves | apply State.readLost_evolves) | intro _ | split | dsimp only)

theorem State.serveWrite_evolves {orig : State} {s : State} {p : MeshPkt} {a : Nat} {n : Nat} (hev : orig.Evolves s) :
    orig.Evolves (State.serveWrite s p a n) := by
  unfold State.serveWrite
  repeat' (first | with_reducible (first | assumption | apply State.rowWrite_evolves | apply State.partWriteRow_evolves) | intro _ | split | dsimp only)

theorem State.serveReduce_evolves {orig : State} {s : State} {p : MeshPkt} {a : Nat} (hev : orig.Evolves s) :
    orig.Evolves (State.serveReduce s p a) := by
  unfold State.serveReduce
  repeat' (first | with_reducible (first | assumption | apply State.addContribution_evolves | apply State.Evolves.foldl | apply State.Evolves.foldl_fst) | intro _ | split | dsimp only)

theorem State.serve_evolves {orig : State} {s : State} {p : MeshPkt} (hev : orig.Evolves s) :
    orig.Evolves (State.serve s p).1 := by
  unfold State.serve
  repeat' (first | with_reducible (first | assumption | apply State.writeBytes_evolves | apply State.serveRead_evolves | apply State.serveWrite_evolves | apply State.serveReduce_evolves) | intro _ | split | dsimp only)

theorem State.eject_evolves {orig : State} {s : State} {p : MeshPkt} {a : Nat} (hev : orig.Evolves s) :
    orig.Evolves (State.eject s p a).1 := by
  unfold State.eject
  repeat' (first | with_reducible (first | assumption | apply State.receive_evolves | apply State.wakeFor_evolves) | intro _ | split | dsimp only)

theorem State.accept_evolves {orig : State} {s0 : State} {p : MeshPkt} (hev : orig.Evolves s0) :
    orig.Evolves (State.accept s0 p).1 := by
  unfold State.accept
  repeat' (first | with_reducible (first | assumption | apply State.arrived_evolves | apply State.receive_evolves | apply State.serve_evolves | apply State.eject_evolves) | intro _ | split | dsimp only)

theorem State.landPiece_evolves {orig : State} {s : State} {x : Xfer} {q : Piece} {data : List Byte} (hev : orig.Evolves s) :
    orig.Evolves (State.landPiece s x q data) := by
  unfold State.landPiece
  repeat' (first | with_reducible (first | assumption | apply State.writeBytes_evolves) | intro _ | split | dsimp only)

theorem State.serveData_evolves {orig : State} {s : State} {p : MeshPkt} (hev : orig.Evolves s) :
    orig.Evolves (State.serveData s p).1 := by
  unfold State.serveData
  repeat' (first | with_reducible (first | assumption | apply State.modCore_evolves | apply State.landPiece_evolves) | intro _ | split | dsimp only)

theorem State.acceptData_evolves {orig : State} {s0 : State} {p : MeshPkt} (hev : orig.Evolves s0) :
    orig.Evolves (State.acceptData s0 p).1 := by
  unfold State.acceptData
  repeat' (first | with_reducible (first | assumption | apply State.arrived_evolves | apply State.receive_evolves | apply State.serveData_evolves) | intro _ | split | dsimp only)

theorem reply_evolves {orig : State} {p : MeshPkt} {r : State × Option (Nat × W16)} (hev : orig.Evolves r.1) :
    orig.Evolves (reply p r) := by
  unfold reply
  split
  · exact hev
  · exact State.answer_evolves hev

theorem State.redeliver_evolves {orig : State} {s : State} {p : MeshPkt} (hev : orig.Evolves s) :
    orig.Evolves (State.redeliver s p) := by
  unfold State.redeliver
  repeat' (first | with_reducible (first | assumption | apply State.answer_evolves | apply State.serve_evolves | apply State.serveData_evolves | apply reply_evolves) | intro _ | split | dsimp only)

theorem State.releaseHeld_evolves {orig : State} {s : State} (hev : orig.Evolves s) :
    orig.Evolves (State.releaseHeld s) := by
  unfold State.releaseHeld
  repeat' (first | with_reducible (first | assumption | apply State.redeliver_evolves | apply State.Evolves.foldl | apply State.Evolves.foldl_fst) | intro _ | split | dsimp only)

theorem State.releaseEjection_evolves {orig : State} {s : State} {c : Nat} (hev : orig.Evolves s) :
    orig.Evolves (State.releaseEjection s c) := by
  unfold State.releaseEjection
  repeat' (first | with_reducible (first | assumption | apply State.redeliver_evolves | apply State.Evolves.foldl | apply State.Evolves.foldl_fst) | intro _ | split | dsimp only)

theorem State.settleAck_evolves {orig : State} {s : State} {q : MeshPkt} (hev : orig.Evolves s) :
    orig.Evolves (State.settleAck s q) := by
  unfold State.settleAck
  repeat' (first | with_reducible (first | assumption | apply State.modCore_evolves | apply State.acknowledged_evolves) | intro _ | split | dsimp only)

theorem State.failXfer_evolves {orig : State} {s : State} {q : MeshPkt} {st : W16} (hev : orig.Evolves s) :
    orig.Evolves (State.failXfer s q st) := by
  unfold State.failXfer
  repeat' (first | with_reducible (first | assumption | apply State.modCore_evolves | apply State.sendQueued_evolves | apply State.acknowledged_evolves | apply State.dropPackets_evolves) | intro _ | split | dsimp only)

theorem State.settleStatus_evolves {orig : State} {s : State} {q : MeshPkt} {st : W16} (hev : orig.Evolves s) :
    orig.Evolves (State.settleStatus s q st) := by
  unfold State.settleStatus
  repeat' (first | with_reducible (first | assumption | apply State.failXfer_evolves) | intro _ | split | dsimp only)

theorem State.settle_evolves {orig : State} {s : State} {q : MeshPkt} {typ : Nat} {st : W16} (hev : orig.Evolves s) :
    orig.Evolves (State.settle s q typ st) := by
  unfold State.settle
  repeat' (first | with_reducible (first | assumption | apply State.settleAck_evolves | apply State.settleStatus_evolves) | intro _ | split | dsimp only)

theorem State.push_evolves {orig : State} {s : State} {q : MeshPkt} (hev : orig.Evolves s) :
    orig.Evolves (State.push s q) := by
  unfold State.push
  repeat' (first | with_reducible (first | assumption | apply State.answer_evolves | apply State.accept_evolves | apply State.acceptData_evolves | apply State.settle_evolves) | intro _ | split | dsimp only)

theorem State.moveDirect_evolves {orig : State} {s : State} {L : Nat} {port : Bool} {x : Xfer} {q : Piece} (hev : orig.Evolves s) :
    orig.Evolves (State.moveDirect s L port x q) := by
  unfold State.moveDirect
  repeat' (first | with_reducible (first | assumption | apply State.modCore_evolves | apply State.readRange_evolves | apply State.coreWordLost_evolves | apply State.partWrite_evolves | apply State.readLost_evolves | apply State.landPiece_evolves) | intro _ | split | dsimp only)

theorem State.movePiece_evolves {orig : State} {s : State} {L : Nat} {port : Bool} {q : Piece} (hev : orig.Evolves s) :
    orig.Evolves (State.movePiece s L port q) := by
  unfold State.movePiece
  repeat' (first | with_reducible (first | assumption | apply State.push_evolves | apply State.moveDirect_evolves) | intro _ | split | dsimp only)

end Sys2Proof.Machine
end

