-- ==== Sys2Proof/Laws/EvolvesGroupOps.lean ====
section
/-! SUPPORT. Every operation of Machine/GroupOps.lean evolves the state (Laws/Evolves.lean). -/

set_option linter.unreachableTactic false
set_option linter.unusedTactic false

namespace Sys2Proof.Machine

theorem State.setGroup_evolves {orig : State} {s : State} {g : W32} {x : Group} (hev : orig.Evolves s) :
    orig.Evolves (State.setGroup s g x) := by
  unfold State.setGroup
  repeat' (first | with_reducible assumption | intro _ | split | dsimp only)

theorem State.tryAdmit_evolves {orig : State} {s : State} {g : W32} (hev : orig.Evolves s) :
    orig.Evolves (State.tryAdmit s g) := by
  unfold State.tryAdmit
  repeat' (first | with_reducible (first | assumption | apply State.sendMember_evolves | apply State.setGroup_evolves | apply State.Evolves.foldl | apply State.Evolves.foldl_fst) | intro _ | split | dsimp only)

theorem State.noteReport_evolves {orig : State} {s : State} {seat : Nat} {g : W32} {map : W64} {turns : W64} (hev : orig.Evolves s) :
    orig.Evolves (State.noteReport s seat g map turns) := by
  unfold State.noteReport
  repeat' (first | with_reducible (first | assumption | apply State.setGroup_evolves | apply State.tryAdmit_evolves) | intro _ | split | dsimp only)

theorem State.reportGroup_evolves {orig : State} {s : State} {p : Nat} (hev : orig.Evolves s) :
    orig.Evolves (State.reportGroup s p) := by
  unfold State.reportGroup
  repeat' (first | with_reducible (first | assumption | apply State.sendMember_evolves | apply State.setGroup_evolves | apply State.noteReport_evolves) | intro _ | split | dsimp only)

theorem State.decideTurn_evolves {orig : State} {s : State} {g : W32} {turn : Nat} (hev : orig.Evolves s) :
    orig.Evolves (State.decideTurn s g turn) := by
  unfold State.decideTurn
  repeat' (first | with_reducible (first | assumption | apply State.modPart_evolves | apply State.modJob_evolves | apply State.sendCommit_evolves | apply State.setGroup_evolves | apply State.snapshotPoint_evolves | apply State.Evolves.foldl | apply State.Evolves.foldl_fst) | intro _ | split | dsimp only)

theorem State.noteDurable_evolves {orig : State} {s : State} {seat : Nat} {g : W32} {map : W64} {turn : Nat} {d : BitVec 128} (hev : orig.Evolves s) :
    orig.Evolves (State.noteDurable s seat g map turn d) := by
  unfold State.noteDurable
  repeat' (first | with_reducible (first | assumption | apply State.sendCommit_evolves | apply State.setGroup_evolves | apply State.decideTurn_evolves) | intro _ | split | dsimp only)

theorem State.reportDurable_evolves {orig : State} {s : State} {p : Nat} (hev : orig.Evolves s) :
    orig.Evolves (State.reportDurable s p) := by
  unfold State.reportDurable
  repeat' (first | with_reducible (first | assumption | apply State.modJob_evolves | apply State.sendCommit_evolves | apply State.noteDurable_evolves) | intro _ | split | dsimp only)

theorem State.reportAgain_evolves {orig : State} {s : State} (hev : orig.Evolves s) :
    orig.Evolves (State.reportAgain s) := by
  unfold State.reportAgain
  repeat' (first | with_reducible (first | assumption | apply State.modJob_evolves | apply State.reportGroup_evolves | apply State.reportDurable_evolves | apply State.Evolves.foldl | apply State.Evolves.foldl_fst) | intro _ | split | dsimp only)

end Sys2Proof.Machine
end

