-- ==== Sys2Proof/Laws/EvolvesCollectives.lean ====
section
/-! SUPPORT. Every operation of Machine/Collectives.lean evolves the state (Laws/Evolves.lean). -/

set_option linter.unreachableTactic false
set_option linter.unusedTactic false

namespace Sys2Proof.Machine

theorem State.sendRange_evolves {orig : State} {s : State} {typ : Nat} {dest : Nat} {g : W32} {turn : Nat} {src : Nat} {place : Nat} {n : Nat} (hev : orig.Evolves s) :
    orig.Evolves (State.sendRange s typ dest g turn src place n) := by
  unfold State.sendRange
  repeat' (first | with_reducible (first | assumption | apply State.sendStrait_evolves | apply State.Evolves.foldl | apply State.Evolves.foldl_fst) | intro _ | split | dsimp only)

theorem State.startCollective_evolves {orig : State} {s : State} {base : Nat} {g : W32} {map : W64} {td : Nat} {d : Descriptor} (hev : orig.Evolves s) :
    orig.Evolves (State.startCollective s base g map td d) := by
  unfold State.startCollective
  repeat' (first | with_reducible (first | assumption | apply State.copy_evolves | apply State.sendRange_evolves | apply State.Evolves.foldl | apply State.Evolves.foldl_fst) | intro _ | split | dsimp only)

theorem State.startCollectives_evolves {orig : State} {s : State} {p : Nat} {td : Nat} {mismatch : Bool} (hev : orig.Evolves s) :
    orig.Evolves (State.startCollectives s p td mismatch).1 := by
  unfold State.startCollectives
  repeat' (first | with_reducible (first | assumption | apply State.sendMember_evolves | apply State.startCollective_evolves | apply State.Evolves.foldl | apply State.Evolves.foldl_fst) | intro _ | split | dsimp only)

end Sys2Proof.Machine
end

