-- ==== Sys2Proof/Laws/EvolvesJobOps.lean ====
section
/-! SUPPORT. Every operation of Machine/JobOps.lean evolves the state (Laws/Evolves.lean). -/

set_option linter.unreachableTactic false
set_option linter.unusedTactic false

namespace Sys2Proof.Machine

theorem State.wakeHosts_evolves {orig : State} {s : State} {j : Job} (hev : orig.Evolves s) :
    orig.Evolves (State.wakeHosts s j) := by
  unfold State.wakeHosts
  repeat' (first | with_reducible (first | assumption | apply State.queueWake_evolves | apply State.Evolves.foldl | apply State.Evolves.foldl_fst) | intro _ | split | dsimp only)

theorem State.endSnapshot_evolves {orig : State} {s : State} {p : Nat} {code : W16} {turn : Nat} (hev : orig.Evolves s) :
    orig.Evolves (State.endSnapshot s p code turn) := by
  unfold State.endSnapshot
  repeat' (first | with_reducible (first | assumption | apply State.modPart_evolves | apply State.journalWrite_evolves) | intro _ | split | dsimp only)

theorem State.dropRequested_evolves {orig : State} {s : State} {p : Nat} (hev : orig.Evolves s) :
    orig.Evolves (State.dropRequested s p) := by
  unfold State.dropRequested
  repeat' (first | with_reducible (first | assumption | apply State.endSnapshot_evolves) | intro _ | split | dsimp only)

theorem State.startTests_evolves {orig : State} {s : State} (hev : orig.Evolves s) :
    orig.Evolves (State.startTests s) := by
  unfold State.startTests
  repeat' (first | with_reducible (first | assumption | apply State.queueWake_evolves | apply State.clusterUnusable_evolves | apply State.Evolves.foldl | apply State.Evolves.foldl_fst) | intro _ | split | dsimp only)

theorem State.boundary_evolves {orig : State} {s : State} {p : Nat} (hev : orig.Evolves s) :
    orig.Evolves (State.boundary s p) := by
  unfold State.boundary
  repeat' (first | with_reducible (first | assumption | apply State.modCore_evolves | apply State.Evolves.foldl | apply State.Evolves.foldl_fst) | intro _ | split | dsimp only)

theorem State.moveDue_evolves {orig : State} {s : State} {p : Nat} (hev : orig.Evolves s) :
    orig.Evolves (State.moveDue s p) := by
  unfold State.moveDue
  repeat' (first | with_reducible (first | assumption | apply State.clusterUnusable_evolves | apply State.Evolves.foldl | apply State.Evolves.foldl_fst) | intro _ | split | dsimp only)

theorem State.rewriteBlocks_evolves {orig : State} {s : State} {p : Nat} (hev : orig.Evolves s) :
    orig.Evolves (State.rewriteBlocks s p) := by
  unfold State.rewriteBlocks
  repeat' (first | with_reducible (first | assumption | apply State.modJob_evolves | apply State.writeJobBlock_evolves | apply State.Evolves.foldl | apply State.Evolves.foldl_fst) | intro _ | split | dsimp only)

theorem State.enterParts_evolves {orig : State} {s : State} {j : Job} (hev : orig.Evolves s) :
    orig.Evolves (State.enterParts s j) := by
  unfold State.enterParts
  repeat' (first | with_reducible (first | assumption | apply State.modCore_evolves | apply State.Evolves.foldl | apply State.Evolves.foldl_fst) | intro _ | split | dsimp only)

theorem State.startTurns_evolves {orig : State} {s : State} {p : Nat} (hev : orig.Evolves s) :
    orig.Evolves (State.startTurns s p) := by
  unfold State.startTurns
  repeat' (first | with_reducible (first | assumption | apply State.modJob_evolves | apply State.wakeHosts_evolves | apply State.moveDue_evolves | apply State.rewriteBlocks_evolves | apply State.enterParts_evolves) | intro _ | split | dsimp only)

theorem State.endWait_evolves {orig : State} {s : State} {p : Nat} (hev : orig.Evolves s) :
    orig.Evolves (State.endWait s p) := by
  unfold State.endWait
  repeat' (first | with_reducible (first | assumption | apply State.modJob_evolves | apply State.startTurns_evolves) | intro _ | split | dsimp only)

theorem State.restartTurn_evolves {orig : State} {s : State} {p : Nat} (hev : orig.Evolves s) :
    orig.Evolves (State.restartTurn s p) := by
  unfold State.restartTurn
  repeat' (first | with_reducible (first | assumption | apply State.awaitRebuild_evolves | apply State.Evolves.foldl | apply State.Evolves.foldl_fst) | intro _ | split | dsimp only)

theorem State.leaveHold_evolves {orig : State} {s : State} {p : Nat} (hev : orig.Evolves s) :
    orig.Evolves (State.leaveHold s p) := by
  unfold State.leaveHold
  repeat' (first | with_reducible (first | assumption | apply State.modJob_evolves | apply State.journalWrite_evolves | apply State.startTurns_evolves) | intro _ | split | dsimp only)

theorem State.loadNext_evolves {orig : State} {s : State} {p : Nat} (hev : orig.Evolves s) :
    orig.Evolves (State.loadNext s p) := by
  unfold State.loadNext
  repeat' (first | with_reducible (first | assumption | apply State.modCore_evolves | apply State.setPart_evolves | apply State.enterHold_evolves | apply State.reportGroup_evolves | apply State.wakeHosts_evolves | apply State.Evolves.foldl | apply State.Evolves.foldl_fst) | intro _ | split | dsimp only)

theorem State.nextJob_evolves {orig : State} {s : State} {p : Nat} (hev : orig.Evolves s) :
    orig.Evolves (State.nextJob s p) := by
  unfold State.nextJob
  repeat' (first | with_reducible (first | assumption | apply State.dropRequested_evolves | apply State.loadNext_evolves) | intro _ | split | dsimp only)

theorem State.loadRank_evolves {orig : State} {s : State} {p : Nat} {im : Image} {rank : Nat} {L : Nat} (hev : orig.Evolves s) :
    orig.Evolves (State.loadRank s p im rank L).1 := by
  unfold State.loadRank
  repeat' (first | with_reducible (first | assumption | apply State.modCore_evolves | apply State.zero_evolves | apply State.writeJobBlock_evolves | apply State.loadResident_evolves | apply State.Evolves.foldl | apply State.Evolves.foldl_fst) | intro _ | split | dsimp only)

theorem State.clearShadow_evolves {orig : State} {s : State} {p : Nat} {im : Image} (hev : orig.Evolves s) :
    orig.Evolves (State.clearShadow s p im) := by
  unfold State.clearShadow
  repeat' (first | with_reducible (first | assumption | apply State.clearHbm_evolves) | intro _ | split | dsimp only)

theorem State.runLoaded_evolves {orig : State} {s : State} {p : Nat} (hev : orig.Evolves s) :
    orig.Evolves (State.runLoaded s p) := by
  unfold State.runLoaded
  repeat' (first | with_reducible (first | assumption | apply State.modJob_evolves | apply State.journalWrite_evolves | apply State.enterHold_evolves | apply State.startTurns_evolves) | intro _ | split | dsimp only)

theorem State.runAdmitted_evolves {orig : State} {s : State} {g : W32} (hev : orig.Evolves s) :
    orig.Evolves (State.runAdmitted s g) := by
  unfold State.runAdmitted
  repeat' (first | with_reducible (first | assumption | apply State.runLoaded_evolves) | intro _ | split | dsimp only)

theorem State.dropJob_evolves {orig : State} {s : State} {j : Job} (hev : orig.Evolves s) :
    orig.Evolves (State.dropJob s j) := by
  unfold State.dropJob
  repeat' (first | with_reducible (first | assumption | apply State.dropPackets_evolves) | intro _ | split | dsimp only)

theorem State.discardJob_evolves {orig : State} {s : State} {p : Nat} {cause : Nat} (hev : orig.Evolves s) :
    orig.Evolves (State.discardJob s p cause) := by
  unfold State.discardJob
  repeat' (first | with_reducible (first | assumption | apply State.modCore_evolves | apply State.modJob_evolves | apply State.countEvent_evolves | apply State.journalWrite_evolves | apply State.abandonParts_evolves | apply State.tellGroup_evolves | apply State.dropJob_evolves | apply State.Evolves.foldl | apply State.Evolves.foldl_fst) | intro _ | split | dsimp only)

theorem State.discardQueue_evolves {orig : State} {s : State} {p : Nat} {cause : Nat} (hev : orig.Evolves s) :
    orig.Evolves (State.discardQueue s p cause) := by
  unfold State.discardQueue
  repeat' (first | with_reducible (first | assumption | apply State.modPart_evolves | apply State.countEvent_evolves | apply State.journalWrite_evolves | apply State.Evolves.foldl | apply State.Evolves.foldl_fst) | intro _ | split | dsimp only)

theorem State.combineTurn_evolves {orig : State} {s : State} {p : Nat} {td : Nat} (hev : orig.Evolves s) :
    orig.Evolves (State.combineTurn s p td) := by
  unfold State.combineTurn
  repeat' (first | with_reducible (first | assumption | apply State.modJob_evolves | apply State.combine_evolves | apply State.Evolves.foldl | apply State.Evolves.foldl_fst) | intro _ | split | dsimp only)

theorem State.releaseSignals_evolves {orig : State} {s : State} {p : Nat} {j : Job} {L : Nat} (hev : orig.Evolves s) :
    orig.Evolves (State.releaseSignals s p j L) := by
  unfold State.releaseSignals
  repeat' (first | with_reducible (first | assumption | apply State.modCore_evolves | apply State.sendPacket_evolves | apply State.Evolves.foldl | apply State.Evolves.foldl_fst) | intro _ | split | dsimp only)

theorem State.freeSlot_evolves {orig : State} {s : State} {p : Nat} {L : Nat} {inbox : Nat} {slot : Nat} {sender : Nat} (hev : orig.Evolves s) :
    orig.Evolves (State.freeSlot s p L inbox slot sender) := by
  unfold State.freeSlot
  repeat' (first | with_reducible (first | assumption | apply State.modCore_evolves | apply State.sendPacket_evolves) | intro _ | split | dsimp only)

theorem State.releaseClosed_evolves {orig : State} {s : State} {p : Nat} {L : Nat} (hev : orig.Evolves s) :
    orig.Evolves (State.releaseClosed s p L) := by
  unfold State.releaseClosed
  repeat' (first | with_reducible (first | assumption | apply State.modCore_evolves | apply State.freeSlot_evolves | apply State.Evolves.foldl | apply State.Evolves.foldl_fst) | intro _ | split | dsimp only)

theorem State.releaseSlots_evolves {orig : State} {s : State} {p : Nat} {j : Job} {L : Nat} (hev : orig.Evolves s) :
    orig.Evolves (State.releaseSlots s p j L) := by
  unfold State.releaseSlots
  repeat' (first | with_reducible (first | assumption | apply State.modCore_evolves | apply State.sendPacket_evolves | apply State.freeSlot_evolves | apply State.releaseClosed_evolves | apply State.Evolves.foldl | apply State.Evolves.foldl_fst) | intro _ | split | dsimp only)

theorem State.completeJob_evolves {orig : State} {s : State} {p : Nat} (hev : orig.Evolves s) :
    orig.Evolves (State.completeJob s p) := by
  unfold State.completeJob
  repeat' (first | with_reducible (first | assumption | apply State.modCore_evolves | apply State.modJob_evolves | apply State.journalWrite_evolves | apply State.nextJob_evolves | apply State.dropJob_evolves | apply State.Evolves.foldl | apply State.Evolves.foldl_fst) | intro _ | split | dsimp only)

theorem State.snapshotPoint_evolves {orig : State} {s : State} {p : Nat} (hev : orig.Evolves s) :
    orig.Evolves (State.snapshotPoint s p) := by
  unfold State.snapshotPoint
  repeat' (first | with_reducible (first | assumption | apply State.setPart_evolves) | intro _ | split | dsimp only)

theorem State.commitTurn_evolves {orig : State} {s : State} {p : Nat} (hev : orig.Evolves s) :
    orig.Evolves (State.commitTurn s p) := by
  unfold State.commitTurn
  split
  · assumption
  · extract_lets +lift td s0 s1 s2 s3 s4 replays moves s5 s6 every s6c s7 s7b s8 s9
    first
      | have htd : orig.Evolves td := by (dsimp only [td]; repeat' (first | with_reducible (first | assumption | apply State.modCore_evolves | apply State.modPart_evolves | apply State.modJob_evolves | apply State.journalWrite_evolves | apply State.enterHold_evolves | apply State.holdStatus_evolves | apply State.holdCapacity_evolves | apply State.startCollectives_evolves | apply State.startTests_evolves | apply State.boundary_evolves | apply State.startTurns_evolves | apply State.combineTurn_evolves | apply State.releaseSignals_evolves | apply State.releaseSlots_evolves | apply State.completeJob_evolves | apply State.snapshotPoint_evolves | apply State.Evolves.foldl | apply State.Evolves.foldl_fst) | intro _ | split | dsimp only))
        clear_value td
      | have htd : orig.Evolves td.1 := by (dsimp only [td]; repeat' (first | with_reducible (first | assumption | apply State.modCore_evolves | apply State.modPart_evolves | apply State.modJob_evolves | apply State.journalWrite_evolves | apply State.enterHold_evolves | apply State.holdStatus_evolves | apply State.holdCapacity_evolves | apply State.startCollectives_evolves | apply State.startTests_evolves | apply State.boundary_evolves | apply State.startTurns_evolves | apply State.combineTurn_evolves | apply State.releaseSignals_evolves | apply State.releaseSlots_evolves | apply State.completeJob_evolves | apply State.snapshotPoint_evolves | apply State.Evolves.foldl | apply State.Evolves.foldl_fst) | intro _ | split | dsimp only))
        clear_value td
      | skip
    first
      | have hs0 : orig.Evolves s0 := by (dsimp only [s0]; repeat' (first | with_reducible (first | assumption | apply State.modCore_evolves | apply State.modPart_evolves | apply State.modJob_evolves | apply State.journalWrite_evolves | apply State.enterHold_evolves | apply State.holdStatus_evolves | apply State.holdCapacity_evolves | apply State.startCollectives_evolves | apply State.startTests_evolves | apply State.boundary_evolves | apply State.startTurns_evolves | apply State.combineTurn_evolves | apply State.releaseSignals_evolves | apply State.releaseSlots_evolves | apply State.completeJob_evolves | apply State.snapshotPoint_evolves | apply State.Evolves.foldl | apply State.Evolves.foldl_fst) | intro _ | split | dsimp only))
        clear_value s0
      | have hs0 : orig.Evolves s0.1 := by (dsimp only [s0]; repeat' (first | with_reducible (first | assumption | apply State.modCore_evolves | apply State.modPart_evolves | apply State.modJob_evolves | apply State.journalWrite_evolves | apply State.enterHold_evolves | apply State.holdStatus_evolves | apply State.holdCapacity_evolves | apply State.startCollectives_evolves | apply State.startTests_evolves | apply State.boundary_evolves | apply State.startTurns_evolves | apply State.combineTurn_evolves | apply State.releaseSignals_evolves | apply State.releaseSlots_evolves | apply State.completeJob_evolves | apply State.snapshotPoint_evolves | apply State.Evolves.foldl | apply State.Evolves.foldl_fst) | intro _ | split | dsimp only))
        clear_value s0
      | skip
    first
      | have hs1 : orig.Evolves s1 := by (dsimp only [s1]; repeat' (first | with_reducible (first | assumption | apply State.modCore_evolves | apply State.modPart_evolves | apply State.modJob_evolves | apply State.journalWrite_evolves | apply State.enterHold_evolves | apply State.holdStatus_evolves | apply State.holdCapacity_evolves | apply State.startCollectives_evolves | apply State.startTests_evolves | apply State.boundary_evolves | apply State.startTurns_evolves | apply State.combineTurn_evolves | apply State.releaseSignals_evolves | apply State.releaseSlots_evolves | apply State.completeJob_evolves | apply State.snapshotPoint_evolves | apply State.Evolves.foldl | apply State.Evolves.foldl_fst) | intro _ | split | dsimp only))
        clear_value s1
      | have hs1 : orig.Evolves s1.1 := by (dsimp only [s1]; repeat' (first | with_reducible (first | assumption | apply State.modCore_evolves | apply State.modPart_evolves | apply State.modJob_evolves | apply State.journalWrite_evolves | apply State.enterHold_evolves | apply State.holdStatus_evolves | apply State.holdCapacity_evolves | apply State.startCollectives_evolves | apply State.startTests_evolves | apply State.boundary_evolves | apply State.startTurns_evolves | apply State.combineTurn_evolves | apply State.releaseSignals_evolves | apply State.releaseSlots_evolves | apply State.completeJob_evolves | apply State.snapshotPoint_evolves | apply State.Evolves.foldl | apply State.Evolves.foldl_fst) | intro _ | split | dsimp only))
        clear_value s1
      | skip
    first
      | have hs2 : orig.Evolves s2 := by (dsimp only [s2]; repeat' (first | with_reducible (first | assumption | apply State.modCore_evolves | apply State.modPart_evolves | apply State.modJob_evolves | apply State.journalWrite_evolves | apply State.enterHold_evolves | apply State.holdStatus_evolves | apply State.holdCapacity_evolves | apply State.startCollectives_evolves | apply State.startTests_evolves | apply State.boundary_evolves | apply State.startTurns_evolves | apply State.combineTurn_evolves | apply State.releaseSignals_evolves | apply State.releaseSlots_evolves | apply State.completeJob_evolves | apply State.snapshotPoint_evolves | apply State.Evolves.foldl | apply State.Evolves.foldl_fst) | intro _ | split | dsimp only))
        clear_value s2
      | have hs2 : orig.Evolves s2.1 := by (dsimp only [s2]; repeat' (first | with_reducible (first | assumption | apply State.modCore_evolves | apply State.modPart_evolves | apply State.modJob_evolves | apply State.journalWrite_evolves | apply State.enterHold_evolves | apply State.holdStatus_evolves | apply State.holdCapacity_evolves | apply State.startCollectives_evolves | apply State.startTests_evolves | apply State.boundary_evolves | apply State.startTurns_evolves | apply State.combineTurn_evolves | apply State.releaseSignals_evolves | apply State.releaseSlots_evolves | apply State.completeJob_evolves | apply State.snapshotPoint_evolves | apply State.Evolves.foldl | apply State.Evolves.foldl_fst) | intro _ | split | dsimp only))
        clear_value s2
      | skip
    first
      | have hs3 : orig.Evolves s3 := by (dsimp only [s3]; repeat' (first | with_reducible (first | assumption | apply State.modCore_evolves | apply State.modPart_evolves | apply State.modJob_evolves | apply State.journalWrite_evolves | apply State.enterHold_evolves | apply State.holdStatus_evolves | apply State.holdCapacity_evolves | apply State.startCollectives_evolves | apply State.startTests_evolves | apply State.boundary_evolves | apply State.startTurns_evolves | apply State.combineTurn_evolves | apply State.releaseSignals_evolves | apply State.releaseSlots_evolves | apply State.completeJob_evolves | apply State.snapshotPoint_evolves | apply State.Evolves.foldl | apply State.Evolves.foldl_fst) | intro _ | split | dsimp only))
        clear_value s3
      | have hs3 : orig.Evolves s3.1 := by (dsimp only [s3]; repeat' (first | with_reducible (first | assumption | apply State.modCore_evolves | apply State.modPart_evolves | apply State.modJob_evolves | apply State.journalWrite_evolves | apply State.enterHold_evolves | apply State.holdStatus_evolves | apply State.holdCapacity_evolves | apply State.startCollectives_evolves | apply State.startTests_evolves | apply State.boundary_evolves | apply State.startTurns_evolves | apply State.combineTurn_evolves | apply State.releaseSignals_evolves | apply State.releaseSlots_evolves | apply State.completeJob_evolves | apply State.snapshotPoint_evolves | apply State.Evolves.foldl | apply State.Evolves.foldl_fst) | intro _ | split | dsimp only))
        clear_value s3
      | skip
    first
      | have hs4 : orig.Evolves s4 := by (dsimp only [s4]; repeat' (first | with_reducible (first | assumption | apply State.modCore_evolves | apply State.modPart_evolves | apply State.modJob_evolves | apply State.journalWrite_evolves | apply State.enterHold_evolves | apply State.holdStatus_evolves | apply State.holdCapacity_evolves | apply State.startCollectives_evolves | apply State.startTests_evolves | apply State.boundary_evolves | apply State.startTurns_evolves | apply State.combineTurn_evolves | apply State.releaseSignals_evolves | apply State.releaseSlots_evolves | apply State.completeJob_evolves | apply State.snapshotPoint_evolves | apply State.Evolves.foldl | apply State.Evolves.foldl_fst) | intro _ | split | dsimp only))
        clear_value s4
      | have hs4 : orig.Evolves s4.1 := by (dsimp only [s4]; repeat' (first | with_reducible (first | assumption | apply State.modCore_evolves | apply State.modPart_evolves | apply State.modJob_evolves | apply State.journalWrite_evolves | apply State.enterHold_evolves | apply State.holdStatus_evolves | apply State.holdCapacity_evolves | apply State.startCollectives_evolves | apply State.startTests_evolves | apply State.boundary_evolves | apply State.startTurns_evolves | apply State.combineTurn_evolves | apply State.releaseSignals_evolves | apply State.releaseSlots_evolves | apply State.completeJob_evolves | apply State.snapshotPoint_evolves | apply State.Evolves.foldl | apply State.Evolves.foldl_fst) | intro _ | split | dsimp only))
        clear_value s4
      | skip
    first
      | have hreplays : orig.Evolves replays := by (dsimp only [replays]; repeat' (first | with_reducible (first | assumption | apply State.modCore_evolves | apply State.modPart_evolves | apply State.modJob_evolves | apply State.journalWrite_evolves | apply State.enterHold_evolves | apply State.holdStatus_evolves | apply State.holdCapacity_evolves | apply State.startCollectives_evolves | apply State.startTests_evolves | apply State.boundary_evolves | apply State.startTurns_evolves | apply State.combineTurn_evolves | apply State.releaseSignals_evolves | apply State.releaseSlots_evolves | apply State.completeJob_evolves | apply State.snapshotPoint_evolves | apply State.Evolves.foldl | apply State.Evolves.foldl_fst) | intro _ | split | dsimp only))
        clear_value replays
      | have hreplays : orig.Evolves replays.1 := by (dsimp only [replays]; repeat' (first | with_reducible (first | assumption | apply State.modCore_evolves | apply State.modPart_evolves | apply State.modJob_evolves | apply State.journalWrite_evolves | apply State.enterHold_evolves | apply State.holdStatus_evolves | apply State.holdCapacity_evolves | apply State.startCollectives_evolves | apply State.startTests_evolves | apply State.boundary_evolves | apply State.startTurns_evolves | apply State.combineTurn_evolves | apply State.releaseSignals_evolves | apply State.releaseSlots_evolves | apply State.completeJob_evolves | apply State.snapshotPoint_evolves | apply State.Evolves.foldl | apply State.Evolves.foldl_fst) | intro _ | split | dsimp only))
        clear_value replays
      | skip
    first
      | have hmoves : orig.Evolves moves := by (dsimp only [moves]; repeat' (first | with_reducible (first | assumption | apply State.modCore_evolves | apply State.modPart_evolves | apply State.modJob_evolves | apply State.journalWrite_evolves | apply State.enterHold_evolves | apply State.holdStatus_evolves | apply State.holdCapacity_evolves | apply State.startCollectives_evolves | apply State.startTests_evolves | apply State.boundary_evolves | apply State.startTurns_evolves | apply State.combineTurn_evolves | apply State.releaseSignals_evolves | apply State.releaseSlots_evolves | apply State.completeJob_evolves | apply State.snapshotPoint_evolves | apply State.Evolves.foldl | apply State.Evolves.foldl_fst) | intro _ | split | dsimp only))
        clear_value moves
      | have hmoves : orig.Evolves moves.1 := by (dsimp only [moves]; repeat' (first | with_reducible (first | assumption | apply State.modCore_evolves | apply State.modPart_evolves | apply State.modJob_evolves | apply State.journalWrite_evolves | apply State.enterHold_evolves | apply State.holdStatus_evolves | apply State.holdCapacity_evolves | apply State.startCollectives_evolves | apply State.startTests_evolves | apply State.boundary_evolves | apply State.startTurns_evolves | apply State.combineTurn_evolves | apply State.releaseSignals_evolves | apply State.releaseSlots_evolves | apply State.completeJob_evolves | apply State.snapshotPoint_evolves | apply State.Evolves.foldl | apply State.Evolves.foldl_fst) | intro _ | split | dsimp only))
        clear_value moves
      | skip
    first
      | have hs5 : orig.Evolves s5 := by (dsimp only [s5]; repeat' (first | with_reducible (first | assumption | apply State.modCore_evolves | apply State.modPart_evolves | apply State.modJob_evolves | apply State.journalWrite_evolves | apply State.enterHold_evolves | apply State.holdStatus_evolves | apply State.holdCapacity_evolves | apply State.startCollectives_evolves | apply State.startTests_evolves | apply State.boundary_evolves | apply State.startTurns_evolves | apply State.combineTurn_evolves | apply State.releaseSignals_evolves | apply State.releaseSlots_evolves | apply State.completeJob_evolves | apply State.snapshotPoint_evolves | apply State.Evolves.foldl | apply State.Evolves.foldl_fst) | intro _ | split | dsimp only))
        clear_value s5
      | have hs5 : orig.Evolves s5.1 := by (dsimp only [s5]; repeat' (first | with_reducible (first | assumption | apply State.modCore_evolves | apply State.modPart_evolves | apply State.modJob_evolves | apply State.journalWrite_evolves | apply State.enterHold_evolves | apply State.holdStatus_evolves | apply State.holdCapacity_evolves | apply State.startCollectives_evolves | apply State.startTests_evolves | apply State.boundary_evolves | apply State.startTurns_evolves | apply State.combineTurn_evolves | apply State.releaseSignals_evolves | apply State.releaseSlots_evolves | apply State.completeJob_evolves | apply State.snapshotPoint_evolves | apply State.Evolves.foldl | apply State.Evolves.foldl_fst) | intro _ | split | dsimp only))
        clear_value s5
      | skip
    first
      | have hs6 : orig.Evolves s6 := by (dsimp only [s6]; repeat' (first | with_reducible (first | assumption | apply State.modCore_evolves | apply State.modPart_evolves | apply State.modJob_evolves | apply State.journalWrite_evolves | apply State.enterHold_evolves | apply State.holdStatus_evolves | apply State.holdCapacity_evolves | apply State.startCollectives_evolves | apply State.startTests_evolves | apply State.boundary_evolves | apply State.startTurns_evolves | apply State.combineTurn_evolves | apply State.releaseSignals_evolves | apply State.releaseSlots_evolves | apply State.completeJob_evolves | apply State.snapshotPoint_evolves | apply State.Evolves.foldl | apply State.Evolves.foldl_fst) | intro _ | split | dsimp only))
        clear_value s6
      | have hs6 : orig.Evolves s6.1 := by (dsimp only [s6]; repeat' (first | with_reducible (first | assumption | apply State.modCore_evolves | apply State.modPart_evolves | apply State.modJob_evolves | apply State.journalWrite_evolves | apply State.enterHold_evolves | apply State.holdStatus_evolves | apply State.holdCapacity_evolves | apply State.startCollectives_evolves | apply State.startTests_evolves | apply State.boundary_evolves | apply State.startTurns_evolves | apply State.combineTurn_evolves | apply State.releaseSignals_evolves | apply State.releaseSlots_evolves | apply State.completeJob_evolves | apply State.snapshotPoint_evolves | apply State.Evolves.foldl | apply State.Evolves.foldl_fst) | intro _ | split | dsimp only))
        clear_value s6
      | skip
    first
      | have hevery : orig.Evolves every := by (dsimp only [every]; repeat' (first | with_reducible (first | assumption | apply State.modCore_evolves | apply State.modPart_evolves | apply State.modJob_evolves | apply State.journalWrite_evolves | apply State.enterHold_evolves | apply State.holdStatus_evolves | apply State.holdCapacity_evolves | apply State.startCollectives_evolves | apply State.startTests_evolves | apply State.boundary_evolves | apply State.startTurns_evolves | apply State.combineTurn_evolves | apply State.releaseSignals_evolves | apply State.releaseSlots_evolves | apply State.completeJob_evolves | apply State.snapshotPoint_evolves | apply State.Evolves.foldl | apply State.Evolves.foldl_fst) | intro _ | split | dsimp only))
        clear_value every
      | have hevery : orig.Evolves every.1 := by (dsimp only [every]; repeat' (first | with_reducible (first | assumption | apply State.modCore_evolves | apply State.modPart_evolves | apply State.modJob_evolves | apply State.journalWrite_evolves | apply State.enterHold_evolves | apply State.holdStatus_evolves | apply State.holdCapacity_evolves | apply State.startCollectives_evolves | apply State.startTests_evolves | apply State.boundary_evolves | apply State.startTurns_evolves | apply State.combineTurn_evolves | apply State.releaseSignals_evolves | apply State.releaseSlots_evolves | apply State.completeJob_evolves | apply State.snapshotPoint_evolves | apply State.Evolves.foldl | apply State.Evolves.foldl_fst) | intro _ | split | dsimp only))
        clear_value every
      | skip
    first
      | have hs6c : orig.Evolves s6c := by (dsimp only [s6c]; repeat' (first | with_reducible (first | assumption | apply State.modCore_evolves | apply State.modPart_evolves | apply State.modJob_evolves | apply State.journalWrite_evolves | apply State.enterHold_evolves | apply State.holdStatus_evolves | apply State.holdCapacity_evolves | apply State.startCollectives_evolves | apply State.startTests_evolves | apply State.boundary_evolves | apply State.startTurns_evolves | apply State.combineTurn_evolves | apply State.releaseSignals_evolves | apply State.releaseSlots_evolves | apply State.completeJob_evolves | apply State.snapshotPoint_evolves | apply State.Evolves.foldl | apply State.Evolves.foldl_fst) | intro _ | split | dsimp only))
        clear_value s6c
      | have hs6c : orig.Evolves s6c.1 := by (dsimp only [s6c]; repeat' (first | with_reducible (first | assumption | apply State.modCore_evolves | apply State.modPart_evolves | apply State.modJob_evolves | apply State.journalWrite_evolves | apply State.enterHold_evolves | apply State.holdStatus_evolves | apply State.holdCapacity_evolves | apply State.startCollectives_evolves | apply State.startTests_evolves | apply State.boundary_evolves | apply State.startTurns_evolves | apply State.combineTurn_evolves | apply State.releaseSignals_evolves | apply State.releaseSlots_evolves | apply State.completeJob_evolves | apply State.snapshotPoint_evolves | apply State.Evolves.foldl | apply State.Evolves.foldl_fst) | intro _ | split | dsimp only))
        clear_value s6c
      | skip
    first
      | have hs7 : orig.Evolves s7 := by (dsimp only [s7]; repeat' (first | with_reducible (first | assumption | apply State.modCore_evolves | apply State.modPart_evolves | apply State.modJob_evolves | apply State.journalWrite_evolves | apply State.enterHold_evolves | apply State.holdStatus_evolves | apply State.holdCapacity_evolves | apply State.startCollectives_evolves | apply State.startTests_evolves | apply State.boundary_evolves | apply State.startTurns_evolves | apply State.combineTurn_evolves | apply State.releaseSignals_evolves | apply State.releaseSlots_evolves | apply State.completeJob_evolves | apply State.snapshotPoint_evolves | apply State.Evolves.foldl | apply State.Evolves.foldl_fst) | intro _ | split | dsimp only))
        clear_value s7
      | have hs7 : orig.Evolves s7.1 := by (dsimp only [s7]; repeat' (first | with_reducible (first | assumption | apply State.modCore_evolves | apply State.modPart_evolves | apply State.modJob_evolves | apply State.journalWrite_evolves | apply State.enterHold_evolves | apply State.holdStatus_evolves | apply State.holdCapacity_evolves | apply State.startCollectives_evolves | apply State.startTests_evolves | apply State.boundary_evolves | apply State.startTurns_evolves | apply State.combineTurn_evolves | apply State.releaseSignals_evolves | apply State.releaseSlots_evolves | apply State.completeJob_evolves | apply State.snapshotPoint_evolves | apply State.Evolves.foldl | apply State.Evolves.foldl_fst) | intro _ | split | dsimp only))
        clear_value s7
      | skip
    first
      | have hs7b : orig.Evolves s7b := by (dsimp only [s7b]; repeat' (first | with_reducible (first | assumption | apply State.modCore_evolves | apply State.modPart_evolves | apply State.modJob_evolves | apply State.journalWrite_evolves | apply State.enterHold_evolves | apply State.holdStatus_evolves | apply State.holdCapacity_evolves | apply State.startCollectives_evolves | apply State.startTests_evolves | apply State.boundary_evolves | apply State.startTurns_evolves | apply State.combineTurn_evolves | apply State.releaseSignals_evolves | apply State.releaseSlots_evolves | apply State.completeJob_evolves | apply State.snapshotPoint_evolves | apply State.Evolves.foldl | apply State.Evolves.foldl_fst) | intro _ | split | dsimp only))
        clear_value s7b
      | have hs7b : orig.Evolves s7b.1 := by (dsimp only [s7b]; repeat' (first | with_reducible (first | assumption | apply State.modCore_evolves | apply State.modPart_evolves | apply State.modJob_evolves | apply State.journalWrite_evolves | apply State.enterHold_evolves | apply State.holdStatus_evolves | apply State.holdCapacity_evolves | apply State.startCollectives_evolves | apply State.startTests_evolves | apply State.boundary_evolves | apply State.startTurns_evolves | apply State.combineTurn_evolves | apply State.releaseSignals_evolves | apply State.releaseSlots_evolves | apply State.completeJob_evolves | apply State.snapshotPoint_evolves | apply State.Evolves.foldl | apply State.Evolves.foldl_fst) | intro _ | split | dsimp only))
        clear_value s7b
      | skip
    first
      | have hs8 : orig.Evolves s8 := by (dsimp only [s8]; repeat' (first | with_reducible (first | assumption | apply State.modCore_evolves | apply State.modPart_evolves | apply State.modJob_evolves | apply State.journalWrite_evolves | apply State.enterHold_evolves | apply State.holdStatus_evolves | apply State.holdCapacity_evolves | apply State.startCollectives_evolves | apply State.startTests_evolves | apply State.boundary_evolves | apply State.startTurns_evolves | apply State.combineTurn_evolves | apply State.releaseSignals_evolves | apply State.releaseSlots_evolves | apply State.completeJob_evolves | apply State.snapshotPoint_evolves | apply State.Evolves.foldl | apply State.Evolves.foldl_fst) | intro _ | split | dsimp only))
        clear_value s8
      | have hs8 : orig.Evolves s8.1 := by (dsimp only [s8]; repeat' (first | with_reducible (first | assumption | apply State.modCore_evolves | apply State.modPart_evolves | apply State.modJob_evolves | apply State.journalWrite_evolves | apply State.enterHold_evolves | apply State.holdStatus_evolves | apply State.holdCapacity_evolves | apply State.startCollectives_evolves | apply State.startTests_evolves | apply State.boundary_evolves | apply State.startTurns_evolves | apply State.combineTurn_evolves | apply State.releaseSignals_evolves | apply State.releaseSlots_evolves | apply State.completeJob_evolves | apply State.snapshotPoint_evolves | apply State.Evolves.foldl | apply State.Evolves.foldl_fst) | intro _ | split | dsimp only))
        clear_value s8
      | skip
    first
      | have hs9 : orig.Evolves s9 := by (dsimp only [s9]; repeat' (first | with_reducible (first | assumption | apply State.modCore_evolves | apply State.modPart_evolves | apply State.modJob_evolves | apply State.journalWrite_evolves | apply State.enterHold_evolves | apply State.holdStatus_evolves | apply State.holdCapacity_evolves | apply State.startCollectives_evolves | apply State.startTests_evolves | apply State.boundary_evolves | apply State.startTurns_evolves | apply State.combineTurn_evolves | apply State.releaseSignals_evolves | apply State.releaseSlots_evolves | apply State.completeJob_evolves | apply State.snapshotPoint_evolves | apply State.Evolves.foldl | apply State.Evolves.foldl_fst) | intro _ | split | dsimp only))
        clear_value s9
      | have hs9 : orig.Evolves s9.1 := by (dsimp only [s9]; repeat' (first | with_reducible (first | assumption | apply State.modCore_evolves | apply State.modPart_evolves | apply State.modJob_evolves | apply State.journalWrite_evolves | apply State.enterHold_evolves | apply State.holdStatus_evolves | apply State.holdCapacity_evolves | apply State.startCollectives_evolves | apply State.startTests_evolves | apply State.boundary_evolves | apply State.startTurns_evolves | apply State.combineTurn_evolves | apply State.releaseSignals_evolves | apply State.releaseSlots_evolves | apply State.completeJob_evolves | apply State.snapshotPoint_evolves | apply State.Evolves.foldl | apply State.Evolves.foldl_fst) | intro _ | split | dsimp only))
        clear_value s9
      | skip
    repeat' (first | with_reducible (first | assumption | apply State.modCore_evolves | apply State.modPart_evolves | apply State.modJob_evolves | apply State.journalWrite_evolves | apply State.enterHold_evolves | apply State.holdStatus_evolves | apply State.holdCapacity_evolves | apply State.startCollectives_evolves | apply State.startTests_evolves | apply State.boundary_evolves | apply State.startTurns_evolves | apply State.combineTurn_evolves | apply State.releaseSignals_evolves | apply State.releaseSlots_evolves | apply State.completeJob_evolves | apply State.snapshotPoint_evolves | apply State.Evolves.foldl | apply State.Evolves.foldl_fst) | intro _ | split | dsimp only)

end Sys2Proof.Machine
end

