-- ==== Sys2Proof/Laws/EvolvesPowerOps.lean ====
section
/-! SUPPORT. Every operation of Machine/PowerOps.lean evolves the state (Laws/Evolves.lean). -/

set_option linter.unreachableTactic false
set_option linter.unusedTactic false

namespace Sys2Proof.Machine

theorem State.takePoint_evolves {orig : State} {s : State} {c : Nat} (hev : orig.Evolves s) :
    orig.Evolves (State.takePoint s c) := by
  unfold State.takePoint
  repeat' (first | with_reducible (first | assumption | apply State.modCluster_evolves) | intro _ | split | dsimp only)

theorem State.clearWake_evolves {orig : State} {s : State} {c : Nat} (hev : orig.Evolves s) :
    orig.Evolves (State.clearWake s c) := by
  unfold State.clearWake
  repeat' (first | with_reducible (first | assumption | apply State.modCluster_evolves | apply State.modIsland_evolves) | intro _ | split | dsimp only)

theorem State.stopArrays_evolves {orig : State} {s : State} {c : Nat} (hev : orig.Evolves s) :
    orig.Evolves (State.stopArrays s c) := by
  unfold State.stopArrays
  repeat' (first | with_reducible (first | assumption | apply State.modCore_evolves | apply State.Evolves.foldl | apply State.Evolves.foldl_fst) | intro _ | split | dsimp only)

theorem State.gate_evolves {orig : State} {s : State} {c : Nat} (hev : orig.Evolves s) :
    orig.Evolves (State.gate s c) := by
  unfold State.gate
  repeat' (first | with_reducible (first | assumption | apply State.modCluster_evolves | apply State.clearWake_evolves | apply State.stopArrays_evolves) | intro _ | split | dsimp only)

theorem State.shedEvent_evolves {orig : State} {s : State} {c : Nat} {outcome : Nat} (hev : orig.Evolves s) :
    orig.Evolves (State.shedEvent s c outcome) := by
  unfold State.shedEvent
  repeat' (first | with_reducible (first | assumption | apply State.event_evolves) | intro _ | split | dsimp only)

theorem State.shedRegion_evolves {orig : State} {s : State} {c : Nat} {outcome : Nat} (hev : orig.Evolves s) :
    orig.Evolves (State.shedRegion s c outcome) := by
  unfold State.shedRegion
  repeat' (first | with_reducible (first | assumption | apply State.modCluster_evolves | apply State.clusterUnusable_evolves | apply State.gate_evolves | apply State.shedEvent_evolves | apply counters_evolves) | intro _ | split | dsimp only)

theorem State.clearStores_evolves {orig : State} {s : State} {c : Nat} (hev : orig.Evolves s) :
    orig.Evolves (State.clearStores s c) := by
  unfold State.clearStores
  repeat' (first | with_reducible (first | assumption | apply State.modCluster_evolves | apply State.zero_evolves | apply State.Evolves.foldl | apply State.Evolves.foldl_fst) | intro _ | split | dsimp only)

theorem State.regionRuns_evolves {orig : State} {s : State} {c : Nat} (hev : orig.Evolves s) :
    orig.Evolves (State.regionRuns s c) := by
  unfold State.regionRuns
  repeat' (first | with_reducible (first | assumption | apply State.modCluster_evolves | apply State.releaseEjection_evolves | apply State.startTests_evolves | apply State.endWait_evolves | apply State.takePoint_evolves | apply State.clearWake_evolves | apply State.clearStores_evolves) | intro _ | split | dsimp only)

theorem State.darken_evolves {orig : State} {s : State} {c : Nat} (hev : orig.Evolves s) :
    orig.Evolves (State.darken s c) := by
  unfold State.darken
  repeat' (first | with_reducible (first | assumption | apply State.modCluster_evolves | apply State.loseCluster_evolves | apply State.clearWake_evolves | apply State.stopArrays_evolves | apply State.clearStores_evolves) | intro _ | split | dsimp only)

theorem State.endHint_evolves {orig : State} {s : State} {c : Nat} (hev : orig.Evolves s) :
    orig.Evolves (State.endHint s c) := by
  unfold State.endHint
  repeat' (first | with_reducible (first | assumption | apply State.modCore_evolves | apply State.modCluster_evolves | apply State.Evolves.foldl | apply State.Evolves.foldl_fst) | intro _ | split | dsimp only)

theorem State.takeHint_evolves {orig : State} {s : State} {c : Nat} {h : Hint} (hev : orig.Evolves s) :
    orig.Evolves (State.takeHint s c h) := by
  unfold State.takeHint
  repeat' (first | with_reducible (first | assumption | apply State.modCluster_evolves | apply State.endHint_evolves | apply counters_evolves) | intro _ | split | dsimp only)

theorem State.clusterReset_evolves {orig : State} {s : State} {c : Nat} {replay : Bool} (hev : orig.Evolves s) :
    orig.Evolves (State.clusterReset s c replay) := by
  unfold State.clusterReset
  repeat' (first | with_reducible (first | assumption | apply State.modCore_evolves | apply State.modCluster_evolves | apply State.queueWake_evolves | apply State.awaitRebuild_evolves | apply State.Evolves.foldl | apply State.Evolves.foldl_fst) | intro _ | split | dsimp only)

theorem State.clusterResetDone_evolves {orig : State} {s : State} {c : Nat} (hev : orig.Evolves s) :
    orig.Evolves (State.clusterResetDone s c) := by
  unfold State.clusterResetDone
  repeat' (first | with_reducible (first | assumption | apply State.modCluster_evolves | apply State.clearStores_evolves | apply State.regionRuns_evolves) | intro _ | split | dsimp only)

end Sys2Proof.Machine
end

