-- ==== Sys2Proof/Laws/EvolvesResetOps.lean ====
section
/-! SUPPORT. Every operation of Machine/ResetOps.lean evolves the state (Laws/Evolves.lean). -/

set_option linter.unreachableTactic false
set_option linter.unusedTactic false

namespace Sys2Proof.Machine

theorem State.alert_evolves {orig : State} {s : State} {bit : Nat} (hev : orig.Evolves s) :
    orig.Evolves (State.alert s bit) := by
  unfold State.alert
  repeat' (first | with_reducible assumption | intro _ | split | dsimp only)

theorem State.volatileCleared_evolves {orig : State} {s : State} (h : orig.Evolves s) : orig.Evolves (State.volatileCleared s) :=
  ⟨fun _ => rfl, h.pending, h.fuses, h.log.trans (DefectLog.covered_grows _)⟩

theorem State.powerOff_evolves {orig : State} {s : State} (hev : orig.Evolves s) :
    orig.Evolves (State.powerOff s) := by
  unfold State.powerOff
  repeat' (first | with_reducible (first | assumption | apply State.volatileCleared_evolves) | intro _ | split | dsimp only)

theorem State.tripOff_evolves {orig : State} {s : State} (hev : orig.Evolves s) :
    orig.Evolves (State.tripOff s) := by
  unfold State.tripOff
  repeat' (first | with_reducible (first | assumption | apply State.powerOff_evolves) | intro _ | split | dsimp only)

theorem State.moduleReset_evolves {orig : State} {s : State} {cause : Nat} (hev : orig.Evolves s) :
    orig.Evolves (State.moduleReset s cause) := by
  unfold State.moduleReset
  repeat' (first | with_reducible (first | assumption | apply State.settleDeltas_evolves | apply State.volatileCleared_evolves) | intro _ | split | dsimp only)

theorem State.finishWrites_evolves {orig : State} {s : State} (hev : orig.Evolves s) :
    orig.Evolves (State.finishWrites s) := by
  unfold State.finishWrites
  repeat' (first | with_reducible assumption | intro _ | split | dsimp only)

end Sys2Proof.Machine
end

