-- ==== Sys2Proof/Laws/EvolvesScalar.lean ====
section
/-! SUPPORT. Every operation of Machine/Scalar.lean evolves the state (Laws/Evolves.lean). -/

set_option linter.unreachableTactic false
set_option linter.unusedTactic false

namespace Sys2Proof.Machine

theorem scalarResult_evolves {orig : State} {f : ScalarF} {s : State} {v : Core → W64} (hev : orig.Evolves s) :
    orig.Evolves (scalarResult f s v) := by
  unfold scalarResult
  repeat' (first | with_reducible (first | assumption | apply State.modCore_evolves | apply State.raise_evolves | apply State.issue_evolves | apply Verdict.Evolves.run | apply Verdict.Evolves.stop | apply Verdict.Evolves.wait | apply Verdict.Evolves.raise) | intro _ | split | dsimp only)

theorem execAdd_evolves {f : ScalarF} {s : State} {t : State} (hx : execAdd f s = .next t) : s.Evolves t := by
  unfold execAdd at hx
  cases hx
  repeat' (first | with_reducible (first | exact State.Evolves.refl _ | apply scalarResult_evolves | apply Verdict.Evolves.run | apply Verdict.Evolves.stop | apply Verdict.Evolves.wait | apply Verdict.Evolves.raise | assumption) | intro _ | split | dsimp only)

theorem execSub_evolves {f : ScalarF} {s : State} {t : State} (hx : execSub f s = .next t) : s.Evolves t := by
  unfold execSub at hx
  cases hx
  repeat' (first | with_reducible (first | exact State.Evolves.refl _ | apply scalarResult_evolves | apply Verdict.Evolves.run | apply Verdict.Evolves.stop | apply Verdict.Evolves.wait | apply Verdict.Evolves.raise | assumption) | intro _ | split | dsimp only)

theorem execMul_evolves {f : ScalarF} {s : State} {t : State} (hx : execMul f s = .next t) : s.Evolves t := by
  unfold execMul at hx
  cases hx
  repeat' (first | with_reducible (first | exact State.Evolves.refl _ | apply scalarResult_evolves | apply Verdict.Evolves.run | apply Verdict.Evolves.stop | apply Verdict.Evolves.wait | apply Verdict.Evolves.raise | assumption) | intro _ | split | dsimp only)

theorem execAnd_evolves {f : ScalarF} {s : State} {t : State} (hx : execAnd f s = .next t) : s.Evolves t := by
  unfold execAnd at hx
  cases hx
  repeat' (first | with_reducible (first | exact State.Evolves.refl _ | apply scalarResult_evolves | apply Verdict.Evolves.run | apply Verdict.Evolves.stop | apply Verdict.Evolves.wait | apply Verdict.Evolves.raise | assumption) | intro _ | split | dsimp only)

theorem execOr_evolves {f : ScalarF} {s : State} {t : State} (hx : execOr f s = .next t) : s.Evolves t := by
  unfold execOr at hx
  cases hx
  repeat' (first | with_reducible (first | exact State.Evolves.refl _ | apply scalarResult_evolves | apply Verdict.Evolves.run | apply Verdict.Evolves.stop | apply Verdict.Evolves.wait | apply Verdict.Evolves.raise | assumption) | intro _ | split | dsimp only)

theorem execXor_evolves {f : ScalarF} {s : State} {t : State} (hx : execXor f s = .next t) : s.Evolves t := by
  unfold execXor at hx
  cases hx
  repeat' (first | with_reducible (first | exact State.Evolves.refl _ | apply scalarResult_evolves | apply Verdict.Evolves.run | apply Verdict.Evolves.stop | apply Verdict.Evolves.wait | apply Verdict.Evolves.raise | assumption) | intro _ | split | dsimp only)

theorem execShl_evolves {f : ScalarF} {s : State} {t : State} (hx : execShl f s = .next t) : s.Evolves t := by
  unfold execShl at hx
  cases hx
  repeat' (first | with_reducible (first | exact State.Evolves.refl _ | apply scalarResult_evolves | apply Verdict.Evolves.run | apply Verdict.Evolves.stop | apply Verdict.Evolves.wait | apply Verdict.Evolves.raise | assumption) | intro _ | split | dsimp only)

theorem execShr_evolves {f : ScalarF} {s : State} {t : State} (hx : execShr f s = .next t) : s.Evolves t := by
  unfold execShr at hx
  cases hx
  repeat' (first | with_reducible (first | exact State.Evolves.refl _ | apply scalarResult_evolves | apply Verdict.Evolves.run | apply Verdict.Evolves.stop | apply Verdict.Evolves.wait | apply Verdict.Evolves.raise | assumption) | intro _ | split | dsimp only)

theorem execSar_evolves {f : ScalarF} {s : State} {t : State} (hx : execSar f s = .next t) : s.Evolves t := by
  unfold execSar at hx
  cases hx
  repeat' (first | with_reducible (first | exact State.Evolves.refl _ | apply scalarResult_evolves | apply Verdict.Evolves.run | apply Verdict.Evolves.stop | apply Verdict.Evolves.wait | apply Verdict.Evolves.raise | assumption) | intro _ | split | dsimp only)

theorem execSlt_evolves {f : ScalarF} {s : State} {t : State} (hx : execSlt f s = .next t) : s.Evolves t := by
  unfold execSlt at hx
  cases hx
  repeat' (first | with_reducible (first | exact State.Evolves.refl _ | apply scalarResult_evolves | apply Verdict.Evolves.run | apply Verdict.Evolves.stop | apply Verdict.Evolves.wait | apply Verdict.Evolves.raise | assumption) | intro _ | split | dsimp only)

theorem execSltu_evolves {f : ScalarF} {s : State} {t : State} (hx : execSltu f s = .next t) : s.Evolves t := by
  unfold execSltu at hx
  cases hx
  repeat' (first | with_reducible (first | exact State.Evolves.refl _ | apply scalarResult_evolves | apply Verdict.Evolves.run | apply Verdict.Evolves.stop | apply Verdict.Evolves.wait | apply Verdict.Evolves.raise | assumption) | intro _ | split | dsimp only)

theorem execAddi_evolves {f : ScalarF} {s : State} {t : State} (hx : execAddi f s = .next t) : s.Evolves t := by
  unfold execAddi at hx
  cases hx
  repeat' (first | with_reducible (first | exact State.Evolves.refl _ | apply scalarResult_evolves | apply Verdict.Evolves.run | apply Verdict.Evolves.stop | apply Verdict.Evolves.wait | apply Verdict.Evolves.raise | assumption) | intro _ | split | dsimp only)

theorem execSubi_evolves {f : ScalarF} {s : State} {t : State} (hx : execSubi f s = .next t) : s.Evolves t := by
  unfold execSubi at hx
  cases hx
  repeat' (first | with_reducible (first | exact State.Evolves.refl _ | apply scalarResult_evolves | apply Verdict.Evolves.run | apply Verdict.Evolves.stop | apply Verdict.Evolves.wait | apply Verdict.Evolves.raise | assumption) | intro _ | split | dsimp only)

theorem execMuli_evolves {f : ScalarF} {s : State} {t : State} (hx : execMuli f s = .next t) : s.Evolves t := by
  unfold execMuli at hx
  cases hx
  repeat' (first | with_reducible (first | exact State.Evolves.refl _ | apply scalarResult_evolves | apply Verdict.Evolves.run | apply Verdict.Evolves.stop | apply Verdict.Evolves.wait | apply Verdict.Evolves.raise | assumption) | intro _ | split | dsimp only)

theorem execAndi_evolves {f : ScalarF} {s : State} {t : State} (hx : execAndi f s = .next t) : s.Evolves t := by
  unfold execAndi at hx
  cases hx
  repeat' (first | with_reducible (first | exact State.Evolves.refl _ | apply scalarResult_evolves | apply Verdict.Evolves.run | apply Verdict.Evolves.stop | apply Verdict.Evolves.wait | apply Verdict.Evolves.raise | assumption) | intro _ | split | dsimp only)

theorem execOri_evolves {f : ScalarF} {s : State} {t : State} (hx : execOri f s = .next t) : s.Evolves t := by
  unfold execOri at hx
  cases hx
  repeat' (first | with_reducible (first | exact State.Evolves.refl _ | apply scalarResult_evolves | apply Verdict.Evolves.run | apply Verdict.Evolves.stop | apply Verdict.Evolves.wait | apply Verdict.Evolves.raise | assumption) | intro _ | split | dsimp only)

theorem execXori_evolves {f : ScalarF} {s : State} {t : State} (hx : execXori f s = .next t) : s.Evolves t := by
  unfold execXori at hx
  cases hx
  repeat' (first | with_reducible (first | exact State.Evolves.refl _ | apply scalarResult_evolves | apply Verdict.Evolves.run | apply Verdict.Evolves.stop | apply Verdict.Evolves.wait | apply Verdict.Evolves.raise | assumption) | intro _ | split | dsimp only)

theorem execShli_evolves {f : ScalarF} {s : State} {t : State} (hx : execShli f s = .next t) : s.Evolves t := by
  unfold execShli at hx
  cases hx
  repeat' (first | with_reducible (first | exact State.Evolves.refl _ | apply scalarResult_evolves | apply Verdict.Evolves.run | apply Verdict.Evolves.stop | apply Verdict.Evolves.wait | apply Verdict.Evolves.raise | assumption) | intro _ | split | dsimp only)

theorem execShri_evolves {f : ScalarF} {s : State} {t : State} (hx : execShri f s = .next t) : s.Evolves t := by
  unfold execShri at hx
  cases hx
  repeat' (first | with_reducible (first | exact State.Evolves.refl _ | apply scalarResult_evolves | apply Verdict.Evolves.run | apply Verdict.Evolves.stop | apply Verdict.Evolves.wait | apply Verdict.Evolves.raise | assumption) | intro _ | split | dsimp only)

theorem execSari_evolves {f : ScalarF} {s : State} {t : State} (hx : execSari f s = .next t) : s.Evolves t := by
  unfold execSari at hx
  cases hx
  repeat' (first | with_reducible (first | exact State.Evolves.refl _ | apply scalarResult_evolves | apply Verdict.Evolves.run | apply Verdict.Evolves.stop | apply Verdict.Evolves.wait | apply Verdict.Evolves.raise | assumption) | intro _ | split | dsimp only)

theorem execSlti_evolves {f : ScalarF} {s : State} {t : State} (hx : execSlti f s = .next t) : s.Evolves t := by
  unfold execSlti at hx
  cases hx
  repeat' (first | with_reducible (first | exact State.Evolves.refl _ | apply scalarResult_evolves | apply Verdict.Evolves.run | apply Verdict.Evolves.stop | apply Verdict.Evolves.wait | apply Verdict.Evolves.raise | assumption) | intro _ | split | dsimp only)

theorem execSltui_evolves {f : ScalarF} {s : State} {t : State} (hx : execSltui f s = .next t) : s.Evolves t := by
  unfold execSltui at hx
  cases hx
  repeat' (first | with_reducible (first | exact State.Evolves.refl _ | apply scalarResult_evolves | apply Verdict.Evolves.run | apply Verdict.Evolves.stop | apply Verdict.Evolves.wait | apply Verdict.Evolves.raise | assumption) | intro _ | split | dsimp only)

theorem execLi_evolves {f : ScalarF} {s : State} {t : State} (hx : execLi f s = .next t) : s.Evolves t := by
  unfold execLi at hx
  cases hx
  repeat' (first | with_reducible (first | exact State.Evolves.refl _ | apply scalarResult_evolves | apply Verdict.Evolves.run | apply Verdict.Evolves.stop | apply Verdict.Evolves.wait | apply Verdict.Evolves.raise | assumption) | intro _ | split | dsimp only)

theorem execLui_evolves {f : ScalarF} {s : State} {t : State} (hx : execLui f s = .next t) : s.Evolves t := by
  unfold execLui at hx
  cases hx
  repeat' (first | with_reducible (first | exact State.Evolves.refl _ | apply scalarResult_evolves | apply Verdict.Evolves.run | apply Verdict.Evolves.stop | apply Verdict.Evolves.wait | apply Verdict.Evolves.raise | assumption) | intro _ | split | dsimp only)

theorem loadVerdict_evolves {orig : State} {f : ScalarF} {s : State} (hev : orig.Evolves s) :
    Verdict.Evolves orig (loadVerdict f s) := by
  unfold loadVerdict
  repeat' (first | with_reducible (first | assumption | apply State.modCore_evolves | apply State.raise_evolves | apply State.readRange_evolves | apply State.coreWordLost_evolves | apply Verdict.Evolves.run | apply Verdict.Evolves.stop | apply Verdict.Evolves.wait | apply Verdict.Evolves.raise) | intro _ | split | dsimp only)

theorem execLd_evolves {f : ScalarF} {s : State} {t : State} (hx : execLd f s = .next t) : s.Evolves t := by
  unfold execLd at hx
  cases hx
  repeat' (first | with_reducible (first | exact State.Evolves.refl _ | apply State.issue_evolves | apply loadVerdict_evolves | apply Verdict.Evolves.run | apply Verdict.Evolves.stop | apply Verdict.Evolves.wait | apply Verdict.Evolves.raise | assumption) | intro _ | split | dsimp only)

theorem storeVerdict_evolves {orig : State} {f : ScalarF} {s : State} (hev : orig.Evolves s) :
    Verdict.Evolves orig (storeVerdict f s) := by
  unfold storeVerdict
  repeat' (first | with_reducible (first | assumption | apply State.modCore_evolves | apply State.writeWord_evolves | apply State.raise_evolves | apply Verdict.Evolves.run | apply Verdict.Evolves.stop | apply Verdict.Evolves.wait | apply Verdict.Evolves.raise) | intro _ | split | dsimp only)

theorem execSt_evolves {f : ScalarF} {s : State} {t : State} (hx : execSt f s = .next t) : s.Evolves t := by
  unfold execSt at hx
  cases hx
  repeat' (first | with_reducible (first | exact State.Evolves.refl _ | apply State.issue_evolves | apply storeVerdict_evolves | apply Verdict.Evolves.run | apply Verdict.Evolves.stop | apply Verdict.Evolves.wait | apply Verdict.Evolves.raise | assumption) | intro _ | split | dsimp only)

theorem branchResult_evolves {orig : State} {f : ScalarF} {s : State} {cond : W64 → W64 → Bool} (hev : orig.Evolves s) :
    orig.Evolves (branchResult f s cond) := by
  unfold branchResult
  repeat' (first | with_reducible (first | assumption | apply State.modCore_evolves | apply State.raise_evolves | apply State.issue_evolves | apply Verdict.Evolves.run | apply Verdict.Evolves.stop | apply Verdict.Evolves.wait | apply Verdict.Evolves.raise) | intro _ | split | dsimp only)

theorem execBeq_evolves {f : ScalarF} {s : State} {t : State} (hx : execBeq f s = .next t) : s.Evolves t := by
  unfold execBeq at hx
  cases hx
  repeat' (first | with_reducible (first | exact State.Evolves.refl _ | apply branchResult_evolves | apply Verdict.Evolves.run | apply Verdict.Evolves.stop | apply Verdict.Evolves.wait | apply Verdict.Evolves.raise | assumption) | intro _ | split | dsimp only)

theorem execBne_evolves {f : ScalarF} {s : State} {t : State} (hx : execBne f s = .next t) : s.Evolves t := by
  unfold execBne at hx
  cases hx
  repeat' (first | with_reducible (first | exact State.Evolves.refl _ | apply branchResult_evolves | apply Verdict.Evolves.run | apply Verdict.Evolves.stop | apply Verdict.Evolves.wait | apply Verdict.Evolves.raise | assumption) | intro _ | split | dsimp only)

theorem execBlt_evolves {f : ScalarF} {s : State} {t : State} (hx : execBlt f s = .next t) : s.Evolves t := by
  unfold execBlt at hx
  cases hx
  repeat' (first | with_reducible (first | exact State.Evolves.refl _ | apply branchResult_evolves | apply Verdict.Evolves.run | apply Verdict.Evolves.stop | apply Verdict.Evolves.wait | apply Verdict.Evolves.raise | assumption) | intro _ | split | dsimp only)

theorem execBge_evolves {f : ScalarF} {s : State} {t : State} (hx : execBge f s = .next t) : s.Evolves t := by
  unfold execBge at hx
  cases hx
  repeat' (first | with_reducible (first | exact State.Evolves.refl _ | apply branchResult_evolves | apply Verdict.Evolves.run | apply Verdict.Evolves.stop | apply Verdict.Evolves.wait | apply Verdict.Evolves.raise | assumption) | intro _ | split | dsimp only)

theorem execJmp_evolves {f : ScalarF} {s : State} {t : State} (hx : execJmp f s = .next t) : s.Evolves t := by
  unfold execJmp at hx
  cases hx
  repeat' (first | with_reducible (first | exact State.Evolves.refl _ | apply State.modCore_evolves | apply State.raise_evolves | apply State.issue_evolves | apply Verdict.Evolves.run | apply Verdict.Evolves.stop | apply Verdict.Evolves.wait | apply Verdict.Evolves.raise | assumption) | intro _ | split | dsimp only)

theorem execJal_evolves {f : ScalarF} {s : State} {t : State} (hx : execJal f s = .next t) : s.Evolves t := by
  unfold execJal at hx
  cases hx
  repeat' (first | with_reducible (first | exact State.Evolves.refl _ | apply State.modCore_evolves | apply State.raise_evolves | apply State.issue_evolves | apply Verdict.Evolves.run | apply Verdict.Evolves.stop | apply Verdict.Evolves.wait | apply Verdict.Evolves.raise | assumption) | intro _ | split | dsimp only)

theorem execJr_evolves {f : ScalarF} {s : State} {t : State} (hx : execJr f s = .next t) : s.Evolves t := by
  unfold execJr at hx
  cases hx
  repeat' (first | with_reducible (first | exact State.Evolves.refl _ | apply State.modCore_evolves | apply State.raise_evolves | apply State.issue_evolves | apply Verdict.Evolves.run | apply Verdict.Evolves.stop | apply Verdict.Evolves.wait | apply Verdict.Evolves.raise | assumption) | intro _ | split | dsimp only)

theorem execRdspec_evolves {f : ScalarF} {s : State} {t : State} (hx : execRdspec f s = .next t) : s.Evolves t := by
  unfold execRdspec at hx
  cases hx
  repeat' (first | with_reducible (first | exact State.Evolves.refl _ | apply State.raise_evolves | apply State.issue_evolves | apply scalarResult_evolves | apply Verdict.Evolves.run | apply Verdict.Evolves.stop | apply Verdict.Evolves.wait | apply Verdict.Evolves.raise | assumption) | intro _ | split | dsimp only)

end Sys2Proof.Machine
end

