-- ==== Sys2Proof/Laws/EvolvesVector.lean ====
section
/-! SUPPORT. Every operation of Machine/Vector.lean evolves the state (Laws/Evolves.lean). -/

set_option linter.unreachableTactic false
set_option linter.unusedTactic false

namespace Sys2Proof.Machine

theorem vectorIssue_evolves {orig : State} {f : VectorF} {s : State} {v : State → Verdict} (hev : orig.Evolves s)
    (hv : Verdict.Evolves orig (v s)) : orig.Evolves (vectorIssue f s v) := by
  unfold vectorIssue
  refine State.issue_evolves hev ?_
  split
  · exact .raise
  · split
    · exact .wait
    · split
      · rename_i t ht
        rw [ht] at hv
        exact .run (State.modCore_evolves hv)
      · exact hv

theorem laneWise_evolves {orig : State} {f : VectorF} {s : State} {op : W32 → W32 → W32 → W32 × Events} (hev : orig.Evolves s) :
    orig.Evolves (laneWise f s op) := by
  unfold laneWise
  repeat' (first | with_reducible (first | assumption | apply State.modCore_evolves | apply vectorIssue_evolves | apply Verdict.Evolves.run | apply Verdict.Evolves.stop | apply Verdict.Evolves.wait | apply Verdict.Evolves.raise) | intro _ | split | dsimp only)

theorem execVadd_evolves {f : VectorF} {s : State} {t : State} (hx : execVadd f s = .next t) : s.Evolves t := by
  unfold execVadd at hx
  cases hx
  repeat' (first | with_reducible (first | exact State.Evolves.refl _ | apply laneWise_evolves | apply Verdict.Evolves.run | apply Verdict.Evolves.stop | apply Verdict.Evolves.wait | apply Verdict.Evolves.raise | assumption) | intro _ | split | dsimp only)

theorem execVsub_evolves {f : VectorF} {s : State} {t : State} (hx : execVsub f s = .next t) : s.Evolves t := by
  unfold execVsub at hx
  cases hx
  repeat' (first | with_reducible (first | exact State.Evolves.refl _ | apply laneWise_evolves | apply Verdict.Evolves.run | apply Verdict.Evolves.stop | apply Verdict.Evolves.wait | apply Verdict.Evolves.raise | assumption) | intro _ | split | dsimp only)

theorem execVmul_evolves {f : VectorF} {s : State} {t : State} (hx : execVmul f s = .next t) : s.Evolves t := by
  unfold execVmul at hx
  cases hx
  repeat' (first | with_reducible (first | exact State.Evolves.refl _ | apply laneWise_evolves | apply Verdict.Evolves.run | apply Verdict.Evolves.stop | apply Verdict.Evolves.wait | apply Verdict.Evolves.raise | assumption) | intro _ | split | dsimp only)

theorem execVfma_evolves {f : VectorF} {s : State} {t : State} (hx : execVfma f s = .next t) : s.Evolves t := by
  unfold execVfma at hx
  cases hx
  repeat' (first | with_reducible (first | exact State.Evolves.refl _ | apply laneWise_evolves | apply Verdict.Evolves.run | apply Verdict.Evolves.stop | apply Verdict.Evolves.wait | apply Verdict.Evolves.raise | assumption) | intro _ | split | dsimp only)

theorem execVmin_evolves {f : VectorF} {s : State} {t : State} (hx : execVmin f s = .next t) : s.Evolves t := by
  unfold execVmin at hx
  cases hx
  repeat' (first | with_reducible (first | exact State.Evolves.refl _ | apply laneWise_evolves | apply Verdict.Evolves.run | apply Verdict.Evolves.stop | apply Verdict.Evolves.wait | apply Verdict.Evolves.raise | assumption) | intro _ | split | dsimp only)

theorem execVmax_evolves {f : VectorF} {s : State} {t : State} (hx : execVmax f s = .next t) : s.Evolves t := by
  unfold execVmax at hx
  cases hx
  repeat' (first | with_reducible (first | exact State.Evolves.refl _ | apply laneWise_evolves | apply Verdict.Evolves.run | apply Verdict.Evolves.stop | apply Verdict.Evolves.wait | apply Verdict.Evolves.raise | assumption) | intro _ | split | dsimp only)

theorem execVabs_evolves {f : VectorF} {s : State} {t : State} (hx : execVabs f s = .next t) : s.Evolves t := by
  unfold execVabs at hx
  cases hx
  repeat' (first | with_reducible (first | exact State.Evolves.refl _ | apply laneWise_evolves | apply Verdict.Evolves.run | apply Verdict.Evolves.stop | apply Verdict.Evolves.wait | apply Verdict.Evolves.raise | assumption) | intro _ | split | dsimp only)

theorem execVneg_evolves {f : VectorF} {s : State} {t : State} (hx : execVneg f s = .next t) : s.Evolves t := by
  unfold execVneg at hx
  cases hx
  repeat' (first | with_reducible (first | exact State.Evolves.refl _ | apply laneWise_evolves | apply Verdict.Evolves.run | apply Verdict.Evolves.stop | apply Verdict.Evolves.wait | apply Verdict.Evolves.raise | assumption) | intro _ | split | dsimp only)

theorem execVcmpeq_evolves {f : VectorF} {s : State} {t : State} (hx : execVcmpeq f s = .next t) : s.Evolves t := by
  unfold execVcmpeq at hx
  cases hx
  repeat' (first | with_reducible (first | exact State.Evolves.refl _ | apply laneWise_evolves | apply Verdict.Evolves.run | apply Verdict.Evolves.stop | apply Verdict.Evolves.wait | apply Verdict.Evolves.raise | assumption) | intro _ | split | dsimp only)

theorem execVcmplt_evolves {f : VectorF} {s : State} {t : State} (hx : execVcmplt f s = .next t) : s.Evolves t := by
  unfold execVcmplt at hx
  cases hx
  repeat' (first | with_reducible (first | exact State.Evolves.refl _ | apply laneWise_evolves | apply Verdict.Evolves.run | apply Verdict.Evolves.stop | apply Verdict.Evolves.wait | apply Verdict.Evolves.raise | assumption) | intro _ | split | dsimp only)

theorem execVcmple_evolves {f : VectorF} {s : State} {t : State} (hx : execVcmple f s = .next t) : s.Evolves t := by
  unfold execVcmple at hx
  cases hx
  repeat' (first | with_reducible (first | exact State.Evolves.refl _ | apply laneWise_evolves | apply Verdict.Evolves.run | apply Verdict.Evolves.stop | apply Verdict.Evolves.wait | apply Verdict.Evolves.raise | assumption) | intro _ | split | dsimp only)

theorem execVsel_evolves {f : VectorF} {s : State} {t : State} (hx : execVsel f s = .next t) : s.Evolves t := by
  unfold execVsel at hx
  cases hx
  repeat' (first | with_reducible (first | exact State.Evolves.refl _ | apply laneWise_evolves | apply Verdict.Evolves.run | apply Verdict.Evolves.stop | apply Verdict.Evolves.wait | apply Verdict.Evolves.raise | assumption) | intro _ | split | dsimp only)

theorem execViadd_evolves {f : VectorF} {s : State} {t : State} (hx : execViadd f s = .next t) : s.Evolves t := by
  unfold execViadd at hx
  cases hx
  repeat' (first | with_reducible (first | exact State.Evolves.refl _ | apply laneWise_evolves | apply Verdict.Evolves.run | apply Verdict.Evolves.stop | apply Verdict.Evolves.wait | apply Verdict.Evolves.raise | assumption) | intro _ | split | dsimp only)

theorem execVisub_evolves {f : VectorF} {s : State} {t : State} (hx : execVisub f s = .next t) : s.Evolves t := by
  unfold execVisub at hx
  cases hx
  repeat' (first | with_reducible (first | exact State.Evolves.refl _ | apply laneWise_evolves | apply Verdict.Evolves.run | apply Verdict.Evolves.stop | apply Verdict.Evolves.wait | apply Verdict.Evolves.raise | assumption) | intro _ | split | dsimp only)

theorem execVimul_evolves {f : VectorF} {s : State} {t : State} (hx : execVimul f s = .next t) : s.Evolves t := by
  unfold execVimul at hx
  cases hx
  repeat' (first | with_reducible (first | exact State.Evolves.refl _ | apply laneWise_evolves | apply Verdict.Evolves.run | apply Verdict.Evolves.stop | apply Verdict.Evolves.wait | apply Verdict.Evolves.raise | assumption) | intro _ | split | dsimp only)

theorem execViadds_evolves {f : VectorF} {s : State} {t : State} (hx : execViadds f s = .next t) : s.Evolves t := by
  unfold execViadds at hx
  cases hx
  repeat' (first | with_reducible (first | exact State.Evolves.refl _ | apply laneWise_evolves | apply Verdict.Evolves.run | apply Verdict.Evolves.stop | apply Verdict.Evolves.wait | apply Verdict.Evolves.raise | assumption) | intro _ | split | dsimp only)

theorem execVisubs_evolves {f : VectorF} {s : State} {t : State} (hx : execVisubs f s = .next t) : s.Evolves t := by
  unfold execVisubs at hx
  cases hx
  repeat' (first | with_reducible (first | exact State.Evolves.refl _ | apply laneWise_evolves | apply Verdict.Evolves.run | apply Verdict.Evolves.stop | apply Verdict.Evolves.wait | apply Verdict.Evolves.raise | assumption) | intro _ | split | dsimp only)

theorem execViand_evolves {f : VectorF} {s : State} {t : State} (hx : execViand f s = .next t) : s.Evolves t := by
  unfold execViand at hx
  cases hx
  repeat' (first | with_reducible (first | exact State.Evolves.refl _ | apply laneWise_evolves | apply Verdict.Evolves.run | apply Verdict.Evolves.stop | apply Verdict.Evolves.wait | apply Verdict.Evolves.raise | assumption) | intro _ | split | dsimp only)

theorem execVior_evolves {f : VectorF} {s : State} {t : State} (hx : execVior f s = .next t) : s.Evolves t := by
  unfold execVior at hx
  cases hx
  repeat' (first | with_reducible (first | exact State.Evolves.refl _ | apply laneWise_evolves | apply Verdict.Evolves.run | apply Verdict.Evolves.stop | apply Verdict.Evolves.wait | apply Verdict.Evolves.raise | assumption) | intro _ | split | dsimp only)

theorem execVixor_evolves {f : VectorF} {s : State} {t : State} (hx : execVixor f s = .next t) : s.Evolves t := by
  unfold execVixor at hx
  cases hx
  repeat' (first | with_reducible (first | exact State.Evolves.refl _ | apply laneWise_evolves | apply Verdict.Evolves.run | apply Verdict.Evolves.stop | apply Verdict.Evolves.wait | apply Verdict.Evolves.raise | assumption) | intro _ | split | dsimp only)

theorem fromVerdict_evolves {orig : State} {f : VectorF} {s : State} (hev : orig.Evolves s) :
    Verdict.Evolves orig (fromVerdict f s) := by
  unfold fromVerdict
  repeat' (first | with_reducible (first | assumption | apply State.modCore_evolves | apply State.raise_evolves | apply Verdict.Evolves.run | apply Verdict.Evolves.stop | apply Verdict.Evolves.wait | apply Verdict.Evolves.raise) | intro _ | split | dsimp only)

theorem execVcvtFrom_evolves {f : VectorF} {s : State} {t : State} (hx : execVcvtFrom f s = .next t) : s.Evolves t := by
  unfold execVcvtFrom at hx
  cases hx
  repeat' (first | with_reducible (first | exact State.Evolves.refl _ | apply vectorIssue_evolves | apply fromVerdict_evolves | apply Verdict.Evolves.run | apply Verdict.Evolves.stop | apply Verdict.Evolves.wait | apply Verdict.Evolves.raise | assumption) | intro _ | split | dsimp only)

theorem toVerdict_evolves {orig : State} {f : VectorF} {s : State} (hev : orig.Evolves s) :
    Verdict.Evolves orig (toVerdict f s) := by
  unfold toVerdict
  repeat' (first | with_reducible (first | assumption | apply State.modCore_evolves | apply State.raise_evolves | apply Verdict.Evolves.run | apply Verdict.Evolves.stop | apply Verdict.Evolves.wait | apply Verdict.Evolves.raise) | intro _ | split | dsimp only)

theorem execVcvtTo_evolves {f : VectorF} {s : State} {t : State} (hx : execVcvtTo f s = .next t) : s.Evolves t := by
  unfold execVcvtTo at hx
  cases hx
  repeat' (first | with_reducible (first | exact State.Evolves.refl _ | apply vectorIssue_evolves | apply toVerdict_evolves | apply Verdict.Evolves.run | apply Verdict.Evolves.stop | apply Verdict.Evolves.wait | apply Verdict.Evolves.raise | assumption) | intro _ | split | dsimp only)

theorem reduceLanes_evolves {orig : State} {f : VectorF} {s : State} {op : W32 → W32 → W32 × Events} (hev : orig.Evolves s) :
    orig.Evolves (reduceLanes f s op) := by
  unfold reduceLanes
  repeat' (first | with_reducible (first | assumption | apply State.modCore_evolves | apply vectorIssue_evolves | apply Verdict.Evolves.run | apply Verdict.Evolves.stop | apply Verdict.Evolves.wait | apply Verdict.Evolves.raise) | intro _ | split | dsimp only)

theorem execVrsum_evolves {f : VectorF} {s : State} {t : State} (hx : execVrsum f s = .next t) : s.Evolves t := by
  unfold execVrsum at hx
  cases hx
  repeat' (first | with_reducible (first | exact State.Evolves.refl _ | apply reduceLanes_evolves | apply Verdict.Evolves.run | apply Verdict.Evolves.stop | apply Verdict.Evolves.wait | apply Verdict.Evolves.raise | assumption) | intro _ | split | dsimp only)

theorem execVrmax_evolves {f : VectorF} {s : State} {t : State} (hx : execVrmax f s = .next t) : s.Evolves t := by
  unfold execVrmax at hx
  cases hx
  repeat' (first | with_reducible (first | exact State.Evolves.refl _ | apply reduceLanes_evolves | apply Verdict.Evolves.run | apply Verdict.Evolves.stop | apply Verdict.Evolves.wait | apply Verdict.Evolves.raise | assumption) | intro _ | split | dsimp only)

theorem execVrmin_evolves {f : VectorF} {s : State} {t : State} (hx : execVrmin f s = .next t) : s.Evolves t := by
  unfold execVrmin at hx
  cases hx
  repeat' (first | with_reducible (first | exact State.Evolves.refl _ | apply reduceLanes_evolves | apply Verdict.Evolves.run | apply Verdict.Evolves.stop | apply Verdict.Evolves.wait | apply Verdict.Evolves.raise | assumption) | intro _ | split | dsimp only)

theorem execVrcp_evolves {f : VectorF} {s : State} {t : State} (hx : execVrcp f s = .next t) : s.Evolves t := by
  unfold execVrcp at hx
  cases hx
  repeat' (first | with_reducible (first | exact State.Evolves.refl _ | apply laneWise_evolves | apply Verdict.Evolves.run | apply Verdict.Evolves.stop | apply Verdict.Evolves.wait | apply Verdict.Evolves.raise | assumption) | intro _ | split | dsimp only)

theorem execVrsqrt_evolves {f : VectorF} {s : State} {t : State} (hx : execVrsqrt f s = .next t) : s.Evolves t := by
  unfold execVrsqrt at hx
  cases hx
  repeat' (first | with_reducible (first | exact State.Evolves.refl _ | apply laneWise_evolves | apply Verdict.Evolves.run | apply Verdict.Evolves.stop | apply Verdict.Evolves.wait | apply Verdict.Evolves.raise | assumption) | intro _ | split | dsimp only)

theorem execVexp_evolves {f : VectorF} {s : State} {t : State} (hx : execVexp f s = .next t) : s.Evolves t := by
  unfold execVexp at hx
  cases hx
  repeat' (first | with_reducible (first | exact State.Evolves.refl _ | apply laneWise_evolves | apply Verdict.Evolves.run | apply Verdict.Evolves.stop | apply Verdict.Evolves.wait | apply Verdict.Evolves.raise | assumption) | intro _ | split | dsimp only)

theorem execVexp2_evolves {f : VectorF} {s : State} {t : State} (hx : execVexp2 f s = .next t) : s.Evolves t := by
  unfold execVexp2 at hx
  cases hx
  repeat' (first | with_reducible (first | exact State.Evolves.refl _ | apply laneWise_evolves | apply Verdict.Evolves.run | apply Verdict.Evolves.stop | apply Verdict.Evolves.wait | apply Verdict.Evolves.raise | assumption) | intro _ | split | dsimp only)

theorem execVlog_evolves {f : VectorF} {s : State} {t : State} (hx : execVlog f s = .next t) : s.Evolves t := by
  unfold execVlog at hx
  cases hx
  repeat' (first | with_reducible (first | exact State.Evolves.refl _ | apply laneWise_evolves | apply Verdict.Evolves.run | apply Verdict.Evolves.stop | apply Verdict.Evolves.wait | apply Verdict.Evolves.raise | assumption) | intro _ | split | dsimp only)

theorem execVlog2_evolves {f : VectorF} {s : State} {t : State} (hx : execVlog2 f s = .next t) : s.Evolves t := by
  unfold execVlog2 at hx
  cases hx
  repeat' (first | with_reducible (first | exact State.Evolves.refl _ | apply laneWise_evolves | apply Verdict.Evolves.run | apply Verdict.Evolves.stop | apply Verdict.Evolves.wait | apply Verdict.Evolves.raise | assumption) | intro _ | split | dsimp only)

theorem drawVerdict_evolves {orig : State} {f : VectorF} {s : State} (hev : orig.Evolves s) :
    Verdict.Evolves orig (drawVerdict f s) := by
  unfold drawVerdict
  repeat' (first | with_reducible (first | assumption | apply State.modCore_evolves | apply State.raise_evolves | apply Verdict.Evolves.run | apply Verdict.Evolves.stop | apply Verdict.Evolves.wait | apply Verdict.Evolves.raise) | intro _ | split | dsimp only)

theorem execVdraw_evolves {f : VectorF} {s : State} {t : State} (hx : execVdraw f s = .next t) : s.Evolves t := by
  unfold execVdraw at hx
  cases hx
  repeat' (first | with_reducible (first | exact State.Evolves.refl _ | apply vectorIssue_evolves | apply drawVerdict_evolves | apply Verdict.Evolves.run | apply Verdict.Evolves.stop | apply Verdict.Evolves.wait | apply Verdict.Evolves.raise | assumption) | intro _ | split | dsimp only)

theorem dropVerdict_evolves {orig : State} {f : VectorF} {s : State} (hev : orig.Evolves s) :
    Verdict.Evolves orig (dropVerdict f s) := by
  unfold dropVerdict
  repeat' (first | with_reducible (first | assumption | apply State.modCore_evolves | apply State.raise_evolves | apply Verdict.Evolves.run | apply Verdict.Evolves.stop | apply Verdict.Evolves.wait | apply Verdict.Evolves.raise) | intro _ | split | dsimp only)

theorem execVdrop_evolves {f : VectorF} {s : State} {t : State} (hx : execVdrop f s = .next t) : s.Evolves t := by
  unfold execVdrop at hx
  cases hx
  repeat' (first | with_reducible (first | exact State.Evolves.refl _ | apply vectorIssue_evolves | apply dropVerdict_evolves | apply Verdict.Evolves.run | apply Verdict.Evolves.stop | apply Verdict.Evolves.wait | apply Verdict.Evolves.raise | assumption) | intro _ | split | dsimp only)

theorem vldVerdict_evolves {orig : State} {f : VectorF} {s : State} (hev : orig.Evolves s) :
    Verdict.Evolves orig (vldVerdict f s) := by
  unfold vldVerdict
  repeat' (first | with_reducible (first | assumption | apply State.modCore_evolves | apply State.raise_evolves | apply State.readRange_evolves | apply State.coreWordLost_evolves | apply Verdict.Evolves.run | apply Verdict.Evolves.stop | apply Verdict.Evolves.wait | apply Verdict.Evolves.raise) | intro _ | split | dsimp only)

theorem execVld_evolves {f : VectorF} {s : State} {t : State} (hx : execVld f s = .next t) : s.Evolves t := by
  unfold execVld at hx
  cases hx
  repeat' (first | with_reducible (first | exact State.Evolves.refl _ | apply vectorIssue_evolves | apply vldVerdict_evolves | apply Verdict.Evolves.run | apply Verdict.Evolves.stop | apply Verdict.Evolves.wait | apply Verdict.Evolves.raise | assumption) | intro _ | split | dsimp only)

theorem vstVerdict_evolves {orig : State} {f : VectorF} {s : State} (hev : orig.Evolves s) :
    Verdict.Evolves orig (vstVerdict f s) := by
  unfold vstVerdict
  repeat' (first | with_reducible (first | assumption | apply State.writeBytes_evolves | apply State.raise_evolves | apply Verdict.Evolves.run | apply Verdict.Evolves.stop | apply Verdict.Evolves.wait | apply Verdict.Evolves.raise) | intro _ | split | dsimp only)

theorem execVst_evolves {f : VectorF} {s : State} {t : State} (hx : execVst f s = .next t) : s.Evolves t := by
  unfold execVst at hx
  cases hx
  repeat' (first | with_reducible (first | exact State.Evolves.refl _ | apply vectorIssue_evolves | apply vstVerdict_evolves | apply Verdict.Evolves.run | apply Verdict.Evolves.stop | apply Verdict.Evolves.wait | apply Verdict.Evolves.raise | assumption) | intro _ | split | dsimp only)

theorem execVsplat_evolves {f : VectorF} {s : State} {t : State} (hx : execVsplat f s = .next t) : s.Evolves t := by
  unfold execVsplat at hx
  cases hx
  repeat' (first | with_reducible (first | exact State.Evolves.refl _ | apply State.modCore_evolves | apply vectorIssue_evolves | apply Verdict.Evolves.run | apply Verdict.Evolves.stop | apply Verdict.Evolves.wait | apply Verdict.Evolves.raise | assumption) | intro _ | split | dsimp only)

theorem vmovsVerdict_evolves {orig : State} {f : VectorF} {s : State} (hev : orig.Evolves s) :
    Verdict.Evolves orig (vmovsVerdict f s) := by
  unfold vmovsVerdict
  repeat' (first | with_reducible (first | assumption | apply State.modCore_evolves | apply State.raise_evolves | apply Verdict.Evolves.run | apply Verdict.Evolves.stop | apply Verdict.Evolves.wait | apply Verdict.Evolves.raise) | intro _ | split | dsimp only)

theorem execVmovs_evolves {f : VectorF} {s : State} {t : State} (hx : execVmovs f s = .next t) : s.Evolves t := by
  unfold execVmovs at hx
  cases hx
  repeat' (first | with_reducible (first | exact State.Evolves.refl _ | apply vectorIssue_evolves | apply vmovsVerdict_evolves | apply Verdict.Evolves.run | apply Verdict.Evolves.stop | apply Verdict.Evolves.wait | apply Verdict.Evolves.raise | assumption) | intro _ | split | dsimp only)

end Sys2Proof.Machine
end

