-- ==== Sys2Proof/Laws/EvolvesMatrix.lean ====
section
/-! SUPPORT. Every operation of Machine/Matrix.lean evolves the state (Laws/Evolves.lean). -/

set_option linter.unreachableTactic false
set_option linter.unusedTactic false

namespace Sys2Proof.Machine

theorem matrixIssue_evolves {orig : State} {apart : Bool} {h : MatrixHead} {ps : List MatrixPart} {words : Nat} {s : State} (hev : orig.Evolves s) :
    orig.Evolves (matrixIssue apart h ps words s) := by
  unfold matrixIssue
  repeat' (first | with_reducible (first | assumption | apply State.modCore_evolves | apply State.raise_evolves | apply State.issue_evolves | apply State.Evolves.foldl | apply State.Evolves.foldl_fst | apply Verdict.Evolves.run | apply Verdict.Evolves.stop | apply Verdict.Evolves.wait | apply Verdict.Evolves.raise) | intro _ | split | dsimp only)

theorem execMatrixGanged_evolves {h : MatrixHead} {p : MatrixPart} {s : State} {t : State} (hx : execMatrixGanged h p s = .next t) : s.Evolves t := by
  unfold execMatrixGanged at hx
  cases hx
  repeat' (first | with_reducible (first | exact State.Evolves.refl _ | apply matrixIssue_evolves | apply Verdict.Evolves.run | apply Verdict.Evolves.stop | apply Verdict.Evolves.wait | apply Verdict.Evolves.raise | assumption) | intro _ | split | dsimp only)

theorem execMatrixApart_evolves {h : MatrixHead} {p0 : MatrixPart} {p1 : MatrixPart} {p2 : MatrixPart} {p3 : MatrixPart} {s : State} {t : State} (hx : execMatrixApart h p0 p1 p2 p3 s = .next t) : s.Evolves t := by
  unfold execMatrixApart at hx
  cases hx
  repeat' (first | with_reducible (first | exact State.Evolves.refl _ | apply matrixIssue_evolves | apply Verdict.Evolves.run | apply Verdict.Evolves.stop | apply Verdict.Evolves.wait | apply Verdict.Evolves.raise | assumption) | intro _ | split | dsimp only)

theorem State.ledgerOpenNow_evolves {orig : State} {s : State} {L : Nat} {slot : Nat} {f : Fmt} {hist : Nat} {margin : Nat} {auto : Bool} {applied : Byte} (hev : orig.Evolves s) :
    orig.Evolves (State.ledgerOpenNow s L slot f hist margin auto applied) := by
  unfold State.ledgerOpenNow
  repeat' (first | with_reducible (first | assumption | apply State.modCore_evolves | apply State.store_evolves) | intro _ | split | dsimp only)

theorem State.ledgerCloseNow_evolves {orig : State} {s : State} {L : Nat} {slot : Nat} (hev : orig.Evolves s) :
    orig.Evolves (State.ledgerCloseNow s L slot) := by
  unfold State.ledgerCloseNow
  repeat' (first | with_reducible (first | assumption | apply State.modCore_evolves | apply State.writeBytes_evolves) | intro _ | split | dsimp only)

theorem State.settleLedgers_evolves {orig : State} {n : Nat} {L : Nat} {s : State} (hev : orig.Evolves s) :
    orig.Evolves (State.settleLedgers n L s) := by
  induction n generalizing L s with
  | zero =>
    unfold State.settleLedgers
    repeat' (first | with_reducible (first | assumption | apply State.modCore_evolves | apply State.ledgerOpenNow_evolves | apply State.ledgerCloseNow_evolves) | intro _ | split | dsimp only)
  | succ n ih =>
    unfold State.settleLedgers
    repeat' (first | with_reducible (first | assumption | apply ih | apply State.modCore_evolves | apply State.ledgerOpenNow_evolves | apply State.ledgerCloseNow_evolves) | intro _ | split | dsimp only)

theorem State.settleUnit_evolves {orig : State} {s : State} {L : Nat} (hev : orig.Evolves s) :
    orig.Evolves (State.settleUnit s L) := by
  unfold State.settleUnit
  repeat' (first | with_reducible (first | assumption | apply State.settleTurnEnd_evolves | apply State.settleLedgers_evolves) | intro _ | split | dsimp only)

theorem State.finaliseQuadrant_evolves {orig : State} {s : State} {L : Nat} {r : MatRun} {q : Nat} {p : PartIssue} (hev : orig.Evolves s) :
    orig.Evolves (State.finaliseQuadrant s L r q p) := by
  unfold State.finaliseQuadrant
  repeat' (first | with_reducible (first | assumption | apply State.modCore_evolves | apply State.Evolves.foldl | apply State.Evolves.foldl_fst) | intro _ | split | dsimp only)

theorem State.meetOperands_evolves {orig : State} {s : State} {L : Nat} {r : MatRun} (hev : orig.Evolves s) :
    orig.Evolves (State.meetOperands s L r).1 := by
  unfold State.meetOperands
  repeat' (first | with_reducible (first | assumption | apply State.readRange_evolves | apply State.Evolves.foldl | apply State.Evolves.foldl_fst) | intro _ | split | dsimp only)

theorem matrixFinalise_evolves {orig : State} {L : Nat} {mismatch : Bool} {beats : Beats} {s0 : State} (hev : orig.Evolves s0) :
    orig.Evolves (matrixFinalise L mismatch beats s0) := by
  unfold matrixFinalise
  repeat' (first | with_reducible (first | assumption | apply State.modCore_evolves | apply State.countCore_evolves | apply State.failCore_evolves | apply State.coreWordLost_evolves | apply State.settleUnit_evolves | apply State.finaliseQuadrant_evolves | apply State.meetOperands_evolves | apply State.Evolves.foldl | apply State.Evolves.foldl_fst) | intro _ | split | dsimp only)

theorem execMatrixFinalise_evolves {core : CoreId} {mismatch : Bool} {beats : Beats} {s : State} {t : State} (hx : execMatrixFinalise core mismatch beats s = .next t) : s.Evolves t := by
  unfold execMatrixFinalise at hx
  cases hx
  repeat' (first | with_reducible (first | exact State.Evolves.refl _ | apply matrixFinalise_evolves | apply Verdict.Evolves.run | apply Verdict.Evolves.stop | apply Verdict.Evolves.wait | apply Verdict.Evolves.raise | assumption) | intro _ | split | dsimp only)

theorem State.landDrain_evolves {orig : State} {s : State} {L : Nat} {d : DrainOut} (hev : orig.Evolves s) :
    orig.Evolves (State.landDrain s L d) := by
  unfold State.landDrain
  repeat' (first | with_reducible (first | assumption | apply State.modCore_evolves | apply State.store_evolves | apply State.ledgerTake_evolves) | intro _ | split | dsimp only)

theorem drainComplete_evolves {orig : State} {L : Nat} {s : State} (hev : orig.Evolves s) :
    orig.Evolves (drainComplete L s) := by
  unfold drainComplete
  repeat' (first | with_reducible (first | assumption | apply State.modCore_evolves | apply State.settleUnit_evolves | apply State.landDrain_evolves | apply State.Evolves.foldl | apply State.Evolves.foldl_fst) | intro _ | split | dsimp only)

theorem execDrainComplete_evolves {core : CoreId} {s : State} {t : State} (hx : execDrainComplete core s = .next t) : s.Evolves t := by
  unfold execDrainComplete at hx
  cases hx
  repeat' (first | with_reducible (first | exact State.Evolves.refl _ | apply drainComplete_evolves | apply Verdict.Evolves.run | apply Verdict.Evolves.stop | apply Verdict.Evolves.wait | apply Verdict.Evolves.raise | assumption) | intro _ | split | dsimp only)

theorem ledgerOpenIssue_evolves {orig : State} {L : Nat} {slot : Nat} {format : BitVec 4} {hist : Nat} {margin : Nat} {auto : Bool} {applied : Byte} {rsv : W64} {s : State} (hev : orig.Evolves s) :
    orig.Evolves (ledgerOpenIssue L slot format hist margin auto applied rsv s) := by
  unfold ledgerOpenIssue
  repeat' (first | with_reducible (first | assumption | apply State.modCore_evolves | apply State.raise_evolves | apply State.issue_evolves | apply State.settleLedgers_evolves | apply Verdict.Evolves.run | apply Verdict.Evolves.stop | apply Verdict.Evolves.wait | apply Verdict.Evolves.raise) | intro _ | split | dsimp only)

theorem execLedgerOpen_evolves {core : CoreId} {slot : BitVec 6} {format : BitVec 4} {histLen : BitVec 5} {margin : BitVec 3} {auto : Bool} {appliedExp : Byte} {rsv : W64} {s : State} {t : State} (hx : execLedgerOpen core slot format histLen margin auto appliedExp rsv s = .next t) : s.Evolves t := by
  unfold execLedgerOpen at hx
  cases hx
  repeat' (first | with_reducible (first | exact State.Evolves.refl _ | apply ledgerOpenIssue_evolves | apply Verdict.Evolves.run | apply Verdict.Evolves.stop | apply Verdict.Evolves.wait | apply Verdict.Evolves.raise | assumption) | intro _ | split | dsimp only)

theorem ledgerCloseIssue_evolves {orig : State} {L : Nat} {slot : Nat} {rsv : W64} {s : State} (hev : orig.Evolves s) :
    orig.Evolves (ledgerCloseIssue L slot rsv s) := by
  unfold ledgerCloseIssue
  repeat' (first | with_reducible (first | assumption | apply State.modCore_evolves | apply State.raise_evolves | apply State.issue_evolves | apply State.settleLedgers_evolves | apply Verdict.Evolves.run | apply Verdict.Evolves.stop | apply Verdict.Evolves.wait | apply Verdict.Evolves.raise) | intro _ | split | dsimp only)

theorem execLedgerClose_evolves {core : CoreId} {slot : BitVec 6} {rsv : W64} {s : State} {t : State} (hx : execLedgerClose core slot rsv s = .next t) : s.Evolves t := by
  unfold execLedgerClose at hx
  cases hx
  repeat' (first | with_reducible (first | exact State.Evolves.refl _ | apply ledgerCloseIssue_evolves | apply Verdict.Evolves.run | apply Verdict.Evolves.stop | apply Verdict.Evolves.wait | apply Verdict.Evolves.raise | assumption) | intro _ | split | dsimp only)

end Sys2Proof.Machine
end

