-- ==== Sys2Proof/Laws/EvolvesSync.lean ====
section
/-! SUPPORT. Every operation of Machine/Sync.lean evolves the state (Laws/Evolves.lean). -/

set_option linter.unreachableTactic false
set_option linter.unusedTactic false

namespace Sys2Proof.Machine

theorem waitVerdict_evolves {orig : State} {s : State} {L : Nat} {token : Nat} {count : Nat} (hev : orig.Evolves s) :
    Verdict.Evolves orig (waitVerdict s L token count) := by
  unfold waitVerdict
  repeat' (first | with_reducible (first | assumption | apply State.modCore_evolves | apply State.raise_evolves | apply Verdict.Evolves.run | apply Verdict.Evolves.stop | apply Verdict.Evolves.wait | apply Verdict.Evolves.raise) | intro _ | split | dsimp only)

theorem execWait_evolves {core : CoreId} {token : Reg} {count : W16} {rsv : W64} {s : State} {t : State} (hx : execWait core token count rsv s = .next t) : s.Evolves t := by
  unfold execWait at hx
  cases hx
  repeat' (first | with_reducible (first | exact State.Evolves.refl _ | apply State.raise_evolves | apply State.issue_evolves | apply State.syncGate_evolves | apply waitVerdict_evolves | apply Verdict.Evolves.run | apply Verdict.Evolves.stop | apply Verdict.Evolves.wait | apply Verdict.Evolves.raise | assumption) | intro _ | split | dsimp only)

theorem waitSatisfied_evolves {orig : State} {L : Nat} {s : State} (hev : orig.Evolves s) :
    orig.Evolves (waitSatisfied L s) := by
  unfold waitSatisfied
  repeat' (first | with_reducible assumption | with_reducible apply State.raise_evolves | with_reducible apply State.countIssue_evolves | with_reducible apply waitVerdict_evolves | with_reducible apply Verdict.Evolves.run | with_reducible apply Verdict.Evolves.stop | with_reducible apply Verdict.Evolves.wait | with_reducible apply Verdict.Evolves.raise | (with_reducible refine Verdict.Evolves.of_run (by assumption) ?_) | intro _ | split | dsimp only)

theorem execWaitSatisfied_evolves {core : CoreId} {s : State} {t : State} (hx : execWaitSatisfied core s = .next t) : s.Evolves t := by
  unfold execWaitSatisfied at hx
  cases hx
  repeat' (first | with_reducible (first | exact State.Evolves.refl _ | apply waitSatisfied_evolves | apply Verdict.Evolves.run | apply Verdict.Evolves.stop | apply Verdict.Evolves.wait | apply Verdict.Evolves.raise | assumption) | intro _ | split | dsimp only)

theorem syncNow_evolves {orig : State} {L : Nat} {rsv : W64} {s : State} {f : Core → Core} (hev : orig.Evolves s) :
    orig.Evolves (syncNow L rsv s f) := by
  unfold syncNow
  repeat' (first | with_reducible (first | assumption | apply State.modCore_evolves | apply State.raise_evolves | apply State.issue_evolves | apply State.syncGate_evolves | apply Verdict.Evolves.run | apply Verdict.Evolves.stop | apply Verdict.Evolves.wait | apply Verdict.Evolves.raise) | intro _ | split | dsimp only)

theorem execSignal_evolves {core : CoreId} {token : Reg} {count : W16} {rsv : W64} {s : State} {t : State} (hx : execSignal core token count rsv s = .next t) : s.Evolves t := by
  unfold execSignal at hx
  cases hx
  repeat' (first | with_reducible (first | exact State.Evolves.refl _ | apply syncNow_evolves | apply Verdict.Evolves.run | apply Verdict.Evolves.stop | apply Verdict.Evolves.wait | apply Verdict.Evolves.raise | assumption) | intro _ | split | dsimp only)

theorem execSignalRemote_evolves {core : CoreId} {token : Reg} {rs : Reg} {count : W16} {rsv : W64} {s : State} {t : State} (hx : execSignalRemote core token rs count rsv s = .next t) : s.Evolves t := by
  unfold execSignalRemote at hx
  cases hx
  repeat' (first | with_reducible (first | exact State.Evolves.refl _ | apply State.modCore_evolves | apply State.raise_evolves | apply State.issue_evolves | apply State.syncGate_evolves | apply State.absorbSignal_evolves | apply Verdict.Evolves.run | apply Verdict.Evolves.stop | apply Verdict.Evolves.wait | apply Verdict.Evolves.raise | assumption) | intro _ | split | dsimp only)

theorem execTokenTest_evolves {core : CoreId} {token : Reg} {rd : Reg} {rsv : W64} {s : State} {t : State} (hx : execTokenTest core token rd rsv s = .next t) : s.Evolves t := by
  unfold execTokenTest at hx
  cases hx
  repeat' (first | with_reducible (first | exact State.Evolves.refl _ | apply State.modCore_evolves | apply State.raise_evolves | apply State.issue_evolves | apply State.syncGate_evolves | apply Verdict.Evolves.run | apply Verdict.Evolves.stop | apply Verdict.Evolves.wait | apply Verdict.Evolves.raise | assumption) | intro _ | split | dsimp only)

theorem execTokenClear_evolves {core : CoreId} {token : Reg} {rsv : W64} {s : State} {t : State} (hx : execTokenClear core token rsv s = .next t) : s.Evolves t := by
  unfold execTokenClear at hx
  cases hx
  repeat' (first | with_reducible (first | exact State.Evolves.refl _ | apply syncNow_evolves | apply Verdict.Evolves.run | apply Verdict.Evolves.stop | apply Verdict.Evolves.wait | apply Verdict.Evolves.raise | assumption) | intro _ | split | dsimp only)

theorem fenceVerdict_evolves {orig : State} {s : State} {L : Nat} {units : BitVec 4} (hev : orig.Evolves s) :
    Verdict.Evolves orig (fenceVerdict s L units) := by
  unfold fenceVerdict
  repeat' (first | with_reducible (first | assumption | apply State.modCore_evolves | apply Verdict.Evolves.run | apply Verdict.Evolves.stop | apply Verdict.Evolves.wait | apply Verdict.Evolves.raise) | intro _ | split | dsimp only)

theorem execFence_evolves {core : CoreId} {units : BitVec 4} {rsv : W64} {s : State} {t : State} (hx : execFence core units rsv s = .next t) : s.Evolves t := by
  unfold execFence at hx
  cases hx
  repeat' (first | with_reducible (first | exact State.Evolves.refl _ | apply State.raise_evolves | apply State.issue_evolves | apply State.syncGate_evolves | apply fenceVerdict_evolves | apply Verdict.Evolves.run | apply Verdict.Evolves.stop | apply Verdict.Evolves.wait | apply Verdict.Evolves.raise | assumption) | intro _ | split | dsimp only)

theorem fenceSatisfied_evolves {orig : State} {L : Nat} {s : State} (hev : orig.Evolves s) :
    orig.Evolves (fenceSatisfied L s) := by
  unfold fenceSatisfied
  repeat' (first | with_reducible assumption | with_reducible apply State.countIssue_evolves | with_reducible apply fenceVerdict_evolves | with_reducible apply Verdict.Evolves.run | with_reducible apply Verdict.Evolves.stop | with_reducible apply Verdict.Evolves.wait | with_reducible apply Verdict.Evolves.raise | (with_reducible refine Verdict.Evolves.of_run (by assumption) ?_) | intro _ | split | dsimp only)

theorem execFenceSatisfied_evolves {core : CoreId} {s : State} {t : State} (hx : execFenceSatisfied core s = .next t) : s.Evolves t := by
  unfold execFenceSatisfied at hx
  cases hx
  repeat' (first | with_reducible (first | exact State.Evolves.refl _ | apply fenceSatisfied_evolves | apply Verdict.Evolves.run | apply Verdict.Evolves.stop | apply Verdict.Evolves.wait | apply Verdict.Evolves.raise | assumption) | intro _ | split | dsimp only)

theorem inboxOpenVerdict_evolves {orig : State} {s : State} {L : Nat} {i : Nat} {w : Nat} {slotsM1 : Nat} {sizeM1 : Nat} {rsv : W64} (hev : orig.Evolves s) :
    Verdict.Evolves orig (inboxOpenVerdict s L i w slotsM1 sizeM1 rsv) := by
  unfold inboxOpenVerdict
  repeat' (first | with_reducible (first | assumption | apply State.modCore_evolves | apply State.raise_evolves | apply State.syncGate_evolves | apply Verdict.Evolves.run | apply Verdict.Evolves.stop | apply Verdict.Evolves.wait | apply Verdict.Evolves.raise) | intro _ | split | dsimp only)

theorem execInboxOpen_evolves {core : CoreId} {inbox : Fin 8} {rs : Reg} {slotsM1 : BitVec 6} {sizeM1 : BitVec 10} {rsv : W64} {s : State} {t : State} (hx : execInboxOpen core inbox rs slotsM1 sizeM1 rsv s = .next t) : s.Evolves t := by
  unfold execInboxOpen at hx
  cases hx
  repeat' (first | with_reducible (first | exact State.Evolves.refl _ | apply State.issue_evolves | apply inboxOpenVerdict_evolves | apply Verdict.Evolves.run | apply Verdict.Evolves.stop | apply Verdict.Evolves.wait | apply Verdict.Evolves.raise | assumption) | intro _ | split | dsimp only)

theorem takeVerdict_evolves {orig : State} {s : State} {L : Nat} {i : Nat} {rd : Nat} (hev : orig.Evolves s) :
    Verdict.Evolves orig (takeVerdict s L i rd) := by
  unfold takeVerdict
  repeat' (first | with_reducible (first | assumption | apply State.modCore_evolves | apply Verdict.Evolves.run | apply Verdict.Evolves.stop | apply Verdict.Evolves.wait | apply Verdict.Evolves.raise) | intro _ | split | dsimp only)

theorem execInboxTake_evolves {core : CoreId} {inbox : Fin 8} {rd : Reg} {rsv : W64} {s : State} {t : State} (hx : execInboxTake core inbox rd rsv s = .next t) : s.Evolves t := by
  unfold execInboxTake at hx
  cases hx
  repeat' (first | with_reducible (first | exact State.Evolves.refl _ | apply State.raise_evolves | apply State.issue_evolves | apply State.syncGate_evolves | apply takeVerdict_evolves | apply Verdict.Evolves.run | apply Verdict.Evolves.stop | apply Verdict.Evolves.wait | apply Verdict.Evolves.raise | assumption) | intro _ | split | dsimp only)

theorem inboxTakeSatisfied_evolves {orig : State} {L : Nat} {s : State} (hev : orig.Evolves s) :
    orig.Evolves (inboxTakeSatisfied L s) := by
  unfold inboxTakeSatisfied
  repeat' (first | with_reducible assumption | with_reducible apply State.countIssue_evolves | with_reducible apply takeVerdict_evolves | with_reducible apply Verdict.Evolves.run | with_reducible apply Verdict.Evolves.stop | with_reducible apply Verdict.Evolves.wait | with_reducible apply Verdict.Evolves.raise | (with_reducible refine Verdict.Evolves.of_run (by assumption) ?_) | intro _ | split | dsimp only)

theorem execInboxTakeSatisfied_evolves {core : CoreId} {s : State} {t : State} (hx : execInboxTakeSatisfied core s = .next t) : s.Evolves t := by
  unfold execInboxTakeSatisfied at hx
  cases hx
  repeat' (first | with_reducible (first | exact State.Evolves.refl _ | apply inboxTakeSatisfied_evolves | apply Verdict.Evolves.run | apply Verdict.Evolves.stop | apply Verdict.Evolves.wait | apply Verdict.Evolves.raise | assumption) | intro _ | split | dsimp only)

theorem inboxFreeVerdict_evolves {orig : State} {s : State} {L : Nat} {i : Nat} {rsv : W64} (hev : orig.Evolves s) :
    Verdict.Evolves orig (inboxFreeVerdict s L i rsv) := by
  unfold inboxFreeVerdict
  repeat' (first | with_reducible (first | assumption | apply State.modCore_evolves | apply State.raise_evolves | apply State.syncGate_evolves | apply State.absorbCredit_evolves | apply Verdict.Evolves.run | apply Verdict.Evolves.stop | apply Verdict.Evolves.wait | apply Verdict.Evolves.raise) | intro _ | split | dsimp only)

theorem execInboxFree_evolves {core : CoreId} {inbox : Fin 8} {rsv : W64} {s : State} {t : State} (hx : execInboxFree core inbox rsv s = .next t) : s.Evolves t := by
  unfold execInboxFree at hx
  cases hx
  repeat' (first | with_reducible (first | exact State.Evolves.refl _ | apply State.issue_evolves | apply inboxFreeVerdict_evolves | apply Verdict.Evolves.run | apply Verdict.Evolves.stop | apply Verdict.Evolves.wait | apply Verdict.Evolves.raise | assumption) | intro _ | split | dsimp only)

theorem closeVerdict_evolves {orig : State} {s : State} {L : Nat} {i : Nat} (hev : orig.Evolves s) :
    Verdict.Evolves orig (closeVerdict s L i) := by
  unfold closeVerdict
  repeat' (first | with_reducible (first | assumption | apply State.modCore_evolves | apply Verdict.Evolves.run | apply Verdict.Evolves.stop | apply Verdict.Evolves.wait | apply Verdict.Evolves.raise) | intro _ | split | dsimp only)

theorem execInboxClose_evolves {core : CoreId} {inbox : Fin 8} {rsv : W64} {s : State} {t : State} (hx : execInboxClose core inbox rsv s = .next t) : s.Evolves t := by
  unfold execInboxClose at hx
  cases hx
  repeat' (first | with_reducible (first | exact State.Evolves.refl _ | apply State.raise_evolves | apply State.issue_evolves | apply State.syncGate_evolves | apply closeVerdict_evolves | apply Verdict.Evolves.run | apply Verdict.Evolves.stop | apply Verdict.Evolves.wait | apply Verdict.Evolves.raise | assumption) | intro _ | split | dsimp only)

theorem inboxCloseSatisfied_evolves {orig : State} {L : Nat} {s : State} (hev : orig.Evolves s) :
    orig.Evolves (inboxCloseSatisfied L s) := by
  unfold inboxCloseSatisfied
  repeat' (first | with_reducible assumption | with_reducible apply State.countIssue_evolves | with_reducible apply closeVerdict_evolves | with_reducible apply Verdict.Evolves.run | with_reducible apply Verdict.Evolves.stop | with_reducible apply Verdict.Evolves.wait | with_reducible apply Verdict.Evolves.raise | (with_reducible refine Verdict.Evolves.of_run (by assumption) ?_) | intro _ | split | dsimp only)

theorem execInboxCloseSatisfied_evolves {core : CoreId} {s : State} {t : State} (hx : execInboxCloseSatisfied core s = .next t) : s.Evolves t := by
  unfold execInboxCloseSatisfied at hx
  cases hx
  repeat' (first | with_reducible (first | exact State.Evolves.refl _ | apply inboxCloseSatisfied_evolves | apply Verdict.Evolves.run | apply Verdict.Evolves.stop | apply Verdict.Evolves.wait | apply Verdict.Evolves.raise | assumption) | intro _ | split | dsimp only)

end Sys2Proof.Machine
end

