-- ==== Sys2Proof/Laws/EvolvesFerry.lean ====
section
/-! SUPPORT. Every operation of Machine/Ferry.lean evolves the state (Laws/Evolves.lean). -/

set_option linter.unreachableTactic false
set_option linter.unusedTactic false

namespace Sys2Proof.Machine

theorem State.absorbFerry_evolves {orig : State} {s : State} {x : Xfer} (hev : orig.Evolves s) :
    orig.Evolves (State.absorbFerry s x) := by
  unfold State.absorbFerry
  repeat' (first | with_reducible (first | assumption | apply State.absorbEffect_evolves | apply State.absorbSignal_evolves | apply State.Evolves.foldl | apply State.Evolves.foldl_fst) | intro _ | split | dsimp only)

theorem ferryIssue_evolves {orig : State} {op : FerryOp} {f : FerryF} {s : State} (hev : orig.Evolves s) :
    orig.Evolves (ferryIssue op f s) := by
  unfold ferryIssue
  repeat' (first | with_reducible (first | assumption | apply State.modCore_evolves | apply State.setPort_evolves | apply State.raise_evolves | apply State.issue_evolves | apply State.absorbFerry_evolves | apply Verdict.Evolves.run | apply Verdict.Evolves.stop | apply Verdict.Evolves.wait | apply Verdict.Evolves.raise) | intro _ | split | dsimp only)

theorem execFerryGet_evolves {f : FerryF} {s : State} {t : State} (hx : execFerryGet f s = .next t) : s.Evolves t := by
  unfold execFerryGet at hx
  cases hx
  repeat' (first | with_reducible (first | exact State.Evolves.refl _ | apply ferryIssue_evolves | apply Verdict.Evolves.run | apply Verdict.Evolves.stop | apply Verdict.Evolves.wait | apply Verdict.Evolves.raise | assumption) | intro _ | split | dsimp only)

theorem execFerryPut_evolves {f : FerryF} {s : State} {t : State} (hx : execFerryPut f s = .next t) : s.Evolves t := by
  unfold execFerryPut at hx
  cases hx
  repeat' (first | with_reducible (first | exact State.Evolves.refl _ | apply ferryIssue_evolves | apply Verdict.Evolves.run | apply Verdict.Evolves.stop | apply Verdict.Evolves.wait | apply Verdict.Evolves.raise | assumption) | intro _ | split | dsimp only)

theorem execFerryPutReduce_evolves {f : FerryF} {s : State} {t : State} (hx : execFerryPutReduce f s = .next t) : s.Evolves t := by
  unfold execFerryPutReduce at hx
  cases hx
  repeat' (first | with_reducible (first | exact State.Evolves.refl _ | apply ferryIssue_evolves | apply Verdict.Evolves.run | apply Verdict.Evolves.stop | apply Verdict.Evolves.wait | apply Verdict.Evolves.raise | assumption) | intro _ | split | dsimp only)

theorem execFerryRelayPut_evolves {f : FerryF} {s : State} {t : State} (hx : execFerryRelayPut f s = .next t) : s.Evolves t := by
  unfold execFerryRelayPut at hx
  cases hx
  repeat' (first | with_reducible (first | exact State.Evolves.refl _ | apply ferryIssue_evolves | apply Verdict.Evolves.run | apply Verdict.Evolves.stop | apply Verdict.Evolves.wait | apply Verdict.Evolves.raise | assumption) | intro _ | split | dsimp only)

theorem State.takeCredit_evolves {orig : State} {s : State} {x : Xfer} (hev : orig.Evolves s) :
    orig.Evolves (State.takeCredit s x).1 := by
  unfold State.takeCredit
  repeat' (first | with_reducible (first | assumption | apply State.modCore_evolves) | intro _ | split | dsimp only)

theorem State.startFerry_evolves {orig : State} {s : State} {L : Nat} {port : Bool} (hev : orig.Evolves s) :
    orig.Evolves (State.startFerry s L port) := by
  unfold State.startFerry
  repeat' (first | with_reducible (first | assumption | apply State.modCore_evolves | apply State.setPort_evolves | apply State.sendXfer_evolves | apply State.takeCredit_evolves) | intro _ | split | dsimp only)

theorem State.tryCredit_evolves {orig : State} {s : State} {L : Nat} {port : Bool} {k : Nat} (hev : orig.Evolves s) :
    orig.Evolves (State.tryCredit s L port k) := by
  unfold State.tryCredit
  repeat' (first | with_reducible (first | assumption | apply State.modCore_evolves | apply State.setPort_evolves | apply State.sendXfer_evolves | apply State.takeCredit_evolves) | intro _ | split | dsimp only)

theorem relayCreditArrival_evolves {orig : State} {L : Nat} {port : Bool} {s : State} (hev : orig.Evolves s) :
    orig.Evolves (relayCreditArrival L port s) := by
  unfold relayCreditArrival
  repeat' (first | with_reducible (first | assumption | apply State.tryCredit_evolves | apply State.Evolves.foldl | apply State.Evolves.foldl_fst) | intro _ | split | dsimp only)

theorem execRelayCreditArrival_evolves {core : CoreId} {port : Bool} {s : State} {t : State} (hx : execRelayCreditArrival core port s = .next t) : s.Evolves t := by
  unfold execRelayCreditArrival at hx
  cases hx
  repeat' (first | with_reducible (first | exact State.Evolves.refl _ | apply relayCreditArrival_evolves | apply Verdict.Evolves.run | apply Verdict.Evolves.stop | apply Verdict.Evolves.wait | apply Verdict.Evolves.raise | assumption) | intro _ | split | dsimp only)

theorem State.finishXfer_evolves {orig : State} {s : State} {L : Nat} {port : Bool} {x : Xfer} {st : W16} (hev : orig.Evolves s) :
    orig.Evolves (State.finishXfer s L port x st) := by
  unfold State.finishXfer
  repeat' (first | with_reducible (first | assumption | apply State.modCore_evolves | apply State.setPort_evolves | apply State.settleTurnEnd_evolves) | intro _ | split | dsimp only)

theorem ferryComplete_evolves {orig : State} {L : Nat} {port : Bool} {s : State} (hev : orig.Evolves s) :
    orig.Evolves (ferryComplete L port s) := by
  unfold ferryComplete
  repeat' (first | with_reducible (first | assumption | apply State.settleDeltas_evolves | apply State.movePiece_evolves | apply State.finishXfer_evolves | apply State.Evolves.foldl | apply State.Evolves.foldl_fst) | intro _ | split | dsimp only)

theorem execFerryTransferComplete_evolves {core : CoreId} {port : Bool} {s : State} {t : State} (hx : execFerryTransferComplete core port s = .next t) : s.Evolves t := by
  unfold execFerryTransferComplete at hx
  cases hx
  repeat' (first | with_reducible (first | exact State.Evolves.refl _ | apply ferryComplete_evolves | apply Verdict.Evolves.run | apply Verdict.Evolves.stop | apply Verdict.Evolves.wait | apply Verdict.Evolves.raise | assumption) | intro _ | split | dsimp only)

theorem reduceHoldAdmit_evolves {orig : State} {site : Nat} {s : State} (hev : orig.Evolves s) :
    orig.Evolves (reduceHoldAdmit site s) := by
  unfold reduceHoldAdmit
  repeat' (first | with_reducible (first | assumption | apply State.answer_evolves | apply State.addContribution_evolves | apply State.Evolves.foldl | apply State.Evolves.foldl_fst) | intro _ | split | dsimp only)

theorem execReduceHoldAdmit_evolves {site : W16} {s : State} {t : State} (hx : execReduceHoldAdmit site s = .next t) : s.Evolves t := by
  unfold execReduceHoldAdmit at hx
  cases hx
  repeat' (first | with_reducible (first | exact State.Evolves.refl _ | apply reduceHoldAdmit_evolves | apply Verdict.Evolves.run | apply Verdict.Evolves.stop | apply Verdict.Evolves.wait | apply Verdict.Evolves.raise | assumption) | intro _ | split | dsimp only)

end Sys2Proof.Machine
end

