-- ==== Sys2Proof/Laws/EvolvesTurn.lean ====
section
/-! SUPPORT. Every operation of Machine/Turn.lean evolves the state (Laws/Evolves.lean). -/

set_option linter.unreachableTactic false
set_option linter.unusedTactic false

namespace Sys2Proof.Machine

theorem State.reloadBank_evolves {orig : State} {s : State} {L : Nat} {b : Nat} {tile : List W32} (hev : orig.Evolves s) :
    orig.Evolves (State.reloadBank s L b tile) := by
  unfold State.reloadBank
  repeat' (first | with_reducible (first | assumption | apply State.modCore_evolves | apply State.countCore_evolves) | intro _ | split | dsimp only)

theorem State.reloadBanks_evolves {orig : State} {s : State} {L : Nat} (hev : orig.Evolves s) :
    orig.Evolves (State.reloadBanks s L).1 := by
  unfold State.reloadBanks
  repeat' (first | with_reducible (first | assumption | apply State.readRange_evolves | apply State.reloadBank_evolves) | intro _ | split | dsimp only)

theorem turnBegin_evolves {orig : State} {L : Nat} {opPoint : BitVec 4} {rsv : W64} {s : State} (hev : orig.Evolves s) :
    orig.Evolves (turnBegin L opPoint rsv s) := by
  unfold turnBegin
  repeat' (first | with_reducible (first | assumption | apply State.modCore_evolves | apply State.raise_evolves | apply State.countIssue_evolves | apply State.coreWordLost_evolves | apply State.reloadBanks_evolves | apply Verdict.Evolves.run | apply Verdict.Evolves.stop | apply Verdict.Evolves.wait | apply Verdict.Evolves.raise) | intro _ | split | dsimp only)

theorem execTurnBegin_evolves {core : CoreId} {opPoint : BitVec 4} {rsv : W64} {s : State} {t : State} (hx : execTurnBegin core opPoint rsv s = .next t) : s.Evolves t := by
  unfold execTurnBegin at hx
  cases hx
  repeat' (first | with_reducible (first | exact State.Evolves.refl _ | apply turnBegin_evolves | apply Verdict.Evolves.run | apply Verdict.Evolves.stop | apply Verdict.Evolves.wait | apply Verdict.Evolves.raise | assumption) | intro _ | split | dsimp only)

theorem turnEndVerdict_evolves {orig : State} {s : State} {L : Nat} {live : BitVec 2} {rc : Nat} {re : Nat} {rsv : W64} (hev : orig.Evolves s) :
    Verdict.Evolves orig (turnEndVerdict s L live rc re rsv) := by
  unfold turnEndVerdict
  repeat' (first | with_reducible (first | assumption | apply State.modCore_evolves | apply State.raise_evolves | apply State.syncGate_evolves | apply Verdict.Evolves.run | apply Verdict.Evolves.stop | apply Verdict.Evolves.wait | apply Verdict.Evolves.raise) | intro _ | split | dsimp only)

theorem execTurnEnd_evolves {core : CoreId} {live : BitVec 2} {rc : Reg} {re : Reg} {rsv : W64} {s : State} {t : State} (hx : execTurnEnd core live rc re rsv s = .next t) : s.Evolves t := by
  unfold execTurnEnd at hx
  cases hx
  repeat' (first | with_reducible (first | exact State.Evolves.refl _ | apply State.issue_evolves | apply State.settleTurnEnd_evolves | apply turnEndVerdict_evolves | apply Verdict.Evolves.run | apply Verdict.Evolves.stop | apply Verdict.Evolves.wait | apply Verdict.Evolves.raise | assumption) | intro _ | split | dsimp only)

theorem State.absorbEnd_evolves {orig : State} {s : State} {p : Nat} {im : Image} {rank : Nat} {L : Nat} {sh : RankShadow} (hev : orig.Evolves s) :
    orig.Evolves (State.absorbEnd s p im rank L sh) := by
  unfold State.absorbEnd
  repeat' (first | with_reducible (first | assumption | apply State.modCore_evolves | apply State.absorbEffect_evolves | apply State.Evolves.foldl | apply State.Evolves.foldl_fst) | intro _ | split | dsimp only)

theorem State.writePage_evolves {orig : State} {s : State} {p : Nat} {L : Nat} {word : Nat} {at' : Nat} (hev : orig.Evolves s) :
    orig.Evolves (State.writePage s p L word at') := by
  unfold State.writePage
  repeat' (first | with_reducible (first | assumption | apply State.traffic_evolves | apply State.partWrite_evolves) | intro _ | split | dsimp only)

theorem State.writeChanged_evolves {orig : State} {s : State} {p : Nat} {im : Image} {rank : Nat} {L : Nat} {sh : RankShadow} {pages : List (Nat × Nat × Nat)} (hev : orig.Evolves s) :
    orig.Evolves (State.writeChanged s p im rank L sh pages) := by
  unfold State.writeChanged
  repeat' (first | with_reducible (first | assumption | apply State.writePage_evolves | apply State.Evolves.foldl | apply State.Evolves.foldl_fst) | intro _ | split | dsimp only)

theorem State.takeShadow_evolves {orig : State} {s : State} {p : Nat} {im : Image} {rank : Nat} {L : Nat} {sh : RankShadow} (hev : orig.Evolves s) :
    orig.Evolves (State.takeShadow s p im rank L sh).1 := by
  unfold State.takeShadow
  repeat' (first | with_reducible (first | assumption | apply State.settleDeltas_evolves | apply State.writeChanged_evolves | apply State.Evolves.foldl | apply State.Evolves.foldl_fst) | intro _ | split | dsimp only)

theorem rankDurable_evolves {orig : State} {L : Nat} {s : State} (hev : orig.Evolves s) :
    orig.Evolves (rankDurable L s) := by
  unfold rankDurable
  repeat' (first | with_reducible (first | assumption | apply State.modCore_evolves | apply State.modJob_evolves | apply State.readRange_evolves | apply State.coreWordLost_evolves | apply State.ledgerCommit_evolves | apply State.reportDurable_evolves | apply State.absorbEnd_evolves | apply State.takeShadow_evolves | apply State.Evolves.foldl | apply State.Evolves.foldl_fst) | intro _ | split | dsimp only)

theorem execRankDurable_evolves {core : CoreId} {s : State} {t : State} (hx : execRankDurable core s = .next t) : s.Evolves t := by
  unfold execRankDurable at hx
  cases hx
  repeat' (first | with_reducible (first | exact State.Evolves.refl _ | apply rankDurable_evolves | apply Verdict.Evolves.run | apply Verdict.Evolves.stop | apply Verdict.Evolves.wait | apply Verdict.Evolves.raise | assumption) | intro _ | split | dsimp only)

theorem turnCommit_evolves {orig : State} {p : Nat} {s : State} (hev : orig.Evolves s) :
    orig.Evolves (turnCommit p s) := by
  unfold turnCommit
  repeat' (first | with_reducible (first | assumption | apply State.releaseHeld_evolves | apply State.commitTurn_evolves) | intro _ | split | dsimp only)

theorem execTurnCommit_evolves {part : PartId} {s : State} {t : State} (hx : execTurnCommit part s = .next t) : s.Evolves t := by
  unfold execTurnCommit at hx
  cases hx
  repeat' (first | with_reducible (first | exact State.Evolves.refl _ | apply turnCommit_evolves | apply Verdict.Evolves.run | apply Verdict.Evolves.stop | apply Verdict.Evolves.wait | apply Verdict.Evolves.raise | assumption) | intro _ | split | dsimp only)

theorem turnOverrun_evolves {orig : State} {L : Nat} {s : State} (hev : orig.Evolves s) :
    orig.Evolves (turnOverrun L s) := by
  unfold turnOverrun
  repeat' (first | with_reducible (first | assumption | apply State.raise_evolves) | intro _ | split | dsimp only)

theorem execTurnOverrun_evolves {core : CoreId} {s : State} {t : State} (hx : execTurnOverrun core s = .next t) : s.Evolves t := by
  unfold execTurnOverrun at hx
  cases hx
  repeat' (first | with_reducible (first | exact State.Evolves.refl _ | apply turnOverrun_evolves | apply Verdict.Evolves.run | apply Verdict.Evolves.stop | apply Verdict.Evolves.wait | apply Verdict.Evolves.raise | assumption) | intro _ | split | dsimp only)

theorem State.substituteWaiting_evolves {orig : State} {s : State} {c : Nat} (hev : orig.Evolves s) :
    orig.Evolves (State.substituteWaiting s c) := by
  unfold State.substituteWaiting
  repeat' (first | with_reducible (first | assumption | apply State.modCluster_evolves | apply State.failCore_evolves | apply State.Evolves.foldl | apply State.Evolves.foldl_fst) | intro _ | split | dsimp only)

theorem partRebuildDone_evolves {orig : State} {L : Nat} {s : State} (hev : orig.Evolves s) :
    orig.Evolves (partRebuildDone L s) := by
  unfold partRebuildDone
  repeat' (first | with_reducible (first | assumption | apply State.modPart_evolves | apply State.modJob_evolves | apply State.rebuildCore_evolves | apply State.startTurns_evolves | apply State.substituteWaiting_evolves) | intro _ | split | dsimp only)

theorem execPartRebuildDone_evolves {core : CoreId} {s : State} {t : State} (hx : execPartRebuildDone core s = .next t) : s.Evolves t := by
  unfold execPartRebuildDone at hx
  cases hx
  repeat' (first | with_reducible (first | exact State.Evolves.refl _ | apply partRebuildDone_evolves | apply Verdict.Evolves.run | apply Verdict.Evolves.stop | apply Verdict.Evolves.wait | apply Verdict.Evolves.raise | assumption) | intro _ | split | dsimp only)

theorem backedFillDone_evolves {orig : State} {p : Nat} {region : Nat} {s : State} (hev : orig.Evolves s) :
    orig.Evolves (backedFillDone p region s) := by
  unfold backedFillDone
  repeat' (first | with_reducible (first | assumption | apply State.modPart_evolves | apply State.traffic_evolves | apply State.holdStatus_evolves | apply State.wordEvent_evolves | apply State.copyRead_evolves) | intro _ | split | dsimp only)

theorem execBackedFillDone_evolves {part : PartId} {region : Nat} {s : State} {t : State} (hx : execBackedFillDone part region s = .next t) : s.Evolves t := by
  unfold execBackedFillDone at hx
  cases hx
  repeat' (first | with_reducible (first | exact State.Evolves.refl _ | apply backedFillDone_evolves | apply Verdict.Evolves.run | apply Verdict.Evolves.stop | apply Verdict.Evolves.wait | apply Verdict.Evolves.raise | assumption) | intro _ | split | dsimp only)

theorem jobLoadDone_evolves {orig : State} {p : Nat} {s : State} (hev : orig.Evolves s) :
    orig.Evolves (jobLoadDone p s) := by
  unfold jobLoadDone
  repeat' (first | with_reducible (first | assumption | apply State.modJob_evolves | apply State.holdStatus_evolves | apply State.wordEvent_evolves | apply State.loadRank_evolves | apply State.clearShadow_evolves | apply State.runLoaded_evolves | apply State.Evolves.foldl | apply State.Evolves.foldl_fst) | intro _ | split | dsimp only)

theorem execJobLoadDone_evolves {part : PartId} {s : State} {t : State} (hx : execJobLoadDone part s = .next t) : s.Evolves t := by
  unfold execJobLoadDone at hx
  cases hx
  repeat' (first | with_reducible (first | exact State.Evolves.refl _ | apply State.scheduled_evolves | apply jobLoadDone_evolves | apply Verdict.Evolves.run | apply Verdict.Evolves.stop | apply Verdict.Evolves.wait | apply Verdict.Evolves.raise | assumption) | intro _ | split | dsimp only)

theorem State.mismatchEvent_evolves {orig : State} {s : State} {p : Nat} {rank : Nat} {outcome : Nat} {third : Nat} {dataThird : List Byte} (hev : orig.Evolves s) :
    orig.Evolves (State.mismatchEvent s p rank outcome third dataThird) := by
  unfold State.mismatchEvent
  repeat' (first | with_reducible (first | assumption | apply State.event_evolves) | intro _ | split | dsimp only)

theorem State.rerunRanks_evolves {orig : State} {s : State} {j : Job} {ranks : List Nat} (hev : orig.Evolves s) :
    orig.Evolves (State.rerunRanks s j ranks) := by
  unfold State.rerunRanks
  repeat' (first | with_reducible (first | assumption | apply State.modCore_evolves | apply State.awaitRebuild_evolves | apply State.Evolves.foldl | apply State.Evolves.foldl_fst) | intro _ | split | dsimp only)

theorem State.voteOn_evolves {orig : State} {s : State} {p : Nat} {ranks : List Nat} (hev : orig.Evolves s) :
    orig.Evolves (State.voteOn s p ranks) := by
  unfold State.voteOn
  repeat' (first | with_reducible (first | assumption | apply State.modJob_evolves | apply State.rerunRanks_evolves) | intro _ | split | dsimp only)

theorem doublesCompare_evolves {orig : State} {p : Nat} {s : State} (hev : orig.Evolves s) :
    orig.Evolves (doublesCompare p s) := by
  unfold doublesCompare
  repeat' (first | with_reducible (first | assumption | apply State.holdStatus_evolves | apply State.mismatchEvent_evolves | apply State.voteOn_evolves | apply State.Evolves.foldl | apply State.Evolves.foldl_fst) | intro _ | split | dsimp only)

theorem execDoublesCompare_evolves {part : PartId} {s : State} {t : State} (hx : execDoublesCompare part s = .next t) : s.Evolves t := by
  unfold execDoublesCompare at hx
  cases hx
  repeat' (first | with_reducible (first | exact State.Evolves.refl _ | apply State.scheduled_evolves | apply doublesCompare_evolves | apply Verdict.Evolves.run | apply Verdict.Evolves.stop | apply Verdict.Evolves.wait | apply Verdict.Evolves.raise | assumption) | intro _ | split | dsimp only)

theorem State.losesVote_evolves {orig : State} {s : State} {L : Nat} (hev : orig.Evolves s) :
    orig.Evolves (State.losesVote s L) := by
  unfold State.losesVote
  repeat' (first | with_reducible (first | assumption | apply State.failCore_evolves) | intro _ | split | dsimp only)

theorem State.landEffect_evolves {orig : State} {s : State} {p : Nat} {la : Nat} {kind : Nat} {a : Nat} {data : List Byte} (hev : orig.Evolves s) :
    orig.Evolves (State.landEffect s p la kind a data) := by
  unfold State.landEffect
  repeat' (first | with_reducible (first | assumption | apply State.partWrite_evolves | apply State.addContribution_evolves | apply State.Evolves.foldl | apply State.Evolves.foldl_fst) | intro _ | split | dsimp only)

theorem State.landDiscarded_evolves {orig : State} {s : State} {p : Nat} {la : Nat} {n : Nat} {addrs : List Byte} {data : List Byte} (hev : orig.Evolves s) :
    orig.Evolves (State.landDiscarded s p la n addrs data) := by
  induction n generalizing s p la addrs data with
  | zero =>
    unfold State.landDiscarded
    repeat' (first | with_reducible (first | assumption | apply State.landEffect_evolves) | intro _ | split | dsimp only)
  | succ n ih =>
    unfold State.landDiscarded
    repeat' (first | with_reducible (first | assumption | apply ih | apply State.landEffect_evolves) | intro _ | split | dsimp only)

theorem State.landRelays_evolves {orig : State} {s : State} {j : Job} {la : Nat} {lb : Nat} (hev : orig.Evolves s) :
    orig.Evolves (State.landRelays s j la lb) := by
  unfold State.landRelays
  repeat' (first | with_reducible (first | assumption | apply State.writeBytes_evolves | apply State.Evolves.foldl | apply State.Evolves.foldl_fst) | intro _ | split | dsimp only)

theorem State.rewrite_evolves {orig : State} {s : State} {p : Nat} {j : Job} {r : Nat} {la : Nat} {lb : Nat} (hev : orig.Evolves s) :
    orig.Evolves (State.rewrite s p j r la lb) := by
  unfold State.rewrite
  repeat' (first | with_reducible (first | assumption | apply State.modCore_evolves | apply State.modJob_evolves | apply State.withdrawHeld_evolves | apply State.takeShadow_evolves | apply State.landDiscarded_evolves | apply State.landRelays_evolves) | intro _ | split | dsimp only)

theorem thirdCopyDone_evolves {orig : State} {p : Nat} {ad : BitVec 128} {dd : BitVec 128} {s : State} (hev : orig.Evolves s) :
    orig.Evolves (thirdCopyDone p ad dd s) := by
  unfold thirdCopyDone
  repeat' (first | with_reducible (first | assumption | apply State.modJob_evolves | apply State.holdStatus_evolves | apply State.substituteWaiting_evolves | apply State.mismatchEvent_evolves | apply State.voteOn_evolves | apply State.losesVote_evolves | apply State.rewrite_evolves) | intro _ | split | dsimp only)

theorem execThirdCopyDone_evolves {part : PartId} {addrDigest : BitVec 128} {dataDigest : BitVec 128} {s : State} {t : State} (hx : execThirdCopyDone part addrDigest dataDigest s = .next t) : s.Evolves t := by
  unfold execThirdCopyDone at hx
  cases hx
  repeat' (first | with_reducible (first | exact State.Evolves.refl _ | apply State.scheduled_evolves | apply thirdCopyDone_evolves | apply Verdict.Evolves.run | apply Verdict.Evolves.stop | apply Verdict.Evolves.wait | apply Verdict.Evolves.raise | assumption) | intro _ | split | dsimp only)

end Sys2Proof.Machine
end

