-- ==== Sys2Proof/Laws/EvolvesCoreEvents.lean ====
section
/-! SUPPORT. Every operation of Machine/CoreEvents.lean evolves the state (Laws/Evolves.lean). -/

set_option linter.unreachableTactic false
set_option linter.unusedTactic false

namespace Sys2Proof.Machine

theorem queuePlaceFreed_evolves {orig : State} {L : Nat} {q : QueueId} {s : State} (hev : orig.Evolves s) :
    orig.Evolves (queuePlaceFreed L q s) := by
  unfold queuePlaceFreed
  repeat' (first | with_reducible (first | assumption | apply State.modCore_evolves | apply State.settleTurnEnd_evolves | apply State.settleUnit_evolves | apply State.startFerry_evolves) | intro _ | split | dsimp only)

theorem execQueuePlaceFreed_evolves {core : CoreId} {q : QueueId} {s : State} {t : State} (hx : execQueuePlaceFreed core q s = .next t) : s.Evolves t := by
  unfold execQueuePlaceFreed at hx
  cases hx
  repeat' (first | with_reducible (first | exact State.Evolves.refl _ | apply queuePlaceFreed_evolves | apply Verdict.Evolves.run | apply Verdict.Evolves.stop | apply Verdict.Evolves.wait | apply Verdict.Evolves.raise | assumption) | intro _ | split | dsimp only)

theorem State.addDummy_evolves {orig : State} {s : State} {L : Nat} {n : Nat} (hev : orig.Evolves s) :
    orig.Evolves (State.addDummy s L n) := by
  unfold State.addDummy
  repeat' (first | with_reducible (first | assumption | apply State.countCore_evolves) | intro _ | split | dsimp only)

theorem dummyGapExpiry_evolves {orig : State} {L : Nat} {qbeats : Nat} {s : State} (hev : orig.Evolves s) :
    orig.Evolves (dummyGapExpiry L qbeats s) := by
  unfold dummyGapExpiry
  repeat' (first | with_reducible (first | assumption | apply State.modCore_evolves | apply State.addDummy_evolves) | intro _ | split | dsimp only)

theorem execDummyGapExpiry_evolves {core : CoreId} {qbeats : Nat} {s : State} {t : State} (hx : execDummyGapExpiry core qbeats s = .next t) : s.Evolves t := by
  unfold execDummyGapExpiry at hx
  cases hx
  repeat' (first | with_reducible (first | exact State.Evolves.refl _ | apply dummyGapExpiry_evolves | apply Verdict.Evolves.run | apply Verdict.Evolves.stop | apply Verdict.Evolves.wait | apply Verdict.Evolves.raise | assumption) | intro _ | split | dsimp only)

theorem rampStep_evolves {orig : State} {L : Nat} {qbeats : Nat} {s : State} (hev : orig.Evolves s) :
    orig.Evolves (rampStep L qbeats s) := by
  unfold rampStep
  repeat' (first | with_reducible (first | assumption | apply State.modCore_evolves | apply State.addDummy_evolves) | intro _ | split | dsimp only)

theorem execRampStep_evolves {core : CoreId} {qbeats : Nat} {s : State} {t : State} (hx : execRampStep core qbeats s = .next t) : s.Evolves t := by
  unfold execRampStep at hx
  cases hx
  repeat' (first | with_reducible (first | exact State.Evolves.refl _ | apply rampStep_evolves | apply Verdict.Evolves.run | apply Verdict.Evolves.stop | apply Verdict.Evolves.wait | apply Verdict.Evolves.raise | assumption) | intro _ | split | dsimp only)

theorem livenessProbe_evolves {orig : State} {c : Nat} {s : State} (hev : orig.Evolves s) :
    orig.Evolves (livenessProbe c s) := by
  unfold livenessProbe
  repeat' (first | with_reducible (first | assumption | apply State.modCore_evolves | apply State.Evolves.foldl | apply State.Evolves.foldl_fst) | intro _ | split | dsimp only)

theorem execLivenessProbe_evolves {cluster : ClusterId} {s : State} {t : State} (hx : execLivenessProbe cluster s = .next t) : s.Evolves t := by
  unfold execLivenessProbe at hx
  cases hx
  repeat' (first | with_reducible (first | exact State.Evolves.refl _ | apply livenessProbe_evolves | apply Verdict.Evolves.run | apply Verdict.Evolves.stop | apply Verdict.Evolves.wait | apply Verdict.Evolves.raise | assumption) | intro _ | split | dsimp only)

theorem livenessProbeTimeout_evolves {orig : State} {L : Nat} {s : State} (hev : orig.Evolves s) :
    orig.Evolves (livenessProbeTimeout L s) := by
  unfold livenessProbeTimeout
  repeat' (first | with_reducible (first | assumption | apply State.modCore_evolves | apply State.failCore_evolves) | intro _ | split | dsimp only)

theorem execLivenessProbeTimeout_evolves {core : CoreId} {s : State} {t : State} (hx : execLivenessProbeTimeout core s = .next t) : s.Evolves t := by
  unfold execLivenessProbeTimeout at hx
  cases hx
  repeat' (first | with_reducible (first | exact State.Evolves.refl _ | apply livenessProbeTimeout_evolves | apply Verdict.Evolves.run | apply Verdict.Evolves.stop | apply Verdict.Evolves.wait | apply Verdict.Evolves.raise | assumption) | intro _ | split | dsimp only)

theorem correctedRateExceeded_evolves {orig : State} {L : Nat} {s : State} (hev : orig.Evolves s) :
    orig.Evolves (correctedRateExceeded L s) := by
  unfold correctedRateExceeded
  repeat' (first | with_reducible (first | assumption | apply State.failCore_evolves) | intro _ | split | dsimp only)

theorem execCorrectedRateExceeded_evolves {core : CoreId} {s : State} {t : State} (hx : execCorrectedRateExceeded core s = .next t) : s.Evolves t := by
  unfold execCorrectedRateExceeded at hx
  cases hx
  repeat' (first | with_reducible (first | exact State.Evolves.refl _ | apply correctedRateExceeded_evolves | apply Verdict.Evolves.run | apply Verdict.Evolves.stop | apply Verdict.Evolves.wait | apply Verdict.Evolves.raise | assumption) | intro _ | split | dsimp only)

theorem phaseHintVerdict_evolves {orig : State} {s : State} {L : Nat} {lead : Nat} {duration : Nat} {load : Nat} {rsv : W64} (hev : orig.Evolves s) :
    Verdict.Evolves orig (phaseHintVerdict s L lead duration load rsv) := by
  unfold phaseHintVerdict
  repeat' (first | with_reducible (first | assumption | apply State.modCore_evolves | apply State.raise_evolves | apply State.syncGate_evolves | apply State.takeHint_evolves | apply Verdict.Evolves.run | apply Verdict.Evolves.stop | apply Verdict.Evolves.wait | apply Verdict.Evolves.raise) | intro _ | split | dsimp only)

theorem execPhaseHintInstr_evolves {core : CoreId} {lead : Byte} {duration : W16} {load : BitVec 4} {rsv : W64} {s : State} {t : State} (hx : execPhaseHintInstr core lead duration load rsv s = .next t) : s.Evolves t := by
  unfold execPhaseHintInstr at hx
  cases hx
  repeat' (first | with_reducible (first | exact State.Evolves.refl _ | apply State.issue_evolves | apply phaseHintVerdict_evolves | apply Verdict.Evolves.run | apply Verdict.Evolves.stop | apply Verdict.Evolves.wait | apply Verdict.Evolves.raise | assumption) | intro _ | split | dsimp only)

theorem State.upsetWords_evolves {orig : State} {s : State} {w0 : Nat} {n : Nat} {us : List Upset} (hev : orig.Evolves s) :
    orig.Evolves (State.upsetWords s w0 n us) := by
  unfold State.upsetWords
  repeat' (first | with_reducible (first | assumption | apply State.Evolves.foldl | apply State.Evolves.foldl_fst) | intro _ | split | dsimp only)

theorem State.scrubWord_evolves {orig : State} {s : State} {w : Nat} (hev : orig.Evolves s) :
    orig.Evolves (State.scrubWord s w) := by
  unfold State.scrubWord
  repeat' (first | with_reducible (first | assumption | apply State.modIsland_evolves | apply State.wordEvent_evolves | apply State.meetWord_evolves | apply State.coreWordFound_evolves) | intro _ | split | dsimp only)

theorem State.scrubWords_evolves {orig : State} {s : State} {w0 : Nat} {n : Nat} (hev : orig.Evolves s) :
    orig.Evolves (State.scrubWords s w0 n) := by
  unfold State.scrubWords
  repeat' (first | with_reducible (first | assumption | apply State.scrubWord_evolves | apply State.Evolves.foldl | apply State.Evolves.foldl_fst) | intro _ | split | dsimp only)

theorem State.scrub_evolves {orig : State} {s : State} {a : Nat} {us : List Upset} {reserve : Option Nat} (hev : orig.Evolves s) :
    orig.Evolves (State.scrub s a us reserve) := by
  unfold State.scrub
  repeat' (first | with_reducible (first | assumption | apply State.modCluster_evolves | apply State.modIsland_evolves | apply State.countCore_evolves | apply State.upsetWords_evolves | apply State.scrubWords_evolves) | intro _ | split | dsimp only)

theorem execScrubLine_evolves {addr : BitVec 48} {upsets : List Upset} {reserve : Option (Fin 14)} {s : State} {t : State} (hx : execScrubLine addr upsets reserve s = .next t) : s.Evolves t := by
  unfold execScrubLine at hx
  cases hx
  repeat' (first | with_reducible (first | exact State.Evolves.refl _ | apply State.scrub_evolves | apply Verdict.Evolves.run | apply Verdict.Evolves.stop | apply Verdict.Evolves.wait | apply Verdict.Evolves.raise | assumption) | intro _ | split | dsimp only)

theorem forcedScrub_evolves {orig : State} {a : Nat} {us : List Upset} {loser : Bool} {s : State} (hev : orig.Evolves s) :
    orig.Evolves (forcedScrub a us loser s) := by
  unfold forcedScrub
  repeat' (first | with_reducible (first | assumption | apply State.countCore_evolves | apply State.scrub_evolves) | intro _ | split | dsimp only)

theorem execForcedScrub_evolves {addr : BitVec 48} {upsets : List Upset} {loser : Bool} {s : State} {t : State} (hx : execForcedScrub addr upsets loser s = .next t) : s.Evolves t := by
  unfold execForcedScrub at hx
  cases hx
  repeat' (first | with_reducible (first | exact State.Evolves.refl _ | apply forcedScrub_evolves | apply Verdict.Evolves.run | apply Verdict.Evolves.stop | apply Verdict.Evolves.wait | apply Verdict.Evolves.raise | assumption) | intro _ | split | dsimp only)

theorem correctedWriteBack_evolves {orig : State} {a : Nat} {s : State} (hev : orig.Evolves s) :
    orig.Evolves (correctedWriteBack a s) := by
  unfold correctedWriteBack
  repeat' (first | with_reducible assumption | intro _ | split | dsimp only)

theorem execCorrectedWriteBack_evolves {addr : BitVec 48} {s : State} {t : State} (hx : execCorrectedWriteBack addr s = .next t) : s.Evolves t := by
  unfold execCorrectedWriteBack at hx
  cases hx
  repeat' (first | with_reducible (first | exact State.Evolves.refl _ | apply correctedWriteBack_evolves | apply Verdict.Evolves.run | apply Verdict.Evolves.stop | apply Verdict.Evolves.wait | apply Verdict.Evolves.raise | assumption) | intro _ | split | dsimp only)

theorem lagoonGranuleReload_evolves {orig : State} {a : Nat} {s : State} (hev : orig.Evolves s) :
    orig.Evolves (lagoonGranuleReload a s) := by
  unfold lagoonGranuleReload
  repeat' (first | with_reducible (first | assumption | apply State.modIsland_evolves | apply State.wordEvent_evolves | apply State.reloadGranule_evolves | apply State.releaseHeld_evolves) | intro _ | split | dsimp only)

theorem execLagoonGranuleReload_evolves {addr : BitVec 48} {s : State} {t : State} (hx : execLagoonGranuleReload addr s = .next t) : s.Evolves t := by
  unfold execLagoonGranuleReload at hx
  cases hx
  repeat' (first | with_reducible (first | exact State.Evolves.refl _ | apply lagoonGranuleReload_evolves | apply Verdict.Evolves.run | apply Verdict.Evolves.stop | apply Verdict.Evolves.wait | apply Verdict.Evolves.raise | assumption) | intro _ | split | dsimp only)

end Sys2Proof.Machine
end

