-- ==== Sys2Proof/Laws/EvolvesHbm.lean ====
section
/-! SUPPORT. Every operation of Machine/Hbm.lean evolves the state (Laws/Evolves.lean). -/

set_option linter.unreachableTactic false
set_option linter.unusedTactic false

namespace Sys2Proof.Machine

theorem channelRetrain_evolves {orig : State} {k : Nat} {ch : Nat} {trigger : Nat} {s : State} (hev : orig.Evolves s) :
    orig.Evolves (channelRetrain k ch trigger s) := by
  unfold channelRetrain
  repeat' (first | with_reducible (first | assumption | apply State.modStack_evolves) | intro _ | split | dsimp only)

theorem execHbmChannelRetrain_evolves {stack : StackId} {ch : ChannelId} {trigger : Fin 4} {s : State} {t : State} (hx : execHbmChannelRetrain stack ch trigger s = .next t) : s.Evolves t := by
  unfold execHbmChannelRetrain at hx
  cases hx
  repeat' (first | with_reducible (first | exact State.Evolves.refl _ | apply channelRetrain_evolves | apply Verdict.Evolves.run | apply Verdict.Evolves.stop | apply Verdict.Evolves.wait | apply Verdict.Evolves.raise | assumption) | intro _ | split | dsimp only)

theorem State.hbmResumes_evolves {orig : State} {s : State} (hev : orig.Evolves s) :
    orig.Evolves (State.hbmResumes s) := by
  unfold State.hbmResumes
  repeat' (first | with_reducible (first | assumption | apply State.releaseHeld_evolves) | intro _ | split | dsimp only)

theorem retrainComplete_evolves {orig : State} {k : Nat} {ok : Bool} {us : Nat} {s : State} (hev : orig.Evolves s) :
    orig.Evolves (retrainComplete k ok us s) := by
  unfold retrainComplete
  repeat' (first | with_reducible (first | assumption | apply State.modStack_evolves | apply State.channelEvent_evolves | apply State.retireChannel_evolves | apply State.hbmResumes_evolves) | intro _ | split | dsimp only)

theorem execHbmRetrainComplete_evolves {stack : StackId} {ok : Bool} {durationUs : W32} {s : State} {t : State} (hx : execHbmRetrainComplete stack ok durationUs s = .next t) : s.Evolves t := by
  unfold execHbmRetrainComplete at hx
  cases hx
  repeat' (first | with_reducible (first | exact State.Evolves.refl _ | apply retrainComplete_evolves | apply Verdict.Evolves.run | apply Verdict.Evolves.stop | apply Verdict.Evolves.wait | apply Verdict.Evolves.raise | assumption) | intro _ | split | dsimp only)

theorem execHbmUncorrectableRateRetire_evolves {stack : StackId} {ch : ChannelId} {s : State} {t : State} (hx : execHbmUncorrectableRateRetire stack ch s = .next t) : s.Evolves t := by
  unfold execHbmUncorrectableRateRetire at hx
  cases hx
  repeat' (first | with_reducible (first | exact State.Evolves.refl _ | apply State.retireChannel_evolves | apply State.hbmResumes_evolves | apply Verdict.Evolves.run | apply Verdict.Evolves.stop | apply Verdict.Evolves.wait | apply Verdict.Evolves.raise | assumption) | intro _ | split | dsimp only)

theorem execHbmStackFault_evolves {stack : StackId} {cause : Fin 3} {s : State} {t : State} (hx : execHbmStackFault stack cause s = .next t) : s.Evolves t := by
  unfold execHbmStackFault at hx
  cases hx
  repeat' (first | with_reducible (first | exact State.Evolves.refl _ | apply State.loseStack_evolves | apply State.hbmResumes_evolves | apply Verdict.Evolves.run | apply Verdict.Evolves.stop | apply Verdict.Evolves.wait | apply Verdict.Evolves.raise | assumption) | intro _ | split | dsimp only)

theorem hbmTempRead_evolves {orig : State} {k : Nat} {temp : Byte} {s : State} (hev : orig.Evolves s) :
    orig.Evolves (hbmTempRead k temp s) := by
  unfold hbmTempRead
  repeat' (first | with_reducible (first | assumption | apply State.modStack_evolves | apply State.hbmResumes_evolves) | intro _ | split | dsimp only)

theorem execHbmTempRead_evolves {stack : StackId} {temp : Byte} {s : State} {t : State} (hx : execHbmTempRead stack temp s = .next t) : s.Evolves t := by
  unfold execHbmTempRead at hx
  cases hx
  repeat' (first | with_reducible (first | exact State.Evolves.refl _ | apply hbmTempRead_evolves | apply Verdict.Evolves.run | apply Verdict.Evolves.stop | apply Verdict.Evolves.wait | apply Verdict.Evolves.raise | assumption) | intro _ | split | dsimp only)

theorem State.patrolWord_evolves {orig : State} {s : State} {w : Nat} (hev : orig.Evolves s) :
    orig.Evolves (State.patrolWord s w) := by
  unfold State.patrolWord
  repeat' (first | with_reducible (first | assumption | apply State.wordEvent_evolves | apply State.meetWord_evolves) | intro _ | split | dsimp only)

theorem State.patrolParity_evolves {orig : State} {s : State} {stripe : Nat} {k : Nat} (hev : orig.Evolves s) :
    orig.Evolves (State.patrolParity s stripe k) := by
  unfold State.patrolParity
  repeat' (first | with_reducible (first | assumption | apply State.modStack_evolves | apply State.Evolves.foldl | apply State.Evolves.foldl_fst) | intro _ | split | dsimp only)

theorem State.patrolUpset_evolves {orig : State} {s : State} {k : Nat} {stripe : Nat} {u : Upset} (hev : orig.Evolves s) :
    orig.Evolves (State.patrolUpset s k stripe u) := by
  unfold State.patrolUpset
  repeat' (first | with_reducible assumption | intro _ | split | dsimp only)

theorem hbmPatrol_evolves {orig : State} {k : Nat} {stripe : Nat} {us : List Upset} {s : State} (hev : orig.Evolves s) :
    orig.Evolves (hbmPatrol k stripe us s) := by
  unfold hbmPatrol
  repeat' (first | with_reducible (first | assumption | apply State.patrolWord_evolves | apply State.patrolParity_evolves | apply State.patrolUpset_evolves | apply State.Evolves.foldl | apply State.Evolves.foldl_fst) | intro _ | split | dsimp only)

theorem execHbmPatrol_evolves {stack : StackId} {stripe : Nat} {upsets : List Upset} {s : State} {t : State} (hx : execHbmPatrol stack stripe upsets s = .next t) : s.Evolves t := by
  unfold execHbmPatrol at hx
  cases hx
  repeat' (first | with_reducible (first | exact State.Evolves.refl _ | apply hbmPatrol_evolves | apply Verdict.Evolves.run | apply Verdict.Evolves.stop | apply Verdict.Evolves.wait | apply Verdict.Evolves.raise | assumption) | intro _ | split | dsimp only)

theorem selfRefreshEntry_evolves {orig : State} {k : Nat} {s : State} (hev : orig.Evolves s) :
    orig.Evolves (selfRefreshEntry k s) := by
  unfold selfRefreshEntry
  repeat' (first | with_reducible (first | assumption | apply State.modStack_evolves) | intro _ | split | dsimp only)

theorem execHbmSelfRefreshEntry_evolves {stack : StackId} {s : State} {t : State} (hx : execHbmSelfRefreshEntry stack s = .next t) : s.Evolves t := by
  unfold execHbmSelfRefreshEntry at hx
  cases hx
  repeat' (first | with_reducible (first | exact State.Evolves.refl _ | apply selfRefreshEntry_evolves | apply Verdict.Evolves.run | apply Verdict.Evolves.stop | apply Verdict.Evolves.wait | apply Verdict.Evolves.raise | assumption) | intro _ | split | dsimp only)

theorem selfRefreshExit_evolves {orig : State} {k : Nat} {s : State} (hev : orig.Evolves s) :
    orig.Evolves (selfRefreshExit k s) := by
  unfold selfRefreshExit
  repeat' (first | with_reducible (first | assumption | apply State.modStack_evolves) | intro _ | split | dsimp only)

theorem execHbmSelfRefreshExit_evolves {stack : StackId} {s : State} {t : State} (hx : execHbmSelfRefreshExit stack s = .next t) : s.Evolves t := by
  unfold execHbmSelfRefreshExit at hx
  cases hx
  repeat' (first | with_reducible (first | exact State.Evolves.refl _ | apply State.releaseHeld_evolves | apply selfRefreshExit_evolves | apply Verdict.Evolves.run | apply Verdict.Evolves.stop | apply Verdict.Evolves.wait | apply Verdict.Evolves.raise | assumption) | intro _ | split | dsimp only)

theorem execHarbourStackIdle_evolves {stack : StackId} {s : State} {t : State} (hx : execHarbourStackIdle stack s = .next t) : s.Evolves t := by
  unfold execHarbourStackIdle at hx
  cases hx
  repeat' (first | with_reducible (first | exact State.Evolves.refl _ | apply selfRefreshEntry_evolves | apply Verdict.Evolves.run | apply Verdict.Evolves.stop | apply Verdict.Evolves.wait | apply Verdict.Evolves.raise | assumption) | intro _ | split | dsimp only)

theorem hbmClearDone_evolves {orig : State} {p : Nat} {s : State} (hev : orig.Evolves s) :
    orig.Evolves (hbmClearDone p s) := by
  unfold hbmClearDone
  repeat' (first | with_reducible (first | assumption | apply State.modPart_evolves | apply State.clearEnds_evolves) | intro _ | split | dsimp only)

theorem execHbmClearDone_evolves {part : PartId} {s : State} {t : State} (hx : execHbmClearDone part s = .next t) : s.Evolves t := by
  unfold execHbmClearDone at hx
  cases hx
  repeat' (first | with_reducible (first | exact State.Evolves.refl _ | apply hbmClearDone_evolves | apply Verdict.Evolves.run | apply Verdict.Evolves.stop | apply Verdict.Evolves.wait | apply Verdict.Evolves.raise | assumption) | intro _ | split | dsimp only)

end Sys2Proof.Machine
end

