-- ==== Sys2Proof/Laws/EvolvesMesh.lean ====
section
/-! SUPPORT. Every operation of Machine/Mesh.lean evolves the state (Laws/Evolves.lean). -/

set_option linter.unreachableTactic false
set_option linter.unusedTactic false

namespace Sys2Proof.Machine

theorem State.whenType_evolves {orig : State} {s : State} {p : MeshPkt} {typ : Nat} {f : State → State} (hev : orig.Evolves s) (hf : ∀ t, orig.Evolves t → orig.Evolves (f t)) :
    orig.Evolves (State.whenType s p typ f) := by
  unfold State.whenType
  repeat' (first | with_reducible (first | assumption | apply hf | apply State.arrived_evolves) | intro _ | split | dsimp only)

theorem meshReadReq_evolves {orig : State} {p : MeshPkt} {s : State} (hev : orig.Evolves s) :
    orig.Evolves (meshReadReq p s) := by
  unfold meshReadReq
  repeat' (first | with_reducible (first | assumption | apply State.accept_evolves | apply reply_evolves | apply State.whenType_evolves) | intro _ | split | dsimp only)

theorem execMeshReadReq_evolves {p : MeshPkt} {s : State} {t : State} (hx : execMeshReadReq p s = .next t) : s.Evolves t := by
  unfold execMeshReadReq at hx
  cases hx
  repeat' (first | with_reducible (first | exact State.Evolves.refl _ | apply meshReadReq_evolves | apply Verdict.Evolves.run | apply Verdict.Evolves.stop | apply Verdict.Evolves.wait | apply Verdict.Evolves.raise | assumption) | intro _ | split | dsimp only)

theorem meshReadData_evolves {orig : State} {p : MeshPkt} {s : State} (hev : orig.Evolves s) :
    orig.Evolves (meshReadData p s) := by
  unfold meshReadData
  repeat' (first | with_reducible (first | assumption | apply State.acceptData_evolves | apply reply_evolves | apply State.whenType_evolves) | intro _ | split | dsimp only)

theorem execMeshReadData_evolves {p : MeshPkt} {s : State} {t : State} (hx : execMeshReadData p s = .next t) : s.Evolves t := by
  unfold execMeshReadData at hx
  cases hx
  repeat' (first | with_reducible (first | exact State.Evolves.refl _ | apply meshReadData_evolves | apply Verdict.Evolves.run | apply Verdict.Evolves.stop | apply Verdict.Evolves.wait | apply Verdict.Evolves.raise | assumption) | intro _ | split | dsimp only)

theorem meshWrite_evolves {orig : State} {p : MeshPkt} {s : State} (hev : orig.Evolves s) :
    orig.Evolves (meshWrite p s) := by
  unfold meshWrite
  repeat' (first | with_reducible (first | assumption | apply State.accept_evolves | apply reply_evolves | apply State.whenType_evolves) | intro _ | split | dsimp only)

theorem execMeshWrite_evolves {p : MeshPkt} {s : State} {t : State} (hx : execMeshWrite p s = .next t) : s.Evolves t := by
  unfold execMeshWrite at hx
  cases hx
  repeat' (first | with_reducible (first | exact State.Evolves.refl _ | apply meshWrite_evolves | apply Verdict.Evolves.run | apply Verdict.Evolves.stop | apply Verdict.Evolves.wait | apply Verdict.Evolves.raise | assumption) | intro _ | split | dsimp only)

theorem meshReduce_evolves {orig : State} {p : MeshPkt} {s : State} (hev : orig.Evolves s) :
    orig.Evolves (meshReduce p s) := by
  unfold meshReduce
  repeat' (first | with_reducible (first | assumption | apply State.accept_evolves | apply reply_evolves | apply State.whenType_evolves) | intro _ | split | dsimp only)

theorem execMeshReduce_evolves {p : MeshPkt} {s : State} {t : State} (hx : execMeshReduce p s = .next t) : s.Evolves t := by
  unfold execMeshReduce at hx
  cases hx
  repeat' (first | with_reducible (first | exact State.Evolves.refl _ | apply meshReduce_evolves | apply Verdict.Evolves.run | apply Verdict.Evolves.stop | apply Verdict.Evolves.wait | apply Verdict.Evolves.raise | assumption) | intro _ | split | dsimp only)

theorem meshRelay_evolves {orig : State} {p : MeshPkt} {s : State} (hev : orig.Evolves s) :
    orig.Evolves (meshRelay p s) := by
  unfold meshRelay
  repeat' (first | with_reducible (first | assumption | apply State.accept_evolves | apply reply_evolves | apply State.whenType_evolves) | intro _ | split | dsimp only)

theorem execMeshRelay_evolves {p : MeshPkt} {s : State} {t : State} (hx : execMeshRelay p s = .next t) : s.Evolves t := by
  unfold execMeshRelay at hx
  cases hx
  repeat' (first | with_reducible (first | exact State.Evolves.refl _ | apply meshRelay_evolves | apply Verdict.Evolves.run | apply Verdict.Evolves.stop | apply Verdict.Evolves.wait | apply Verdict.Evolves.raise | assumption) | intro _ | split | dsimp only)

theorem meshAck_evolves {orig : State} {p : MeshPkt} {s : State} (hev : orig.Evolves s) :
    orig.Evolves (meshAck p s) := by
  unfold meshAck
  repeat' (first | with_reducible (first | assumption | apply State.arrived_evolves | apply State.settleAck_evolves | apply State.whenType_evolves) | intro _ | split | dsimp only)

theorem execMeshAck_evolves {p : MeshPkt} {s : State} {t : State} (hx : execMeshAck p s = .next t) : s.Evolves t := by
  unfold execMeshAck at hx
  cases hx
  repeat' (first | with_reducible (first | exact State.Evolves.refl _ | apply meshAck_evolves | apply Verdict.Evolves.run | apply Verdict.Evolves.stop | apply Verdict.Evolves.wait | apply Verdict.Evolves.raise | assumption) | intro _ | split | dsimp only)

theorem meshStatus_evolves {orig : State} {p : MeshPkt} {s : State} (hev : orig.Evolves s) :
    orig.Evolves (meshStatus p s) := by
  unfold meshStatus
  repeat' (first | with_reducible (first | assumption | apply State.arrived_evolves | apply State.settleStatus_evolves | apply State.whenType_evolves) | intro _ | split | dsimp only)

theorem execMeshStatus_evolves {p : MeshPkt} {s : State} {t : State} (hx : execMeshStatus p s = .next t) : s.Evolves t := by
  unfold execMeshStatus at hx
  cases hx
  repeat' (first | with_reducible (first | exact State.Evolves.refl _ | apply meshStatus_evolves | apply Verdict.Evolves.run | apply Verdict.Evolves.stop | apply Verdict.Evolves.wait | apply Verdict.Evolves.raise | assumption) | intro _ | split | dsimp only)

theorem State.takeOnce_evolves {orig : State} {s : State} {p : MeshPkt} {f : State → State} (hev : orig.Evolves s) (hf : ∀ t, orig.Evolves t → orig.Evolves (f t)) :
    orig.Evolves (State.takeOnce s p f) := by
  unfold State.takeOnce
  repeat' (first | with_reducible (first | assumption | apply hf | apply State.answer_evolves | apply State.arrived_evolves | apply State.receive_evolves) | intro _ | split | dsimp only)

theorem meshToken_evolves {orig : State} {p : MeshPkt} {s : State} (hev : orig.Evolves s) :
    orig.Evolves (meshToken p s) := by
  unfold meshToken
  repeat' (first | with_reducible (first | assumption | apply State.modCore_evolves | apply State.whenType_evolves | apply State.takeOnce_evolves) | intro _ | split | dsimp only)

theorem execMeshToken_evolves {p : MeshPkt} {s : State} {t : State} (hx : execMeshToken p s = .next t) : s.Evolves t := by
  unfold execMeshToken at hx
  cases hx
  repeat' (first | with_reducible (first | exact State.Evolves.refl _ | apply meshToken_evolves | apply Verdict.Evolves.run | apply Verdict.Evolves.stop | apply Verdict.Evolves.wait | apply Verdict.Evolves.raise | assumption) | intro _ | split | dsimp only)

theorem State.returnCredit_evolves {orig : State} {s : State} {d : Nat} {i : Nat} (hev : orig.Evolves s) :
    orig.Evolves (State.returnCredit s d i) := by
  unfold State.returnCredit
  repeat' (first | with_reducible assumption | intro _ | split | dsimp only)

theorem meshCredit_evolves {orig : State} {p : MeshPkt} {s : State} (hev : orig.Evolves s) :
    orig.Evolves (meshCredit p s) := by
  unfold meshCredit
  repeat' (first | with_reducible (first | assumption | apply State.whenType_evolves | apply State.takeOnce_evolves | apply State.returnCredit_evolves) | intro _ | split | dsimp only)

theorem execMeshCredit_evolves {p : MeshPkt} {s : State} {t : State} (hx : execMeshCredit p s = .next t) : s.Evolves t := by
  unfold execMeshCredit at hx
  cases hx
  repeat' (first | with_reducible (first | exact State.Evolves.refl _ | apply meshCredit_evolves | apply Verdict.Evolves.run | apply Verdict.Evolves.stop | apply Verdict.Evolves.wait | apply Verdict.Evolves.raise | assumption) | intro _ | split | dsimp only)

theorem State.applyDelta_evolves {orig : State} {s : State} {p : MeshPkt} (hev : orig.Evolves s) :
    orig.Evolves (State.applyDelta s p) := by
  unfold State.applyDelta
  repeat' (first | with_reducible (first | assumption | apply State.Evolves.foldl | apply State.Evolves.foldl_fst) | intro _ | split | dsimp only)

theorem parityDelta_evolves {orig : State} {p : MeshPkt} {s : State} (hev : orig.Evolves s) :
    orig.Evolves (parityDelta p s) := by
  unfold parityDelta
  repeat' (first | with_reducible (first | assumption | apply State.whenType_evolves | apply State.takeOnce_evolves | apply State.applyDelta_evolves) | intro _ | split | dsimp only)

theorem execParityDelta_evolves {p : MeshPkt} {s : State} {t : State} (hx : execParityDelta p s = .next t) : s.Evolves t := by
  unfold execParityDelta at hx
  cases hx
  repeat' (first | with_reducible (first | exact State.Evolves.refl _ | apply parityDelta_evolves | apply Verdict.Evolves.run | apply Verdict.Evolves.stop | apply Verdict.Evolves.wait | apply Verdict.Evolves.raise | assumption) | intro _ | split | dsimp only)

theorem meshControl_evolves {orig : State} {p : MeshPkt} {s : State} (hev : orig.Evolves s) :
    orig.Evolves (meshControl p s) := by
  unfold meshControl
  repeat' (first | with_reducible (first | assumption | apply State.whenType_evolves | apply State.takeOnce_evolves) | intro _ | split | dsimp only)

theorem execMeshControl_evolves {p : MeshPkt} {s : State} {t : State} (hx : execMeshControl p s = .next t) : s.Evolves t := by
  unfold execMeshControl at hx
  cases hx
  repeat' (first | with_reducible (first | exact State.Evolves.refl _ | apply meshControl_evolves | apply Verdict.Evolves.run | apply Verdict.Evolves.stop | apply Verdict.Evolves.wait | apply Verdict.Evolves.raise | assumption) | intro _ | split | dsimp only)

theorem State.resend_evolves {orig : State} {s : State} {src : W16} {dest : W16} {assured : Bool} {seq : W32} (hev : orig.Evolves s) :
    orig.Evolves (State.resend s src dest assured seq) := by
  unfold State.resend
  repeat' (first | with_reducible (first | assumption | apply State.inject_evolves) | intro _ | split | dsimp only)

theorem execBulkResendTimeout_evolves {src : W16} {dest : W16} {seq : W32} {s : State} {t : State} (hx : execBulkResendTimeout src dest seq s = .next t) : s.Evolves t := by
  unfold execBulkResendTimeout at hx
  cases hx
  repeat' (first | with_reducible (first | exact State.Evolves.refl _ | apply State.resend_evolves | apply Verdict.Evolves.run | apply Verdict.Evolves.stop | apply Verdict.Evolves.wait | apply Verdict.Evolves.raise | assumption) | intro _ | split | dsimp only)

theorem execAssuredResendTimeout_evolves {src : W16} {dest : W16} {seq : W32} {s : State} {t : State} (hx : execAssuredResendTimeout src dest seq s = .next t) : s.Evolves t := by
  unfold execAssuredResendTimeout at hx
  cases hx
  repeat' (first | with_reducible (first | exact State.Evolves.refl _ | apply State.resend_evolves | apply Verdict.Evolves.run | apply Verdict.Evolves.stop | apply Verdict.Evolves.wait | apply Verdict.Evolves.raise | assumption) | intro _ | split | dsimp only)

theorem busyResend_evolves {orig : State} {src : W16} {dest : W16} {seq : W32} {s : State} (hev : orig.Evolves s) :
    orig.Evolves (busyResend src dest seq s) := by
  unfold busyResend
  repeat' (first | with_reducible (first | assumption | apply State.resend_evolves | apply State.Evolves.foldl | apply State.Evolves.foldl_fst) | intro _ | split | dsimp only)

theorem execBusyResend_evolves {src : W16} {dest : W16} {seq : W32} {s : State} {t : State} (hx : execBusyResend src dest seq s = .next t) : s.Evolves t := by
  unfold execBusyResend at hx
  cases hx
  repeat' (first | with_reducible (first | exact State.Evolves.refl _ | apply busyResend_evolves | apply Verdict.Evolves.run | apply Verdict.Evolves.stop | apply Verdict.Evolves.wait | apply Verdict.Evolves.raise | assumption) | intro _ | split | dsimp only)

theorem resettingRetry_evolves {orig : State} {src : W16} {dest : W16} {seq : W32} {s : State} (hev : orig.Evolves s) :
    orig.Evolves (resettingRetry src dest seq s) := by
  unfold resettingRetry
  repeat' (first | with_reducible (first | assumption | apply State.resend_evolves) | intro _ | split | dsimp only)

theorem execResettingRetry_evolves {src : W16} {dest : W16} {seq : W32} {s : State} {t : State} (hx : execResettingRetry src dest seq s = .next t) : s.Evolves t := by
  unfold execResettingRetry at hx
  cases hx
  repeat' (first | with_reducible (first | exact State.Evolves.refl _ | apply resettingRetry_evolves | apply Verdict.Evolves.run | apply Verdict.Evolves.stop | apply Verdict.Evolves.wait | apply Verdict.Evolves.raise | assumption) | intro _ | split | dsimp only)

theorem State.modLink_evolves {orig : State} {s : State} {n : Nat} {d : Nat} {f : PortSet → PortSet} (hev : orig.Evolves s) :
    orig.Evolves (State.modLink s n d f) := by
  unfold State.modLink
  repeat' (first | with_reducible (first | assumption | apply State.modPort_evolves) | intro _ | split | dsimp only)

theorem State.markHalfLost_evolves {orig : State} {s : State} {n : Nat} {d : Nat} {h : Bool} (hev : orig.Evolves s) :
    orig.Evolves (State.markHalfLost s n d h) := by
  unfold State.markHalfLost
  repeat' (first | with_reducible (first | assumption | apply State.modLink_evolves) | intro _ | split | dsimp only)

theorem State.loseLinkHalf_evolves {orig : State} {s : State} {n : Nat} {d : Nat} {h : Bool} {cause : Nat} {group : Nat} (hev : orig.Evolves s) :
    orig.Evolves (State.loseLinkHalf s n d h cause group) := by
  unfold State.loseLinkHalf
  repeat' (first | with_reducible (first | assumption | apply State.event_evolves | apply State.logRequest_evolves | apply State.markHalfLost_evolves) | intro _ | split | dsimp only)

theorem linkCrcError_evolves {orig : State} {n : Nat} {d : Nat} {h : Bool} {back : Nat} {s : State} (hev : orig.Evolves s) :
    orig.Evolves (linkCrcError n d h back s) := by
  unfold linkCrcError
  repeat' (first | with_reducible (first | assumption | apply State.emit_evolves | apply State.modPort_evolves | apply State.loseLinkHalf_evolves) | intro _ | split | dsimp only)

theorem execLinkCrcError_evolves {node : NodeId} {port : Fin 8} {half : Bool} {back : Fin 64} {s : State} {t : State} (hx : execLinkCrcError node port half back s = .next t) : s.Evolves t := by
  unfold execLinkCrcError at hx
  cases hx
  repeat' (first | with_reducible (first | exact State.Evolves.refl _ | apply linkCrcError_evolves | apply Verdict.Evolves.run | apply Verdict.Evolves.stop | apply Verdict.Evolves.wait | apply Verdict.Evolves.raise | assumption) | intro _ | split | dsimp only)

theorem wireTest_evolves {orig : State} {n : Nat} {d : Nat} {h : Bool} {s : State} (hev : orig.Evolves s) :
    orig.Evolves (wireTest n d h s) := by
  unfold wireTest
  repeat' (first | with_reducible (first | assumption | apply State.modPort_evolves | apply State.modLink_evolves) | intro _ | split | dsimp only)

theorem execWireTest_evolves {node : NodeId} {port : Fin 8} {half : Bool} {s : State} {t : State} (hx : execWireTest node port half s = .next t) : s.Evolves t := by
  unfold execWireTest at hx
  cases hx
  repeat' (first | with_reducible (first | exact State.Evolves.refl _ | apply wireTest_evolves | apply Verdict.Evolves.run | apply Verdict.Evolves.stop | apply Verdict.Evolves.wait | apply Verdict.Evolves.raise | assumption) | intro _ | split | dsimp only)

theorem State.testGroup_evolves {orig : State} {s : State} {n : Nat} {d : Nat} {h : Bool} {g : Nat} {fs : List (Fin 32 × Fin 130)} {pause : Nat} {replays : Nat} (hev : orig.Evolves s) :
    orig.Evolves (State.testGroup s n d h g fs pause replays).1 := by
  unfold State.testGroup
  repeat' (first | with_reducible (first | assumption | apply State.modPort_evolves | apply State.event_evolves | apply State.logRequest_evolves | apply State.Evolves.foldl | apply State.Evolves.foldl_fst) | intro _ | split | dsimp only)

theorem wireTestDone_evolves {orig : State} {n : Nat} {d : Nat} {h : Bool} {fs : List (Fin 32 × Fin 130)} {pause : Nat} {s : State} (hev : orig.Evolves s) :
    orig.Evolves (wireTestDone n d h fs pause s) := by
  unfold wireTestDone
  repeat' (first | with_reducible (first | assumption | apply State.modPort_evolves | apply State.modLink_evolves | apply State.loseLinkHalf_evolves | apply State.testGroup_evolves | apply State.Evolves.foldl | apply State.Evolves.foldl_fst) | intro _ | split | dsimp only)

theorem execWireTestDone_evolves {node : NodeId} {port : Fin 8} {half : Bool} {failing : List (Fin 32 × Fin 130)} {pauseNs : W32} {s : State} {t : State} (hx : execWireTestDone node port half failing pauseNs s = .next t) : s.Evolves t := by
  unfold execWireTestDone at hx
  cases hx
  repeat' (first | with_reducible (first | exact State.Evolves.refl _ | apply wireTestDone_evolves | apply Verdict.Evolves.run | apply Verdict.Evolves.stop | apply Verdict.Evolves.wait | apply Verdict.Evolves.raise | assumption) | intro _ | split | dsimp only)

theorem routerHalfError_evolves {orig : State} {n : Nat} {h : Bool} {s : State} (hev : orig.Evolves s) :
    orig.Evolves (routerHalfError n h s) := by
  unfold routerHalfError
  repeat' (first | with_reducible (first | assumption | apply State.event_evolves | apply State.logRequest_evolves | apply State.markHalfLost_evolves | apply State.Evolves.foldl | apply State.Evolves.foldl_fst) | intro _ | split | dsimp only)

theorem execRouterHalfInternalError_evolves {node : NodeId} {half : Bool} {s : State} {t : State} (hx : execRouterHalfInternalError node half s = .next t) : s.Evolves t := by
  unfold execRouterHalfInternalError at hx
  cases hx
  repeat' (first | with_reducible (first | exact State.Evolves.refl _ | apply routerHalfError_evolves | apply Verdict.Evolves.run | apply Verdict.Evolves.stop | apply Verdict.Evolves.wait | apply Verdict.Evolves.raise | assumption) | intro _ | split | dsimp only)

theorem detourInstall_evolves {orig : State} {n : Nat} {d : Nat} {h : Bool} {s : State} (hev : orig.Evolves s) :
    orig.Evolves (detourInstall n d h s) := by
  unfold detourInstall
  repeat' (first | with_reducible (first | assumption | apply State.modLink_evolves) | intro _ | split | dsimp only)

theorem execDetourInstall_evolves {node : NodeId} {port : Fin 8} {half : Bool} {s : State} {t : State} (hx : execDetourInstall node port half s = .next t) : s.Evolves t := by
  unfold execDetourInstall at hx
  cases hx
  repeat' (first | with_reducible (first | exact State.Evolves.refl _ | apply detourInstall_evolves | apply Verdict.Evolves.run | apply Verdict.Evolves.stop | apply Verdict.Evolves.wait | apply Verdict.Evolves.raise | assumption) | intro _ | split | dsimp only)

end Sys2Proof.Machine
end

