-- ==== Sys2Proof/Laws/EvolvesStrait.lean ====
section
/-! SUPPORT. Every operation of Machine/Strait.lean evolves the state (Laws/Evolves.lean). -/

set_option linter.unreachableTactic false
set_option linter.unusedTactic false

namespace Sys2Proof.Machine

theorem flitCrcError_evolves {orig : State} {e : Nat} {f : Flit} {s : State} (hev : orig.Evolves s) :
    orig.Evolves (flitCrcError e f s) := by
  unfold flitCrcError
  repeat' (first | with_reducible (first | assumption | apply State.emit_evolves | apply State.modEngine_evolves) | intro _ | split | dsimp only)

theorem execFlitCrcError_evolves {e : EngineId} {f : Flit} {s : State} {t : State} (hx : execFlitCrcError e f s = .next t) : s.Evolves t := by
  unfold execFlitCrcError at hx
  cases hx
  repeat' (first | with_reducible (first | exact State.Evolves.refl _ | apply flitCrcError_evolves | apply Verdict.Evolves.run | apply Verdict.Evolves.stop | apply Verdict.Evolves.wait | apply Verdict.Evolves.raise | assumption) | intro _ | split | dsimp only)

theorem linkControlFlit_evolves {orig : State} {e : Nat} {missing : W16} {s : State} (hev : orig.Evolves s) :
    orig.Evolves (linkControlFlit e missing s) := by
  unfold linkControlFlit
  repeat' (first | with_reducible (first | assumption | apply State.emit_evolves | apply State.store_evolves) | intro _ | split | dsimp only)

theorem execLinkControlFlit_evolves {e : EngineId} {missing : W16} {s : State} {t : State} (hx : execLinkControlFlit e missing s = .next t) : s.Evolves t := by
  unfold execLinkControlFlit at hx
  cases hx
  repeat' (first | with_reducible (first | exact State.Evolves.refl _ | apply linkControlFlit_evolves | apply Verdict.Evolves.run | apply Verdict.Evolves.stop | apply Verdict.Evolves.wait | apply Verdict.Evolves.raise | assumption) | intro _ | split | dsimp only)

theorem laneFailure_evolves {orig : State} {e : Nat} {lane : Nat} {s : State} (hev : orig.Evolves s) :
    orig.Evolves (laneFailure e lane s) := by
  unfold laneFailure
  repeat' (first | with_reducible (first | assumption | apply State.modEngine_evolves) | intro _ | split | dsimp only)

theorem execLaneFailure_evolves {e : EngineId} {lane : Fin 9} {s : State} {t : State} (hx : execLaneFailure e lane s = .next t) : s.Evolves t := by
  unfold execLaneFailure at hx
  cases hx
  repeat' (first | with_reducible (first | exact State.Evolves.refl _ | apply laneFailure_evolves | apply Verdict.Evolves.run | apply Verdict.Evolves.stop | apply Verdict.Evolves.wait | apply Verdict.Evolves.raise | assumption) | intro _ | split | dsimp only)

theorem State.laneOut_evolves {orig : State} {s : State} {e : Nat} {lane : Nat} (hev : orig.Evolves s) :
    orig.Evolves (State.laneOut s e lane) := by
  unfold State.laneOut
  repeat' (first | with_reducible (first | assumption | apply State.modEngine_evolves | apply State.logRequest_evolves | apply State.laneEvent_evolves) | intro _ | split | dsimp only)

theorem lanePauseEnd_evolves {orig : State} {e : Nat} {s : State} (hev : orig.Evolves s) :
    orig.Evolves (lanePauseEnd e s) := by
  unfold lanePauseEnd
  repeat' (first | with_reducible (first | assumption | apply State.modEngine_evolves | apply State.sendFlits_evolves | apply State.laneOut_evolves | apply State.Evolves.foldl | apply State.Evolves.foldl_fst) | intro _ | split | dsimp only)

theorem execLanePauseEnd_evolves {e : EngineId} {s : State} {t : State} (hx : execLanePauseEnd e s = .next t) : s.Evolves t := by
  unfold execLanePauseEnd at hx
  cases hx
  repeat' (first | with_reducible (first | exact State.Evolves.refl _ | apply lanePauseEnd_evolves | apply Verdict.Evolves.run | apply Verdict.Evolves.stop | apply Verdict.Evolves.wait | apply Verdict.Evolves.raise | assumption) | intro _ | split | dsimp only)

theorem State.announce_evolves {orig : State} {s : State} (hev : orig.Evolves s) :
    orig.Evolves (State.announce s) := by
  unfold State.announce
  repeat' (first | with_reducible (first | assumption | apply State.sendMember_evolves | apply State.Evolves.foldl | apply State.Evolves.foldl_fst) | intro _ | split | dsimp only)

theorem State.useLanes_evolves {orig : State} {s : State} {e : Nat} (hev : orig.Evolves s) :
    orig.Evolves (State.useLanes s e) := by
  unfold State.useLanes
  repeat' (first | with_reducible (first | assumption | apply State.modEngine_evolves) | intro _ | split | dsimp only)

theorem engineLinkUp_evolves {orig : State} {e : Nat} {peerSeat : Nat} {peerEngine : Nat} {serial : BitVec 128} {signed : Bool} {s : State} (hev : orig.Evolves s) :
    orig.Evolves (engineLinkUp e peerSeat peerEngine serial signed s) := by
  unfold engineLinkUp
  repeat' (first | with_reducible (first | assumption | apply State.modEngine_evolves | apply State.laneEvent_evolves | apply State.announce_evolves | apply State.useLanes_evolves | apply State.Evolves.foldl | apply State.Evolves.foldl_fst) | intro _ | split | dsimp only)

theorem execEngineLinkUp_evolves {e : EngineId} {peerSeat : Fin 64} {peerEngine : Fin 24} {serial : BitVec 128} {signed : Bool} {s : State} {t : State} (hx : execEngineLinkUp e peerSeat peerEngine serial signed s = .next t) : s.Evolves t := by
  unfold execEngineLinkUp at hx
  cases hx
  repeat' (first | with_reducible (first | exact State.Evolves.refl _ | apply engineLinkUp_evolves | apply Verdict.Evolves.run | apply Verdict.Evolves.stop | apply Verdict.Evolves.wait | apply Verdict.Evolves.raise | assumption) | intro _ | split | dsimp only)

theorem State.collectivePacket_evolves {orig : State} {s : State} {e : Nat} {p : StraitPkt} {typ : Nat} {act : Nat → State → State} (hev : orig.Evolves s) (hact : ∀ k t, orig.Evolves t → orig.Evolves (act k t)) :
    orig.Evolves (State.collectivePacket s e p typ act) := by
  unfold State.collectivePacket
  repeat' (first | with_reducible (first | assumption | apply hact | apply State.traffic_evolves | apply State.straitAnswer_evolves | apply State.straitPacket_evolves | apply State.straitFresh_evolves | apply reply_evolves) | intro _ | split | dsimp only)

theorem State.passOn_evolves {orig : State} {s : State} {k : Nat} {p : StraitPkt} (hev : orig.Evolves s) :
    orig.Evolves (State.passOn s k p) := by
  unfold State.passOn
  repeat' (first | with_reducible (first | assumption | apply State.sendStrait_evolves | apply State.Evolves.foldl | apply State.Evolves.foldl_fst) | intro _ | split | dsimp only)

theorem straitData_evolves {orig : State} {e : Nat} {p : StraitPkt} {s : State} (hev : orig.Evolves s) :
    orig.Evolves (straitData e p s) := by
  unfold straitData
  repeat' (first | with_reducible (first | assumption | apply State.partWrite_evolves | apply State.collectivePacket_evolves | apply State.passOn_evolves) | intro _ | split | dsimp only)

theorem execStraitData_evolves {e : EngineId} {p : StraitPkt} {s : State} {t : State} (hx : execStraitData e p s = .next t) : s.Evolves t := by
  unfold execStraitData at hx
  cases hx
  repeat' (first | with_reducible (first | exact State.Evolves.refl _ | apply straitData_evolves | apply Verdict.Evolves.run | apply Verdict.Evolves.stop | apply Verdict.Evolves.wait | apply Verdict.Evolves.raise | assumption) | intro _ | split | dsimp only)

theorem straitAck_evolves {orig : State} {e : Nat} {p : StraitPkt} {s : State} (hev : orig.Evolves s) :
    orig.Evolves (straitAck e p s) := by
  unfold straitAck
  repeat' (first | with_reducible (first | assumption | apply State.straitPacket_evolves | apply State.straitDone_evolves) | intro _ | split | dsimp only)

theorem execStraitAck_evolves {e : EngineId} {p : StraitPkt} {s : State} {t : State} (hx : execStraitAck e p s = .next t) : s.Evolves t := by
  unfold execStraitAck at hx
  cases hx
  repeat' (first | with_reducible (first | exact State.Evolves.refl _ | apply straitAck_evolves | apply Verdict.Evolves.run | apply Verdict.Evolves.stop | apply Verdict.Evolves.wait | apply Verdict.Evolves.raise | assumption) | intro _ | split | dsimp only)

theorem State.failCollectives_evolves {orig : State} {s : State} {g : W32} {turn : Nat} {st : W16} (hev : orig.Evolves s) :
    orig.Evolves (State.failCollectives s g turn st) := by
  unfold State.failCollectives
  repeat' (first | with_reducible (first | assumption | apply State.holdStatus_evolves) | intro _ | split | dsimp only)

theorem straitStatus_evolves {orig : State} {e : Nat} {p : StraitPkt} {s : State} (hev : orig.Evolves s) :
    orig.Evolves (straitStatus e p s) := by
  unfold straitStatus
  repeat' (first | with_reducible (first | assumption | apply State.straitPacket_evolves | apply State.straitDone_evolves | apply State.failCollectives_evolves) | intro _ | split | dsimp only)

theorem execStraitStatus_evolves {e : EngineId} {p : StraitPkt} {s : State} {t : State} (hx : execStraitStatus e p s = .next t) : s.Evolves t := by
  unfold execStraitStatus at hx
  cases hx
  repeat' (first | with_reducible (first | exact State.Evolves.refl _ | apply straitStatus_evolves | apply Verdict.Evolves.run | apply Verdict.Evolves.stop | apply Verdict.Evolves.wait | apply Verdict.Evolves.raise | assumption) | intro _ | split | dsimp only)

theorem State.straitRecord_evolves {orig : State} {s : State} {p : Nat} {e : Nat} {seat : Nat} {turn : Nat} {step : Nat} (hev : orig.Evolves s) :
    orig.Evolves (State.straitRecord s p e seat turn step) := by
  unfold State.straitRecord
  repeat' (first | with_reducible (first | assumption | apply State.modJob_evolves) | intro _ | split | dsimp only)

theorem State.setCollective_evolves {orig : State} {s : State} {c : Collective} {d : Collective} (hev : orig.Evolves s) :
    orig.Evolves (State.setCollective s c d) := by
  unfold State.setCollective
  repeat' (first | with_reducible assumption | intro _ | split | dsimp only)

theorem State.combineOne_evolves {orig : State} {s : State} {k : Nat} {turn : Nat} {red : Nat} {acc : List Byte × SMap Nat} {b : PartialBlock} (hev : orig.Evolves s) :
    orig.Evolves (State.combineOne s k turn red acc b).1 := by
  unfold State.combineOne
  repeat' (first | with_reducible (first | assumption | apply State.straitRecord_evolves) | intro _ | split | dsimp only)

theorem State.combined_evolves {orig : State} {s : State} {k : Nat} {e : Nat} {c : Collective} {h : Chunk} {addr : Nat} {data : List Byte} (hev : orig.Evolves s) :
    orig.Evolves (State.combined s k e c h addr data) := by
  unfold State.combined
  repeat' (first | with_reducible (first | assumption | apply State.sendStrait_evolves | apply State.partWrite_evolves | apply State.Evolves.foldl | apply State.Evolves.foldl_fst) | intro _ | split | dsimp only)

theorem State.takeBlock_evolves {orig : State} {s : State} {k : Nat} {c : Collective} {h : Chunk} {b : PartialBlock} (hev : orig.Evolves s) :
    orig.Evolves (State.takeBlock s k c h b) := by
  unfold State.takeBlock
  repeat' (first | with_reducible (first | assumption | apply State.arrived_evolves | apply State.setCollective_evolves | apply State.combineOne_evolves | apply State.combined_evolves | apply State.Evolves.foldl | apply State.Evolves.foldl_fst) | intro _ | split | dsimp only)

theorem straitReduce_evolves {orig : State} {e : Nat} {p : StraitPkt} {s : State} (hev : orig.Evolves s) :
    orig.Evolves (straitReduce e p s) := by
  unfold straitReduce
  repeat' (first | with_reducible (first | assumption | apply State.collectivePacket_evolves | apply State.takeBlock_evolves) | intro _ | split | dsimp only)

theorem execStraitReduce_evolves {e : EngineId} {p : StraitPkt} {s : State} {t : State} (hx : execStraitReduce e p s = .next t) : s.Evolves t := by
  unfold execStraitReduce at hx
  cases hx
  repeat' (first | with_reducible (first | exact State.Evolves.refl _ | apply straitReduce_evolves | apply Verdict.Evolves.run | apply Verdict.Evolves.stop | apply Verdict.Evolves.wait | apply Verdict.Evolves.raise | assumption) | intro _ | split | dsimp only)

theorem collectiveComplete_evolves {orig : State} {g : W32} {turn slot : Nat} {st : W16} {s : State} (hev : orig.Evolves s) :
    orig.Evolves (collectiveComplete g turn slot st s) := by
  unfold collectiveComplete
  split
  · exact hev
  · dsimp only
    split
    · exact hev
    · split
      · exact State.holdStatus_evolves hev
      · apply State.endWait_evolves
        split
        · exact State.partWrite_evolves hev
        · exact hev

theorem execCollectiveComplete_evolves {group : W32} {turn : W64} {slot : Byte} {status : W16} {s : State} {t : State} (hx : execCollectiveComplete group turn slot status s = .next t) : s.Evolves t := by
  unfold execCollectiveComplete at hx
  cases hx
  repeat' (first | with_reducible (first | exact State.Evolves.refl _ | apply collectiveComplete_evolves | apply Verdict.Evolves.run | apply Verdict.Evolves.stop | apply Verdict.Evolves.wait | apply Verdict.Evolves.raise | assumption) | intro _ | split | dsimp only)

theorem straitResend_evolves {orig : State} {dest : Nat} {seq : W32} {assured : Bool} {mark : Byte} {s : State} (hev : orig.Evolves s) :
    orig.Evolves (straitResend dest seq assured mark s) := by
  unfold straitResend
  repeat' (first | with_reducible (first | assumption | apply State.leaveStrait_evolves) | intro _ | split | dsimp only)

theorem execStraitBulkResend_evolves {destSeat : Fin 64} {seq : W32} {s : State} {t : State} (hx : execStraitBulkResend destSeat seq s = .next t) : s.Evolves t := by
  unfold execStraitBulkResend at hx
  cases hx
  repeat' (first | with_reducible (first | exact State.Evolves.refl _ | apply straitResend_evolves | apply Verdict.Evolves.run | apply Verdict.Evolves.stop | apply Verdict.Evolves.wait | apply Verdict.Evolves.raise | assumption) | intro _ | split | dsimp only)

theorem execStraitAssuredResend_evolves {destSeat : Fin 64} {seq : W32} {s : State} {t : State} (hx : execStraitAssuredResend destSeat seq s = .next t) : s.Evolves t := by
  unfold execStraitAssuredResend at hx
  cases hx
  repeat' (first | with_reducible (first | exact State.Evolves.refl _ | apply straitResend_evolves | apply Verdict.Evolves.run | apply Verdict.Evolves.stop | apply Verdict.Evolves.wait | apply Verdict.Evolves.raise | assumption) | intro _ | split | dsimp only)

theorem State.releaseResponses_evolves {orig : State} {s : State} (hev : orig.Evolves s) :
    orig.Evolves (State.releaseResponses s) := by
  unfold State.releaseResponses
  repeat' (first | with_reducible (first | assumption | apply State.emit_evolves | apply State.Evolves.foldl | apply State.Evolves.foldl_fst) | intro _ | split | dsimp only)

theorem State.remirror_evolves {orig : State} {s : State} (hev : orig.Evolves s) :
    orig.Evolves (State.remirror s) := by
  unfold State.remirror
  repeat' (first | with_reducible (first | assumption | apply State.sendStrait_evolves | apply State.releaseResponses_evolves | apply State.Evolves.foldl | apply State.Evolves.foldl_fst) | intro _ | split | dsimp only)

theorem journalMirror_evolves {orig : State} {e : Nat} {p : StraitPkt} {entry : List Byte} {s : State} (hev : orig.Evolves s) :
    orig.Evolves (journalMirror e p entry s) := by
  unfold journalMirror
  repeat' (first | with_reducible (first | assumption | apply State.straitTake_evolves) | intro _ | split | dsimp only)

theorem execJournalMirror_evolves {e : EngineId} {p : StraitPkt} {entry : List Byte} {s : State} {t : State} (hx : execJournalMirror e p entry s = .next t) : s.Evolves t := by
  unfold execJournalMirror at hx
  cases hx
  repeat' (first | with_reducible (first | exact State.Evolves.refl _ | apply journalMirror_evolves | apply Verdict.Evolves.run | apply Verdict.Evolves.stop | apply Verdict.Evolves.wait | apply Verdict.Evolves.raise | assumption) | intro _ | split | dsimp only)

theorem mirrorAck_evolves {orig : State} {e : Nat} {p : StraitPkt} {jseq : Nat} {s : State} (hev : orig.Evolves s) :
    orig.Evolves (mirrorAck e p jseq s) := by
  unfold mirrorAck
  repeat' (first | with_reducible (first | assumption | apply State.straitPacket_evolves | apply State.straitDone_evolves | apply State.finishWrites_evolves | apply State.releaseResponses_evolves) | intro _ | split | dsimp only)

theorem execMirrorAck_evolves {e : EngineId} {p : StraitPkt} {jseq : W64} {s : State} {t : State} (hx : execMirrorAck e p jseq s = .next t) : s.Evolves t := by
  unfold execMirrorAck at hx
  cases hx
  repeat' (first | with_reducible (first | exact State.Evolves.refl _ | apply mirrorAck_evolves | apply Verdict.Evolves.run | apply Verdict.Evolves.stop | apply Verdict.Evolves.wait | apply Verdict.Evolves.raise | assumption) | intro _ | split | dsimp only)

theorem State.setMap_evolves {orig : State} {s : State} {state : Nat} {members : W64} {epoch : W16} {master : Nat} {deputy : Nat} (hev : orig.Evolves s) :
    orig.Evolves (State.setMap s state members epoch master deputy) := by
  unfold State.setMap
  repeat' (first | with_reducible (first | assumption | apply State.remirror_evolves) | intro _ | split | dsimp only)

theorem State.sendMap_evolves {orig : State} {s : State} {planned : Bool} (hev : orig.Evolves s) :
    orig.Evolves (State.sendMap s planned) := by
  unfold State.sendMap
  repeat' (first | with_reducible (first | assumption | apply State.sendMember_evolves | apply State.Evolves.foldl | apply State.Evolves.foldl_fst) | intro _ | split | dsimp only)

theorem State.takeoverEvent_evolves {orig : State} {s : State} {reason : Nat} {old : Nat} (hev : orig.Evolves s) :
    orig.Evolves (State.takeoverEvent s reason old) := by
  unfold State.takeoverEvent
  repeat' (first | with_reducible (first | assumption | apply State.event_evolves) | intro _ | split | dsimp only)

theorem State.leftEvent_evolves {orig : State} {s : State} {reason : Nat} {seat : Nat} (hev : orig.Evolves s) :
    orig.Evolves (State.leftEvent s reason seat) := by
  unfold State.leftEvent
  repeat' (first | with_reducible (first | assumption | apply State.event_evolves) | intro _ | split | dsimp only)

theorem State.groupsLose_evolves {orig : State} {s : State} {seat : Nat} (hev : orig.Evolves s) :
    orig.Evolves (State.groupsLose s seat) := by
  unfold State.groupsLose
  repeat' (first | with_reducible (first | assumption | apply State.modJob_evolves | apply State.holdCapacity_evolves | apply State.Evolves.foldl | apply State.Evolves.foldl_fst) | intro _ | split | dsimp only)

theorem State.settleLost_evolves {orig : State} {s : State} (hev : orig.Evolves s) :
    orig.Evolves (State.settleLost s) := by
  unfold State.settleLost
  repeat' (first | with_reducible (first | assumption | apply State.modJob_evolves | apply State.holdCapacity_evolves | apply State.Evolves.foldl | apply State.Evolves.foldl_fst) | intro _ | split | dsimp only)

theorem State.completeDecided_evolves {orig : State} {s : State} (hev : orig.Evolves s) :
    orig.Evolves (State.completeDecided s) := by
  unfold State.completeDecided
  repeat' (first | with_reducible (first | assumption | apply State.modJob_evolves | apply State.sendCommit_evolves | apply State.Evolves.foldl | apply State.Evolves.foldl_fst) | intro _ | split | dsimp only)

theorem State.seatsGone_evolves {orig : State} {s : State} {seats : W64} {reason : Nat} (hev : orig.Evolves s) :
    orig.Evolves (State.seatsGone s seats reason) := by
  unfold State.seatsGone
  repeat' (first | with_reducible (first | assumption | apply State.reportAgain_evolves | apply State.setMap_evolves | apply State.sendMap_evolves | apply State.takeoverEvent_evolves | apply State.leftEvent_evolves | apply State.groupsLose_evolves | apply State.completeDecided_evolves | apply State.Evolves.foldl | apply State.Evolves.foldl_fst) | intro _ | split | dsimp only)

theorem State.isolate_evolves {orig : State} {s : State} {gone : W64} {side : W64} (hev : orig.Evolves s) :
    orig.Evolves (State.isolate s gone side) := by
  unfold State.isolate
  repeat' (first | with_reducible (first | assumption | apply State.holdCapacity_evolves | apply State.remirror_evolves | apply State.leftEvent_evolves | apply State.Evolves.foldl | apply State.Evolves.foldl_fst) | intro _ | split | dsimp only)

theorem memberLossTimeout_evolves {orig : State} {seat : Nat} {unheard : W64} {s : State} (hev : orig.Evolves s) :
    orig.Evolves (memberLossTimeout seat unheard s) := by
  unfold memberLossTimeout
  repeat' (first | with_reducible (first | assumption | apply State.seatsGone_evolves | apply State.isolate_evolves) | intro _ | split | dsimp only)

theorem execMemberLossTimeout_evolves {seat : Fin 64} {unheard : W64} {s : State} {t : State} (hx : execMemberLossTimeout seat unheard s = .next t) : s.Evolves t := by
  unfold execMemberLossTimeout at hx
  cases hx
  repeat' (first | with_reducible (first | exact State.Evolves.refl _ | apply memberLossTimeout_evolves | apply Verdict.Evolves.run | apply Verdict.Evolves.stop | apply Verdict.Evolves.wait | apply Verdict.Evolves.raise | assumption) | intro _ | split | dsimp only)

theorem State.joinNotice_evolves {orig : State} {s : State} {seat : Nat} (hev : orig.Evolves s) :
    orig.Evolves (State.joinNotice s seat) := by
  unfold State.joinNotice
  repeat' (first | with_reducible (first | assumption | apply State.sendMember_evolves | apply State.setMap_evolves | apply State.sendMap_evolves | apply State.takeoverEvent_evolves) | intro _ | split | dsimp only)

theorem State.mapNotice_evolves {orig : State} {s : State} {members : W64} {epoch : W16} {master : Nat} {deputy : Nat} {planned : Bool} (hev : orig.Evolves s) :
    orig.Evolves (State.mapNotice s members epoch master deputy planned) := by
  unfold State.mapNotice
  repeat' (first | with_reducible (first | assumption | apply State.reportAgain_evolves | apply State.setMap_evolves | apply State.takeoverEvent_evolves | apply State.leftEvent_evolves | apply State.groupsLose_evolves | apply State.ready_evolves | apply State.Evolves.foldl | apply State.Evolves.foldl_fst) | intro _ | split | dsimp only)

theorem State.takeGroups_evolves {orig : State} {s : State} {groups : List (W32 × Group)} (hev : orig.Evolves s) :
    orig.Evolves (State.takeGroups s groups) := by
  unfold State.takeGroups
  repeat' (first | with_reducible (first | assumption | apply State.setGroup_evolves | apply State.Evolves.foldl | apply State.Evolves.foldl_fst) | intro _ | split | dsimp only)

theorem State.memberHeld_evolves {orig : State} {s : State} {seat : Nat} {g : W32} {ended : Bool} (hev : orig.Evolves s) :
    orig.Evolves (State.memberHeld s seat g ended) := by
  unfold State.memberHeld
  repeat' (first | with_reducible (first | assumption | apply State.modJob_evolves | apply State.holdCapacity_evolves | apply State.setGroup_evolves) | intro _ | split | dsimp only)

theorem membership_evolves {orig : State} {e : Nat} {p : StraitPkt} {note : MemberNote} {s : State} (hev : orig.Evolves s) :
    orig.Evolves (membership e p note s) := by
  unfold membership
  repeat' (first | with_reducible (first | assumption | apply State.straitTake_evolves | apply State.setGroup_evolves | apply State.noteReport_evolves | apply State.runAdmitted_evolves | apply State.failCollectives_evolves | apply State.seatsGone_evolves | apply State.joinNotice_evolves | apply State.mapNotice_evolves | apply State.takeGroups_evolves | apply State.memberHeld_evolves) | intro _ | split | dsimp only)

theorem execMembership_evolves {e : EngineId} {p : StraitPkt} {note : MemberNote} {s : State} {t : State} (hx : execMembership e p note s = .next t) : s.Evolves t := by
  unfold execMembership at hx
  cases hx
  repeat' (first | with_reducible (first | exact State.Evolves.refl _ | apply membership_evolves | apply Verdict.Evolves.run | apply Verdict.Evolves.stop | apply Verdict.Evolves.wait | apply Verdict.Evolves.raise | assumption) | intro _ | split | dsimp only)

theorem joinElectionTimeout_evolves {orig : State} {s : State} (hev : orig.Evolves s) :
    orig.Evolves (joinElectionTimeout s) := by
  unfold joinElectionTimeout
  repeat' (first | with_reducible (first | assumption | apply State.reportAgain_evolves | apply State.setMap_evolves | apply State.sendMap_evolves | apply State.ready_evolves) | intro _ | split | dsimp only)

theorem execJoinElectionTimeout_evolves {s : State} {t : State} (hx : execJoinElectionTimeout s = .next t) : s.Evolves t := by
  unfold execJoinElectionTimeout at hx
  cases hx
  repeat' (first | with_reducible (first | exact State.Evolves.refl _ | apply joinElectionTimeout_evolves | apply Verdict.Evolves.run | apply Verdict.Evolves.stop | apply Verdict.Evolves.wait | apply Verdict.Evolves.raise | assumption) | intro _ | split | dsimp only)

theorem State.notePace_evolves {orig : State} {s : State} {seat : Nat} {g : W32} {pace : Nat} (hev : orig.Evolves s) :
    orig.Evolves (State.notePace s seat g pace) := by
  unfold State.notePace
  repeat' (first | with_reducible (first | assumption | apply State.setGroup_evolves | apply State.Evolves.foldl | apply State.Evolves.foldl_fst) | intro _ | split | dsimp only)

theorem paceReportTick_evolves {orig : State} {s : State} (hev : orig.Evolves s) :
    orig.Evolves (paceReportTick s) := by
  unfold paceReportTick
  repeat' (first | with_reducible (first | assumption | apply State.emit_evolves | apply State.sendStrait_evolves | apply State.setGroup_evolves | apply State.notePace_evolves | apply State.Evolves.foldl | apply State.Evolves.foldl_fst) | intro _ | split | dsimp only)

theorem execPaceReportTick_evolves {s : State} {t : State} (hx : execPaceReportTick s = .next t) : s.Evolves t := by
  unfold execPaceReportTick at hx
  cases hx
  repeat' (first | with_reducible (first | exact State.Evolves.refl _ | apply paceReportTick_evolves | apply Verdict.Evolves.run | apply Verdict.Evolves.stop | apply Verdict.Evolves.wait | apply Verdict.Evolves.raise | assumption) | intro _ | split | dsimp only)

theorem paceReport_evolves {orig : State} {e : Nat} {p : StraitPkt} {reports : List (W32 × W16)} {s : State} (hev : orig.Evolves s) :
    orig.Evolves (paceReport e p reports s) := by
  unfold paceReport
  repeat' (first | with_reducible (first | assumption | apply State.straitTake_evolves | apply State.notePace_evolves | apply State.Evolves.foldl | apply State.Evolves.foldl_fst) | intro _ | split | dsimp only)

theorem execPaceReport_evolves {e : EngineId} {p : StraitPkt} {reports : List (W32 × W16)} {s : State} {t : State} (hx : execPaceReport e p reports s = .next t) : s.Evolves t := by
  unfold execPaceReport at hx
  cases hx
  repeat' (first | with_reducible (first | exact State.Evolves.refl _ | apply paceReport_evolves | apply Verdict.Evolves.run | apply Verdict.Evolves.stop | apply Verdict.Evolves.wait | apply Verdict.Evolves.raise | assumption) | intro _ | split | dsimp only)

theorem paceTimeTick_evolves {orig : State} {s : State} (hev : orig.Evolves s) :
    orig.Evolves (paceTimeTick s) := by
  unfold paceTimeTick
  repeat' (first | with_reducible (first | assumption | apply State.emit_evolves | apply State.sendStrait_evolves | apply State.settleLost_evolves | apply State.Evolves.foldl | apply State.Evolves.foldl_fst) | intro _ | split | dsimp only)

theorem execPaceTimeTick_evolves {s : State} {t : State} (hx : execPaceTimeTick s = .next t) : s.Evolves t := by
  unfold execPaceTimeTick at hx
  cases hx
  repeat' (first | with_reducible (first | exact State.Evolves.refl _ | apply paceTimeTick_evolves | apply Verdict.Evolves.run | apply Verdict.Evolves.stop | apply Verdict.Evolves.wait | apply Verdict.Evolves.raise | assumption) | intro _ | split | dsimp only)

theorem State.steer_evolves {orig : State} {s : State} {offset : W64} (hev : orig.Evolves s) :
    orig.Evolves (State.steer s offset) := by
  unfold State.steer
  repeat' (first | with_reducible assumption | intro _ | split | dsimp only)

theorem paceTime_evolves {orig : State} {e : Nat} {p : StraitPkt} {masterTime : W64} {otherHops : W64} {sets : List (W32 × W16)} {s : State} (hev : orig.Evolves s) :
    orig.Evolves (paceTime e p masterTime otherHops sets s) := by
  unfold paceTime
  repeat' (first | with_reducible (first | assumption | apply State.straitTake_evolves | apply State.setGroup_evolves | apply State.settleLost_evolves | apply State.steer_evolves | apply State.Evolves.foldl | apply State.Evolves.foldl_fst) | intro _ | split | dsimp only)

theorem execPaceTime_evolves {e : EngineId} {p : StraitPkt} {masterTime : W64} {otherHops : W64} {setPoints : List (W32 × W16)} {s : State} {t : State} (hx : execPaceTime e p masterTime otherHops setPoints s = .next t) : s.Evolves t := by
  unfold execPaceTime at hx
  cases hx
  repeat' (first | with_reducible (first | exact State.Evolves.refl _ | apply paceTime_evolves | apply Verdict.Evolves.run | apply Verdict.Evolves.stop | apply Verdict.Evolves.wait | apply Verdict.Evolves.raise | assumption) | intro _ | split | dsimp only)

theorem linkDelayMeasure_evolves {orig : State} {e : Nat} {tenths : Nat} {s : State} (hev : orig.Evolves s) :
    orig.Evolves (linkDelayMeasure e tenths s) := by
  unfold linkDelayMeasure
  repeat' (first | with_reducible (first | assumption | apply State.modEngine_evolves) | intro _ | split | dsimp only)

theorem execLinkDelayMeasure_evolves {e : EngineId} {tenthsNs : W64} {s : State} {t : State} (hx : execLinkDelayMeasure e tenthsNs s = .next t) : s.Evolves t := by
  unfold execLinkDelayMeasure at hx
  cases hx
  repeat' (first | with_reducible (first | exact State.Evolves.refl _ | apply linkDelayMeasure_evolves | apply Verdict.Evolves.run | apply Verdict.Evolves.stop | apply Verdict.Evolves.wait | apply Verdict.Evolves.raise | assumption) | intro _ | split | dsimp only)

theorem State.groupCommit_evolves {orig : State} {s : State} {g : W32} {turn : Nat} {mm : Bool} (hev : orig.Evolves s) :
    orig.Evolves (State.groupCommit s g turn mm) := by
  unfold State.groupCommit
  repeat' (first | with_reducible (first | assumption | apply State.modJob_evolves | apply State.setGroup_evolves | apply turnCommit_evolves) | intro _ | split | dsimp only)

theorem straitCommit_evolves {orig : State} {e : Nat} {p : StraitPkt} {note : CommitNote} {s : State} (hev : orig.Evolves s) :
    orig.Evolves (straitCommit e p note s) := by
  unfold straitCommit
  repeat' (first | with_reducible (first | assumption | apply State.modPart_evolves | apply State.straitTake_evolves | apply State.setGroup_evolves | apply State.noteDurable_evolves | apply State.snapshotPoint_evolves | apply State.groupCommit_evolves) | intro _ | split | dsimp only)

theorem execStraitCommit_evolves {e : EngineId} {p : StraitPkt} {note : CommitNote} {s : State} {t : State} (hx : execStraitCommit e p note s = .next t) : s.Evolves t := by
  unfold execStraitCommit at hx
  cases hx
  repeat' (first | with_reducible (first | exact State.Evolves.refl _ | apply straitCommit_evolves | apply Verdict.Evolves.run | apply Verdict.Evolves.stop | apply Verdict.Evolves.wait | apply Verdict.Evolves.raise | assumption) | intro _ | split | dsimp only)

end Sys2Proof.Machine
end

