-- ==== Sys2Proof/Laws/EvolvesPower.lean ====
section
/-! SUPPORT. Every operation of Machine/Power.lean evolves the state (Laws/Evolves.lean). -/

set_option linter.unreachableTactic false
set_option linter.unusedTactic false

namespace Sys2Proof.Machine

theorem State.phaseEvent_evolves {orig : State} {s : State} {unit : W64} {left : Nat} {limit : Nat} {p : Option Nat} (hev : orig.Evolves s) :
    orig.Evolves (State.phaseEvent s unit left limit p) := by
  unfold State.phaseEvent
  repeat' (first | with_reducible (first | assumption | apply State.event_evolves | apply State.alert_evolves) | intro _ | split | dsimp only)

theorem regionPhaseLost_evolves {orig : State} {c : Nat} {phase : Nat} {s : State} (hev : orig.Evolves s) :
    orig.Evolves (regionPhaseLost c phase s) := by
  unfold regionPhaseLost
  repeat' (first | with_reducible (first | assumption | apply State.modCluster_evolves | apply State.logRequest_evolves | apply State.darken_evolves | apply State.phaseEvent_evolves | apply counters_evolves) | intro _ | split | dsimp only)

theorem State.attachStops_evolves {orig : State} {s : State} {i : Nat} (hev : orig.Evolves s) :
    orig.Evolves (State.attachStops s i) := by
  unfold State.attachStops
  repeat' (first | with_reducible (first | assumption | apply State.modHostPort_evolves | apply State.engineOut_evolves | apply State.loseStack_evolves | apply State.Evolves.foldl | apply State.Evolves.foldl_fst) | intro _ | split | dsimp only)

theorem domainPhaseLost_evolves {orig : State} {i : Nat} {domain : Nat} {phase : Nat} {s : State} (hev : orig.Evolves s) :
    orig.Evolves (domainPhaseLost i domain phase s) := by
  unfold domainPhaseLost
  repeat' (first | with_reducible (first | assumption | apply State.modIsland_evolves | apply State.logRequest_evolves | apply State.moduleReset_evolves | apply State.phaseEvent_evolves | apply State.attachStops_evolves) | intro _ | split | dsimp only)

theorem phaseFailure_evolves {orig : State} {i : Nat} {domain : Nat} {phase : Nat} {s : State} (hev : orig.Evolves s) :
    orig.Evolves (phaseFailure i domain phase s) := by
  unfold phaseFailure
  repeat' (first | with_reducible (first | assumption | apply regionPhaseLost_evolves | apply domainPhaseLost_evolves) | intro _ | split | dsimp only)

theorem execPhaseFailure_evolves {island : IslandId} {domain : Fin 7} {phase : Fin 12} {s : State} {t : State} (hx : execPhaseFailure island domain phase s = .next t) : s.Evolves t := by
  unfold execPhaseFailure at hx
  cases hx
  repeat' (first | with_reducible (first | exact State.Evolves.refl _ | apply phaseFailure_evolves | apply Verdict.Evolves.run | apply Verdict.Evolves.stop | apply Verdict.Evolves.wait | apply Verdict.Evolves.raise | assumption) | intro _ | split | dsimp only)

theorem sectorPhaseFailure_evolves {orig : State} {i : Nat} {phase : Nat} {s : State} (hev : orig.Evolves s) :
    orig.Evolves (sectorPhaseFailure i phase s) := by
  unfold sectorPhaseFailure
  repeat' (first | with_reducible (first | assumption | apply State.modIsland_evolves | apply State.logRequest_evolves | apply State.phaseEvent_evolves) | intro _ | split | dsimp only)

theorem execSectorPhaseFailure_evolves {island : IslandId} {phase : Fin 4} {s : State} {t : State} (hx : execSectorPhaseFailure island phase s = .next t) : s.Evolves t := by
  unfold execSectorPhaseFailure at hx
  cases hx
  repeat' (first | with_reducible (first | exact State.Evolves.refl _ | apply sectorPhaseFailure_evolves | apply Verdict.Evolves.run | apply Verdict.Evolves.stop | apply Verdict.Evolves.wait | apply Verdict.Evolves.raise | assumption) | intro _ | split | dsimp only)

theorem State.dipEvent_evolves {orig : State} {s : State} {c : Nat} {outcome : Nat} {ns : Nat} {lowest : Nat} {setMv : Nat} (hev : orig.Evolves s) :
    orig.Evolves (State.dipEvent s c outcome ns lowest setMv) := by
  unfold State.dipEvent
  repeat' (first | with_reducible (first | assumption | apply State.event_evolves) | intro _ | split | dsimp only)

theorem State.supportRail_evolves {orig : State} {s : State} {c : Nat} (hev : orig.Evolves s) :
    orig.Evolves (State.supportRail s c) := by
  unfold State.supportRail
  repeat' (first | with_reducible (first | assumption | apply State.modCluster_evolves | apply State.Evolves.foldl | apply State.Evolves.foldl_fst) | intro _ | split | dsimp only)

theorem State.endSupport_evolves {orig : State} {s : State} {c : Nat} (hev : orig.Evolves s) :
    orig.Evolves (State.endSupport s c) := by
  unfold State.endSupport
  repeat' (first | with_reducible (first | assumption | apply State.modCluster_evolves | apply State.Evolves.foldl | apply State.Evolves.foldl_fst) | intro _ | split | dsimp only)

theorem dipWarning_evolves {orig : State} {rail : Rail} {mv : Nat} {s : State} (hev : orig.Evolves s) :
    orig.Evolves (dipWarning rail mv s) := by
  unfold dipWarning
  repeat' (first | with_reducible (first | assumption | apply State.modCluster_evolves | apply State.modIsland_evolves | apply State.moduleReset_evolves | apply State.supportRail_evolves) | intro _ | split | dsimp only)

theorem execDipWarning_evolves {rail : Rail} {railMv : W16} {s : State} {t : State} (hx : execDipWarning rail railMv s = .next t) : s.Evolves t := by
  unfold execDipWarning at hx
  cases hx
  repeat' (first | with_reducible (first | exact State.Evolves.refl _ | apply dipWarning_evolves | apply Verdict.Evolves.run | apply Verdict.Evolves.stop | apply Verdict.Evolves.wait | apply Verdict.Evolves.raise | assumption) | intro _ | split | dsimp only)

theorem regionRecovery_evolves {orig : State} {c : Nat} {ns : Nat} {lowest : Nat} {s0 : State} (hev : orig.Evolves s0) :
    orig.Evolves (regionRecovery c ns lowest s0) := by
  unfold regionRecovery
  repeat' (first | with_reducible (first | assumption | apply State.modCluster_evolves | apply State.dipEvent_evolves | apply State.endSupport_evolves | apply counters_evolves) | intro _ | split | dsimp only)

theorem dipRecovery_evolves {orig : State} {rail : Rail} {ns : Nat} {lowest : Nat} {s : State} (hev : orig.Evolves s) :
    orig.Evolves (dipRecovery rail ns lowest s) := by
  unfold dipRecovery
  repeat' (first | with_reducible (first | assumption | apply State.modIsland_evolves | apply State.releaseHeld_evolves | apply regionRecovery_evolves) | intro _ | split | dsimp only)

theorem execDipRecovery_evolves {rail : Rail} {durationNs : W32} {lowestMv : W16} {s : State} {t : State} (hx : execDipRecovery rail durationNs lowestMv s = .next t) : s.Evolves t := by
  unfold execDipRecovery at hx
  cases hx
  repeat' (first | with_reducible (first | exact State.Evolves.refl _ | apply dipRecovery_evolves | apply Verdict.Evolves.run | apply Verdict.Evolves.stop | apply Verdict.Evolves.wait | apply Verdict.Evolves.raise | assumption) | intro _ | split | dsimp only)

theorem dipBubbleRelease_evolves {orig : State} {c : Nat} {s : State} (hev : orig.Evolves s) :
    orig.Evolves (dipBubbleRelease c s) := by
  unfold dipBubbleRelease
  repeat' (first | with_reducible (first | assumption | apply State.modCluster_evolves) | intro _ | split | dsimp only)

theorem execDipBubbleRelease_evolves {c : ClusterId} {s : State} {t : State} (hx : execDipBubbleRelease c s = .next t) : s.Evolves t := by
  unfold execDipBubbleRelease at hx
  cases hx
  repeat' (first | with_reducible (first | exact State.Evolves.refl _ | apply dipBubbleRelease_evolves | apply Verdict.Evolves.run | apply Verdict.Evolves.stop | apply Verdict.Evolves.wait | apply Verdict.Evolves.raise | assumption) | intro _ | split | dsimp only)

theorem dipResetLevel_evolves {orig : State} {c : Nat} {ns : Nat} {lowest : Nat} {s : State} (hev : orig.Evolves s) :
    orig.Evolves (dipResetLevel c ns lowest s) := by
  unfold dipResetLevel
  repeat' (first | with_reducible (first | assumption | apply State.modCluster_evolves | apply State.clusterReset_evolves | apply State.dipEvent_evolves | apply counters_evolves) | intro _ | split | dsimp only)

theorem execDipResetLevel_evolves {c : ClusterId} {durationNs : W32} {lowestMv : W16} {s : State} {t : State} (hx : execDipResetLevel c durationNs lowestMv s = .next t) : s.Evolves t := by
  unfold execDipResetLevel at hx
  cases hx
  repeat' (first | with_reducible (first | exact State.Evolves.refl _ | apply dipResetLevel_evolves | apply Verdict.Evolves.run | apply Verdict.Evolves.stop | apply Verdict.Evolves.wait | apply Verdict.Evolves.raise | assumption) | intro _ | split | dsimp only)

theorem regionOvercurrent_evolves {orig : State} {c : Nat} {deciAmp : Nat} {s : State} (hev : orig.Evolves s) :
    orig.Evolves (regionOvercurrent c deciAmp s) := by
  unfold regionOvercurrent
  repeat' (first | with_reducible (first | assumption | apply State.modCluster_evolves) | intro _ | split | dsimp only)

theorem execRegionOvercurrent_evolves {c : ClusterId} {deciAmp : W16} {s : State} {t : State} (hx : execRegionOvercurrent c deciAmp s = .next t) : s.Evolves t := by
  unfold execRegionOvercurrent at hx
  cases hx
  repeat' (first | with_reducible (first | exact State.Evolves.refl _ | apply regionOvercurrent_evolves | apply Verdict.Evolves.run | apply Verdict.Evolves.stop | apply Verdict.Evolves.wait | apply Verdict.Evolves.raise | assumption) | intro _ | split | dsimp only)

theorem overcurrentRelease_evolves {orig : State} {c : Nat} {s : State} (hev : orig.Evolves s) :
    orig.Evolves (overcurrentRelease c s) := by
  unfold overcurrentRelease
  repeat' (first | with_reducible (first | assumption | apply State.modCluster_evolves) | intro _ | split | dsimp only)

theorem execOvercurrentRelease_evolves {c : ClusterId} {s : State} {t : State} (hx : execOvercurrentRelease c s = .next t) : s.Evolves t := by
  unfold execOvercurrentRelease at hx
  cases hx
  repeat' (first | with_reducible (first | exact State.Evolves.refl _ | apply overcurrentRelease_evolves | apply Verdict.Evolves.run | apply Verdict.Evolves.stop | apply Verdict.Evolves.wait | apply Verdict.Evolves.raise | assumption) | intro _ | split | dsimp only)

theorem overcurrentTrip_evolves {orig : State} {c : Nat} {hottest : Nat} {s : State} (hev : orig.Evolves s) :
    orig.Evolves (overcurrentTrip c hottest s) := by
  unfold overcurrentTrip
  repeat' (first | with_reducible (first | assumption | apply State.modCluster_evolves | apply State.failCore_evolves | apply State.clusterReset_evolves | apply counters_evolves) | intro _ | split | dsimp only)

theorem execOvercurrentTrip_evolves {c : ClusterId} {hottest : Fin 14} {s : State} {t : State} (hx : execOvercurrentTrip c hottest s = .next t) : s.Evolves t := by
  unfold execOvercurrentTrip at hx
  cases hx
  repeat' (first | with_reducible (first | exact State.Evolves.refl _ | apply overcurrentTrip_evolves | apply Verdict.Evolves.run | apply Verdict.Evolves.stop | apply Verdict.Evolves.wait | apply Verdict.Evolves.raise | assumption) | intro _ | split | dsimp only)

theorem sectorLimit_evolves {orig : State} {i : Nat} {deciAmp : Nat} {s : State} (hev : orig.Evolves s) :
    orig.Evolves (sectorLimit i deciAmp s) := by
  unfold sectorLimit
  repeat' (first | with_reducible (first | assumption | apply State.modIsland_evolves) | intro _ | split | dsimp only)

theorem execSectorLimit_evolves {i : IslandId} {deciAmp : W16} {s : State} {t : State} (hx : execSectorLimit i deciAmp s = .next t) : s.Evolves t := by
  unfold execSectorLimit at hx
  cases hx
  repeat' (first | with_reducible (first | exact State.Evolves.refl _ | apply sectorLimit_evolves | apply Verdict.Evolves.run | apply Verdict.Evolves.stop | apply Verdict.Evolves.wait | apply Verdict.Evolves.raise | assumption) | intro _ | split | dsimp only)

theorem sectorLimitRelease_evolves {orig : State} {i : Nat} {s : State} (hev : orig.Evolves s) :
    orig.Evolves (sectorLimitRelease i s) := by
  unfold sectorLimitRelease
  repeat' (first | with_reducible (first | assumption | apply State.modIsland_evolves) | intro _ | split | dsimp only)

theorem execSectorLimitRelease_evolves {i : IslandId} {s : State} {t : State} (hx : execSectorLimitRelease i s = .next t) : s.Evolves t := by
  unfold execSectorLimitRelease at hx
  cases hx
  repeat' (first | with_reducible (first | exact State.Evolves.refl _ | apply sectorLimitRelease_evolves | apply Verdict.Evolves.run | apply Verdict.Evolves.stop | apply Verdict.Evolves.wait | apply Verdict.Evolves.raise | assumption) | intro _ | split | dsimp only)

theorem State.heatActs_evolves {orig : State} {s : State} {c : Nat} {before : Nat} (hev : orig.Evolves s) :
    orig.Evolves (State.heatActs s c before) := by
  unfold State.heatActs
  repeat' (first | with_reducible (first | assumption | apply State.shedRegion_evolves | apply State.alert_evolves) | intro _ | split | dsimp only)

theorem junctionSensorRead_evolves {orig : State} {c : Nat} {transit : Bool} {temp : Nat} {s : State} (hev : orig.Evolves s) :
    orig.Evolves (junctionSensorRead c transit temp s) := by
  unfold junctionSensorRead
  repeat' (first | with_reducible (first | assumption | apply State.modCluster_evolves | apply State.modIsland_evolves | apply State.alert_evolves | apply State.tripOff_evolves | apply State.heatActs_evolves) | intro _ | split | dsimp only)

theorem execJunctionSensorRead_evolves {c : ClusterId} {transit : Bool} {temp : Byte} {s : State} {t : State} (hx : execJunctionSensorRead c transit temp s = .next t) : s.Evolves t := by
  unfold execJunctionSensorRead at hx
  cases hx
  repeat' (first | with_reducible (first | exact State.Evolves.refl _ | apply junctionSensorRead_evolves | apply Verdict.Evolves.run | apply Verdict.Evolves.stop | apply Verdict.Evolves.wait | apply Verdict.Evolves.raise | assumption) | intro _ | split | dsimp only)

theorem throttleRecompute_evolves {orig : State} {s : State} (hev : orig.Evolves s) :
    orig.Evolves (throttleRecompute s) := by
  unfold throttleRecompute
  repeat' (first | with_reducible (first | assumption | apply State.modCluster_evolves | apply State.Evolves.foldl | apply State.Evolves.foldl_fst) | intro _ | split | dsimp only)

theorem execThrottleRecompute_evolves {s : State} {t : State} (hx : execThrottleRecompute s = .next t) : s.Evolves t := by
  unfold execThrottleRecompute at hx
  cases hx
  repeat' (first | with_reducible (first | exact State.Evolves.refl _ | apply throttleRecompute_evolves | apply Verdict.Evolves.run | apply Verdict.Evolves.stop | apply Verdict.Evolves.wait | apply Verdict.Evolves.raise | assumption) | intro _ | split | dsimp only)

theorem shedRelease_evolves {orig : State} {c : Nat} {s : State} (hev : orig.Evolves s) :
    orig.Evolves (shedRelease c s) := by
  unfold shedRelease
  repeat' (first | with_reducible (first | assumption | apply State.modCluster_evolves | apply State.queueWake_evolves | apply State.shedEvent_evolves) | intro _ | split | dsimp only)

theorem execShedRelease_evolves {c : ClusterId} {s : State} {t : State} (hx : execShedRelease c s = .next t) : s.Evolves t := by
  unfold execShedRelease at hx
  cases hx
  repeat' (first | with_reducible (first | exact State.Evolves.refl _ | apply shedRelease_evolves | apply Verdict.Evolves.run | apply Verdict.Evolves.stop | apply Verdict.Evolves.wait | apply Verdict.Evolves.raise | assumption) | intro _ | split | dsimp only)

theorem capShareTick_evolves {orig : State} {d : Demands} {s : State} (hev : orig.Evolves s) :
    orig.Evolves (capShareTick d s) := by
  unfold capShareTick
  repeat' (first | with_reducible assumption | intro _ | split | dsimp only)

theorem execCapShareTick_evolves {d : Demands} {s : State} {t : State} (hx : execCapShareTick d s = .next t) : s.Evolves t := by
  unfold execCapShareTick at hx
  cases hx
  repeat' (first | with_reducible (first | exact State.Evolves.refl _ | apply capShareTick_evolves | apply Verdict.Evolves.run | apply Verdict.Evolves.stop | apply Verdict.Evolves.wait | apply Verdict.Evolves.raise | assumption) | intro _ | split | dsimp only)

theorem capOpPointStep_evolves {orig : State} {s : State} (hev : orig.Evolves s) :
    orig.Evolves (capOpPointStep s) := by
  unfold capOpPointStep
  repeat' (first | with_reducible assumption | intro _ | split | dsimp only)

theorem execCapOpPointStep_evolves {s : State} {t : State} (hx : execCapOpPointStep s = .next t) : s.Evolves t := by
  unfold execCapOpPointStep at hx
  cases hx
  repeat' (first | with_reducible (first | exact State.Evolves.refl _ | apply capOpPointStep_evolves | apply Verdict.Evolves.run | apply Verdict.Evolves.stop | apply Verdict.Evolves.wait | apply Verdict.Evolves.raise | assumption) | intro _ | split | dsimp only)

theorem execCapBackstop_evolves {inputW : W16} {s : State} {t : State} (hx : execCapBackstop inputW s = .next t) : s.Evolves t := by
  unfold execCapBackstop at hx
  cases hx
  repeat' (first | with_reducible (first | exact State.Evolves.refl _ | apply Verdict.Evolves.run | apply Verdict.Evolves.stop | apply Verdict.Evolves.wait | apply Verdict.Evolves.raise | assumption) | intro _ | split | dsimp only)

theorem execCapBackstopRelease_evolves {s : State} {t : State} (hx : execCapBackstopRelease s = .next t) : s.Evolves t := by
  unfold execCapBackstopRelease at hx
  cases hx
  repeat' (first | with_reducible (first | exact State.Evolves.refl _ | apply Verdict.Evolves.run | apply Verdict.Evolves.stop | apply Verdict.Evolves.wait | apply Verdict.Evolves.raise | assumption) | intro _ | split | dsimp only)

theorem execOpPointSlewDone_evolves {c : ClusterId} {s : State} {t : State} (hx : execOpPointSlewDone c s = .next t) : s.Evolves t := by
  unfold execOpPointSlewDone at hx
  cases hx
  repeat' (first | with_reducible (first | exact State.Evolves.refl _ | apply State.takePoint_evolves | apply Verdict.Evolves.run | apply Verdict.Evolves.stop | apply Verdict.Evolves.wait | apply Verdict.Evolves.raise | assumption) | intro _ | split | dsimp only)

theorem wakeRequest_evolves {orig : State} {c : Nat} {s : State} (hev : orig.Evolves s) :
    orig.Evolves (wakeRequest c s) := by
  unfold wakeRequest
  repeat' (first | with_reducible (first | assumption | apply State.modCluster_evolves | apply State.queueWake_evolves | apply State.shedEvent_evolves) | intro _ | split | dsimp only)

theorem execWakeRequest_evolves {c : ClusterId} {s : State} {t : State} (hx : execWakeRequest c s = .next t) : s.Evolves t := by
  unfold execWakeRequest at hx
  cases hx
  repeat' (first | with_reducible (first | exact State.Evolves.refl _ | apply wakeRequest_evolves | apply Verdict.Evolves.run | apply Verdict.Evolves.stop | apply Verdict.Evolves.wait | apply Verdict.Evolves.raise | assumption) | intro _ | split | dsimp only)

theorem wakeHeadroomTimeout_evolves {orig : State} {c : Nat} {deciAmp : Nat} {s : State} (hev : orig.Evolves s) :
    orig.Evolves (wakeHeadroomTimeout c deciAmp s) := by
  unfold wakeHeadroomTimeout
  repeat' (first | with_reducible (first | assumption | apply State.modCluster_evolves | apply State.modIsland_evolves | apply State.event_evolves | apply counters_evolves) | intro _ | split | dsimp only)

theorem execWakeHeadroomTimeout_evolves {c : ClusterId} {deciAmp : W16} {s : State} {t : State} (hx : execWakeHeadroomTimeout c deciAmp s = .next t) : s.Evolves t := by
  unfold execWakeHeadroomTimeout at hx
  cases hx
  repeat' (first | with_reducible (first | exact State.Evolves.refl _ | apply wakeHeadroomTimeout_evolves | apply Verdict.Evolves.run | apply Verdict.Evolves.stop | apply Verdict.Evolves.wait | apply Verdict.Evolves.raise | assumption) | intro _ | split | dsimp only)

theorem wakeHeaderStage_evolves {orig : State} {c : Nat} {s : State} (hev : orig.Evolves s) :
    orig.Evolves (wakeHeaderStage c s) := by
  unfold wakeHeaderStage
  repeat' (first | with_reducible (first | assumption | apply State.modCluster_evolves) | intro _ | split | dsimp only)

theorem execWakeHeaderStage_evolves {c : ClusterId} {s : State} {t : State} (hx : execWakeHeaderStage c s = .next t) : s.Evolves t := by
  unfold execWakeHeaderStage at hx
  cases hx
  repeat' (first | with_reducible (first | exact State.Evolves.refl _ | apply wakeHeaderStage_evolves | apply Verdict.Evolves.run | apply Verdict.Evolves.stop | apply Verdict.Evolves.wait | apply Verdict.Evolves.raise | assumption) | intro _ | split | dsimp only)

theorem wakeSettled_evolves {orig : State} {c : Nat} {s : State} (hev : orig.Evolves s) :
    orig.Evolves (wakeSettled c s) := by
  unfold wakeSettled
  repeat' (first | with_reducible (first | assumption | apply State.regionRuns_evolves | apply State.heatActs_evolves) | intro _ | split | dsimp only)

theorem execWakeSettled_evolves {c : ClusterId} {s : State} {t : State} (hx : execWakeSettled c s = .next t) : s.Evolves t := by
  unfold execWakeSettled at hx
  cases hx
  repeat' (first | with_reducible (first | exact State.Evolves.refl _ | apply wakeSettled_evolves | apply Verdict.Evolves.run | apply Verdict.Evolves.stop | apply Verdict.Evolves.wait | apply Verdict.Evolves.raise | assumption) | intro _ | split | dsimp only)

theorem hintPrepare_evolves {orig : State} {c : Nat} {s : State} (hev : orig.Evolves s) :
    orig.Evolves (hintPrepare c s) := by
  unfold hintPrepare
  repeat' (first | with_reducible (first | assumption | apply State.modCluster_evolves) | intro _ | split | dsimp only)

theorem execHintPrepare_evolves {c : ClusterId} {s : State} {t : State} (hx : execHintPrepare c s = .next t) : s.Evolves t := by
  unfold execHintPrepare at hx
  cases hx
  repeat' (first | with_reducible (first | exact State.Evolves.refl _ | apply hintPrepare_evolves | apply Verdict.Evolves.run | apply Verdict.Evolves.stop | apply Verdict.Evolves.wait | apply Verdict.Evolves.raise | assumption) | intro _ | split | dsimp only)

theorem hintDummyRamp_evolves {orig : State} {c : Nat} {s : State} (hev : orig.Evolves s) :
    orig.Evolves (hintDummyRamp c s) := by
  unfold hintDummyRamp
  repeat' (first | with_reducible (first | assumption | apply State.modCore_evolves | apply State.Evolves.foldl | apply State.Evolves.foldl_fst) | intro _ | split | dsimp only)

theorem execHintDummyRamp_evolves {c : ClusterId} {s : State} {t : State} (hx : execHintDummyRamp c s = .next t) : s.Evolves t := by
  unfold execHintDummyRamp at hx
  cases hx
  repeat' (first | with_reducible (first | exact State.Evolves.refl _ | apply hintDummyRamp_evolves | apply Verdict.Evolves.run | apply Verdict.Evolves.stop | apply Verdict.Evolves.wait | apply Verdict.Evolves.raise | assumption) | intro _ | split | dsimp only)

theorem execHintExpiry_evolves {c : ClusterId} {s : State} {t : State} (hx : execHintExpiry c s = .next t) : s.Evolves t := by
  unfold execHintExpiry at hx
  cases hx
  repeat' (first | with_reducible (first | exact State.Evolves.refl _ | apply State.endHint_evolves | apply Verdict.Evolves.run | apply Verdict.Evolves.stop | apply Verdict.Evolves.wait | apply Verdict.Evolves.raise | assumption) | intro _ | split | dsimp only)

theorem pmWatchdogExpiry_evolves {orig : State} {s : State} (hev : orig.Evolves s) :
    orig.Evolves (pmWatchdogExpiry s) := by
  unfold pmWatchdogExpiry
  repeat' (first | with_reducible (first | assumption | apply State.modCluster_evolves | apply State.moduleReset_evolves | apply State.Evolves.foldl | apply State.Evolves.foldl_fst) | intro _ | split | dsimp only)

theorem execPmWatchdogExpiry_evolves {s : State} {t : State} (hx : execPmWatchdogExpiry s = .next t) : s.Evolves t := by
  unfold execPmWatchdogExpiry at hx
  cases hx
  repeat' (first | with_reducible (first | exact State.Evolves.refl _ | apply pmWatchdogExpiry_evolves | apply Verdict.Evolves.run | apply Verdict.Evolves.stop | apply Verdict.Evolves.wait | apply Verdict.Evolves.raise | assumption) | intro _ | split | dsimp only)

theorem pmRestartDone_evolves {orig : State} {s : State} (hev : orig.Evolves s) :
    orig.Evolves (pmRestartDone s) := by
  unfold pmRestartDone
  repeat' (first | with_reducible (first | assumption | apply State.takePoint_evolves | apply State.Evolves.foldl | apply State.Evolves.foldl_fst) | intro _ | split | dsimp only)

theorem execPmRestartDone_evolves {s : State} {t : State} (hx : execPmRestartDone s = .next t) : s.Evolves t := by
  unfold execPmRestartDone at hx
  cases hx
  repeat' (first | with_reducible (first | exact State.Evolves.refl _ | apply pmRestartDone_evolves | apply Verdict.Evolves.run | apply Verdict.Evolves.stop | apply Verdict.Evolves.wait | apply Verdict.Evolves.raise | assumption) | intro _ | split | dsimp only)

end Sys2Proof.Machine
end

