-- ==== Sys2Proof/Laws/EvolvesHostOps.lean ====
section
/-! SUPPORT. Every operation of Machine/HostOps.lean evolves the state (Laws/Evolves.lean). -/

set_option linter.unreachableTactic false
set_option linter.unusedTactic false

namespace Sys2Proof.Machine

theorem State.setSession_evolves {orig : State} {s : State} {sid : W64} {x : Session} (hev : orig.Evolves s) :
    orig.Evolves (State.setSession s sid x) := by
  unfold State.setSession
  repeat' (first | with_reducible assumption | intro _ | split | dsimp only)

theorem State.modSession_evolves {orig : State} {s : State} {sid : W64} {f : Session → Session} (hev : orig.Evolves s) :
    orig.Evolves (State.modSession s sid f) := by
  unfold State.modSession
  repeat' (first | with_reducible (first | assumption | apply State.setSession_evolves) | intro _ | split | dsimp only)

theorem State.sendResponse_evolves {orig : State} {s : State} {sid : W64} {r : Response} (hev : orig.Evolves s) :
    orig.Evolves (State.sendResponse s sid r) := by
  unfold State.sendResponse
  repeat' (first | with_reducible (first | assumption | apply State.emit_evolves | apply State.countTx_evolves) | intro _ | split | dsimp only)

theorem State.respond_evolves {orig : State} {s : State} {sid : W64} {opcode : Nat} {seq : W64} {a : Answer} (hev : orig.Evolves s) :
    orig.Evolves (State.respond s sid opcode seq a) := by
  unfold State.respond
  repeat' (first | with_reducible (first | assumption | apply State.modSession_evolves | apply State.sendResponse_evolves) | intro _ | split | dsimp only)

theorem State.whenAnswering_evolves {orig : State} {s : State} {i : Instr} {f : State → State} (hev : orig.Evolves s) (hf : ∀ t, orig.Evolves t → orig.Evolves (f t)) :
    orig.Evolves (State.whenAnswering s i f) := by
  unfold State.whenAnswering
  repeat' (first | with_reducible (first | assumption | apply hf) | intro _ | split | dsimp only)

theorem State.renewLease_evolves {orig : State} {s : State} {sid : W64} (hev : orig.Evolves s) :
    orig.Evolves (State.renewLease s sid) := by
  unfold State.renewLease
  repeat' (first | with_reducible (first | assumption | apply State.modSession_evolves) | intro _ | split | dsimp only)

theorem State.noteArrival_evolves {orig : State} {s : State} {sid : W64} {n : Nat} (hev : orig.Evolves s) :
    orig.Evolves (State.noteArrival s sid n) := by
  unfold State.noteArrival
  repeat' (first | with_reducible (first | assumption | apply State.arrived_evolves | apply State.modSession_evolves) | intro _ | split | dsimp only)

theorem State.command_evolves {orig : State} {s : State} {r : HostReq} {opcode : Nat} {features : List Nat} {operator : Bool} {f : Session → State → State × Option Answer} (hev : orig.Evolves s) (hf : ∀ x t, orig.Evolves t → orig.Evolves (f x t).1) :
    orig.Evolves (State.command s r opcode features operator f) := by
  unfold State.command
  repeat' (first | with_reducible (first | assumption | apply hf | apply State.emit_evolves | apply State.sendResponse_evolves | apply State.respond_evolves | apply State.renewLease_evolves | apply State.noteArrival_evolves) | intro _ | split | dsimp only)

theorem State.accepted_evolves {orig : State} {s : State} {x : Session} {r : HostReq} {opcode : Nat} {job : W64} {part : Option Nat} {body : List Byte} (hev : orig.Evolves s) :
    orig.Evolves (State.accepted s x r opcode job part body).1 := by
  unfold State.accepted
  repeat' (first | with_reducible (first | assumption | apply State.journalWrite_evolves) | intro _ | split | dsimp only)

theorem State.endRestore_evolves {orig : State} {s : State} {p : Nat} {code : W16} {bytes : Nat} (hev : orig.Evolves s) :
    orig.Evolves (State.endRestore s p code bytes) := by
  unfold State.endRestore
  repeat' (first | with_reducible (first | assumption | apply State.modPart_evolves | apply State.journalWrite_evolves | apply restore_evolves) | intro _ | split | dsimp only)

theorem State.dropLoad_evolves {orig : State} {s : State} {p : Nat} (hev : orig.Evolves s) :
    orig.Evolves (State.dropLoad s p) := by
  unfold State.dropLoad
  repeat' (first | with_reducible (first | assumption | apply State.modPart_evolves | apply State.respond_evolves) | intro _ | split | dsimp only)

theorem State.resetClusterOf_evolves {orig : State} {s : State} {c : Nat} (hev : orig.Evolves s) :
    orig.Evolves (State.resetClusterOf s c) := by
  unfold State.resetClusterOf
  repeat' (first | with_reducible (first | assumption | apply State.modCore_evolves | apply State.modIsland_evolves | apply State.zero_evolves | apply State.clusterReset_evolves | apply State.scrub_evolves | apply State.Evolves.foldl | apply State.Evolves.foldl_fst) | intro _ | split | dsimp only)

theorem State.startReset_evolves {orig : State} {s : State} {p : Nat} {cause : Nat} {k : Clearing} (hev : orig.Evolves s) :
    orig.Evolves (State.startReset s p cause k) := by
  unfold State.startReset
  repeat' (first | with_reducible (first | assumption | apply State.modPart_evolves | apply State.withdrawHeld_evolves | apply State.clearBlocks_evolves | apply State.endSnapshot_evolves | apply State.discardJob_evolves | apply State.discardQueue_evolves | apply State.endRestore_evolves | apply State.dropLoad_evolves | apply State.resetClusterOf_evolves | apply State.Evolves.foldl | apply State.Evolves.foldl_fst) | intro _ | split | dsimp only)

theorem State.sessionEnded_evolves {orig : State} {s : State} {sid : W64} {tenant : W16} {cause : Nat} (hev : orig.Evolves s) :
    orig.Evolves (State.sessionEnded s sid tenant cause) := by
  unfold State.sessionEnded
  repeat' (first | with_reducible (first | assumption | apply State.journalWrite_evolves) | intro _ | split | dsimp only)

theorem partitionResetDone_evolves {orig : State} {p : Nat} {s : State} (hev : orig.Evolves s) :
    orig.Evolves (partitionResetDone p s) := by
  unfold partitionResetDone
  repeat' (first | with_reducible (first | assumption | apply State.setPart_evolves | apply State.modPart_evolves | apply State.countEvent_evolves | apply State.journalWrite_evolves | apply State.sessionEnded_evolves) | intro _ | split | dsimp only)

theorem execPartitionResetDone_evolves {part : PartId} {s : State} {t : State} (hx : execPartitionResetDone part s = .next t) : s.Evolves t := by
  unfold execPartitionResetDone at hx
  cases hx
  repeat' (first | with_reducible (first | exact State.Evolves.refl _ | apply State.scheduled_evolves | apply partitionResetDone_evolves | apply Verdict.Evolves.run | apply Verdict.Evolves.stop | apply Verdict.Evolves.wait | apply Verdict.Evolves.raise | assumption) | intro _ | split | dsimp only)

theorem State.closeQps_evolves {orig : State} {s : State} {sid : W64} (hev : orig.Evolves s) :
    orig.Evolves (State.closeQps s sid) := by
  unfold State.closeQps
  repeat' (first | with_reducible (first | assumption | apply State.modPart_evolves | apply State.Evolves.foldl | apply State.Evolves.foldl_fst) | intro _ | split | dsimp only)

theorem State.endSession_evolves {orig : State} {s : State} {sid : W64} {cause : Nat} (hev : orig.Evolves s) :
    orig.Evolves (State.endSession s sid cause) := by
  unfold State.endSession
  repeat' (first | with_reducible (first | assumption | apply State.modPart_evolves | apply State.endSnapshot_evolves | apply State.discardJob_evolves | apply State.discardQueue_evolves | apply State.startReset_evolves | apply State.sessionEnded_evolves | apply State.closeQps_evolves | apply State.Evolves.foldl | apply State.Evolves.foldl_fst) | intro _ | split | dsimp only)

end Sys2Proof.Machine
end

