-- ==== Sys2Proof/Laws/EvolvesSession.lean ====
section
/-! SUPPORT. Every operation of Machine/Session.lean evolves the state (Laws/Evolves.lean). -/

set_option linter.unreachableTactic false
set_option linter.unusedTactic false

namespace Sys2Proof.Machine

theorem datagramReceive_evolves {orig : State} {port : Nat} {sid : W64} {msgSeq : W64} {kind : Byte} {index : Nat} {count : Nat} {authOk : Bool} {data : List Byte} {s : State} (hev : orig.Evolves s) :
    orig.Evolves (datagramReceive port sid msgSeq kind index count authOk data s) := by
  unfold datagramReceive
  repeat' (first | with_reducible (first | assumption | apply State.modHostPort_evolves | apply State.modSession_evolves | apply State.renewLease_evolves) | intro _ | split | dsimp only)

theorem execDatagramReceive_evolves {port : Fin 2} {sid : W64} {msgSeq : W64} {kind : Byte} {fragIndex : W16} {fragCount : W16} {_secondCopy : Bool} {authOk : Bool} {data : List Byte} {s : State} {t : State} (hx : execDatagramReceive port sid msgSeq kind fragIndex fragCount _secondCopy authOk data s = .next t) : s.Evolves t := by
  unfold execDatagramReceive at hx
  cases hx
  repeat' (first | with_reducible (first | exact State.Evolves.refl _ | apply datagramReceive_evolves | apply Verdict.Evolves.run | apply Verdict.Evolves.stop | apply Verdict.Evolves.wait | apply Verdict.Evolves.raise | assumption) | intro _ | split | dsimp only)

theorem fragmentTimeout_evolves {orig : State} {sid : W64} {msgSeq : W64} {s : State} (hev : orig.Evolves s) :
    orig.Evolves (fragmentTimeout sid msgSeq s) := by
  unfold fragmentTimeout
  repeat' (first | with_reducible assumption | intro _ | split | dsimp only)

theorem execFragmentTimeout_evolves {sid : W64} {msgSeq : W64} {s : State} {t : State} (hx : execFragmentTimeout sid msgSeq s = .next t) : s.Evolves t := by
  unfold execFragmentTimeout at hx
  cases hx
  repeat' (first | with_reducible (first | exact State.Evolves.refl _ | apply fragmentTimeout_evolves | apply Verdict.Evolves.run | apply Verdict.Evolves.stop | apply Verdict.Evolves.wait | apply Verdict.Evolves.raise | assumption) | intro _ | split | dsimp only)

theorem State.sendHello_evolves {orig : State} {s : State} {h : Handshake} (hev : orig.Evolves s) :
    orig.Evolves (State.sendHello s h) := by
  unfold State.sendHello
  repeat' (first | with_reducible (first | assumption | apply State.emit_evolves | apply State.modHostPort_evolves) | intro _ | split | dsimp only)

theorem hello_evolves {orig : State} {port : Nat} {version : W16} {nonce : BitVec 256} {ek : List Byte} {s : State} (hev : orig.Evolves s) :
    orig.Evolves (hello port version nonce ek s) := by
  unfold hello
  repeat' (first | with_reducible (first | assumption | apply State.fresh_evolves | apply State.sendHello_evolves) | intro _ | split | dsimp only)

theorem execHello_evolves {port : Fin 2} {version : W16} {nonce : BitVec 256} {ek : List Byte} {s : State} {t : State} (hx : execHello port version nonce ek s = .next t) : s.Evolves t := by
  unfold execHello at hx
  cases hx
  repeat' (first | with_reducible (first | exact State.Evolves.refl _ | apply hello_evolves | apply Verdict.Evolves.run | apply Verdict.Evolves.stop | apply Verdict.Evolves.wait | apply Verdict.Evolves.raise | assumption) | intro _ | split | dsimp only)

theorem State.dropHandshake_evolves {orig : State} {s : State} {hs : W64} (hev : orig.Evolves s) :
    orig.Evolves (State.dropHandshake s hs) := by
  unfold State.dropHandshake
  repeat' (first | with_reducible assumption | intro _ | split | dsimp only)

theorem State.ready_evolves {orig : State} {s : State} {h : Handshake} {sid : W64} {status : W16} {detail : W16} (hev : orig.Evolves s) :
    orig.Evolves (State.ready s h sid status detail) := by
  unfold State.ready
  repeat' (first | with_reducible (first | assumption | apply State.emit_evolves | apply State.modHostPort_evolves | apply State.dropHandshake_evolves) | intro _ | split | dsimp only)

theorem hostAuth_evolves {orig : State} {hs : W64} {a : HostAuth} {s : State} (hev : orig.Evolves s) :
    orig.Evolves (hostAuth hs a s) := by
  unfold hostAuth
  repeat' (first | with_reducible (first | assumption | apply State.journalWrite_evolves | apply State.setSession_evolves | apply State.ready_evolves) | intro _ | split | dsimp only)

theorem execHostAuth_evolves {hs : W64} {a : HostAuth} {s : State} {t : State} (hx : execHostAuth hs a s = .next t) : s.Evolves t := by
  unfold execHostAuth at hx
  cases hx
  repeat' (first | with_reducible (first | exact State.Evolves.refl _ | apply State.whenAnswering_evolves | apply hostAuth_evolves | apply Verdict.Evolves.run | apply Verdict.Evolves.stop | apply Verdict.Evolves.wait | apply Verdict.Evolves.raise | assumption) | intro _ | split | dsimp only)

theorem State.resumeJobs_evolves {orig : State} {s : State} {sid : W64} (hev : orig.Evolves s) :
    orig.Evolves (State.resumeJobs s sid) := by
  unfold State.resumeJobs
  repeat' (first | with_reducible (first | assumption | apply State.modJob_evolves | apply State.leaveHold_evolves | apply State.Evolves.foldl | apply State.Evolves.foldl_fst) | intro _ | split | dsimp only)

theorem hostAuthResume_evolves {orig : State} {hs : W64} {a : HostAuth} {sid : W64} {token : BitVec 256} {s : State} (hev : orig.Evolves s) :
    orig.Evolves (hostAuthResume hs a sid token s) := by
  unfold hostAuthResume
  repeat' (first | with_reducible (first | assumption | apply State.journalWrite_evolves | apply State.setSession_evolves | apply State.closeQps_evolves | apply State.ready_evolves | apply State.resumeJobs_evolves) | intro _ | split | dsimp only)

theorem execHostAuthResume_evolves {hs : W64} {a : HostAuth} {resume : W64} {token : BitVec 256} {s : State} {t : State} (hx : execHostAuthResume hs a resume token s = .next t) : s.Evolves t := by
  unfold execHostAuthResume at hx
  cases hx
  repeat' (first | with_reducible (first | exact State.Evolves.refl _ | apply State.whenAnswering_evolves | apply hostAuthResume_evolves | apply Verdict.Evolves.run | apply Verdict.Evolves.stop | apply Verdict.Evolves.wait | apply Verdict.Evolves.raise | assumption) | intro _ | split | dsimp only)

theorem handshakeTimeout_evolves {orig : State} {hs : W64} {s : State} (hev : orig.Evolves s) :
    orig.Evolves (handshakeTimeout hs s) := by
  unfold handshakeTimeout
  repeat' (first | with_reducible (first | assumption | apply State.dropHandshake_evolves) | intro _ | split | dsimp only)

theorem execHandshakeTimeout_evolves {hs : W64} {s : State} {t : State} (hx : execHandshakeTimeout hs s = .next t) : s.Evolves t := by
  unfold execHandshakeTimeout at hx
  cases hx
  repeat' (first | with_reducible (first | exact State.Evolves.refl _ | apply handshakeTimeout_evolves | apply Verdict.Evolves.run | apply Verdict.Evolves.stop | apply Verdict.Evolves.wait | apply Verdict.Evolves.raise | assumption) | intro _ | split | dsimp only)

theorem keepalive_evolves {orig : State} {r : HostReq} {s : State} (hev : orig.Evolves s) :
    orig.Evolves (keepalive r s) := by
  unfold keepalive
  repeat' (first | with_reducible (first | assumption | apply State.command_evolves) | intro _ | split | dsimp only)

theorem execKeepalive_evolves {r : HostReq} {s : State} {t : State} (hx : execKeepalive r s = .next t) : s.Evolves t := by
  unfold execKeepalive at hx
  cases hx
  repeat' (first | with_reducible (first | exact State.Evolves.refl _ | apply State.whenAnswering_evolves | apply keepalive_evolves | apply Verdict.Evolves.run | apply Verdict.Evolves.stop | apply Verdict.Evolves.wait | apply Verdict.Evolves.raise | assumption) | intro _ | split | dsimp only)

theorem closeSession_evolves {orig : State} {r : HostReq} {force : Bool} {s : State} (hev : orig.Evolves s) :
    orig.Evolves (closeSession r force s) := by
  unfold closeSession
  repeat' (first | with_reducible (first | assumption | apply State.command_evolves | apply State.accepted_evolves | apply State.endSession_evolves) | intro _ | split | dsimp only)

theorem execCloseSession_evolves {r : HostReq} {force : Bool} {s : State} {t : State} (hx : execCloseSession r force s = .next t) : s.Evolves t := by
  unfold execCloseSession at hx
  cases hx
  repeat' (first | with_reducible (first | exact State.Evolves.refl _ | apply State.whenAnswering_evolves | apply closeSession_evolves | apply Verdict.Evolves.run | apply Verdict.Evolves.stop | apply Verdict.Evolves.wait | apply Verdict.Evolves.raise | assumption) | intro _ | split | dsimp only)

theorem counters_evolves {orig : State} {r : HostReq} {s : State} (hev : orig.Evolves s) :
    orig.Evolves (counters r s) := by
  unfold counters
  repeat' (first | with_reducible (first | assumption | apply State.command_evolves) | intro _ | split | dsimp only)

theorem execCounters_evolves {r : HostReq} {s : State} {t : State} (hx : execCounters r s = .next t) : s.Evolves t := by
  unfold execCounters at hx
  cases hx
  repeat' (first | with_reducible (first | exact State.Evolves.refl _ | apply State.whenAnswering_evolves | apply counters_evolves | apply Verdict.Evolves.run | apply Verdict.Evolves.stop | apply Verdict.Evolves.wait | apply Verdict.Evolves.raise | assumption) | intro _ | split | dsimp only)

theorem leaseExpiry_evolves {orig : State} {sid : W64} {s : State} (hev : orig.Evolves s) :
    orig.Evolves (leaseExpiry sid s) := by
  unfold leaseExpiry
  repeat' (first | with_reducible (first | assumption | apply State.modJob_evolves | apply State.countEvent_evolves | apply State.journalWrite_evolves | apply State.setSession_evolves | apply State.closeQps_evolves | apply State.Evolves.foldl | apply State.Evolves.foldl_fst) | intro _ | split | dsimp only)

theorem execLeaseExpiry_evolves {sid : W64} {s : State} {t : State} (hx : execLeaseExpiry sid s = .next t) : s.Evolves t := by
  unfold execLeaseExpiry at hx
  cases hx
  repeat' (first | with_reducible (first | exact State.Evolves.refl _ | apply State.scheduled_evolves | apply leaseExpiry_evolves | apply Verdict.Evolves.run | apply Verdict.Evolves.stop | apply Verdict.Evolves.wait | apply Verdict.Evolves.raise | assumption) | intro _ | split | dsimp only)

theorem retentionExpiry_evolves {orig : State} {sid : W64} {s : State} (hev : orig.Evolves s) :
    orig.Evolves (retentionExpiry sid s) := by
  unfold retentionExpiry
  repeat' (first | with_reducible (first | assumption | apply State.endSession_evolves) | intro _ | split | dsimp only)

theorem execRetentionExpiry_evolves {sid : W64} {s : State} {t : State} (hx : execRetentionExpiry sid s = .next t) : s.Evolves t := by
  unfold execRetentionExpiry at hx
  cases hx
  repeat' (first | with_reducible (first | exact State.Evolves.refl _ | apply State.scheduled_evolves | apply retentionExpiry_evolves | apply Verdict.Evolves.run | apply Verdict.Evolves.stop | apply Verdict.Evolves.wait | apply Verdict.Evolves.raise | assumption) | intro _ | split | dsimp only)

theorem State.failoverEvent_evolves {orig : State} {s : State} {port : Nat} {sub : Nat} {reason : Nat} {cause : Nat} (hev : orig.Evolves s) :
    orig.Evolves (State.failoverEvent s port sub reason cause) := by
  unfold State.failoverEvent
  repeat' (first | with_reducible (first | assumption | apply State.event_evolves) | intro _ | split | dsimp only)

theorem State.moveDrain_evolves {orig : State} {s : State} {sid : W64} {p : Nat} (hev : orig.Evolves s) :
    orig.Evolves (State.moveDrain s sid p) := by
  unfold State.moveDrain
  repeat' (first | with_reducible (first | assumption | apply State.modPart_evolves | apply State.emit_evolves) | intro _ | split | dsimp only)

theorem State.emitPull_evolves {orig : State} {s : State} {k : Pull} (hev : orig.Evolves s) :
    orig.Evolves (State.emitPull s k) := by
  unfold State.emitPull
  repeat' (first | with_reducible (first | assumption | apply State.emit_evolves) | intro _ | split | dsimp only)

theorem State.moveLoad_evolves {orig : State} {s : State} {sid : W64} {p : Nat} (hev : orig.Evolves s) :
    orig.Evolves (State.moveLoad s sid p) := by
  unfold State.moveLoad
  repeat' (first | with_reducible (first | assumption | apply State.modPart_evolves | apply State.emitPull_evolves | apply Verdict.Evolves.run | apply Verdict.Evolves.stop | apply Verdict.Evolves.wait | apply Verdict.Evolves.raise) | intro _ | split | dsimp only)

theorem State.moveRestore_evolves {orig : State} {s : State} {sid : W64} {p : Nat} (hev : orig.Evolves s) :
    orig.Evolves (State.moveRestore s sid p) := by
  unfold State.moveRestore
  repeat' (first | with_reducible (first | assumption | apply State.modPart_evolves | apply State.emitPull_evolves | apply restore_evolves | apply Verdict.Evolves.run | apply Verdict.Evolves.stop | apply Verdict.Evolves.wait | apply Verdict.Evolves.raise) | intro _ | split | dsimp only)

theorem State.moveStaging_evolves {orig : State} {s : State} {sid : W64} (hev : orig.Evolves s) :
    orig.Evolves (State.moveStaging s sid) := by
  unfold State.moveStaging
  repeat' (first | with_reducible (first | assumption | apply State.emitPull_evolves | apply Verdict.Evolves.run | apply Verdict.Evolves.stop | apply Verdict.Evolves.wait | apply Verdict.Evolves.raise) | intro _ | split | dsimp only)

theorem State.moveTransfers_evolves {orig : State} {s : State} {sid : W64} (hev : orig.Evolves s) :
    orig.Evolves (State.moveTransfers s sid) := by
  unfold State.moveTransfers
  repeat' (first | with_reducible (first | assumption | apply State.moveDrain_evolves | apply State.moveLoad_evolves | apply State.moveRestore_evolves | apply State.moveStaging_evolves | apply State.Evolves.foldl | apply State.Evolves.foldl_fst) | intro _ | split | dsimp only)

theorem subportLoss_evolves {orig : State} {port : Nat} {sub : Nat} {fec : Bool} {s : State} (hev : orig.Evolves s) :
    orig.Evolves (subportLoss port sub fec s) := by
  unfold subportLoss
  repeat' (first | with_reducible (first | assumption | apply State.modHostPort_evolves | apply State.failoverEvent_evolves | apply State.moveTransfers_evolves | apply State.Evolves.foldl | apply State.Evolves.foldl_fst) | intro _ | split | dsimp only)

theorem execSubportLoss_evolves {port : Fin 2} {sub : Fin 4} {fecCause : Bool} {s : State} {t : State} (hx : execSubportLoss port sub fecCause s = .next t) : s.Evolves t := by
  unfold execSubportLoss at hx
  cases hx
  repeat' (first | with_reducible (first | exact State.Evolves.refl _ | apply subportLoss_evolves | apply Verdict.Evolves.run | apply Verdict.Evolves.stop | apply Verdict.Evolves.wait | apply Verdict.Evolves.raise | assumption) | intro _ | split | dsimp only)

theorem subportReturn_evolves {orig : State} {port : Nat} {sub : Nat} {s : State} (hev : orig.Evolves s) :
    orig.Evolves (subportReturn port sub s) := by
  unfold subportReturn
  repeat' (first | with_reducible (first | assumption | apply State.modHostPort_evolves | apply State.ready_evolves | apply State.failoverEvent_evolves) | intro _ | split | dsimp only)

theorem execSubportReturn_evolves {port : Fin 2} {sub : Fin 4} {s : State} {t : State} (hx : execSubportReturn port sub s = .next t) : s.Evolves t := by
  unfold execSubportReturn at hx
  cases hx
  repeat' (first | with_reducible (first | exact State.Evolves.refl _ | apply subportReturn_evolves | apply Verdict.Evolves.run | apply Verdict.Evolves.stop | apply Verdict.Evolves.wait | apply Verdict.Evolves.raise | assumption) | intro _ | split | dsimp only)

end Sys2Proof.Machine
end

