-- ==== Sys2Proof/Laws/EvolvesHostJobs.lean ====
section
/-! SUPPORT. Every operation of Machine/HostJobs.lean evolves the state (Laws/Evolves.lean). -/

set_option linter.unreachableTactic false
set_option linter.unusedTactic false

namespace Sys2Proof.Machine

theorem checked_evolves {orig : State} {s : State} {l : List (Bool × Answer)} {f : State → State × Option Answer} (hev : orig.Evolves s) (hf : ∀ t, orig.Evolves t → orig.Evolves (f t).1) :
    orig.Evolves (checked s l f).1 := by
  unfold checked
  repeat' (first | with_reducible (first | assumption | apply hf) | intro _ | split | dsimp only)

theorem State.changeLayout_evolves {orig : State} {s : State} {layout : Nat} (hev : orig.Evolves s) :
    orig.Evolves (State.changeLayout s layout) := by
  unfold State.changeLayout
  repeat' (first | with_reducible (first | assumption | apply State.setPart_evolves | apply State.resetClusterOf_evolves | apply State.Evolves.foldl | apply State.Evolves.foldl_fst) | intro _ | split | dsimp only)

theorem bindPartition_evolves {orig : State} {r : HostReq} {layout : Nat} {p : Nat} {gib : Nat} {s : State} (hev : orig.Evolves s) :
    orig.Evolves (bindPartition r layout p gib s) := by
  unfold bindPartition
  repeat' (first | with_reducible (first | assumption | apply State.modPart_evolves | apply State.command_evolves | apply State.accepted_evolves | apply checked_evolves | apply State.changeLayout_evolves) | intro _ | split | dsimp only)

theorem execBindPartition_evolves {r : HostReq} {layout : Byte} {partition : W16} {hbmGib : W32} {s : State} {t : State} (hx : execBindPartition r layout partition hbmGib s = .next t) : s.Evolves t := by
  unfold execBindPartition at hx
  cases hx
  repeat' (first | with_reducible (first | exact State.Evolves.refl _ | apply State.whenAnswering_evolves | apply bindPartition_evolves | apply Verdict.Evolves.run | apply Verdict.Evolves.stop | apply Verdict.Evolves.wait | apply Verdict.Evolves.raise | assumption) | intro _ | split | dsimp only)

theorem unbindPartition_evolves {orig : State} {r : HostReq} {p : Nat} {s : State} (hev : orig.Evolves s) :
    orig.Evolves (unbindPartition r p s) := by
  unfold unbindPartition
  repeat' (first | with_reducible (first | assumption | apply State.command_evolves | apply State.accepted_evolves | apply State.startReset_evolves | apply checked_evolves) | intro _ | split | dsimp only)

theorem execUnbindPartition_evolves {r : HostReq} {partition : W16} {s : State} {t : State} (hx : execUnbindPartition r partition s = .next t) : s.Evolves t := by
  unfold execUnbindPartition at hx
  cases hx
  repeat' (first | with_reducible (first | exact State.Evolves.refl _ | apply State.whenAnswering_evolves | apply unbindPartition_evolves | apply Verdict.Evolves.run | apply Verdict.Evolves.stop | apply Verdict.Evolves.wait | apply Verdict.Evolves.raise | assumption) | intro _ | split | dsimp only)

theorem partitionReset_evolves {orig : State} {r : HostReq} {p : Nat} {clear : Bool} {s : State} (hev : orig.Evolves s) :
    orig.Evolves (partitionReset r p clear s) := by
  unfold partitionReset
  repeat' (first | with_reducible (first | assumption | apply State.command_evolves | apply State.accepted_evolves | apply State.startReset_evolves | apply checked_evolves) | intro _ | split | dsimp only)

theorem execPartitionReset_evolves {r : HostReq} {partition : W16} {clearHbm : Bool} {s : State} {t : State} (hx : execPartitionReset r partition clearHbm s = .next t) : s.Evolves t := by
  unfold execPartitionReset at hx
  cases hx
  repeat' (first | with_reducible (first | exact State.Evolves.refl _ | apply State.whenAnswering_evolves | apply partitionReset_evolves | apply Verdict.Evolves.run | apply Verdict.Evolves.stop | apply Verdict.Evolves.wait | apply Verdict.Evolves.raise | assumption) | intro _ | split | dsimp only)

theorem loadImage_evolves {orig : State} {r : HostReq} {p : Nat} {qp : W32} {addr : W64} {rkey : W32} {length : Nat} {s : State} (hev : orig.Evolves s) :
    orig.Evolves (loadImage r p qp addr rkey length s) := by
  unfold loadImage
  repeat' (first | with_reducible (first | assumption | apply State.modPart_evolves | apply State.command_evolves | apply State.emitPull_evolves | apply checked_evolves) | intro _ | split | dsimp only)

theorem execLoadImage_evolves {r : HostReq} {partition : W16} {qp : W32} {remoteAddr : W64} {rkey : W32} {length : W64} {s : State} {t : State} (hx : execLoadImage r partition qp remoteAddr rkey length s = .next t) : s.Evolves t := by
  unfold execLoadImage at hx
  cases hx
  repeat' (first | with_reducible (first | exact State.Evolves.refl _ | apply State.whenAnswering_evolves | apply loadImage_evolves | apply Verdict.Evolves.run | apply Verdict.Evolves.stop | apply Verdict.Evolves.wait | apply Verdict.Evolves.raise | assumption) | intro _ | split | dsimp only)

theorem State.countRdma_evolves {orig : State} {s : State} {qpn : W32} {rx : Nat} {tx : Nat} (hev : orig.Evolves s) :
    orig.Evolves (State.countRdma s qpn rx tx) := by
  unfold State.countRdma
  repeat' (first | with_reducible (first | assumption | apply State.modHostPort_evolves) | intro _ | split | dsimp only)

theorem loadImagePullDone_evolves {orig : State} {p : Nat} {image : Option (List Byte)} {s : State} (hev : orig.Evolves s) :
    orig.Evolves (loadImagePullDone p image s) := by
  unfold loadImagePullDone
  repeat' (first | with_reducible (first | assumption | apply State.modPart_evolves | apply State.hostTraffic_evolves | apply State.firmwareWrite_evolves | apply State.respond_evolves | apply State.accepted_evolves | apply State.countRdma_evolves) | intro _ | split | dsimp only)

theorem execLoadImagePullDone_evolves {part : PartId} {image : Option (List Byte)} {s : State} {t : State} (hx : execLoadImagePullDone part image s = .next t) : s.Evolves t := by
  unfold execLoadImagePullDone at hx
  cases hx
  repeat' (first | with_reducible (first | exact State.Evolves.refl _ | apply State.scheduled_evolves | apply loadImagePullDone_evolves | apply Verdict.Evolves.run | apply Verdict.Evolves.stop | apply Verdict.Evolves.wait | apply Verdict.Evolves.raise | assumption) | intro _ | split | dsimp only)

theorem startJob_evolves {orig : State} {r : HostReq} {b : StartJobBody} {s : State} (hev : orig.Evolves s) :
    orig.Evolves (startJob r b s) := by
  unfold startJob
  repeat' (first | with_reducible (first | assumption | apply State.modPart_evolves | apply State.loadNext_evolves | apply State.command_evolves | apply State.accepted_evolves | apply checked_evolves) | intro _ | split | dsimp only)

theorem execStartJob_evolves {r : HostReq} {b : StartJobBody} {s : State} {t : State} (hx : execStartJob r b s = .next t) : s.Evolves t := by
  unfold execStartJob at hx
  cases hx
  repeat' (first | with_reducible (first | exact State.Evolves.refl _ | apply State.whenAnswering_evolves | apply startJob_evolves | apply Verdict.Evolves.run | apply Verdict.Evolves.stop | apply Verdict.Evolves.wait | apply Verdict.Evolves.raise | assumption) | intro _ | split | dsimp only)

theorem endJob_evolves {orig : State} {r : HostReq} {id : W64} {s : State} (hev : orig.Evolves s) :
    orig.Evolves (endJob r id s) := by
  unfold endJob
  repeat' (first | with_reducible (first | assumption | apply State.modPart_evolves | apply State.countEvent_evolves | apply State.journalWrite_evolves | apply State.nextJob_evolves | apply State.discardJob_evolves | apply State.command_evolves | apply State.accepted_evolves | apply checked_evolves) | intro _ | split | dsimp only)

theorem execEndJob_evolves {r : HostReq} {jobId : W64} {s : State} {t : State} (hx : execEndJob r jobId s = .next t) : s.Evolves t := by
  unfold execEndJob at hx
  cases hx
  repeat' (first | with_reducible (first | exact State.Evolves.refl _ | apply State.whenAnswering_evolves | apply endJob_evolves | apply Verdict.Evolves.run | apply Verdict.Evolves.stop | apply Verdict.Evolves.wait | apply Verdict.Evolves.raise | assumption) | intro _ | split | dsimp only)

theorem jobStatus_evolves {orig : State} {r : HostReq} {p : Nat} {s : State} (hev : orig.Evolves s) :
    orig.Evolves (jobStatus r p s) := by
  unfold jobStatus
  repeat' (first | with_reducible (first | assumption | apply State.command_evolves | apply checked_evolves) | intro _ | split | dsimp only)

theorem execJobStatus_evolves {r : HostReq} {partition : W16} {s : State} {t : State} (hx : execJobStatus r partition s = .next t) : s.Evolves t := by
  unfold execJobStatus at hx
  cases hx
  repeat' (first | with_reducible (first | exact State.Evolves.refl _ | apply State.whenAnswering_evolves | apply jobStatus_evolves | apply Verdict.Evolves.run | apply Verdict.Evolves.stop | apply Verdict.Evolves.wait | apply Verdict.Evolves.raise | assumption) | intro _ | split | dsimp only)

theorem phaseHint_evolves {orig : State} {r : HostReq} {p : Nat} {lead : Nat} {duration : Nat} {load : Nat} {s : State} (hev : orig.Evolves s) :
    orig.Evolves (phaseHint r p lead duration load s) := by
  unfold phaseHint
  repeat' (first | with_reducible (first | assumption | apply State.takeHint_evolves | apply State.command_evolves | apply checked_evolves | apply State.Evolves.foldl | apply State.Evolves.foldl_fst) | intro _ | split | dsimp only)

theorem execPhaseHint_evolves {r : HostReq} {partition : W16} {leadUs : W16} {durationUs : W32} {load : Byte} {s : State} {t : State} (hx : execPhaseHint r partition leadUs durationUs load s = .next t) : s.Evolves t := by
  unfold execPhaseHint at hx
  cases hx
  repeat' (first | with_reducible (first | exact State.Evolves.refl _ | apply State.whenAnswering_evolves | apply phaseHint_evolves | apply Verdict.Evolves.run | apply Verdict.Evolves.stop | apply Verdict.Evolves.wait | apply Verdict.Evolves.raise | assumption) | intro _ | split | dsimp only)

theorem openQp_evolves {orig : State} {r : HostReq} {port : Nat} {sub : Nat} {hostQpn : W32} {gid : BitVec 128} {hostPsn : W32} {s : State} (hev : orig.Evolves s) :
    orig.Evolves (openQp r port sub hostQpn gid hostPsn s) := by
  unfold openQp
  repeat' (first | with_reducible (first | assumption | apply State.fresh_evolves | apply State.command_evolves | apply State.accepted_evolves | apply State.moveTransfers_evolves | apply checked_evolves) | intro _ | split | dsimp only)

theorem execOpenQp_evolves {r : HostReq} {port : Byte} {subport : Byte} {hostQpn : W32} {hostGid : BitVec 128} {hostPsn : W32} {s : State} {t : State} (hx : execOpenQp r port subport hostQpn hostGid hostPsn s = .next t) : s.Evolves t := by
  unfold execOpenQp at hx
  cases hx
  repeat' (first | with_reducible (first | exact State.Evolves.refl _ | apply State.whenAnswering_evolves | apply openQp_evolves | apply Verdict.Evolves.run | apply Verdict.Evolves.stop | apply Verdict.Evolves.wait | apply Verdict.Evolves.raise | assumption) | intro _ | split | dsimp only)

theorem closeQp_evolves {orig : State} {r : HostReq} {qpn : W32} {s : State} (hev : orig.Evolves s) :
    orig.Evolves (closeQp r qpn s) := by
  unfold closeQp
  repeat' (first | with_reducible (first | assumption | apply State.command_evolves | apply State.accepted_evolves | apply State.moveTransfers_evolves | apply checked_evolves) | intro _ | split | dsimp only)

theorem execCloseQp_evolves {r : HostReq} {qpn : W32} {s : State} {t : State} (hx : execCloseQp r qpn s = .next t) : s.Evolves t := by
  unfold execCloseQp at hx
  cases hx
  repeat' (first | with_reducible (first | exact State.Evolves.refl _ | apply State.whenAnswering_evolves | apply closeQp_evolves | apply Verdict.Evolves.run | apply Verdict.Evolves.stop | apply Verdict.Evolves.wait | apply Verdict.Evolves.raise | assumption) | intro _ | split | dsimp only)

theorem State.rdmaRefuse_evolves {orig : State} {s : State} {qpn : W32} {q : Qp} {st : W16} (hev : orig.Evolves s) :
    orig.Evolves (State.rdmaRefuse s qpn q st) := by
  unfold State.rdmaRefuse
  repeat' (first | with_reducible (first | assumption | apply State.emit_evolves | apply State.modHostPort_evolves) | intro _ | split | dsimp only)

theorem rdmaWriteRequest_evolves {orig : State} {qpn : W32} {rkey : W32} {a : Nat} {data : List Byte} {s : State} (hev : orig.Evolves s) :
    orig.Evolves (rdmaWriteRequest qpn rkey a data s) := by
  unfold rdmaWriteRequest
  repeat' (first | with_reducible (first | assumption | apply State.emit_evolves | apply State.hostTraffic_evolves | apply State.partWrite_evolves | apply State.countRdma_evolves | apply State.rdmaRefuse_evolves) | intro _ | split | dsimp only)

theorem execRdmaWriteRequest_evolves {qpn : W32} {rkey : W32} {addr : W64} {data : List Byte} {s : State} {t : State} (hx : execRdmaWriteRequest qpn rkey addr data s = .next t) : s.Evolves t := by
  unfold execRdmaWriteRequest at hx
  cases hx
  repeat' (first | with_reducible (first | exact State.Evolves.refl _ | apply rdmaWriteRequest_evolves | apply Verdict.Evolves.run | apply Verdict.Evolves.stop | apply Verdict.Evolves.wait | apply Verdict.Evolves.raise | assumption) | intro _ | split | dsimp only)

theorem rdmaReadRequest_evolves {orig : State} {qpn : W32} {rkey : W32} {a : Nat} {n : Nat} {s : State} (hev : orig.Evolves s) :
    orig.Evolves (rdmaReadRequest qpn rkey a n s) := by
  unfold rdmaReadRequest
  repeat' (first | with_reducible (first | assumption | apply State.emit_evolves | apply State.hostTraffic_evolves | apply State.wordEvent_evolves | apply State.readRange_evolves | apply State.countRdma_evolves | apply State.rdmaRefuse_evolves | apply State.Evolves.foldl | apply State.Evolves.foldl_fst) | intro _ | split | dsimp only)

theorem execRdmaReadRequest_evolves {qpn : W32} {rkey : W32} {addr : W64} {length : Nat} {s : State} {t : State} (hx : execRdmaReadRequest qpn rkey addr length s = .next t) : s.Evolves t := by
  unfold execRdmaReadRequest at hx
  cases hx
  repeat' (first | with_reducible (first | exact State.Evolves.refl _ | apply rdmaReadRequest_evolves | apply Verdict.Evolves.run | apply Verdict.Evolves.stop | apply Verdict.Evolves.wait | apply Verdict.Evolves.raise | assumption) | intro _ | split | dsimp only)

theorem cnpReceive_evolves {orig : State} {qpn : W32} {s : State} (hev : orig.Evolves s) :
    orig.Evolves (cnpReceive qpn s) := by
  unfold cnpReceive
  repeat' (first | with_reducible (first | assumption | apply State.fresh_evolves) | intro _ | split | dsimp only)

theorem execCnpReceive_evolves {qpn : W32} {s : State} {t : State} (hx : execCnpReceive qpn s = .next t) : s.Evolves t := by
  unfold execCnpReceive at hx
  cases hx
  repeat' (first | with_reducible (first | exact State.Evolves.refl _ | apply cnpReceive_evolves | apply Verdict.Evolves.run | apply Verdict.Evolves.stop | apply Verdict.Evolves.wait | apply Verdict.Evolves.raise | assumption) | intro _ | split | dsimp only)

theorem roceAckTimeout_evolves {orig : State} {qpn : W32} {s : State} (hev : orig.Evolves s) :
    orig.Evolves (roceAckTimeout qpn s) := by
  unfold roceAckTimeout
  repeat' (first | with_reducible (first | assumption | apply State.moveTransfers_evolves) | intro _ | split | dsimp only)

theorem execRoceLocalAckTimeout_evolves {qpn : W32} {s : State} {t : State} (hx : execRoceLocalAckTimeout qpn s = .next t) : s.Evolves t := by
  unfold execRoceLocalAckTimeout at hx
  cases hx
  repeat' (first | with_reducible (first | exact State.Evolves.refl _ | apply roceAckTimeout_evolves | apply Verdict.Evolves.run | apply Verdict.Evolves.stop | apply Verdict.Evolves.wait | apply Verdict.Evolves.raise | assumption) | intro _ | split | dsimp only)

theorem pfcPause_evolves {orig : State} {port : Nat} {priority : Nat} {quanta : Nat} {s : State} (hev : orig.Evolves s) :
    orig.Evolves (pfcPause port priority quanta s) := by
  unfold pfcPause
  repeat' (first | with_reducible (first | assumption | apply State.modHostPort_evolves) | intro _ | split | dsimp only)

theorem execPfcPauseFrame_evolves {port : Fin 2} {priority : Fin 8} {quanta : W16} {s : State} {t : State} (hx : execPfcPauseFrame port priority quanta s = .next t) : s.Evolves t := by
  unfold execPfcPauseFrame at hx
  cases hx
  repeat' (first | with_reducible (first | exact State.Evolves.refl _ | apply pfcPause_evolves | apply Verdict.Evolves.run | apply Verdict.Evolves.stop | apply Verdict.Evolves.wait | apply Verdict.Evolves.raise | assumption) | intro _ | split | dsimp only)

theorem arpRequest_evolves {orig : State} {port : Nat} {sub : Nat} {ip : W32} {s : State} (hev : orig.Evolves s) :
    orig.Evolves (arpRequest port sub ip s) := by
  unfold arpRequest
  repeat' (first | with_reducible (first | assumption | apply State.emit_evolves) | intro _ | split | dsimp only)

theorem execArpRequest_evolves {port : Fin 2} {sub : Fin 4} {ipv4 : W32} {s : State} {t : State} (hx : execArpRequest port sub ipv4 s = .next t) : s.Evolves t := by
  unfold execArpRequest at hx
  cases hx
  repeat' (first | with_reducible (first | exact State.Evolves.refl _ | apply arpRequest_evolves | apply Verdict.Evolves.run | apply Verdict.Evolves.stop | apply Verdict.Evolves.wait | apply Verdict.Evolves.raise | assumption) | intro _ | split | dsimp only)

theorem neighbourSolicitation_evolves {orig : State} {port : Nat} {sub : Nat} {ip : BitVec 128} {s : State} (hev : orig.Evolves s) :
    orig.Evolves (neighbourSolicitation port sub ip s) := by
  unfold neighbourSolicitation
  repeat' (first | with_reducible (first | assumption | apply State.emit_evolves) | intro _ | split | dsimp only)

theorem execNeighbourSolicitation_evolves {port : Fin 2} {sub : Fin 4} {ipv6 : BitVec 128} {s : State} {t : State} (hx : execNeighbourSolicitation port sub ipv6 s = .next t) : s.Evolves t := by
  unfold execNeighbourSolicitation at hx
  cases hx
  repeat' (first | with_reducible (first | exact State.Evolves.refl _ | apply neighbourSolicitation_evolves | apply Verdict.Evolves.run | apply Verdict.Evolves.stop | apply Verdict.Evolves.wait | apply Verdict.Evolves.raise | assumption) | intro _ | split | dsimp only)

theorem icmpEcho_evolves {orig : State} {port : Nat} {sub : Nat} {ip : BitVec 128} {payload : List Byte} {s : State} (hev : orig.Evolves s) :
    orig.Evolves (icmpEcho port sub ip payload s) := by
  unfold icmpEcho
  repeat' (first | with_reducible (first | assumption | apply State.emit_evolves) | intro _ | split | dsimp only)

theorem execIcmpEchoRequest_evolves {port : Fin 2} {sub : Fin 4} {ip : BitVec 128} {payload : List Byte} {s : State} {t : State} (hx : execIcmpEchoRequest port sub ip payload s = .next t) : s.Evolves t := by
  unfold execIcmpEchoRequest at hx
  cases hx
  repeat' (first | with_reducible (first | exact State.Evolves.refl _ | apply icmpEcho_evolves | apply Verdict.Evolves.run | apply Verdict.Evolves.stop | apply Verdict.Evolves.wait | apply Verdict.Evolves.raise | assumption) | intro _ | split | dsimp only)

theorem ptpMessage_evolves {orig : State} {port : Nat} {sub : Nat} {offset : W64} {s : State} (hev : orig.Evolves s) :
    orig.Evolves (ptpMessage port sub offset s) := by
  unfold ptpMessage
  repeat' (first | with_reducible assumption | intro _ | split | dsimp only)

theorem execPtpMessage_evolves {port : Fin 2} {sub : Fin 4} {offsetNs : W64} {s : State} {t : State} (hx : execPtpMessage port sub offsetNs s = .next t) : s.Evolves t := by
  unfold execPtpMessage at hx
  cases hx
  repeat' (first | with_reducible (first | exact State.Evolves.refl _ | apply ptpMessage_evolves | apply Verdict.Evolves.run | apply Verdict.Evolves.stop | apply Verdict.Evolves.wait | apply Verdict.Evolves.raise | assumption) | intro _ | split | dsimp only)

end Sys2Proof.Machine
end

