-- ==== Sys2Proof/Laws/EvolvesSnapshots.lean ====
section
/-! SUPPORT. Every operation of Machine/Snapshots.lean evolves the state (Laws/Evolves.lean). -/

set_option linter.unreachableTactic false
set_option linter.unusedTactic false

namespace Sys2Proof.Machine

theorem State.askSnapshot_evolves {orig : State} {s : State} {g : W32} (hev : orig.Evolves s) :
    orig.Evolves (State.askSnapshot s g) := by
  unfold State.askSnapshot
  repeat' (first | with_reducible (first | assumption | apply State.sendCommit_evolves | apply State.setGroup_evolves) | intro _ | split | dsimp only)

theorem snapshot_evolves {orig : State} {r : HostReq} {p : Nat} {drain : Bool} {qp : W32} {addr : W64} {rkey : W32} {maxBytes : W64} {s : State} (hev : orig.Evolves s) :
    orig.Evolves (snapshot r p drain qp addr rkey maxBytes s) := by
  unfold snapshot
  repeat' (first | with_reducible (first | assumption | apply State.modPart_evolves | apply State.snapshotPoint_evolves | apply State.command_evolves | apply State.accepted_evolves | apply checked_evolves | apply State.askSnapshot_evolves) | intro _ | split | dsimp only)

theorem execSnapshot_evolves {r : HostReq} {partition : W16} {drain : Bool} {qp : W32} {remoteAddr : W64} {rkey : W32} {maxBytes : W64} {s : State} {t : State} (hx : execSnapshot r partition drain qp remoteAddr rkey maxBytes s = .next t) : s.Evolves t := by
  unfold execSnapshot at hx
  cases hx
  repeat' (first | with_reducible (first | exact State.Evolves.refl _ | apply State.whenAnswering_evolves | apply snapshot_evolves | apply Verdict.Evolves.run | apply Verdict.Evolves.stop | apply Verdict.Evolves.wait | apply Verdict.Evolves.raise | assumption) | intro _ | split | dsimp only)

theorem State.keptEntry_evolves {orig : State} {s : State} {p : Nat} {k : Snapshot} (hev : orig.Evolves s) :
    orig.Evolves (State.keptEntry s p k) := by
  unfold State.keptEntry
  repeat' (first | with_reducible (first | assumption | apply State.journalWrite_evolves) | intro _ | split | dsimp only)

theorem State.copyWords_evolves {orig : State} {s : State} {p : Nat} (hev : orig.Evolves s) :
    orig.Evolves (State.copyWords s p).1 := by
  unfold State.copyWords
  repeat' (first | with_reducible (first | assumption | apply State.wordEvent_evolves | apply State.readRange_evolves | apply State.Evolves.foldl | apply State.Evolves.foldl_fst) | intro _ | split | dsimp only)

theorem State.startDrain_evolves {orig : State} {s : State} {p : Nat} {k : Snapshot} (hev : orig.Evolves s) :
    orig.Evolves (State.startDrain s p k) := by
  unfold State.startDrain
  repeat' (first | with_reducible (first | assumption | apply State.modPart_evolves | apply State.emit_evolves | apply State.endSnapshot_evolves | apply State.moveDrain_evolves) | intro _ | split | dsimp only)

theorem snapshotCopyDone_evolves {orig : State} {p : Nat} {uncorrectable : Bool} {pauseUs : W32} {copyUs : W32} {s : State} (hev : orig.Evolves s) :
    orig.Evolves (snapshotCopyDone p uncorrectable pauseUs copyUs s) := by
  unfold snapshotCopyDone
  repeat' (first | with_reducible (first | assumption | apply State.modPart_evolves | apply State.endSnapshot_evolves | apply State.startTests_evolves | apply State.startTurns_evolves | apply State.keptEntry_evolves | apply State.copyWords_evolves | apply State.startDrain_evolves) | intro _ | split | dsimp only)

theorem execSnapshotCopyDone_evolves {part : PartId} {uncorrectable : Bool} {pauseUs : W32} {copyUs : W32} {s : State} {t : State} (hx : execSnapshotCopyDone part uncorrectable pauseUs copyUs s = .next t) : s.Evolves t := by
  unfold execSnapshotCopyDone at hx
  cases hx
  repeat' (first | with_reducible (first | exact State.Evolves.refl _ | apply State.scheduled_evolves | apply snapshotCopyDone_evolves | apply Verdict.Evolves.run | apply Verdict.Evolves.stop | apply Verdict.Evolves.wait | apply Verdict.Evolves.raise | assumption) | intro _ | split | dsimp only)

theorem State.drainTraffic_evolves {orig : State} {s : State} {k : Snapshot} {bytes : Nat} (hev : orig.Evolves s) :
    orig.Evolves (State.drainTraffic s k bytes) := by
  unfold State.drainTraffic
  repeat' (first | with_reducible (first | assumption | apply State.hostTraffic_evolves) | intro _ | split | dsimp only)

theorem drainPageAck_evolves {orig : State} {p : Nat} {bytes : Nat} {last : Bool} {refused : Bool} {s : State} (hev : orig.Evolves s) :
    orig.Evolves (drainPageAck p bytes last refused s) := by
  unfold drainPageAck
  repeat' (first | with_reducible (first | assumption | apply State.modPart_evolves | apply State.endSnapshot_evolves | apply State.countRdma_evolves | apply State.drainTraffic_evolves) | intro _ | split | dsimp only)

theorem execDrainPageAck_evolves {part : PartId} {bytes : W64} {last : Bool} {refused : Bool} {s : State} {t : State} (hx : execDrainPageAck part bytes last refused s = .next t) : s.Evolves t := by
  unfold execDrainPageAck at hx
  cases hx
  repeat' (first | with_reducible (first | exact State.Evolves.refl _ | apply drainPageAck_evolves | apply Verdict.Evolves.run | apply Verdict.Evolves.stop | apply Verdict.Evolves.wait | apply Verdict.Evolves.raise | assumption) | intro _ | split | dsimp only)

theorem drainQpWaitTimeout_evolves {orig : State} {p : Nat} {s : State} (hev : orig.Evolves s) :
    orig.Evolves (drainQpWaitTimeout p s) := by
  unfold drainQpWaitTimeout
  repeat' (first | with_reducible (first | assumption | apply State.endSnapshot_evolves) | intro _ | split | dsimp only)

theorem execDrainQpWaitTimeout_evolves {part : PartId} {s : State} {t : State} (hx : execDrainQpWaitTimeout part s = .next t) : s.Evolves t := by
  unfold execDrainQpWaitTimeout at hx
  cases hx
  repeat' (first | with_reducible (first | exact State.Evolves.refl _ | apply drainQpWaitTimeout_evolves | apply Verdict.Evolves.run | apply Verdict.Evolves.stop | apply Verdict.Evolves.wait | apply Verdict.Evolves.raise | assumption) | intro _ | split | dsimp only)

theorem groupSnapshotTimeout_evolves {orig : State} {p : Nat} {s : State} (hev : orig.Evolves s) :
    orig.Evolves (groupSnapshotTimeout p s) := by
  unfold groupSnapshotTimeout
  repeat' (first | with_reducible (first | assumption | apply State.setGroup_evolves | apply State.endSnapshot_evolves) | intro _ | split | dsimp only)

theorem execGroupSnapshotTimeout_evolves {part : PartId} {s : State} {t : State} (hx : execGroupSnapshotTimeout part s = .next t) : s.Evolves t := by
  unfold execGroupSnapshotTimeout at hx
  cases hx
  repeat' (first | with_reducible (first | exact State.Evolves.refl _ | apply groupSnapshotTimeout_evolves | apply Verdict.Evolves.run | apply Verdict.Evolves.stop | apply Verdict.Evolves.wait | apply Verdict.Evolves.raise | assumption) | intro _ | split | dsimp only)

theorem State.clearForRestore_evolves {orig : State} {s : State} {p : Nat} (hev : orig.Evolves s) :
    orig.Evolves (State.clearForRestore s p) := by
  unfold State.clearForRestore
  repeat' (first | with_reducible (first | assumption | apply State.modPart_evolves | apply State.zero_evolves | apply State.clearHbm_evolves | apply State.Evolves.foldl | apply State.Evolves.foldl_fst) | intro _ | split | dsimp only)

theorem restore_evolves {orig : State} {r : HostReq} {b : RestoreBody} {s : State} (hev : orig.Evolves s) :
    orig.Evolves (restore r b s) := by
  unfold restore
  repeat' (first | with_reducible (first | assumption | apply State.modPart_evolves | apply State.command_evolves | apply State.accepted_evolves | apply State.emitPull_evolves | apply checked_evolves | apply State.clearForRestore_evolves) | intro _ | split | dsimp only)

theorem execRestore_evolves {r : HostReq} {b : RestoreBody} {s : State} {t : State} (hx : execRestore r b s = .next t) : s.Evolves t := by
  unfold execRestore at hx
  cases hx
  repeat' (first | with_reducible (first | exact State.Evolves.refl _ | apply State.whenAnswering_evolves | apply restore_evolves | apply Verdict.Evolves.run | apply Verdict.Evolves.stop | apply Verdict.Evolves.wait | apply Verdict.Evolves.raise | assumption) | intro _ | split | dsimp only)

theorem State.writePages_evolves {orig : State} {s : State} {lo : Nat} {hi : Nat} {es : SMap Byte} (hev : orig.Evolves s) :
    orig.Evolves (State.writePages s lo hi es) := by
  unfold State.writePages
  repeat' (first | with_reducible (first | assumption | apply State.firmwareWrite_evolves | apply State.Evolves.foldl | apply State.Evolves.foldl_fst) | intro _ | split | dsimp only)

theorem State.writeSections_evolves {orig : State} {s : State} {p : Nat} {k : Restore} (hev : orig.Evolves s) :
    orig.Evolves (State.writeSections s p k) := by
  unfold State.writeSections
  repeat' (first | with_reducible (first | assumption | apply State.modPart_evolves | apply State.store_evolves | apply State.copy_evolves | apply State.writePages_evolves | apply State.Evolves.foldl | apply State.Evolves.foldl_fst) | intro _ | split | dsimp only)

theorem State.restoreRank_evolves {orig : State} {s : State} {kept : List Nat} {L : Nat} (hev : orig.Evolves s) :
    orig.Evolves (State.restoreRank s kept L) := by
  unfold State.restoreRank
  repeat' (first | with_reducible (first | assumption | apply State.modCore_evolves | apply State.rebuildCore_evolves) | intro _ | split | dsimp only)

theorem State.restorePages_evolves {orig : State} {s : State} {p : Nat} {shadow : SMap RankShadow} (hev : orig.Evolves s) :
    orig.Evolves (State.restorePages s p shadow) := by
  unfold State.restorePages
  repeat' (first | with_reducible (first | assumption | apply State.firmwareWrite_evolves | apply State.Evolves.foldl | apply State.Evolves.foldl_fst) | intro _ | split | dsimp only)

theorem State.restoreSource_evolves {orig : State} {s : State} {snd : Nat} {src : Nat} {words : Nat} {L : Nat} {inbox : Nat} {slot : Nat} {bs : List Byte} (hev : orig.Evolves s) :
    orig.Evolves (State.restoreSource s snd src words L inbox slot bs) := by
  unfold State.restoreSource
  repeat' (first | with_reducible (first | assumption | apply State.modCore_evolves | apply State.writeBytes_evolves) | intro _ | split | dsimp only)

theorem State.restoreSlots_evolves {orig : State} {s : State} {rank : Nat} {L : Nat} {slots : SMap (List Byte)} (hev : orig.Evolves s) :
    orig.Evolves (State.restoreSlots s rank L slots) := by
  unfold State.restoreSlots
  repeat' (first | with_reducible (first | assumption | apply State.writeBytes_evolves | apply State.restoreSource_evolves | apply State.Evolves.foldl | apply State.Evolves.foldl_fst) | intro _ | split | dsimp only)

theorem State.resumeRestored_evolves {orig : State} {s : State} {p : Nat} {k : Restore} (hev : orig.Evolves s) :
    orig.Evolves (State.resumeRestored s p k) := by
  unfold State.resumeRestored
  repeat' (first | with_reducible (first | assumption | apply State.modPart_evolves | apply State.enterHold_evolves | apply State.holdCapacity_evolves | apply State.reportGroup_evolves | apply State.runLoaded_evolves | apply State.endRestore_evolves | apply State.restoreRank_evolves | apply State.restorePages_evolves | apply State.restoreSlots_evolves | apply State.Evolves.foldl | apply State.Evolves.foldl_fst) | intro _ | split | dsimp only)

theorem restoreDataDone_evolves {orig : State} {p : Nat} {st : W16} {s : State} (hev : orig.Evolves s) :
    orig.Evolves (restoreDataDone p st s) := by
  unfold restoreDataDone
  repeat' (first | with_reducible (first | assumption | apply State.endRestore_evolves | apply State.writeSections_evolves | apply State.resumeRestored_evolves) | intro _ | split | dsimp only)

theorem execRestoreDataDone_evolves {part : PartId} {status : W16} {s : State} {t : State} (hx : execRestoreDataDone part status s = .next t) : s.Evolves t := by
  unfold execRestoreDataDone at hx
  cases hx
  repeat' (first | with_reducible (first | exact State.Evolves.refl _ | apply State.scheduled_evolves | apply restoreDataDone_evolves | apply Verdict.Evolves.run | apply Verdict.Evolves.stop | apply Verdict.Evolves.wait | apply Verdict.Evolves.raise | assumption) | intro _ | split | dsimp only)

theorem rollTest_evolves {orig : State} {r : HostReq} {mask : W64} {s : State} (hev : orig.Evolves s) :
    orig.Evolves (rollTest r mask s) := by
  unfold rollTest
  repeat' (first | with_reducible (first | assumption | apply State.startTests_evolves | apply State.command_evolves | apply State.accepted_evolves | apply checked_evolves) | intro _ | split | dsimp only)

theorem execRollTest_evolves {r : HostReq} {clusters : W64} {s : State} {t : State} (hx : execRollTest r clusters s = .next t) : s.Evolves t := by
  unfold execRollTest at hx
  cases hx
  repeat' (first | with_reducible (first | exact State.Evolves.refl _ | apply State.whenAnswering_evolves | apply rollTest_evolves | apply Verdict.Evolves.run | apply Verdict.Evolves.stop | apply Verdict.Evolves.wait | apply Verdict.Evolves.raise | assumption) | intro _ | split | dsimp only)

theorem State.failReserve_evolves {orig : State} {s : State} {c : Nat} {slot : Nat} (hev : orig.Evolves s) :
    orig.Evolves (State.failReserve s c slot) := by
  unfold State.failReserve
  repeat' (first | with_reducible (first | assumption | apply State.setCluster_evolves | apply State.logRequest_evolves) | intro _ | split | dsimp only)

theorem State.failActive_evolves {orig : State} {s : State} {c : Nat} {slot : Nat} (hev : orig.Evolves s) :
    orig.Evolves (State.failActive s c slot) := by
  unfold State.failActive
  repeat' (first | with_reducible (first | assumption | apply State.failCore_evolves) | intro _ | split | dsimp only)

theorem State.rollEvent_evolves {orig : State} {s : State} {k : RollTest} {outcome : Nat} {rs : List SlotResult} {bad : List Nat} {us : Nat} (hev : orig.Evolves s) :
    orig.Evolves (State.rollEvent s k outcome rs bad us) := by
  unfold State.rollEvent
  repeat' (first | with_reducible (first | assumption | apply State.countEvent_evolves | apply State.journalWrite_evolves | apply State.Evolves.foldl | apply State.Evolves.foldl_fst) | intro _ | split | dsimp only)

theorem State.endTest_evolves {orig : State} {s : State} {c : Nat} (hev : orig.Evolves s) :
    orig.Evolves (State.endTest s c) := by
  unfold State.endTest
  repeat' (first | with_reducible (first | assumption | apply State.awaitRebuild_evolves | apply State.startTests_evolves | apply State.endWait_evolves | apply State.Evolves.foldl | apply State.Evolves.foldl_fst) | intro _ | split | dsimp only)

theorem rollTestClusterDone_evolves {orig : State} {c : Nat} {results : List SlotResult} {again : List SlotResult} {us : Nat} {s : State} (hev : orig.Evolves s) :
    orig.Evolves (rollTestClusterDone c results again us s) := by
  unfold rollTestClusterDone
  repeat' (first | with_reducible (first | assumption | apply State.loseCluster_evolves | apply State.failReserve_evolves | apply State.failActive_evolves | apply State.rollEvent_evolves | apply State.endTest_evolves | apply State.Evolves.foldl | apply State.Evolves.foldl_fst) | intro _ | split | dsimp only)

theorem execRollTestClusterDone_evolves {cluster : ClusterId} {results : List SlotResult} {again : List SlotResult} {durationUs : W32} {s : State} {t : State} (hx : execRollTestClusterDone cluster results again durationUs s = .next t) : s.Evolves t := by
  unfold execRollTestClusterDone at hx
  cases hx
  repeat' (first | with_reducible (first | exact State.Evolves.refl _ | apply rollTestClusterDone_evolves | apply Verdict.Evolves.run | apply Verdict.Evolves.stop | apply Verdict.Evolves.wait | apply Verdict.Evolves.raise | assumption) | intro _ | split | dsimp only)

end Sys2Proof.Machine
end

