-- ==== Sys2Proof/Laws/EvolvesTrust.lean ====
section
/-! SUPPORT. Every operation of Machine/Trust.lean evolves the state (Laws/Evolves.lean). -/

set_option linter.unreachableTactic false
set_option linter.unusedTactic false

namespace Sys2Proof.Machine

theorem State.mirrorBody_evolves {orig : State} {s : State} {x : Session} {seat : Nat} {from' : Nat} {max' : Nat} (hev : orig.Evolves s) :
    orig.Evolves (State.mirrorBody s x seat from' max').1 := by
  unfold State.mirrorBody
  repeat' (first | with_reducible (first | assumption | apply State.fresh_evolves) | intro _ | split | dsimp only)

theorem journalRead_evolves {orig : State} {r : HostReq} {from' : Nat} {max' : Nat} {mirror : Bool} {seat : Nat} {s : State} (hev : orig.Evolves s) :
    orig.Evolves (journalRead r from' max' mirror seat s) := by
  unfold journalRead
  repeat' (first | with_reducible (first | assumption | apply State.command_evolves | apply State.mirrorBody_evolves) | intro _ | split | dsimp only)

theorem execJournalRead_evolves {r : HostReq} {fromSeq : W64} {max : W16} {mirror : Bool} {seat : Byte} {s : State} {t : State} (hx : execJournalRead r fromSeq max mirror seat s = .next t) : s.Evolves t := by
  unfold execJournalRead at hx
  cases hx
  repeat' (first | with_reducible (first | exact State.Evolves.refl _ | apply State.whenAnswering_evolves | apply journalRead_evolves | apply Verdict.Evolves.run | apply Verdict.Evolves.stop | apply Verdict.Evolves.wait | apply Verdict.Evolves.raise | assumption) | intro _ | split | dsimp only)

theorem registerRead_evolves {orig : State} {r : HostReq} {addrs : List W64} {s : State} (hev : orig.Evolves s) :
    orig.Evolves (registerRead r addrs s) := by
  unfold registerRead
  repeat' (first | with_reducible (first | assumption | apply State.command_evolves | apply checked_evolves) | intro _ | split | dsimp only)

theorem execRegisterRead_evolves {r : HostReq} {addrs : List W64} {s : State} {t : State} (hx : execRegisterRead r addrs s = .next t) : s.Evolves t := by
  unfold execRegisterRead at hx
  cases hx
  repeat' (first | with_reducible (first | exact State.Evolves.refl _ | apply State.whenAnswering_evolves | apply registerRead_evolves | apply Verdict.Evolves.run | apply Verdict.Evolves.stop | apply Verdict.Evolves.wait | apply Verdict.Evolves.raise | assumption) | intro _ | split | dsimp only)

theorem attest_evolves {orig : State} {r : HostReq} {nonce : BitVec 256} {s : State} (hev : orig.Evolves s) :
    orig.Evolves (attest r nonce s) := by
  unfold attest
  repeat' (first | with_reducible (first | assumption | apply State.command_evolves) | intro _ | split | dsimp only)

theorem execAttest_evolves {r : HostReq} {nonce : BitVec 256} {s : State} {t : State} (hx : execAttest r nonce s = .next t) : s.Evolves t := by
  unfold execAttest at hx
  cases hx
  repeat' (first | with_reducible (first | exact State.Evolves.refl _ | apply State.whenAnswering_evolves | apply attest_evolves | apply Verdict.Evolves.run | apply Verdict.Evolves.stop | apply Verdict.Evolves.wait | apply Verdict.Evolves.raise | assumption) | intro _ | split | dsimp only)

theorem stageUpdate_evolves {orig : State} {r : HostReq} {kind : Nat} {lo : Nat} {hi : Nat} {qp : W32} {addr : W64} {rkey : W32} {length : W64} {s : State} (hev : orig.Evolves s) :
    orig.Evolves (stageUpdate r kind lo hi qp addr rkey length s) := by
  unfold stageUpdate
  repeat' (first | with_reducible (first | assumption | apply State.command_evolves | apply State.accepted_evolves | apply State.emitPull_evolves | apply checked_evolves) | intro _ | split | dsimp only | with_reducible (first | apply Evo.slots))

theorem execStageUpdateImage_evolves {r : HostReq} {qp : W32} {remoteAddr : W64} {rkey : W32} {length : W64} {s : State} {t : State} (hx : execStageUpdateImage r qp remoteAddr rkey length s = .next t) : s.Evolves t := by
  unfold execStageUpdateImage at hx
  cases hx
  repeat' (first | with_reducible (first | exact State.Evolves.refl _ | apply State.whenAnswering_evolves | apply stageUpdate_evolves | apply Verdict.Evolves.run | apply Verdict.Evolves.stop | apply Verdict.Evolves.wait | apply Verdict.Evolves.raise | assumption) | intro _ | split | dsimp only)

theorem execStageUpdateOpfw_evolves {r : HostReq} {qp : W32} {remoteAddr : W64} {rkey : W32} {length : W64} {s : State} {t : State} (hx : execStageUpdateOpfw r qp remoteAddr rkey length s = .next t) : s.Evolves t := by
  unfold execStageUpdateOpfw at hx
  cases hx
  repeat' (first | with_reducible (first | exact State.Evolves.refl _ | apply State.whenAnswering_evolves | apply stageUpdate_evolves | apply Verdict.Evolves.run | apply Verdict.Evolves.stop | apply Verdict.Evolves.wait | apply Verdict.Evolves.raise | assumption) | intro _ | split | dsimp only)

theorem execStageUpdateTf_evolves {r : HostReq} {qp : W32} {remoteAddr : W64} {rkey : W32} {length : W64} {s : State} {t : State} (hx : execStageUpdateTf r qp remoteAddr rkey length s = .next t) : s.Evolves t := by
  unfold execStageUpdateTf at hx
  cases hx
  repeat' (first | with_reducible (first | exact State.Evolves.refl _ | apply State.whenAnswering_evolves | apply stageUpdate_evolves | apply Verdict.Evolves.run | apply Verdict.Evolves.stop | apply Verdict.Evolves.wait | apply Verdict.Evolves.raise | assumption) | intro _ | split | dsimp only)

theorem stagingPullDone_evolves {orig : State} {o : StagedObject} {s : State} (hev : orig.Evolves s) :
    orig.Evolves (stagingPullDone o s) := by
  unfold stagingPullDone
  split
  · exact hev
  · rename_i g _
    extract_lets ok n nv code side s1
    have hn : orig.Evolves s1 := by
      refine Evo.withNv (n := n) (Evo.place hev) ?_
      change nv.fuses = n.fuses
      unfold nv
      clear_value n ok
      split <;> rfl
    clear_value s1
    exact State.journalWrite_evolves hn

theorem execStagingPullDone_evolves {o : StagedObject} {s : State} {t : State} (hx : execStagingPullDone o s = .next t) : s.Evolves t := by
  unfold execStagingPullDone at hx
  cases hx
  repeat' (first | with_reducible (first | exact State.Evolves.refl _ | apply stagingPullDone_evolves | apply Verdict.Evolves.run | apply Verdict.Evolves.stop | apply Verdict.Evolves.wait | apply Verdict.Evolves.raise | assumption) | intro _ | split | dsimp only)

end Sys2Proof.Machine
end

