-- ==== Sys2Proof/Laws/EvolvesStartOps.lean ====
section
/-! SUPPORT. Every operation of Machine/StartOps.lean evolves the state (Laws/Evolves.lean). -/

set_option linter.unreachableTactic false
set_option linter.unusedTactic false

namespace Sys2Proof.Machine

theorem State.endStage_evolves {orig : State} {s : State} {e : StageEnd} (hev : orig.Evolves s) :
    orig.Evolves (State.endStage s e) := by
  unfold State.endStage
  repeat' (first | with_reducible (first | assumption | apply State.alert_evolves) | intro _ | split | dsimp only)

theorem State.leftOut_evolves {orig : State} {s : State} {unit : W64} {code : W16} (hev : orig.Evolves s) :
    orig.Evolves (State.leftOut s unit code) := by
  unfold State.leftOut
  repeat' (first | with_reducible assumption | intro _ | split | dsimp only)

theorem State.fuseSpares_evolves {orig : State} {s : State} (hev : orig.Evolves s) :
    orig.Evolves (State.fuseSpares s) := by
  unfold State.fuseSpares
  repeat' (first | with_reducible (first | assumption | apply State.modPort_evolves | apply State.Evolves.foldl | apply State.Evolves.foldl_fst) | intro _ | split | dsimp only)

theorem State.loggedSpares_evolves {orig : State} {s : State} (hev : orig.Evolves s) :
    orig.Evolves (State.loggedSpares s) := by
  unfold State.loggedSpares
  repeat' (first | with_reducible (first | assumption | apply State.modPort_evolves | apply State.leftOut_evolves | apply State.Evolves.foldl | apply State.Evolves.foldl_fst) | intro _ | split | dsimp only)

theorem State.halfStaysOut_evolves {orig : State} {s : State} {n : Nat} {d : Nat} {h : Bool} (hev : orig.Evolves s) :
    orig.Evolves (State.halfStaysOut s n d h) := by
  unfold State.halfStaysOut
  repeat' (first | with_reducible (first | assumption | apply State.modPort_evolves) | intro _ | split | dsimp only)

theorem State.loggedHalves_evolves {orig : State} {s : State} (hev : orig.Evolves s) :
    orig.Evolves (State.loggedHalves s) := by
  unfold State.loggedHalves
  repeat' (first | with_reducible (first | assumption | apply State.leftOut_evolves | apply State.halfStaysOut_evolves | apply State.Evolves.foldl | apply State.Evolves.foldl_fst) | intro _ | split | dsimp only)

theorem State.loggedPhases_evolves {orig : State} {s : State} (hev : orig.Evolves s) :
    orig.Evolves (State.loggedPhases s) := by
  unfold State.loggedPhases
  repeat' (first | with_reducible (first | assumption | apply State.modCluster_evolves | apply State.modIsland_evolves | apply State.leftOut_evolves | apply State.Evolves.foldl | apply State.Evolves.foldl_fst) | intro _ | split | dsimp only)

theorem State.buildRow_evolves {orig : State} {s : State} {c : Nat} (hev : orig.Evolves s) :
    orig.Evolves (State.buildRow s c) := by
  unfold State.buildRow
  repeat' (first | with_reducible (first | assumption | apply State.modCore_evolves | apply State.modCluster_evolves | apply State.leftOut_evolves | apply State.Evolves.foldl | apply State.Evolves.foldl_fst) | intro _ | split | dsimp only)

end Sys2Proof.Machine
end

