-- ==== Sys2Proof/Laws/EvolvesStart.lean ====
section
/-! SUPPORT. Every operation of Machine/Start.lean evolves the state (Laws/Evolves.lean). -/

set_option linter.unreachableTactic false
set_option linter.unusedTactic false

namespace Sys2Proof.Machine

theorem inputApplied_evolves {orig : State} {mv : Nat} {s : State} (hev : orig.Evolves s) :
    orig.Evolves (inputApplied mv s) := by
  unfold inputApplied
  repeat' (first | with_reducible assumption | intro _ | split | dsimp only)

theorem execInputApplied_evolves {mv : W32} {s : State} {t : State} (hx : execInputApplied mv s = .next t) : s.Evolves t := by
  unfold execInputApplied at hx
  cases hx
  repeat' (first | with_reducible (first | exact State.Evolves.refl _ | apply inputApplied_evolves | apply Verdict.Evolves.run | apply Verdict.Evolves.stop | apply Verdict.Evolves.wait | apply Verdict.Evolves.raise | assumption) | intro _ | split | dsimp only)

theorem prechargeDone_evolves {orig : State} {bankMv : Nat} {us : Nat} {s : State} (hev : orig.Evolves s) :
    orig.Evolves (prechargeDone bankMv us s) := by
  unfold prechargeDone
  repeat' (first | with_reducible assumption | intro _ | split | dsimp only)

theorem execPrechargeDone_evolves {bankMv : W32} {us : W32} {s : State} {t : State} (hx : execPrechargeDone bankMv us s = .next t) : s.Evolves t := by
  unfold execPrechargeDone at hx
  cases hx
  repeat' (first | with_reducible (first | exact State.Evolves.refl _ | apply prechargeDone_evolves | apply Verdict.Evolves.run | apply Verdict.Evolves.stop | apply Verdict.Evolves.wait | apply Verdict.Evolves.raise | assumption) | intro _ | split | dsimp only)

theorem stage0End_evolves {orig : State} {railMv : Nat} {ok : Bool} {s : State} (hev : orig.Evolves s) :
    orig.Evolves (stage0End railMv ok s) := by
  unfold stage0End
  repeat' (first | with_reducible (first | assumption | apply State.endStage_evolves) | intro _ | split | dsimp only)

theorem execStage0End_evolves {railMv : W32} {ok : Bool} {s : State} {t : State} (hx : execStage0End railMv ok s = .next t) : s.Evolves t := by
  unfold execStage0End at hx
  cases hx
  repeat' (first | with_reducible (first | exact State.Evolves.refl _ | apply stage0End_evolves | apply Verdict.Evolves.run | apply Verdict.Evolves.stop | apply Verdict.Evolves.wait | apply Verdict.Evolves.raise | assumption) | intro _ | split | dsimp only)

theorem State.takeTrusted_evolves {orig : State} {s : State} {c : Choice} {slot : Nat} {f : FwImage} (hev : orig.Evolves s) :
    orig.Evolves (State.takeTrusted s c slot f) := by
  unfold State.takeTrusted
  repeat' (first | with_reducible assumption | intro _ | split | dsimp only)

theorem State.takeOperating_evolves {orig : State} {s : State} {c : Choice} {slot : Nat} {f : FwImage} (hev : orig.Evolves s) :
    orig.Evolves (State.takeOperating s c slot f) := by
  unfold State.takeOperating
  repeat' (first | with_reducible assumption | intro _ | split | dsimp only)

theorem State.noFirmware_evolves {orig : State} {s : State} {area : Nat} {active : Nat} (hev : orig.Evolves s) :
    orig.Evolves (State.noFirmware s area active) := by
  unfold State.noFirmware
  repeat' (first | with_reducible (first | assumption | apply State.endStage_evolves) | intro _ | split | dsimp only)

theorem stage1Firmware_evolves {orig : State} {failedPair : Option Nat} {s : State} (hev : orig.Evolves s) :
    orig.Evolves (stage1Firmware failedPair s) := by
  unfold stage1Firmware
  repeat' (first | with_reducible (first | assumption | apply State.endStage_evolves | apply State.takeTrusted_evolves | apply State.takeOperating_evolves | apply State.noFirmware_evolves) | intro _ | split | dsimp only | with_reducible (first | apply Evo.clearPending | apply Evo.startCount))

theorem execStage1Firmware_evolves {failedPair : Option (Fin 3)} {s : State} {t : State} (hx : execStage1Firmware failedPair s = .next t) : s.Evolves t := by
  unfold execStage1Firmware at hx
  cases hx
  repeat' (first | with_reducible (first | exact State.Evolves.refl _ | apply stage1Firmware_evolves | apply Verdict.Evolves.run | apply Verdict.Evolves.stop | apply Verdict.Evolves.wait | apply Verdict.Evolves.raise | assumption) | intro _ | split | dsimp only)

theorem State.takeImage_evolves {orig : State} {s : State} {m : MorrikImage} (hev : orig.Evolves s) :
    orig.Evolves (State.takeImage s m) := by
  unfold State.takeImage
  repeat' (first | with_reducible assumption | intro _ | split | dsimp only)

theorem stage2Image_evolves {orig : State} {s : State} (hev : orig.Evolves s) :
    orig.Evolves (stage2Image s) := by
  unfold stage2Image
  repeat' (first | with_reducible (first | assumption | apply State.endStage_evolves | apply State.takeImage_evolves) | intro _ | split | dsimp only | with_reducible (first | apply Evo.chooseImage))

theorem execStage2Image_evolves {s : State} {t : State} (hx : execStage2Image s = .next t) : s.Evolves t := by
  unfold execStage2Image at hx
  cases hx
  repeat' (first | with_reducible (first | exact State.Evolves.refl _ | apply stage2Image_evolves | apply Verdict.Evolves.run | apply Verdict.Evolves.stop | apply Verdict.Evolves.wait | apply Verdict.Evolves.raise | assumption) | intro _ | split | dsimp only)

theorem State.phaseAtStart_evolves {orig : State} {s : State} {i : Nat} {domain : Nat} {phase : Nat} (hev : orig.Evolves s) :
    orig.Evolves (State.phaseAtStart s i domain phase) := by
  unfold State.phaseAtStart
  repeat' (first | with_reducible (first | assumption | apply State.modIsland_evolves | apply regionPhaseLost_evolves | apply domainPhaseLost_evolves | apply sectorPhaseFailure_evolves | apply State.leftOut_evolves) | intro _ | split | dsimp only)

theorem State.seamTested_evolves {orig : State} {s : State} {n : Nat} {d : Nat} {h : Bool} {fs : List (Fin 32 × Fin 130)} (hev : orig.Evolves s) :
    orig.Evolves (State.seamTested s n d h fs) := by
  unfold State.seamTested
  repeat' (first | with_reducible (first | assumption | apply State.modPort_evolves | apply wireTestDone_evolves | apply State.leftOut_evolves) | intro _ | split | dsimp only)

theorem State.countSeamTests_evolves {orig : State} {s : State} {w : Nat} (hev : orig.Evolves s) :
    orig.Evolves (State.countSeamTests s w) := by
  unfold State.countSeamTests
  repeat' (first | with_reducible (first | assumption | apply State.modPort_evolves | apply State.Evolves.foldl | apply State.Evolves.foldl_fst) | intro _ | split | dsimp only)

theorem State.bringUp_evolves {orig : State} {s : State} {f : IslandFindings} (hev : orig.Evolves s) :
    orig.Evolves (State.bringUp s f) := by
  unfold State.bringUp
  repeat' (first | with_reducible (first | assumption | apply State.logRequest_evolves | apply State.attachStops_evolves | apply State.leftOut_evolves | apply State.buildRow_evolves | apply State.phaseAtStart_evolves | apply State.seamTested_evolves | apply State.Evolves.foldl | apply State.Evolves.foldl_fst) | intro _ | split | dsimp only)

theorem islandWaveDone_evolves {orig : State} {found : List IslandFindings} {ms : Nat} {s : State} (hev : orig.Evolves s) :
    orig.Evolves (islandWaveDone found ms s) := by
  unfold islandWaveDone
  repeat' (first | with_reducible (first | assumption | apply State.endStage_evolves | apply State.fuseSpares_evolves | apply State.loggedSpares_evolves | apply State.loggedHalves_evolves | apply State.loggedPhases_evolves | apply State.countSeamTests_evolves | apply State.bringUp_evolves | apply State.Evolves.foldl | apply State.Evolves.foldl_fst) | intro _ | split | dsimp only)

theorem execIslandWaveDone_evolves {found : List IslandFindings} {durationMs : W16} {s : State} {t : State} (hx : execIslandWaveDone found durationMs s = .next t) : s.Evolves t := by
  unfold execIslandWaveDone at hx
  cases hx
  repeat' (first | with_reducible (first | exact State.Evolves.refl _ | apply islandWaveDone_evolves | apply Verdict.Evolves.run | apply Verdict.Evolves.stop | apply Verdict.Evolves.wait | apply Verdict.Evolves.raise | assumption) | intro _ | split | dsimp only)

theorem State.loggedHbm_evolves {orig : State} {s : State} (hev : orig.Evolves s) :
    orig.Evolves (State.loggedHbm s) := by
  unfold State.loggedHbm
  repeat' (first | with_reducible (first | assumption | apply State.modStack_evolves | apply State.Evolves.foldl | apply State.Evolves.foldl_fst) | intro _ | split | dsimp only)

theorem State.untrained_evolves {orig : State} {s : State} {k : Nat} {ch : Nat} (hev : orig.Evolves s) :
    orig.Evolves (State.untrained s k ch) := by
  unfold State.untrained
  repeat' (first | with_reducible (first | assumption | apply State.modStack_evolves | apply State.logRequest_evolves | apply State.loseStack_evolves) | intro _ | split | dsimp only)

theorem State.endStage4_evolves {orig : State} {s : State} (hev : orig.Evolves s) :
    orig.Evolves (State.endStage4 s) := by
  unfold State.endStage4
  repeat' (first | with_reducible (first | assumption | apply State.endStage_evolves) | intro _ | split | dsimp only)

theorem hbmTrainingDone_evolves {orig : State} {chans : List (Nat × Nat)} {stackList : List Nat} {s : State} (hev : orig.Evolves s) :
    orig.Evolves (hbmTrainingDone chans stackList s) := by
  unfold hbmTrainingDone
  repeat' (first | with_reducible (first | assumption | apply State.logRequest_evolves | apply State.loseStack_evolves | apply State.endStage_evolves | apply State.loggedHbm_evolves | apply State.untrained_evolves | apply State.endStage4_evolves | apply State.Evolves.foldl | apply State.Evolves.foldl_fst) | intro _ | split | dsimp only)

theorem execHbmTrainingDone_evolves {failedChannels : List (StackId × ChannelId)} {lostStacks : List StackId} {s : State} {t : State} (hx : execHbmTrainingDone failedChannels lostStacks s = .next t) : s.Evolves t := by
  unfold execHbmTrainingDone at hx
  cases hx
  repeat' (first | with_reducible (first | exact State.Evolves.refl _ | apply hbmTrainingDone_evolves | apply Verdict.Evolves.run | apply Verdict.Evolves.stop | apply Verdict.Evolves.wait | apply Verdict.Evolves.raise | assumption) | intro _ | split | dsimp only)

theorem coolingCheck_evolves {orig : State} {baseline : Nat} {pulse : Nat} {drifted : Bool} {s : State} (hev : orig.Evolves s) :
    orig.Evolves (coolingCheck baseline pulse drifted s) := by
  unfold coolingCheck
  repeat' (first | with_reducible (first | assumption | apply State.alert_evolves | apply State.endStage4_evolves) | intro _ | split | dsimp only)

theorem execCoolingCheck_evolves {baselineMilliC : Nat} {pulseMilliC : Nat} {drifted : Bool} {s : State} {t : State} (hx : execCoolingCheck baselineMilliC pulseMilliC drifted s = .next t) : s.Evolves t := by
  unfold execCoolingCheck at hx
  cases hx
  repeat' (first | with_reducible (first | exact State.Evolves.refl _ | apply coolingCheck_evolves | apply Verdict.Evolves.run | apply Verdict.Evolves.stop | apply Verdict.Evolves.wait | apply Verdict.Evolves.raise | assumption) | intro _ | split | dsimp only)

theorem State.portsUp_evolves {orig : State} {s : State} {up : Nat} (hev : orig.Evolves s) :
    orig.Evolves (State.portsUp s up) := by
  unfold State.portsUp
  repeat' (first | with_reducible (first | assumption | apply State.modHostPort_evolves) | intro _ | split | dsimp only)

theorem State.trainEngines_evolves {orig : State} {s : State} (hev : orig.Evolves s) :
    orig.Evolves (State.trainEngines s) := by
  unfold State.trainEngines
  repeat' (first | with_reducible (first | assumption | apply State.modEngine_evolves | apply State.Evolves.foldl | apply State.Evolves.foldl_fst) | intro _ | split | dsimp only)

theorem State.endStage5_evolves {orig : State} {s : State} {lanes : Nat} (hev : orig.Evolves s) :
    orig.Evolves (State.endStage5 s lanes) := by
  unfold State.endStage5
  repeat' (first | with_reducible (first | assumption | apply State.endStage_evolves | apply State.trainEngines_evolves) | intro _ | split | dsimp only)

theorem hostLinkUpDone_evolves {orig : State} {up : Nat} {lanes : Nat} {s : State} (hev : orig.Evolves s) :
    orig.Evolves (hostLinkUpDone up lanes s) := by
  unfold hostLinkUpDone
  repeat' (first | with_reducible (first | assumption | apply State.portsUp_evolves | apply State.endStage5_evolves) | intro _ | split | dsimp only)

theorem execHostLinkUpDone_evolves {up : Byte} {failingLanes : W16} {s : State} {t : State} (hx : execHostLinkUpDone up failingLanes s = .next t) : s.Evolves t := by
  unfold execHostLinkUpDone at hx
  cases hx
  repeat' (first | with_reducible (first | exact State.Evolves.refl _ | apply hostLinkUpDone_evolves | apply Verdict.Evolves.run | apply Verdict.Evolves.stop | apply Verdict.Evolves.wait | apply Verdict.Evolves.raise | assumption) | intro _ | split | dsimp only)

theorem State.endStage6_evolves {orig : State} {s : State} (hev : orig.Evolves s) :
    orig.Evolves (State.endStage6 s) := by
  unfold State.endStage6
  repeat' (first | with_reducible (first | assumption | apply State.endStage_evolves) | intro _ | split | dsimp only)

theorem stageLimitExpiry_evolves {orig : State} {s : State} (hev : orig.Evolves s) :
    orig.Evolves (stageLimitExpiry s) := by
  unfold stageLimitExpiry
  repeat' (first | with_reducible (first | assumption | apply stage0End_evolves | apply State.portsUp_evolves | apply State.endStage5_evolves | apply State.endStage6_evolves) | intro _ | split | dsimp only)

theorem execStageLimitExpiry_evolves {s : State} {t : State} (hx : execStageLimitExpiry s = .next t) : s.Evolves t := by
  unfold execStageLimitExpiry at hx
  cases hx
  repeat' (first | with_reducible (first | exact State.Evolves.refl _ | apply stageLimitExpiry_evolves | apply Verdict.Evolves.run | apply Verdict.Evolves.stop | apply Verdict.Evolves.wait | apply Verdict.Evolves.raise | assumption) | intro _ | split | dsimp only)

theorem State.stepTime_evolves {orig : State} {s : State} {t : W64} (hev : orig.Evolves s) :
    orig.Evolves (State.stepTime s t) := by
  unfold State.stepTime
  repeat' (first | with_reducible assumption | intro _ | split | dsimp only)

theorem State.engineTrained_evolves {orig : State} {s : State} {e : Nat} {up : Bool} (hev : orig.Evolves s) :
    orig.Evolves (State.engineTrained s e up) := by
  unfold State.engineTrained
  repeat' (first | with_reducible (first | assumption | apply State.modEngine_evolves | apply State.useLanes_evolves) | intro _ | split | dsimp only)

theorem joinDone_evolves {orig : State} {members : W64} {epoch : W16} {master : Nat} {deputy : Nat} {time : W64} {engines : Nat} {s : State} (hev : orig.Evolves s) :
    orig.Evolves (joinDone members epoch master deputy time engines s) := by
  unfold joinDone
  repeat' (first | with_reducible (first | assumption | apply State.reportAgain_evolves | apply State.setMap_evolves | apply State.ready_evolves | apply State.endStage6_evolves | apply State.stepTime_evolves | apply State.engineTrained_evolves | apply State.Evolves.foldl | apply State.Evolves.foldl_fst) | intro _ | split | dsimp only)

theorem execJoinDone_evolves {members : W64} {epoch : W16} {master : Fin 64} {deputy : Fin 64} {masterTime : W64} {engines : BitVec 24} {s : State} {t : State} (hx : execJoinDone members epoch master deputy masterTime engines s = .next t) : s.Evolves t := by
  unfold execJoinDone at hx
  cases hx
  repeat' (first | with_reducible (first | exact State.Evolves.refl _ | apply joinDone_evolves | apply Verdict.Evolves.run | apply Verdict.Evolves.stop | apply Verdict.Evolves.wait | apply Verdict.Evolves.raise | assumption) | intro _ | split | dsimp only)

theorem State.firmwareStarted_evolves {orig : State} {s : State} {kind : Nat} {outcome : Nat} {version : W64} {refused : W64} (hev : orig.Evolves s) :
    orig.Evolves (State.firmwareStarted s kind outcome version refused) := by
  unfold State.firmwareStarted
  repeat' (first | with_reducible (first | assumption | apply State.journalWrite_evolves) | intro _ | split | dsimp only)

theorem State.coolingEvent_evolves {orig : State} {s : State} (hev : orig.Evolves s) :
    orig.Evolves (State.coolingEvent s) := by
  unfold State.coolingEvent
  repeat' (first | with_reducible (first | assumption | apply State.event_evolves) | intro _ | split | dsimp only)

theorem readyStage_evolves {orig : State} {ms : Nat} {s : State} (hev : orig.Evolves s) :
    orig.Evolves (readyStage ms s) := by
  unfold readyStage
  repeat' (first | with_reducible (first | assumption | apply State.fresh_evolves | apply State.flushDeferred_evolves | apply State.alert_evolves | apply State.endStage_evolves | apply State.firmwareStarted_evolves | apply State.coolingEvent_evolves) | intro _ | split | dsimp only | with_reducible (first | apply Evo.commitFirmware))

theorem execReady_evolves {startMs : W32} {s : State} {t : State} (hx : execReady startMs s = .next t) : s.Evolves t := by
  unfold execReady at hx
  cases hx
  repeat' (first | with_reducible (first | exact State.Evolves.refl _ | apply readyStage_evolves | apply Verdict.Evolves.run | apply Verdict.Evolves.stop | apply Verdict.Evolves.wait | apply Verdict.Evolves.raise | assumption) | intro _ | split | dsimp only)

end Sys2Proof.Machine
end

