-- ==== Sys2Proof/Laws/EvolvesFirmware.lean ====
section
/-! SUPPORT. Every operation of Machine/Firmware.lean evolves the state (Laws/Evolves.lean). -/

set_option linter.unreachableTactic false
set_option linter.unusedTactic false

namespace Sys2Proof.Machine

theorem State.expiryResets_evolves {orig : State} {s : State} {cause : Nat} (hev : orig.Evolves s) :
    orig.Evolves (State.expiryResets s cause) := by
  unfold State.expiryResets
  repeat' (first | with_reducible (first | assumption | apply State.moduleReset_evolves) | intro _ | split | dsimp only)

theorem execSecurityWatchdogExpiry_evolves {s : State} {t : State} (hx : execSecurityWatchdogExpiry s = .next t) : s.Evolves t := by
  unfold execSecurityWatchdogExpiry at hx
  cases hx
  repeat' (first | with_reducible (first | exact State.Evolves.refl _ | apply State.expiryResets_evolves | apply Verdict.Evolves.run | apply Verdict.Evolves.stop | apply Verdict.Evolves.wait | apply Verdict.Evolves.raise | assumption) | intro _ | split | dsimp only)

theorem State.schedulerExpiry_evolves {orig : State} {s : State} {cause : Nat} (hev : orig.Evolves s) :
    orig.Evolves (State.schedulerExpiry s cause) := by
  unfold State.schedulerExpiry
  repeat' (first | with_reducible (first | assumption | apply State.moduleReset_evolves) | intro _ | split | dsimp only)

theorem execSchedulerWatchdogExpiry_evolves {s : State} {t : State} (hx : execSchedulerWatchdogExpiry s = .next t) : s.Evolves t := by
  unfold execSchedulerWatchdogExpiry at hx
  cases hx
  repeat' (first | with_reducible (first | exact State.Evolves.refl _ | apply State.schedulerExpiry_evolves | apply Verdict.Evolves.run | apply Verdict.Evolves.stop | apply Verdict.Evolves.wait | apply Verdict.Evolves.raise | assumption) | intro _ | split | dsimp only)

theorem State.hostCommand_evolves {orig : State} {s : State} {i : Instr} (hev : orig.Evolves s) :
    orig.Evolves (State.hostCommand s i) := by
  unfold State.hostCommand
  repeat' (first | with_reducible (first | assumption | apply hostAuth_evolves | apply hostAuthResume_evolves | apply keepalive_evolves | apply closeSession_evolves | apply counters_evolves | apply bindPartition_evolves | apply unbindPartition_evolves | apply partitionReset_evolves | apply loadImage_evolves | apply startJob_evolves | apply endJob_evolves | apply jobStatus_evolves | apply phaseHint_evolves | apply openQp_evolves | apply closeQp_evolves | apply snapshot_evolves | apply restore_evolves | apply rollTest_evolves | apply journalRead_evolves | apply registerRead_evolves | apply attest_evolves | apply stageUpdate_evolves) | intro _ | split | dsimp only)

theorem State.runWaiting_evolves {orig : State} {s : State} (hev : orig.Evolves s) :
    orig.Evolves (State.runWaiting s) := by
  unfold State.runWaiting
  repeat' (first | with_reducible (first | assumption | apply State.hostCommand_evolves | apply State.Evolves.foldl | apply State.Evolves.foldl_fst) | intro _ | split | dsimp only)

theorem State.completeCommits_evolves {orig : State} {s : State} (hev : orig.Evolves s) :
    orig.Evolves (State.completeCommits s).1 := by
  unfold State.completeCommits
  repeat' (first | with_reducible (first | assumption | apply turnCommit_evolves | apply State.Evolves.foldl | apply State.Evolves.foldl_fst) | intro _ | split | dsimp only)

theorem State.jobsContinue_evolves {orig : State} {s : State} (hev : orig.Evolves s) :
    orig.Evolves (State.jobsContinue s) := by
  unfold State.jobsContinue
  repeat' (first | with_reducible (first | assumption | apply State.startTurns_evolves | apply State.endWait_evolves | apply State.Evolves.foldl | apply State.Evolves.foldl_fst) | intro _ | split | dsimp only)

theorem schedulerRestartDone_evolves {orig : State} {us : Nat} {s : State} (hev : orig.Evolves s) :
    orig.Evolves (schedulerRestartDone us s) := by
  unfold schedulerRestartDone
  repeat' (first | with_reducible (first | assumption | apply State.flushDeferred_evolves | apply State.event_evolves | apply State.runWaiting_evolves | apply State.completeCommits_evolves | apply State.jobsContinue_evolves) | intro _ | split | dsimp only)

theorem execSchedulerRestartDone_evolves {durationUs : W32} {s : State} {t : State} (hx : execSchedulerRestartDone durationUs s = .next t) : s.Evolves t := by
  unfold execSchedulerRestartDone at hx
  cases hx
  repeat' (first | with_reducible (first | exact State.Evolves.refl _ | apply schedulerRestartDone_evolves | apply Verdict.Evolves.run | apply Verdict.Evolves.stop | apply Verdict.Evolves.wait | apply Verdict.Evolves.raise | assumption) | intro _ | split | dsimp only)

theorem State.replayCluster_evolves {orig : State} {s : State} {c : Nat} (hev : orig.Evolves s) :
    orig.Evolves (State.replayCluster s c) := by
  unfold State.replayCluster
  repeat' (first | with_reducible (first | assumption | apply State.awaitRebuild_evolves | apply State.Evolves.foldl | apply State.Evolves.foldl_fst) | intro _ | split | dsimp only)

theorem cccWatchdogExpiry_evolves {orig : State} {c : Nat} {s : State} (hev : orig.Evolves s) :
    orig.Evolves (cccWatchdogExpiry c s) := by
  unfold cccWatchdogExpiry
  repeat' (first | with_reducible (first | assumption | apply State.modCluster_evolves | apply State.event_evolves | apply State.logRequest_evolves | apply State.loseCluster_evolves | apply State.moduleReset_evolves | apply State.replayCluster_evolves) | intro _ | split | dsimp only)

theorem execCccWatchdogExpiry_evolves {c : ClusterId} {s : State} {t : State} (hx : execCccWatchdogExpiry c s = .next t) : s.Evolves t := by
  unfold execCccWatchdogExpiry at hx
  cases hx
  repeat' (first | with_reducible (first | exact State.Evolves.refl _ | apply cccWatchdogExpiry_evolves | apply Verdict.Evolves.run | apply Verdict.Evolves.stop | apply Verdict.Evolves.wait | apply Verdict.Evolves.raise | assumption) | intro _ | split | dsimp only)

theorem lockstepMismatch_evolves {orig : State} {pair : Nat} {s : State} (hev : orig.Evolves s) :
    orig.Evolves (lockstepMismatch pair s) := by
  unfold lockstepMismatch
  repeat' (first | with_reducible (first | assumption | apply pmWatchdogExpiry_evolves | apply State.expiryResets_evolves | apply State.schedulerExpiry_evolves) | intro _ | split | dsimp only)

theorem execLockstepMismatch_evolves {pair : Fin 3} {s : State} {t : State} (hx : execLockstepMismatch pair s = .next t) : s.Evolves t := by
  unfold execLockstepMismatch at hx
  cases hx
  repeat' (first | with_reducible (first | exact State.Evolves.refl _ | apply lockstepMismatch_evolves | apply Verdict.Evolves.run | apply Verdict.Evolves.stop | apply Verdict.Evolves.wait | apply Verdict.Evolves.raise | assumption) | intro _ | split | dsimp only)

theorem logAppendRequest_evolves {orig : State} {u : W64} {source : Byte} {ev : W16} {s : State} (hev : orig.Evolves s) :
    orig.Evolves (logAppendRequest u source ev s) := by
  unfold logAppendRequest
  repeat' (first | with_reducible (first | assumption | apply State.logRequest_evolves) | intro _ | split | dsimp only)

theorem execLogAppendRequest_evolves {unit : W64} {source : Byte} {event : W16} {s : State} {t : State} (hx : execLogAppendRequest unit source event s = .next t) : s.Evolves t := by
  unfold execLogAppendRequest at hx
  cases hx
  repeat' (first | with_reducible (first | exact State.Evolves.refl _ | apply logAppendRequest_evolves | apply Verdict.Evolves.run | apply Verdict.Evolves.stop | apply Verdict.Evolves.wait | apply Verdict.Evolves.raise | assumption) | intro _ | split | dsimp only)

theorem execLogHeadWritten_evolves {s : State} {t : State} (hx : execLogHeadWritten s = .next t) : s.Evolves t := by
  unfold execLogHeadWritten at hx
  cases hx
  repeat' (first | with_reducible (first | exact State.Evolves.refl _ | apply Evo.cover | apply Verdict.Evolves.run | apply Verdict.Evolves.stop | apply Verdict.Evolves.wait | apply Verdict.Evolves.raise | assumption) | intro _ | split | dsimp only)

theorem execClusterResetDone_evolves {c : ClusterId} {s : State} {t : State} (hx : execClusterResetDone c s = .next t) : s.Evolves t := by
  unfold execClusterResetDone at hx
  cases hx
  repeat' (first | with_reducible (first | exact State.Evolves.refl _ | apply State.clusterResetDone_evolves | apply Verdict.Evolves.run | apply Verdict.Evolves.stop | apply Verdict.Evolves.wait | apply Verdict.Evolves.raise | assumption) | intro _ | split | dsimp only)

end Sys2Proof.Machine
end

