-- ==== Sys2Proof/Laws/EvolvesLowPower.lean ====
section
/-! SUPPORT. Every operation of Machine/LowPower.lean evolves the state (Laws/Evolves.lean). -/

set_option linter.unreachableTactic false
set_option linter.unusedTactic false

namespace Sys2Proof.Machine

theorem State.leaveArch_evolves {orig : State} {s : State} (hev : orig.Evolves s) :
    orig.Evolves (State.leaveArch s) := by
  unfold State.leaveArch
  repeat' (first | with_reducible (first | assumption | apply State.sendMember_evolves | apply State.leftEvent_evolves | apply State.Evolves.foldl | apply State.Evolves.foldl_fst) | intro _ | split | dsimp only)

theorem dozeEntry_evolves {orig : State} {c : Nat} {s : State} (hev : orig.Evolves s) :
    orig.Evolves (dozeEntry c s) := by
  unfold dozeEntry
  repeat' (first | with_reducible (first | assumption | apply State.modCluster_evolves | apply State.gate_evolves | apply State.ready_evolves) | intro _ | split | dsimp only)

theorem execDozeEntry_evolves {c : ClusterId} {s : State} {t : State} (hx : execDozeEntry c s = .next t) : s.Evolves t := by
  unfold execDozeEntry at hx
  cases hx
  repeat' (first | with_reducible (first | exact State.Evolves.refl _ | apply dozeEntry_evolves | apply Verdict.Evolves.run | apply Verdict.Evolves.stop | apply Verdict.Evolves.wait | apply Verdict.Evolves.raise | assumption) | intro _ | split | dsimp only)

theorem lagoonRetentionEntry_evolves {orig : State} {i : Nat} {s : State} (hev : orig.Evolves s) :
    orig.Evolves (lagoonRetentionEntry i s) := by
  unfold lagoonRetentionEntry
  repeat' (first | with_reducible (first | assumption | apply State.modIsland_evolves) | intro _ | split | dsimp only)

theorem execLagoonRetentionEntry_evolves {i : IslandId} {s : State} {t : State} (hx : execLagoonRetentionEntry i s = .next t) : s.Evolves t := by
  unfold execLagoonRetentionEntry at hx
  cases hx
  repeat' (first | with_reducible (first | exact State.Evolves.refl _ | apply lagoonRetentionEntry_evolves | apply Verdict.Evolves.run | apply Verdict.Evolves.stop | apply Verdict.Evolves.wait | apply Verdict.Evolves.raise | assumption) | intro _ | split | dsimp only)

theorem lagoonRetentionExit_evolves {orig : State} {i : Nat} {s : State} (hev : orig.Evolves s) :
    orig.Evolves (lagoonRetentionExit i s) := by
  unfold lagoonRetentionExit
  repeat' (first | with_reducible (first | assumption | apply State.modIsland_evolves | apply State.releaseHeld_evolves) | intro _ | split | dsimp only)

theorem execLagoonRetentionExit_evolves {i : IslandId} {s : State} {t : State} (hx : execLagoonRetentionExit i s = .next t) : s.Evolves t := by
  unfold execLagoonRetentionExit at hx
  cases hx
  repeat' (first | with_reducible (first | exact State.Evolves.refl _ | apply lagoonRetentionExit_evolves | apply Verdict.Evolves.run | apply Verdict.Evolves.stop | apply Verdict.Evolves.wait | apply Verdict.Evolves.raise | assumption) | intro _ | split | dsimp only)

theorem State.harbourRegion_evolves {orig : State} {s : State} {c : Nat} (hev : orig.Evolves s) :
    orig.Evolves (State.harbourRegion s c) := by
  unfold State.harbourRegion
  repeat' (first | with_reducible (first | assumption | apply State.modCluster_evolves | apply State.clearWake_evolves | apply State.stopArrays_evolves) | intro _ | split | dsimp only)

theorem harbourEntry_evolves {orig : State} {s : State} (hev : orig.Evolves s) :
    orig.Evolves (harbourEntry s) := by
  unfold harbourEntry
  repeat' (first | with_reducible (first | assumption | apply State.modIsland_evolves | apply State.modEngine_evolves | apply State.alert_evolves | apply selfRefreshEntry_evolves | apply State.harbourRegion_evolves | apply State.Evolves.foldl | apply State.Evolves.foldl_fst) | intro _ | split | dsimp only)

theorem execHarbourEntry_evolves {s : State} {t : State} (hx : execHarbourEntry s = .next t) : s.Evolves t := by
  unfold execHarbourEntry at hx
  cases hx
  repeat' (first | with_reducible (first | exact State.Evolves.refl _ | apply harbourEntry_evolves | apply Verdict.Evolves.run | apply Verdict.Evolves.stop | apply Verdict.Evolves.wait | apply Verdict.Evolves.raise | assumption) | intro _ | split | dsimp only)

theorem State.lagoonOn_evolves {orig : State} {s : State} {i : Nat} (hev : orig.Evolves s) :
    orig.Evolves (State.lagoonOn s i) := by
  unfold State.lagoonOn
  repeat' (first | with_reducible (first | assumption | apply State.modIsland_evolves | apply State.zero_evolves) | intro _ | split | dsimp only)

theorem State.idleAgain_evolves {orig : State} {s : State} (hev : orig.Evolves s) :
    orig.Evolves (State.idleAgain s) := by
  unfold State.idleAgain
  repeat' (first | with_reducible (first | assumption | apply State.releaseHeld_evolves | apply State.alert_evolves) | intro _ | split | dsimp only)

theorem State.wakeModule_evolves {orig : State} {s : State} (hev : orig.Evolves s) :
    orig.Evolves (State.wakeModule s) := by
  unfold State.wakeModule
  repeat' (first | with_reducible (first | assumption | apply selfRefreshExit_evolves | apply State.lagoonOn_evolves | apply State.idleAgain_evolves | apply State.Evolves.foldl | apply State.Evolves.foldl_fst) | intro _ | split | dsimp only)

theorem harbourExit_evolves {orig : State} {s : State} (hev : orig.Evolves s) :
    orig.Evolves (harbourExit s) := by
  unfold harbourExit
  repeat' (first | with_reducible (first | assumption | apply State.modEngine_evolves | apply State.wakeModule_evolves | apply State.Evolves.foldl | apply State.Evolves.foldl_fst) | intro _ | split | dsimp only)

theorem execHarbourExit_evolves {s : State} {t : State} (hx : execHarbourExit s = .next t) : s.Evolves t := by
  unfold execHarbourExit at hx
  cases hx
  repeat' (first | with_reducible (first | exact State.Evolves.refl _ | apply harbourExit_evolves | apply Verdict.Evolves.run | apply Verdict.Evolves.stop | apply Verdict.Evolves.wait | apply Verdict.Evolves.raise | assumption) | intro _ | split | dsimp only)

theorem enterStandby_evolves {orig : State} {s : State} (hev : orig.Evolves s) :
    orig.Evolves (enterStandby s) := by
  unfold enterStandby
  repeat' (first | with_reducible (first | assumption | apply State.emit_evolves | apply State.modEngine_evolves | apply State.modHostPort_evolves | apply State.alert_evolves | apply selfRefreshEntry_evolves | apply State.leaveArch_evolves | apply State.Evolves.foldl | apply State.Evolves.foldl_fst) | intro _ | split | dsimp only)

theorem execEnterStandbyEffecter_evolves {s : State} {t : State} (hx : execEnterStandbyEffecter s = .next t) : s.Evolves t := by
  unfold execEnterStandbyEffecter at hx
  cases hx
  repeat' (first | with_reducible (first | exact State.Evolves.refl _ | apply enterStandby_evolves | apply Verdict.Evolves.run | apply Verdict.Evolves.stop | apply Verdict.Evolves.wait | apply Verdict.Evolves.raise | assumption) | intro _ | split | dsimp only)

theorem leaveStandby_evolves {orig : State} {s : State} (hev : orig.Evolves s) :
    orig.Evolves (leaveStandby s) := by
  unfold leaveStandby
  repeat' (first | with_reducible (first | assumption | apply State.emit_evolves) | intro _ | split | dsimp only)

theorem execLeaveStandbyEffecter_evolves {s : State} {t : State} (hx : execLeaveStandbyEffecter s = .next t) : s.Evolves t := by
  unfold execLeaveStandbyEffecter at hx
  cases hx
  repeat' (first | with_reducible (first | exact State.Evolves.refl _ | apply leaveStandby_evolves | apply Verdict.Evolves.run | apply Verdict.Evolves.stop | apply Verdict.Evolves.wait | apply Verdict.Evolves.raise | assumption) | intro _ | split | dsimp only)

theorem standbyExit_evolves {orig : State} {up : Nat} {s : State} (hev : orig.Evolves s) :
    orig.Evolves (standbyExit up s) := by
  unfold standbyExit
  repeat' (first | with_reducible (first | assumption | apply State.portsUp_evolves | apply State.trainEngines_evolves | apply State.wakeModule_evolves) | intro _ | split | dsimp only)

theorem execStandbyExit_evolves {up : Byte} {s : State} {t : State} (hx : execStandbyExit up s = .next t) : s.Evolves t := by
  unfold execStandbyExit at hx
  cases hx
  repeat' (first | with_reducible (first | exact State.Evolves.refl _ | apply standbyExit_evolves | apply Verdict.Evolves.run | apply Verdict.Evolves.stop | apply Verdict.Evolves.wait | apply Verdict.Evolves.raise | assumption) | intro _ | split | dsimp only)

end Sys2Proof.Machine
end

