-- ==== Sys2Proof/Laws/EvolvesChassis.lean ====
section
/-! SUPPORT. Every operation of Machine/Chassis.lean evolves the state (Laws/Evolves.lean). -/

set_option linter.unreachableTactic false
set_option linter.unusedTactic false

namespace Sys2Proof.Machine

theorem execPresentMake_evolves {s : State} {t : State} (hx : execPresentMake s = .next t) : s.Evolves t := by
  unfold execPresentMake at hx
  cases hx
  repeat' (first | with_reducible (first | exact State.Evolves.refl _ | apply Verdict.Evolves.run | apply Verdict.Evolves.stop | apply Verdict.Evolves.wait | apply Verdict.Evolves.raise | assumption) | intro _ | split | dsimp only)

theorem State.stopPrecharge_evolves {orig : State} {s : State} (hev : orig.Evolves s) :
    orig.Evolves (State.stopPrecharge s) := by
  unfold State.stopPrecharge
  repeat' (first | with_reducible assumption | intro _ | split | dsimp only)

theorem presentBreak_evolves {orig : State} {s : State} (hev : orig.Evolves s) :
    orig.Evolves (presentBreak s) := by
  unfold presentBreak
  repeat' (first | with_reducible (first | assumption | apply State.powerOff_evolves | apply State.stopPrecharge_evolves) | intro _ | split | dsimp only)

theorem execPresentBreak_evolves {s : State} {t : State} (hx : execPresentBreak s = .next t) : s.Evolves t := by
  unfold execPresentBreak at hx
  cases hx
  repeat' (first | with_reducible (first | exact State.Evolves.refl _ | apply presentBreak_evolves | apply Verdict.Evolves.run | apply Verdict.Evolves.stop | apply Verdict.Evolves.wait | apply Verdict.Evolves.raise | assumption) | intro _ | split | dsimp only)

theorem inputOutOfRange_evolves {orig : State} {mv : Nat} {s : State} (hev : orig.Evolves s) :
    orig.Evolves (inputOutOfRange mv s) := by
  unfold inputOutOfRange
  repeat' (first | with_reducible (first | assumption | apply State.powerOff_evolves | apply State.stopPrecharge_evolves) | intro _ | split | dsimp only)

theorem execInputOutOfRange_evolves {mv : W32} {s : State} {t : State} (hx : execInputOutOfRange mv s = .next t) : s.Evolves t := by
  unfold execInputOutOfRange at hx
  split at hx <;> cases hx
  exact inputOutOfRange_evolves (State.Evolves.refl _)

theorem inputReturnsToRange_evolves {orig : State} {mv : Nat} {s : State} (hev : orig.Evolves s) :
    orig.Evolves (inputReturnsToRange mv s) := by
  unfold inputReturnsToRange
  repeat' (first | with_reducible assumption | intro _ | split | dsimp only)

theorem execInputReturnsToRange_evolves {mv : W32} {s : State} {t : State} (hx : execInputReturnsToRange mv s = .next t) : s.Evolves t := by
  unfold execInputReturnsToRange at hx
  cases hx
  repeat' (first | with_reducible (first | exact State.Evolves.refl _ | apply inputReturnsToRange_evolves | apply Verdict.Evolves.run | apply Verdict.Evolves.stop | apply Verdict.Evolves.wait | apply Verdict.Evolves.raise | assumption) | intro _ | split | dsimp only)

theorem modResetAssert_evolves {orig : State} {us : Nat} {s : State} (hev : orig.Evolves s) :
    orig.Evolves (modResetAssert us s) := by
  unfold modResetAssert
  repeat' (first | with_reducible (first | assumption | apply State.moduleReset_evolves) | intro _ | split | dsimp only)

theorem execModResetAssert_evolves {lowUs : Nat} {s : State} {t : State} (hx : execModResetAssert lowUs s = .next t) : s.Evolves t := by
  unfold execModResetAssert at hx
  cases hx
  repeat' (first | with_reducible (first | exact State.Evolves.refl _ | apply modResetAssert_evolves | apply Verdict.Evolves.run | apply Verdict.Evolves.stop | apply Verdict.Evolves.wait | apply Verdict.Evolves.raise | assumption) | intro _ | split | dsimp only)

theorem modResetRelease_evolves {orig : State} {s : State} (hev : orig.Evolves s) :
    orig.Evolves (modResetRelease s) := by
  unfold modResetRelease
  repeat' (first | with_reducible (first | assumption | apply State.ready_evolves) | intro _ | split | dsimp only)

theorem execModResetRelease_evolves {s : State} {t : State} (hx : execModResetRelease s = .next t) : s.Evolves t := by
  unfold execModResetRelease at hx
  cases hx
  repeat' (first | with_reducible (first | exact State.Evolves.refl _ | apply modResetRelease_evolves | apply Verdict.Evolves.run | apply Verdict.Evolves.stop | apply Verdict.Evolves.wait | apply Verdict.Evolves.raise | assumption) | intro _ | split | dsimp only)

theorem State.beginRemoval_evolves {orig : State} {s : State} (hev : orig.Evolves s) :
    orig.Evolves (State.beginRemoval s) := by
  unfold State.beginRemoval
  repeat' (first | with_reducible (first | assumption | apply State.alert_evolves | apply State.finishWrites_evolves | apply State.leaveArch_evolves) | intro _ | split | dsimp only)

theorem latchOpenAssert_evolves {orig : State} {us : Nat} {s : State} (hev : orig.Evolves s) :
    orig.Evolves (latchOpenAssert us s) := by
  unfold latchOpenAssert
  repeat' (first | with_reducible (first | assumption | apply State.finishWrites_evolves | apply State.ready_evolves | apply State.stopPrecharge_evolves | apply State.beginRemoval_evolves) | intro _ | split | dsimp only)

theorem execLatchOpenAssert_evolves {heldUs : Nat} {s : State} {t : State} (hx : execLatchOpenAssert heldUs s = .next t) : s.Evolves t := by
  unfold execLatchOpenAssert at hx
  cases hx
  repeat' (first | with_reducible (first | exact State.Evolves.refl _ | apply latchOpenAssert_evolves | apply Verdict.Evolves.run | apply Verdict.Evolves.stop | apply Verdict.Evolves.wait | apply Verdict.Evolves.raise | assumption) | intro _ | split | dsimp only)

theorem execLatchOpenRelease_evolves {s : State} {t : State} (hx : execLatchOpenRelease s = .next t) : s.Evolves t := by
  unfold execLatchOpenRelease at hx
  cases hx
  repeat' (first | with_reducible (first | exact State.Evolves.refl _ | apply Verdict.Evolves.run | apply Verdict.Evolves.stop | apply Verdict.Evolves.wait | apply Verdict.Evolves.raise | assumption) | intro _ | split | dsimp only)

theorem mirrorWaitExpiry_evolves {orig : State} {s : State} (hev : orig.Evolves s) :
    orig.Evolves (mirrorWaitExpiry s) := by
  unfold mirrorWaitExpiry
  repeat' (first | with_reducible (first | assumption | apply State.finishWrites_evolves) | intro _ | split | dsimp only)

theorem execMirrorWaitExpiry_evolves {s : State} {t : State} (hx : execMirrorWaitExpiry s = .next t) : s.Evolves t := by
  unfold execMirrorWaitExpiry at hx
  cases hx
  repeat' (first | with_reducible (first | exact State.Evolves.refl _ | apply mirrorWaitExpiry_evolves | apply Verdict.Evolves.run | apply Verdict.Evolves.stop | apply Verdict.Evolves.wait | apply Verdict.Evolves.raise | assumption) | intro _ | split | dsimp only)

theorem removalWritesDone_evolves {orig : State} {s : State} (hev : orig.Evolves s) :
    orig.Evolves (removalWritesDone s) := by
  unfold removalWritesDone
  repeat' (first | with_reducible (first | assumption | apply State.settleDeltas_evolves | apply State.powerOff_evolves) | intro _ | split | dsimp only | with_reducible (first | apply Evo.cover))

theorem execRemovalWritesDone_evolves {s : State} {t : State} (hx : execRemovalWritesDone s = .next t) : s.Evolves t := by
  unfold execRemovalWritesDone at hx
  cases hx
  repeat' (first | with_reducible (first | exact State.Evolves.refl _ | apply removalWritesDone_evolves | apply Verdict.Evolves.run | apply Verdict.Evolves.stop | apply Verdict.Evolves.wait | apply Verdict.Evolves.raise | assumption) | intro _ | split | dsimp only)

theorem sidebandAddressAssign_evolves {orig : State} {addr : BitVec 7} {s : State} (hev : orig.Evolves s) :
    orig.Evolves (sidebandAddressAssign addr s) := by
  unfold sidebandAddressAssign
  repeat' (first | with_reducible assumption | intro _ | split | dsimp only)

theorem execSidebandAddressAssign_evolves {_setdasa : Bool} {addr : BitVec 7} {s : State} {t : State} (hx : execSidebandAddressAssign _setdasa addr s = .next t) : s.Evolves t := by
  unfold execSidebandAddressAssign at hx
  cases hx
  repeat' (first | with_reducible (first | exact State.Evolves.refl _ | apply sidebandAddressAssign_evolves | apply Verdict.Evolves.run | apply Verdict.Evolves.stop | apply Verdict.Evolves.wait | apply Verdict.Evolves.raise | assumption) | intro _ | split | dsimp only)

theorem pldmSensorUpdate_evolves {orig : State} {lid : Byte} {s : State} (hev : orig.Evolves s) :
    orig.Evolves (pldmSensorUpdate lid s) := by
  unfold pldmSensorUpdate
  repeat' (first | with_reducible (first | assumption | apply State.emit_evolves) | intro _ | split | dsimp only)

theorem execPldmSensorUpdate_evolves {lidTemp : Byte} {s : State} {t : State} (hx : execPldmSensorUpdate lidTemp s = .next t) : s.Evolves t := by
  unfold execPldmSensorUpdate at hx
  cases hx
  repeat' (first | with_reducible (first | exact State.Evolves.refl _ | apply pldmSensorUpdate_evolves | apply Verdict.Evolves.run | apply Verdict.Evolves.stop | apply Verdict.Evolves.wait | apply Verdict.Evolves.raise | assumption) | intro _ | split | dsimp only)

theorem State.clearAlerts_evolves {orig : State} {s : State} {v : W64} (hev : orig.Evolves s) :
    orig.Evolves (State.clearAlerts s v) := by
  unfold State.clearAlerts
  repeat' (first | with_reducible assumption | intro _ | split | dsimp only)

theorem vendorMessage_evolves {orig : State} {kind : Nat} {a : Nat} {v : W64} {s : State} (hev : orig.Evolves s) :
    orig.Evolves (vendorMessage kind a v s) := by
  unfold vendorMessage
  repeat' (first | with_reducible (first | assumption | apply State.emit_evolves | apply State.clearAlerts_evolves) | intro _ | split | dsimp only)

theorem execVendorRegisterRead_evolves {kind : Byte} {addr : W64} {s : State} {t : State} (hx : execVendorRegisterRead kind addr s = .next t) : s.Evolves t := by
  unfold execVendorRegisterRead at hx
  cases hx
  repeat' (first | with_reducible (first | exact State.Evolves.refl _ | apply vendorMessage_evolves | apply Verdict.Evolves.run | apply Verdict.Evolves.stop | apply Verdict.Evolves.wait | apply Verdict.Evolves.raise | assumption) | intro _ | split | dsimp only)

theorem execVendorRegisterWrite_evolves {kind : Byte} {addr : W64} {value : W64} {s : State} {t : State} (hx : execVendorRegisterWrite kind addr value s = .next t) : s.Evolves t := by
  unfold execVendorRegisterWrite at hx
  cases hx
  repeat' (first | with_reducible (first | exact State.Evolves.refl _ | apply vendorMessage_evolves | apply Verdict.Evolves.run | apply Verdict.Evolves.stop | apply Verdict.Evolves.wait | apply Verdict.Evolves.raise | assumption) | intro _ | split | dsimp only)

theorem registerWrite_evolves {orig : State} {a : Nat} {v : W64} {s : State} (hev : orig.Evolves s) :
    orig.Evolves (registerWrite a v s) := by
  unfold registerWrite
  repeat' (first | with_reducible (first | assumption | apply State.emit_evolves | apply State.clearAlerts_evolves) | intro _ | split | dsimp only)

theorem execRegisterWrite_evolves {addr : W64} {value : W64} {s : State} {t : State} (hx : execRegisterWrite addr value s = .next t) : s.Evolves t := by
  unfold execRegisterWrite at hx
  cases hx
  repeat' (first | with_reducible (first | exact State.Evolves.refl _ | apply registerWrite_evolves | apply Verdict.Evolves.run | apply Verdict.Evolves.stop | apply Verdict.Evolves.wait | apply Verdict.Evolves.raise | assumption) | intro _ | split | dsimp only)

end Sys2Proof.Machine
end

