-- ==== Sys2Proof/Laws/State.lean ====
section
/-! SUPPORT. What each update of a state leaves as it was, field by field, and what it changes: true by unfolding, so that no
later proof unfolds a record update. -/

namespace Sys2Proof.Machine

/-! ### State.setCore -/

@[simp] theorem State.setCore_timeBase (s : State) (L : Nat) (c : Core) : (s.setCore L c).timeBase = s.timeBase := rfl
@[simp] theorem State.setCore_freeCtr (s : State) (L : Nat) (c : Core) : (s.setCore L c).freeCtr = s.freeCtr := rfl
@[simp] theorem State.setCore_mem (s : State) (L : Nat) (c : Core) : (s.setCore L c).mem = s.mem := rfl
@[simp] theorem State.setCore_wordErr (s : State) (L : Nat) (c : Core) : (s.setCore L c).wordErr = s.wordErr := rfl
@[simp] theorem State.setCore_writeBack (s : State) (L : Nat) (c : Core) : (s.setCore L c).writeBack = s.writeBack := rfl
@[simp] theorem State.setCore_out (s : State) (L : Nat) (c : Core) : (s.setCore L c).out = s.out := rfl
@[simp] theorem State.setCore_clusters (s : State) (L : Nat) (c : Core) : (s.setCore L c).clusters = s.clusters := rfl
@[simp] theorem State.setCore_islands (s : State) (L : Nat) (c : Core) : (s.setCore L c).islands = s.islands := rfl
@[simp] theorem State.setCore_hbm (s : State) (L : Nat) (c : Core) : (s.setCore L c).hbm = s.hbm := rfl
@[simp] theorem State.setCore_hbmStacks (s : State) (L : Nat) (c : Core) : (s.setCore L c).hbmStacks = s.hbmStacks := rfl
@[simp] theorem State.setCore_links (s : State) (L : Nat) (c : Core) : (s.setCore L c).links = s.links := rfl
@[simp] theorem State.setCore_mesh (s : State) (L : Nat) (c : Core) : (s.setCore L c).mesh = s.mesh := rfl
@[simp] theorem State.setCore_sched (s : State) (L : Nat) (c : Core) : (s.setCore L c).sched = s.sched := rfl
@[simp] theorem State.setCore_power (s : State) (L : Nat) (c : Core) : (s.setCore L c).power = s.power := rfl
@[simp] theorem State.setCore_arch (s : State) (L : Nat) (c : Core) : (s.setCore L c).arch = s.arch := rfl
@[simp] theorem State.setCore_host (s : State) (L : Nat) (c : Core) : (s.setCore L c).host = s.host := rfl
@[simp] theorem State.setCore_nv (s : State) (L : Nat) (c : Core) : (s.setCore L c).nv = s.nv := rfl
@[simp] theorem State.setCore_start (s : State) (L : Nat) (c : Core) : (s.setCore L c).start = s.start := rfl
@[simp] theorem State.setCore_firmware (s : State) (L : Nat) (c : Core) : (s.setCore L c).firmware = s.firmware := rfl
@[simp] theorem State.setCore_chassis (s : State) (L : Nat) (c : Core) : (s.setCore L c).chassis = s.chassis := rfl
@[simp] theorem State.setCore_eventCounts (s : State) (L : Nat) (c : Core) : (s.setCore L c).eventCounts = s.eventCounts := rfl
@[simp] theorem State.setCore_journal (s : State) (L : Nat) (c : Core) : (s.setCore L c).journal = s.journal := rfl
@[simp] theorem State.setCore_log (s : State) (L : Nat) (c : Core) : (s.setCore L c).log = s.log := rfl
@[simp] theorem State.setCore_pending (s : State) (L : Nat) (c : Core) : (s.setCore L c).pending = s.pending := rfl

/-! ### State.modCore -/

@[simp] theorem State.modCore_timeBase (s : State) (L : Nat) (f : Core → Core) : (s.modCore L f).timeBase = s.timeBase := rfl
@[simp] theorem State.modCore_freeCtr (s : State) (L : Nat) (f : Core → Core) : (s.modCore L f).freeCtr = s.freeCtr := rfl
@[simp] theorem State.modCore_mem (s : State) (L : Nat) (f : Core → Core) : (s.modCore L f).mem = s.mem := rfl
@[simp] theorem State.modCore_wordErr (s : State) (L : Nat) (f : Core → Core) : (s.modCore L f).wordErr = s.wordErr := rfl
@[simp] theorem State.modCore_writeBack (s : State) (L : Nat) (f : Core → Core) : (s.modCore L f).writeBack = s.writeBack := rfl
@[simp] theorem State.modCore_out (s : State) (L : Nat) (f : Core → Core) : (s.modCore L f).out = s.out := rfl
@[simp] theorem State.modCore_clusters (s : State) (L : Nat) (f : Core → Core) : (s.modCore L f).clusters = s.clusters := rfl
@[simp] theorem State.modCore_islands (s : State) (L : Nat) (f : Core → Core) : (s.modCore L f).islands = s.islands := rfl
@[simp] theorem State.modCore_hbm (s : State) (L : Nat) (f : Core → Core) : (s.modCore L f).hbm = s.hbm := rfl
@[simp] theorem State.modCore_hbmStacks (s : State) (L : Nat) (f : Core → Core) : (s.modCore L f).hbmStacks = s.hbmStacks := rfl
@[simp] theorem State.modCore_links (s : State) (L : Nat) (f : Core → Core) : (s.modCore L f).links = s.links := rfl
@[simp] theorem State.modCore_mesh (s : State) (L : Nat) (f : Core → Core) : (s.modCore L f).mesh = s.mesh := rfl
@[simp] theorem State.modCore_sched (s : State) (L : Nat) (f : Core → Core) : (s.modCore L f).sched = s.sched := rfl
@[simp] theorem State.modCore_power (s : State) (L : Nat) (f : Core → Core) : (s.modCore L f).power = s.power := rfl
@[simp] theorem State.modCore_arch (s : State) (L : Nat) (f : Core → Core) : (s.modCore L f).arch = s.arch := rfl
@[simp] theorem State.modCore_host (s : State) (L : Nat) (f : Core → Core) : (s.modCore L f).host = s.host := rfl
@[simp] theorem State.modCore_nv (s : State) (L : Nat) (f : Core → Core) : (s.modCore L f).nv = s.nv := rfl
@[simp] theorem State.modCore_start (s : State) (L : Nat) (f : Core → Core) : (s.modCore L f).start = s.start := rfl
@[simp] theorem State.modCore_firmware (s : State) (L : Nat) (f : Core → Core) : (s.modCore L f).firmware = s.firmware := rfl
@[simp] theorem State.modCore_chassis (s : State) (L : Nat) (f : Core → Core) : (s.modCore L f).chassis = s.chassis := rfl
@[simp] theorem State.modCore_eventCounts (s : State) (L : Nat) (f : Core → Core) : (s.modCore L f).eventCounts = s.eventCounts := rfl
@[simp] theorem State.modCore_journal (s : State) (L : Nat) (f : Core → Core) : (s.modCore L f).journal = s.journal := rfl
@[simp] theorem State.modCore_log (s : State) (L : Nat) (f : Core → Core) : (s.modCore L f).log = s.log := rfl
@[simp] theorem State.modCore_pending (s : State) (L : Nat) (f : Core → Core) : (s.modCore L f).pending = s.pending := rfl

/-! ### State.setCluster -/

@[simp] theorem State.setCluster_timeBase (s : State) (c : Nat) (x : Cluster) : (s.setCluster c x).timeBase = s.timeBase := rfl
@[simp] theorem State.setCluster_freeCtr (s : State) (c : Nat) (x : Cluster) : (s.setCluster c x).freeCtr = s.freeCtr := rfl
@[simp] theorem State.setCluster_mem (s : State) (c : Nat) (x : Cluster) : (s.setCluster c x).mem = s.mem := rfl
@[simp] theorem State.setCluster_wordErr (s : State) (c : Nat) (x : Cluster) : (s.setCluster c x).wordErr = s.wordErr := rfl
@[simp] theorem State.setCluster_writeBack (s : State) (c : Nat) (x : Cluster) : (s.setCluster c x).writeBack = s.writeBack := rfl
@[simp] theorem State.setCluster_out (s : State) (c : Nat) (x : Cluster) : (s.setCluster c x).out = s.out := rfl
@[simp] theorem State.setCluster_cores (s : State) (c : Nat) (x : Cluster) : (s.setCluster c x).cores = s.cores := rfl
@[simp] theorem State.setCluster_islands (s : State) (c : Nat) (x : Cluster) : (s.setCluster c x).islands = s.islands := rfl
@[simp] theorem State.setCluster_hbm (s : State) (c : Nat) (x : Cluster) : (s.setCluster c x).hbm = s.hbm := rfl
@[simp] theorem State.setCluster_hbmStacks (s : State) (c : Nat) (x : Cluster) : (s.setCluster c x).hbmStacks = s.hbmStacks := rfl
@[simp] theorem State.setCluster_links (s : State) (c : Nat) (x : Cluster) : (s.setCluster c x).links = s.links := rfl
@[simp] theorem State.setCluster_mesh (s : State) (c : Nat) (x : Cluster) : (s.setCluster c x).mesh = s.mesh := rfl
@[simp] theorem State.setCluster_sched (s : State) (c : Nat) (x : Cluster) : (s.setCluster c x).sched = s.sched := rfl
@[simp] theorem State.setCluster_power (s : State) (c : Nat) (x : Cluster) : (s.setCluster c x).power = s.power := rfl
@[simp] theorem State.setCluster_arch (s : State) (c : Nat) (x : Cluster) : (s.setCluster c x).arch = s.arch := rfl
@[simp] theorem State.setCluster_host (s : State) (c : Nat) (x : Cluster) : (s.setCluster c x).host = s.host := rfl
@[simp] theorem State.setCluster_nv (s : State) (c : Nat) (x : Cluster) : (s.setCluster c x).nv = s.nv := rfl
@[simp] theorem State.setCluster_start (s : State) (c : Nat) (x : Cluster) : (s.setCluster c x).start = s.start := rfl
@[simp] theorem State.setCluster_firmware (s : State) (c : Nat) (x : Cluster) : (s.setCluster c x).firmware = s.firmware := rfl
@[simp] theorem State.setCluster_chassis (s : State) (c : Nat) (x : Cluster) : (s.setCluster c x).chassis = s.chassis := rfl
@[simp] theorem State.setCluster_eventCounts (s : State) (c : Nat) (x : Cluster) : (s.setCluster c x).eventCounts = s.eventCounts := rfl
@[simp] theorem State.setCluster_journal (s : State) (c : Nat) (x : Cluster) : (s.setCluster c x).journal = s.journal := rfl
@[simp] theorem State.setCluster_log (s : State) (c : Nat) (x : Cluster) : (s.setCluster c x).log = s.log := rfl
@[simp] theorem State.setCluster_pending (s : State) (c : Nat) (x : Cluster) : (s.setCluster c x).pending = s.pending := rfl

/-! ### State.modCluster -/

@[simp] theorem State.modCluster_timeBase (s : State) (c : Nat) (f : Cluster → Cluster) : (s.modCluster c f).timeBase = s.timeBase := rfl
@[simp] theorem State.modCluster_freeCtr (s : State) (c : Nat) (f : Cluster → Cluster) : (s.modCluster c f).freeCtr = s.freeCtr := rfl
@[simp] theorem State.modCluster_mem (s : State) (c : Nat) (f : Cluster → Cluster) : (s.modCluster c f).mem = s.mem := rfl
@[simp] theorem State.modCluster_wordErr (s : State) (c : Nat) (f : Cluster → Cluster) : (s.modCluster c f).wordErr = s.wordErr := rfl
@[simp] theorem State.modCluster_writeBack (s : State) (c : Nat) (f : Cluster → Cluster) : (s.modCluster c f).writeBack = s.writeBack := rfl
@[simp] theorem State.modCluster_out (s : State) (c : Nat) (f : Cluster → Cluster) : (s.modCluster c f).out = s.out := rfl
@[simp] theorem State.modCluster_cores (s : State) (c : Nat) (f : Cluster → Cluster) : (s.modCluster c f).cores = s.cores := rfl
@[simp] theorem State.modCluster_islands (s : State) (c : Nat) (f : Cluster → Cluster) : (s.modCluster c f).islands = s.islands := rfl
@[simp] theorem State.modCluster_hbm (s : State) (c : Nat) (f : Cluster → Cluster) : (s.modCluster c f).hbm = s.hbm := rfl
@[simp] theorem State.modCluster_hbmStacks (s : State) (c : Nat) (f : Cluster → Cluster) : (s.modCluster c f).hbmStacks = s.hbmStacks := rfl
@[simp] theorem State.modCluster_links (s : State) (c : Nat) (f : Cluster → Cluster) : (s.modCluster c f).links = s.links := rfl
@[simp] theorem State.modCluster_mesh (s : State) (c : Nat) (f : Cluster → Cluster) : (s.modCluster c f).mesh = s.mesh := rfl
@[simp] theorem State.modCluster_sched (s : State) (c : Nat) (f : Cluster → Cluster) : (s.modCluster c f).sched = s.sched := rfl
@[simp] theorem State.modCluster_power (s : State) (c : Nat) (f : Cluster → Cluster) : (s.modCluster c f).power = s.power := rfl
@[simp] theorem State.modCluster_arch (s : State) (c : Nat) (f : Cluster → Cluster) : (s.modCluster c f).arch = s.arch := rfl
@[simp] theorem State.modCluster_host (s : State) (c : Nat) (f : Cluster → Cluster) : (s.modCluster c f).host = s.host := rfl
@[simp] theorem State.modCluster_nv (s : State) (c : Nat) (f : Cluster → Cluster) : (s.modCluster c f).nv = s.nv := rfl
@[simp] theorem State.modCluster_start (s : State) (c : Nat) (f : Cluster → Cluster) : (s.modCluster c f).start = s.start := rfl
@[simp] theorem State.modCluster_firmware (s : State) (c : Nat) (f : Cluster → Cluster) : (s.modCluster c f).firmware = s.firmware := rfl
@[simp] theorem State.modCluster_chassis (s : State) (c : Nat) (f : Cluster → Cluster) : (s.modCluster c f).chassis = s.chassis := rfl
@[simp] theorem State.modCluster_eventCounts (s : State) (c : Nat) (f : Cluster → Cluster) : (s.modCluster c f).eventCounts = s.eventCounts := rfl
@[simp] theorem State.modCluster_journal (s : State) (c : Nat) (f : Cluster → Cluster) : (s.modCluster c f).journal = s.journal := rfl
@[simp] theorem State.modCluster_log (s : State) (c : Nat) (f : Cluster → Cluster) : (s.modCluster c f).log = s.log := rfl
@[simp] theorem State.modCluster_pending (s : State) (c : Nat) (f : Cluster → Cluster) : (s.modCluster c f).pending = s.pending := rfl

/-! ### State.setPart -/

@[simp] theorem State.setPart_timeBase (s : State) (p : Nat) (x : Part) : (s.setPart p x).timeBase = s.timeBase := rfl
@[simp] theorem State.setPart_freeCtr (s : State) (p : Nat) (x : Part) : (s.setPart p x).freeCtr = s.freeCtr := rfl
@[simp] theorem State.setPart_mem (s : State) (p : Nat) (x : Part) : (s.setPart p x).mem = s.mem := rfl
@[simp] theorem State.setPart_wordErr (s : State) (p : Nat) (x : Part) : (s.setPart p x).wordErr = s.wordErr := rfl
@[simp] theorem State.setPart_writeBack (s : State) (p : Nat) (x : Part) : (s.setPart p x).writeBack = s.writeBack := rfl
@[simp] theorem State.setPart_out (s : State) (p : Nat) (x : Part) : (s.setPart p x).out = s.out := rfl
@[simp] theorem State.setPart_cores (s : State) (p : Nat) (x : Part) : (s.setPart p x).cores = s.cores := rfl
@[simp] theorem State.setPart_clusters (s : State) (p : Nat) (x : Part) : (s.setPart p x).clusters = s.clusters := rfl
@[simp] theorem State.setPart_islands (s : State) (p : Nat) (x : Part) : (s.setPart p x).islands = s.islands := rfl
@[simp] theorem State.setPart_hbm (s : State) (p : Nat) (x : Part) : (s.setPart p x).hbm = s.hbm := rfl
@[simp] theorem State.setPart_hbmStacks (s : State) (p : Nat) (x : Part) : (s.setPart p x).hbmStacks = s.hbmStacks := rfl
@[simp] theorem State.setPart_links (s : State) (p : Nat) (x : Part) : (s.setPart p x).links = s.links := rfl
@[simp] theorem State.setPart_mesh (s : State) (p : Nat) (x : Part) : (s.setPart p x).mesh = s.mesh := rfl
@[simp] theorem State.setPart_power (s : State) (p : Nat) (x : Part) : (s.setPart p x).power = s.power := rfl
@[simp] theorem State.setPart_arch (s : State) (p : Nat) (x : Part) : (s.setPart p x).arch = s.arch := rfl
@[simp] theorem State.setPart_host (s : State) (p : Nat) (x : Part) : (s.setPart p x).host = s.host := rfl
@[simp] theorem State.setPart_nv (s : State) (p : Nat) (x : Part) : (s.setPart p x).nv = s.nv := rfl
@[simp] theorem State.setPart_start (s : State) (p : Nat) (x : Part) : (s.setPart p x).start = s.start := rfl
@[simp] theorem State.setPart_firmware (s : State) (p : Nat) (x : Part) : (s.setPart p x).firmware = s.firmware := rfl
@[simp] theorem State.setPart_chassis (s : State) (p : Nat) (x : Part) : (s.setPart p x).chassis = s.chassis := rfl
@[simp] theorem State.setPart_eventCounts (s : State) (p : Nat) (x : Part) : (s.setPart p x).eventCounts = s.eventCounts := rfl
@[simp] theorem State.setPart_journal (s : State) (p : Nat) (x : Part) : (s.setPart p x).journal = s.journal := rfl
@[simp] theorem State.setPart_log (s : State) (p : Nat) (x : Part) : (s.setPart p x).log = s.log := rfl
@[simp] theorem State.setPart_pending (s : State) (p : Nat) (x : Part) : (s.setPart p x).pending = s.pending := rfl

/-! ### State.modPart -/

@[simp] theorem State.modPart_timeBase (s : State) (p : Nat) (f : Part → Part) : (s.modPart p f).timeBase = s.timeBase := rfl
@[simp] theorem State.modPart_freeCtr (s : State) (p : Nat) (f : Part → Part) : (s.modPart p f).freeCtr = s.freeCtr := rfl
@[simp] theorem State.modPart_mem (s : State) (p : Nat) (f : Part → Part) : (s.modPart p f).mem = s.mem := rfl
@[simp] theorem State.modPart_wordErr (s : State) (p : Nat) (f : Part → Part) : (s.modPart p f).wordErr = s.wordErr := rfl
@[simp] theorem State.modPart_writeBack (s : State) (p : Nat) (f : Part → Part) : (s.modPart p f).writeBack = s.writeBack := rfl
@[simp] theorem State.modPart_out (s : State) (p : Nat) (f : Part → Part) : (s.modPart p f).out = s.out := rfl
@[simp] theorem State.modPart_cores (s : State) (p : Nat) (f : Part → Part) : (s.modPart p f).cores = s.cores := rfl
@[simp] theorem State.modPart_clusters (s : State) (p : Nat) (f : Part → Part) : (s.modPart p f).clusters = s.clusters := rfl
@[simp] theorem State.modPart_islands (s : State) (p : Nat) (f : Part → Part) : (s.modPart p f).islands = s.islands := rfl
@[simp] theorem State.modPart_hbm (s : State) (p : Nat) (f : Part → Part) : (s.modPart p f).hbm = s.hbm := rfl
@[simp] theorem State.modPart_hbmStacks (s : State) (p : Nat) (f : Part → Part) : (s.modPart p f).hbmStacks = s.hbmStacks := rfl
@[simp] theorem State.modPart_links (s : State) (p : Nat) (f : Part → Part) : (s.modPart p f).links = s.links := rfl
@[simp] theorem State.modPart_mesh (s : State) (p : Nat) (f : Part → Part) : (s.modPart p f).mesh = s.mesh := rfl
@[simp] theorem State.modPart_power (s : State) (p : Nat) (f : Part → Part) : (s.modPart p f).power = s.power := rfl
@[simp] theorem State.modPart_arch (s : State) (p : Nat) (f : Part → Part) : (s.modPart p f).arch = s.arch := rfl
@[simp] theorem State.modPart_host (s : State) (p : Nat) (f : Part → Part) : (s.modPart p f).host = s.host := rfl
@[simp] theorem State.modPart_nv (s : State) (p : Nat) (f : Part → Part) : (s.modPart p f).nv = s.nv := rfl
@[simp] theorem State.modPart_start (s : State) (p : Nat) (f : Part → Part) : (s.modPart p f).start = s.start := rfl
@[simp] theorem State.modPart_firmware (s : State) (p : Nat) (f : Part → Part) : (s.modPart p f).firmware = s.firmware := rfl
@[simp] theorem State.modPart_chassis (s : State) (p : Nat) (f : Part → Part) : (s.modPart p f).chassis = s.chassis := rfl
@[simp] theorem State.modPart_eventCounts (s : State) (p : Nat) (f : Part → Part) : (s.modPart p f).eventCounts = s.eventCounts := rfl
@[simp] theorem State.modPart_journal (s : State) (p : Nat) (f : Part → Part) : (s.modPart p f).journal = s.journal := rfl
@[simp] theorem State.modPart_log (s : State) (p : Nat) (f : Part → Part) : (s.modPart p f).log = s.log := rfl
@[simp] theorem State.modPart_pending (s : State) (p : Nat) (f : Part → Part) : (s.modPart p f).pending = s.pending := rfl

/-! ### State.modJob -/

@[simp] theorem State.modJob_timeBase (s : State) (p : Nat) (f : Job → Job) : (s.modJob p f).timeBase = s.timeBase := rfl
@[simp] theorem State.modJob_freeCtr (s : State) (p : Nat) (f : Job → Job) : (s.modJob p f).freeCtr = s.freeCtr := rfl
@[simp] theorem State.modJob_mem (s : State) (p : Nat) (f : Job → Job) : (s.modJob p f).mem = s.mem := rfl
@[simp] theorem State.modJob_wordErr (s : State) (p : Nat) (f : Job → Job) : (s.modJob p f).wordErr = s.wordErr := rfl
@[simp] theorem State.modJob_writeBack (s : State) (p : Nat) (f : Job → Job) : (s.modJob p f).writeBack = s.writeBack := rfl
@[simp] theorem State.modJob_out (s : State) (p : Nat) (f : Job → Job) : (s.modJob p f).out = s.out := rfl
@[simp] theorem State.modJob_cores (s : State) (p : Nat) (f : Job → Job) : (s.modJob p f).cores = s.cores := rfl
@[simp] theorem State.modJob_clusters (s : State) (p : Nat) (f : Job → Job) : (s.modJob p f).clusters = s.clusters := rfl
@[simp] theorem State.modJob_islands (s : State) (p : Nat) (f : Job → Job) : (s.modJob p f).islands = s.islands := rfl
@[simp] theorem State.modJob_hbm (s : State) (p : Nat) (f : Job → Job) : (s.modJob p f).hbm = s.hbm := rfl
@[simp] theorem State.modJob_hbmStacks (s : State) (p : Nat) (f : Job → Job) : (s.modJob p f).hbmStacks = s.hbmStacks := rfl
@[simp] theorem State.modJob_links (s : State) (p : Nat) (f : Job → Job) : (s.modJob p f).links = s.links := rfl
@[simp] theorem State.modJob_mesh (s : State) (p : Nat) (f : Job → Job) : (s.modJob p f).mesh = s.mesh := rfl
@[simp] theorem State.modJob_power (s : State) (p : Nat) (f : Job → Job) : (s.modJob p f).power = s.power := rfl
@[simp] theorem State.modJob_arch (s : State) (p : Nat) (f : Job → Job) : (s.modJob p f).arch = s.arch := rfl
@[simp] theorem State.modJob_host (s : State) (p : Nat) (f : Job → Job) : (s.modJob p f).host = s.host := rfl
@[simp] theorem State.modJob_nv (s : State) (p : Nat) (f : Job → Job) : (s.modJob p f).nv = s.nv := rfl
@[simp] theorem State.modJob_start (s : State) (p : Nat) (f : Job → Job) : (s.modJob p f).start = s.start := rfl
@[simp] theorem State.modJob_firmware (s : State) (p : Nat) (f : Job → Job) : (s.modJob p f).firmware = s.firmware := rfl
@[simp] theorem State.modJob_chassis (s : State) (p : Nat) (f : Job → Job) : (s.modJob p f).chassis = s.chassis := rfl
@[simp] theorem State.modJob_eventCounts (s : State) (p : Nat) (f : Job → Job) : (s.modJob p f).eventCounts = s.eventCounts := rfl
@[simp] theorem State.modJob_journal (s : State) (p : Nat) (f : Job → Job) : (s.modJob p f).journal = s.journal := rfl
@[simp] theorem State.modJob_log (s : State) (p : Nat) (f : Job → Job) : (s.modJob p f).log = s.log := rfl
@[simp] theorem State.modJob_pending (s : State) (p : Nat) (f : Job → Job) : (s.modJob p f).pending = s.pending := rfl

/-! ### State.emit -/

@[simp] theorem State.emit_timeBase (s : State) (o : Output) : (s.emit o).timeBase = s.timeBase := rfl
@[simp] theorem State.emit_freeCtr (s : State) (o : Output) : (s.emit o).freeCtr = s.freeCtr := rfl
@[simp] theorem State.emit_mem (s : State) (o : Output) : (s.emit o).mem = s.mem := rfl
@[simp] theorem State.emit_wordErr (s : State) (o : Output) : (s.emit o).wordErr = s.wordErr := rfl
@[simp] theorem State.emit_writeBack (s : State) (o : Output) : (s.emit o).writeBack = s.writeBack := rfl
@[simp] theorem State.emit_cores (s : State) (o : Output) : (s.emit o).cores = s.cores := rfl
@[simp] theorem State.emit_clusters (s : State) (o : Output) : (s.emit o).clusters = s.clusters := rfl
@[simp] theorem State.emit_islands (s : State) (o : Output) : (s.emit o).islands = s.islands := rfl
@[simp] theorem State.emit_hbm (s : State) (o : Output) : (s.emit o).hbm = s.hbm := rfl
@[simp] theorem State.emit_hbmStacks (s : State) (o : Output) : (s.emit o).hbmStacks = s.hbmStacks := rfl
@[simp] theorem State.emit_links (s : State) (o : Output) : (s.emit o).links = s.links := rfl
@[simp] theorem State.emit_mesh (s : State) (o : Output) : (s.emit o).mesh = s.mesh := rfl
@[simp] theorem State.emit_sched (s : State) (o : Output) : (s.emit o).sched = s.sched := rfl
@[simp] theorem State.emit_power (s : State) (o : Output) : (s.emit o).power = s.power := rfl
@[simp] theorem State.emit_arch (s : State) (o : Output) : (s.emit o).arch = s.arch := rfl
@[simp] theorem State.emit_host (s : State) (o : Output) : (s.emit o).host = s.host := rfl
@[simp] theorem State.emit_nv (s : State) (o : Output) : (s.emit o).nv = s.nv := rfl
@[simp] theorem State.emit_start (s : State) (o : Output) : (s.emit o).start = s.start := rfl
@[simp] theorem State.emit_firmware (s : State) (o : Output) : (s.emit o).firmware = s.firmware := rfl
@[simp] theorem State.emit_chassis (s : State) (o : Output) : (s.emit o).chassis = s.chassis := rfl
@[simp] theorem State.emit_eventCounts (s : State) (o : Output) : (s.emit o).eventCounts = s.eventCounts := rfl
@[simp] theorem State.emit_journal (s : State) (o : Output) : (s.emit o).journal = s.journal := rfl
@[simp] theorem State.emit_log (s : State) (o : Output) : (s.emit o).log = s.log := rfl
@[simp] theorem State.emit_pending (s : State) (o : Output) : (s.emit o).pending = s.pending := rfl

/-! ### State.store -/

@[simp] theorem State.store_timeBase (s : State) (a n : Nat) (es : SMap Byte) : (s.store a n es).timeBase = s.timeBase := rfl
@[simp] theorem State.store_freeCtr (s : State) (a n : Nat) (es : SMap Byte) : (s.store a n es).freeCtr = s.freeCtr := rfl
@[simp] theorem State.store_out (s : State) (a n : Nat) (es : SMap Byte) : (s.store a n es).out = s.out := rfl
@[simp] theorem State.store_cores (s : State) (a n : Nat) (es : SMap Byte) : (s.store a n es).cores = s.cores := rfl
@[simp] theorem State.store_clusters (s : State) (a n : Nat) (es : SMap Byte) : (s.store a n es).clusters = s.clusters := rfl
@[simp] theorem State.store_islands (s : State) (a n : Nat) (es : SMap Byte) : (s.store a n es).islands = s.islands := rfl
@[simp] theorem State.store_hbm (s : State) (a n : Nat) (es : SMap Byte) : (s.store a n es).hbm = s.hbm := rfl
@[simp] theorem State.store_hbmStacks (s : State) (a n : Nat) (es : SMap Byte) : (s.store a n es).hbmStacks = s.hbmStacks := rfl
@[simp] theorem State.store_links (s : State) (a n : Nat) (es : SMap Byte) : (s.store a n es).links = s.links := rfl
@[simp] theorem State.store_mesh (s : State) (a n : Nat) (es : SMap Byte) : (s.store a n es).mesh = s.mesh := rfl
@[simp] theorem State.store_sched (s : State) (a n : Nat) (es : SMap Byte) : (s.store a n es).sched = s.sched := rfl
@[simp] theorem State.store_power (s : State) (a n : Nat) (es : SMap Byte) : (s.store a n es).power = s.power := rfl
@[simp] theorem State.store_arch (s : State) (a n : Nat) (es : SMap Byte) : (s.store a n es).arch = s.arch := rfl
@[simp] theorem State.store_host (s : State) (a n : Nat) (es : SMap Byte) : (s.store a n es).host = s.host := rfl
@[simp] theorem State.store_nv (s : State) (a n : Nat) (es : SMap Byte) : (s.store a n es).nv = s.nv := rfl
@[simp] theorem State.store_start (s : State) (a n : Nat) (es : SMap Byte) : (s.store a n es).start = s.start := rfl
@[simp] theorem State.store_firmware (s : State) (a n : Nat) (es : SMap Byte) : (s.store a n es).firmware = s.firmware := rfl
@[simp] theorem State.store_chassis (s : State) (a n : Nat) (es : SMap Byte) : (s.store a n es).chassis = s.chassis := rfl
@[simp] theorem State.store_eventCounts (s : State) (a n : Nat) (es : SMap Byte) : (s.store a n es).eventCounts = s.eventCounts := rfl
@[simp] theorem State.store_journal (s : State) (a n : Nat) (es : SMap Byte) : (s.store a n es).journal = s.journal := rfl
@[simp] theorem State.store_log (s : State) (a n : Nat) (es : SMap Byte) : (s.store a n es).log = s.log := rfl
@[simp] theorem State.store_pending (s : State) (a n : Nat) (es : SMap Byte) : (s.store a n es).pending = s.pending := rfl

/-! ### State.setStack -/

@[simp] theorem State.setStack_timeBase (s : State) (i : Nat) (x : Stack) : (s.setStack i x).timeBase = s.timeBase := rfl
@[simp] theorem State.setStack_freeCtr (s : State) (i : Nat) (x : Stack) : (s.setStack i x).freeCtr = s.freeCtr := rfl
@[simp] theorem State.setStack_mem (s : State) (i : Nat) (x : Stack) : (s.setStack i x).mem = s.mem := rfl
@[simp] theorem State.setStack_wordErr (s : State) (i : Nat) (x : Stack) : (s.setStack i x).wordErr = s.wordErr := rfl
@[simp] theorem State.setStack_writeBack (s : State) (i : Nat) (x : Stack) : (s.setStack i x).writeBack = s.writeBack := rfl
@[simp] theorem State.setStack_out (s : State) (i : Nat) (x : Stack) : (s.setStack i x).out = s.out := rfl
@[simp] theorem State.setStack_cores (s : State) (i : Nat) (x : Stack) : (s.setStack i x).cores = s.cores := rfl
@[simp] theorem State.setStack_clusters (s : State) (i : Nat) (x : Stack) : (s.setStack i x).clusters = s.clusters := rfl
@[simp] theorem State.setStack_islands (s : State) (i : Nat) (x : Stack) : (s.setStack i x).islands = s.islands := rfl
@[simp] theorem State.setStack_hbm (s : State) (i : Nat) (x : Stack) : (s.setStack i x).hbm = s.hbm := rfl
@[simp] theorem State.setStack_links (s : State) (i : Nat) (x : Stack) : (s.setStack i x).links = s.links := rfl
@[simp] theorem State.setStack_mesh (s : State) (i : Nat) (x : Stack) : (s.setStack i x).mesh = s.mesh := rfl
@[simp] theorem State.setStack_sched (s : State) (i : Nat) (x : Stack) : (s.setStack i x).sched = s.sched := rfl
@[simp] theorem State.setStack_power (s : State) (i : Nat) (x : Stack) : (s.setStack i x).power = s.power := rfl
@[simp] theorem State.setStack_arch (s : State) (i : Nat) (x : Stack) : (s.setStack i x).arch = s.arch := rfl
@[simp] theorem State.setStack_host (s : State) (i : Nat) (x : Stack) : (s.setStack i x).host = s.host := rfl
@[simp] theorem State.setStack_nv (s : State) (i : Nat) (x : Stack) : (s.setStack i x).nv = s.nv := rfl
@[simp] theorem State.setStack_start (s : State) (i : Nat) (x : Stack) : (s.setStack i x).start = s.start := rfl
@[simp] theorem State.setStack_firmware (s : State) (i : Nat) (x : Stack) : (s.setStack i x).firmware = s.firmware := rfl
@[simp] theorem State.setStack_chassis (s : State) (i : Nat) (x : Stack) : (s.setStack i x).chassis = s.chassis := rfl
@[simp] theorem State.setStack_eventCounts (s : State) (i : Nat) (x : Stack) : (s.setStack i x).eventCounts = s.eventCounts := rfl
@[simp] theorem State.setStack_journal (s : State) (i : Nat) (x : Stack) : (s.setStack i x).journal = s.journal := rfl
@[simp] theorem State.setStack_log (s : State) (i : Nat) (x : Stack) : (s.setStack i x).log = s.log := rfl
@[simp] theorem State.setStack_pending (s : State) (i : Nat) (x : Stack) : (s.setStack i x).pending = s.pending := rfl

/-! ### State.modStack -/

@[simp] theorem State.modStack_timeBase (s : State) (i : Nat) (f : Stack → Stack) : (s.modStack i f).timeBase = s.timeBase := rfl
@[simp] theorem State.modStack_freeCtr (s : State) (i : Nat) (f : Stack → Stack) : (s.modStack i f).freeCtr = s.freeCtr := rfl
@[simp] theorem State.modStack_mem (s : State) (i : Nat) (f : Stack → Stack) : (s.modStack i f).mem = s.mem := rfl
@[simp] theorem State.modStack_wordErr (s : State) (i : Nat) (f : Stack → Stack) : (s.modStack i f).wordErr = s.wordErr := rfl
@[simp] theorem State.modStack_writeBack (s : State) (i : Nat) (f : Stack → Stack) : (s.modStack i f).writeBack = s.writeBack := rfl
@[simp] theorem State.modStack_out (s : State) (i : Nat) (f : Stack → Stack) : (s.modStack i f).out = s.out := rfl
@[simp] theorem State.modStack_cores (s : State) (i : Nat) (f : Stack → Stack) : (s.modStack i f).cores = s.cores := rfl
@[simp] theorem State.modStack_clusters (s : State) (i : Nat) (f : Stack → Stack) : (s.modStack i f).clusters = s.clusters := rfl
@[simp] theorem State.modStack_islands (s : State) (i : Nat) (f : Stack → Stack) : (s.modStack i f).islands = s.islands := rfl
@[simp] theorem State.modStack_hbm (s : State) (i : Nat) (f : Stack → Stack) : (s.modStack i f).hbm = s.hbm := rfl
@[simp] theorem State.modStack_links (s : State) (i : Nat) (f : Stack → Stack) : (s.modStack i f).links = s.links := rfl
@[simp] theorem State.modStack_mesh (s : State) (i : Nat) (f : Stack → Stack) : (s.modStack i f).mesh = s.mesh := rfl
@[simp] theorem State.modStack_sched (s : State) (i : Nat) (f : Stack → Stack) : (s.modStack i f).sched = s.sched := rfl
@[simp] theorem State.modStack_power (s : State) (i : Nat) (f : Stack → Stack) : (s.modStack i f).power = s.power := rfl
@[simp] theorem State.modStack_arch (s : State) (i : Nat) (f : Stack → Stack) : (s.modStack i f).arch = s.arch := rfl
@[simp] theorem State.modStack_host (s : State) (i : Nat) (f : Stack → Stack) : (s.modStack i f).host = s.host := rfl
@[simp] theorem State.modStack_nv (s : State) (i : Nat) (f : Stack → Stack) : (s.modStack i f).nv = s.nv := rfl
@[simp] theorem State.modStack_start (s : State) (i : Nat) (f : Stack → Stack) : (s.modStack i f).start = s.start := rfl
@[simp] theorem State.modStack_firmware (s : State) (i : Nat) (f : Stack → Stack) : (s.modStack i f).firmware = s.firmware := rfl
@[simp] theorem State.modStack_chassis (s : State) (i : Nat) (f : Stack → Stack) : (s.modStack i f).chassis = s.chassis := rfl
@[simp] theorem State.modStack_eventCounts (s : State) (i : Nat) (f : Stack → Stack) : (s.modStack i f).eventCounts = s.eventCounts := rfl
@[simp] theorem State.modStack_journal (s : State) (i : Nat) (f : Stack → Stack) : (s.modStack i f).journal = s.journal := rfl
@[simp] theorem State.modStack_log (s : State) (i : Nat) (f : Stack → Stack) : (s.modStack i f).log = s.log := rfl
@[simp] theorem State.modStack_pending (s : State) (i : Nat) (f : Stack → Stack) : (s.modStack i f).pending = s.pending := rfl

/-! ### State.setIsland -/

@[simp] theorem State.setIsland_timeBase (s : State) (i : Nat) (x : Island) : (s.setIsland i x).timeBase = s.timeBase := rfl
@[simp] theorem State.setIsland_freeCtr (s : State) (i : Nat) (x : Island) : (s.setIsland i x).freeCtr = s.freeCtr := rfl
@[simp] theorem State.setIsland_mem (s : State) (i : Nat) (x : Island) : (s.setIsland i x).mem = s.mem := rfl
@[simp] theorem State.setIsland_wordErr (s : State) (i : Nat) (x : Island) : (s.setIsland i x).wordErr = s.wordErr := rfl
@[simp] theorem State.setIsland_writeBack (s : State) (i : Nat) (x : Island) : (s.setIsland i x).writeBack = s.writeBack := rfl
@[simp] theorem State.setIsland_out (s : State) (i : Nat) (x : Island) : (s.setIsland i x).out = s.out := rfl
@[simp] theorem State.setIsland_cores (s : State) (i : Nat) (x : Island) : (s.setIsland i x).cores = s.cores := rfl
@[simp] theorem State.setIsland_clusters (s : State) (i : Nat) (x : Island) : (s.setIsland i x).clusters = s.clusters := rfl
@[simp] theorem State.setIsland_hbm (s : State) (i : Nat) (x : Island) : (s.setIsland i x).hbm = s.hbm := rfl
@[simp] theorem State.setIsland_hbmStacks (s : State) (i : Nat) (x : Island) : (s.setIsland i x).hbmStacks = s.hbmStacks := rfl
@[simp] theorem State.setIsland_links (s : State) (i : Nat) (x : Island) : (s.setIsland i x).links = s.links := rfl
@[simp] theorem State.setIsland_mesh (s : State) (i : Nat) (x : Island) : (s.setIsland i x).mesh = s.mesh := rfl
@[simp] theorem State.setIsland_sched (s : State) (i : Nat) (x : Island) : (s.setIsland i x).sched = s.sched := rfl
@[simp] theorem State.setIsland_power (s : State) (i : Nat) (x : Island) : (s.setIsland i x).power = s.power := rfl
@[simp] theorem State.setIsland_arch (s : State) (i : Nat) (x : Island) : (s.setIsland i x).arch = s.arch := rfl
@[simp] theorem State.setIsland_host (s : State) (i : Nat) (x : Island) : (s.setIsland i x).host = s.host := rfl
@[simp] theorem State.setIsland_nv (s : State) (i : Nat) (x : Island) : (s.setIsland i x).nv = s.nv := rfl
@[simp] theorem State.setIsland_start (s : State) (i : Nat) (x : Island) : (s.setIsland i x).start = s.start := rfl
@[simp] theorem State.setIsland_firmware (s : State) (i : Nat) (x : Island) : (s.setIsland i x).firmware = s.firmware := rfl
@[simp] theorem State.setIsland_chassis (s : State) (i : Nat) (x : Island) : (s.setIsland i x).chassis = s.chassis := rfl
@[simp] theorem State.setIsland_eventCounts (s : State) (i : Nat) (x : Island) : (s.setIsland i x).eventCounts = s.eventCounts := rfl
@[simp] theorem State.setIsland_journal (s : State) (i : Nat) (x : Island) : (s.setIsland i x).journal = s.journal := rfl
@[simp] theorem State.setIsland_log (s : State) (i : Nat) (x : Island) : (s.setIsland i x).log = s.log := rfl
@[simp] theorem State.setIsland_pending (s : State) (i : Nat) (x : Island) : (s.setIsland i x).pending = s.pending := rfl

/-! ### State.modIsland -/

@[simp] theorem State.modIsland_timeBase (s : State) (i : Nat) (f : Island → Island) : (s.modIsland i f).timeBase = s.timeBase := rfl
@[simp] theorem State.modIsland_freeCtr (s : State) (i : Nat) (f : Island → Island) : (s.modIsland i f).freeCtr = s.freeCtr := rfl
@[simp] theorem State.modIsland_mem (s : State) (i : Nat) (f : Island → Island) : (s.modIsland i f).mem = s.mem := rfl
@[simp] theorem State.modIsland_wordErr (s : State) (i : Nat) (f : Island → Island) : (s.modIsland i f).wordErr = s.wordErr := rfl
@[simp] theorem State.modIsland_writeBack (s : State) (i : Nat) (f : Island → Island) : (s.modIsland i f).writeBack = s.writeBack := rfl
@[simp] theorem State.modIsland_out (s : State) (i : Nat) (f : Island → Island) : (s.modIsland i f).out = s.out := rfl
@[simp] theorem State.modIsland_cores (s : State) (i : Nat) (f : Island → Island) : (s.modIsland i f).cores = s.cores := rfl
@[simp] theorem State.modIsland_clusters (s : State) (i : Nat) (f : Island → Island) : (s.modIsland i f).clusters = s.clusters := rfl
@[simp] theorem State.modIsland_hbm (s : State) (i : Nat) (f : Island → Island) : (s.modIsland i f).hbm = s.hbm := rfl
@[simp] theorem State.modIsland_hbmStacks (s : State) (i : Nat) (f : Island → Island) : (s.modIsland i f).hbmStacks = s.hbmStacks := rfl
@[simp] theorem State.modIsland_links (s : State) (i : Nat) (f : Island → Island) : (s.modIsland i f).links = s.links := rfl
@[simp] theorem State.modIsland_mesh (s : State) (i : Nat) (f : Island → Island) : (s.modIsland i f).mesh = s.mesh := rfl
@[simp] theorem State.modIsland_sched (s : State) (i : Nat) (f : Island → Island) : (s.modIsland i f).sched = s.sched := rfl
@[simp] theorem State.modIsland_power (s : State) (i : Nat) (f : Island → Island) : (s.modIsland i f).power = s.power := rfl
@[simp] theorem State.modIsland_arch (s : State) (i : Nat) (f : Island → Island) : (s.modIsland i f).arch = s.arch := rfl
@[simp] theorem State.modIsland_host (s : State) (i : Nat) (f : Island → Island) : (s.modIsland i f).host = s.host := rfl
@[simp] theorem State.modIsland_nv (s : State) (i : Nat) (f : Island → Island) : (s.modIsland i f).nv = s.nv := rfl
@[simp] theorem State.modIsland_start (s : State) (i : Nat) (f : Island → Island) : (s.modIsland i f).start = s.start := rfl
@[simp] theorem State.modIsland_firmware (s : State) (i : Nat) (f : Island → Island) : (s.modIsland i f).firmware = s.firmware := rfl
@[simp] theorem State.modIsland_chassis (s : State) (i : Nat) (f : Island → Island) : (s.modIsland i f).chassis = s.chassis := rfl
@[simp] theorem State.modIsland_eventCounts (s : State) (i : Nat) (f : Island → Island) : (s.modIsland i f).eventCounts = s.eventCounts := rfl
@[simp] theorem State.modIsland_journal (s : State) (i : Nat) (f : Island → Island) : (s.modIsland i f).journal = s.journal := rfl
@[simp] theorem State.modIsland_log (s : State) (i : Nat) (f : Island → Island) : (s.modIsland i f).log = s.log := rfl
@[simp] theorem State.modIsland_pending (s : State) (i : Nat) (f : Island → Island) : (s.modIsland i f).pending = s.pending := rfl

/-! ### State.setPort -/

@[simp] theorem State.setPort_timeBase (s : State) (n d : Nat) (x : PortSet) : (s.setPort n d x).timeBase = s.timeBase := rfl
@[simp] theorem State.setPort_freeCtr (s : State) (n d : Nat) (x : PortSet) : (s.setPort n d x).freeCtr = s.freeCtr := rfl
@[simp] theorem State.setPort_mem (s : State) (n d : Nat) (x : PortSet) : (s.setPort n d x).mem = s.mem := rfl
@[simp] theorem State.setPort_wordErr (s : State) (n d : Nat) (x : PortSet) : (s.setPort n d x).wordErr = s.wordErr := rfl
@[simp] theorem State.setPort_writeBack (s : State) (n d : Nat) (x : PortSet) : (s.setPort n d x).writeBack = s.writeBack := rfl
@[simp] theorem State.setPort_out (s : State) (n d : Nat) (x : PortSet) : (s.setPort n d x).out = s.out := rfl
@[simp] theorem State.setPort_cores (s : State) (n d : Nat) (x : PortSet) : (s.setPort n d x).cores = s.cores := rfl
@[simp] theorem State.setPort_clusters (s : State) (n d : Nat) (x : PortSet) : (s.setPort n d x).clusters = s.clusters := rfl
@[simp] theorem State.setPort_islands (s : State) (n d : Nat) (x : PortSet) : (s.setPort n d x).islands = s.islands := rfl
@[simp] theorem State.setPort_hbm (s : State) (n d : Nat) (x : PortSet) : (s.setPort n d x).hbm = s.hbm := rfl
@[simp] theorem State.setPort_hbmStacks (s : State) (n d : Nat) (x : PortSet) : (s.setPort n d x).hbmStacks = s.hbmStacks := rfl
@[simp] theorem State.setPort_mesh (s : State) (n d : Nat) (x : PortSet) : (s.setPort n d x).mesh = s.mesh := rfl
@[simp] theorem State.setPort_sched (s : State) (n d : Nat) (x : PortSet) : (s.setPort n d x).sched = s.sched := rfl
@[simp] theorem State.setPort_power (s : State) (n d : Nat) (x : PortSet) : (s.setPort n d x).power = s.power := rfl
@[simp] theorem State.setPort_arch (s : State) (n d : Nat) (x : PortSet) : (s.setPort n d x).arch = s.arch := rfl
@[simp] theorem State.setPort_host (s : State) (n d : Nat) (x : PortSet) : (s.setPort n d x).host = s.host := rfl
@[simp] theorem State.setPort_nv (s : State) (n d : Nat) (x : PortSet) : (s.setPort n d x).nv = s.nv := rfl
@[simp] theorem State.setPort_start (s : State) (n d : Nat) (x : PortSet) : (s.setPort n d x).start = s.start := rfl
@[simp] theorem State.setPort_firmware (s : State) (n d : Nat) (x : PortSet) : (s.setPort n d x).firmware = s.firmware := rfl
@[simp] theorem State.setPort_chassis (s : State) (n d : Nat) (x : PortSet) : (s.setPort n d x).chassis = s.chassis := rfl
@[simp] theorem State.setPort_eventCounts (s : State) (n d : Nat) (x : PortSet) : (s.setPort n d x).eventCounts = s.eventCounts := rfl
@[simp] theorem State.setPort_journal (s : State) (n d : Nat) (x : PortSet) : (s.setPort n d x).journal = s.journal := rfl
@[simp] theorem State.setPort_log (s : State) (n d : Nat) (x : PortSet) : (s.setPort n d x).log = s.log := rfl
@[simp] theorem State.setPort_pending (s : State) (n d : Nat) (x : PortSet) : (s.setPort n d x).pending = s.pending := rfl

/-! ### State.modPort -/

@[simp] theorem State.modPort_timeBase (s : State) (n d : Nat) (f : PortSet → PortSet) : (s.modPort n d f).timeBase = s.timeBase := rfl
@[simp] theorem State.modPort_freeCtr (s : State) (n d : Nat) (f : PortSet → PortSet) : (s.modPort n d f).freeCtr = s.freeCtr := rfl
@[simp] theorem State.modPort_mem (s : State) (n d : Nat) (f : PortSet → PortSet) : (s.modPort n d f).mem = s.mem := rfl
@[simp] theorem State.modPort_wordErr (s : State) (n d : Nat) (f : PortSet → PortSet) : (s.modPort n d f).wordErr = s.wordErr := rfl
@[simp] theorem State.modPort_writeBack (s : State) (n d : Nat) (f : PortSet → PortSet) : (s.modPort n d f).writeBack = s.writeBack := rfl
@[simp] theorem State.modPort_out (s : State) (n d : Nat) (f : PortSet → PortSet) : (s.modPort n d f).out = s.out := rfl
@[simp] theorem State.modPort_cores (s : State) (n d : Nat) (f : PortSet → PortSet) : (s.modPort n d f).cores = s.cores := rfl
@[simp] theorem State.modPort_clusters (s : State) (n d : Nat) (f : PortSet → PortSet) : (s.modPort n d f).clusters = s.clusters := rfl
@[simp] theorem State.modPort_islands (s : State) (n d : Nat) (f : PortSet → PortSet) : (s.modPort n d f).islands = s.islands := rfl
@[simp] theorem State.modPort_hbm (s : State) (n d : Nat) (f : PortSet → PortSet) : (s.modPort n d f).hbm = s.hbm := rfl
@[simp] theorem State.modPort_hbmStacks (s : State) (n d : Nat) (f : PortSet → PortSet) : (s.modPort n d f).hbmStacks = s.hbmStacks := rfl
@[simp] theorem State.modPort_mesh (s : State) (n d : Nat) (f : PortSet → PortSet) : (s.modPort n d f).mesh = s.mesh := rfl
@[simp] theorem State.modPort_sched (s : State) (n d : Nat) (f : PortSet → PortSet) : (s.modPort n d f).sched = s.sched := rfl
@[simp] theorem State.modPort_power (s : State) (n d : Nat) (f : PortSet → PortSet) : (s.modPort n d f).power = s.power := rfl
@[simp] theorem State.modPort_arch (s : State) (n d : Nat) (f : PortSet → PortSet) : (s.modPort n d f).arch = s.arch := rfl
@[simp] theorem State.modPort_host (s : State) (n d : Nat) (f : PortSet → PortSet) : (s.modPort n d f).host = s.host := rfl
@[simp] theorem State.modPort_nv (s : State) (n d : Nat) (f : PortSet → PortSet) : (s.modPort n d f).nv = s.nv := rfl
@[simp] theorem State.modPort_start (s : State) (n d : Nat) (f : PortSet → PortSet) : (s.modPort n d f).start = s.start := rfl
@[simp] theorem State.modPort_firmware (s : State) (n d : Nat) (f : PortSet → PortSet) : (s.modPort n d f).firmware = s.firmware := rfl
@[simp] theorem State.modPort_chassis (s : State) (n d : Nat) (f : PortSet → PortSet) : (s.modPort n d f).chassis = s.chassis := rfl
@[simp] theorem State.modPort_eventCounts (s : State) (n d : Nat) (f : PortSet → PortSet) : (s.modPort n d f).eventCounts = s.eventCounts := rfl
@[simp] theorem State.modPort_journal (s : State) (n d : Nat) (f : PortSet → PortSet) : (s.modPort n d f).journal = s.journal := rfl
@[simp] theorem State.modPort_log (s : State) (n d : Nat) (f : PortSet → PortSet) : (s.modPort n d f).log = s.log := rfl
@[simp] theorem State.modPort_pending (s : State) (n d : Nat) (f : PortSet → PortSet) : (s.modPort n d f).pending = s.pending := rfl

/-! ### State.modEngine -/

@[simp] theorem State.modEngine_timeBase (s : State) (e : Nat) (f : Engine → Engine) : (s.modEngine e f).timeBase = s.timeBase := rfl
@[simp] theorem State.modEngine_freeCtr (s : State) (e : Nat) (f : Engine → Engine) : (s.modEngine e f).freeCtr = s.freeCtr := rfl
@[simp] theorem State.modEngine_mem (s : State) (e : Nat) (f : Engine → Engine) : (s.modEngine e f).mem = s.mem := rfl
@[simp] theorem State.modEngine_wordErr (s : State) (e : Nat) (f : Engine → Engine) : (s.modEngine e f).wordErr = s.wordErr := rfl
@[simp] theorem State.modEngine_writeBack (s : State) (e : Nat) (f : Engine → Engine) : (s.modEngine e f).writeBack = s.writeBack := rfl
@[simp] theorem State.modEngine_out (s : State) (e : Nat) (f : Engine → Engine) : (s.modEngine e f).out = s.out := rfl
@[simp] theorem State.modEngine_cores (s : State) (e : Nat) (f : Engine → Engine) : (s.modEngine e f).cores = s.cores := rfl
@[simp] theorem State.modEngine_clusters (s : State) (e : Nat) (f : Engine → Engine) : (s.modEngine e f).clusters = s.clusters := rfl
@[simp] theorem State.modEngine_islands (s : State) (e : Nat) (f : Engine → Engine) : (s.modEngine e f).islands = s.islands := rfl
@[simp] theorem State.modEngine_hbm (s : State) (e : Nat) (f : Engine → Engine) : (s.modEngine e f).hbm = s.hbm := rfl
@[simp] theorem State.modEngine_hbmStacks (s : State) (e : Nat) (f : Engine → Engine) : (s.modEngine e f).hbmStacks = s.hbmStacks := rfl
@[simp] theorem State.modEngine_links (s : State) (e : Nat) (f : Engine → Engine) : (s.modEngine e f).links = s.links := rfl
@[simp] theorem State.modEngine_mesh (s : State) (e : Nat) (f : Engine → Engine) : (s.modEngine e f).mesh = s.mesh := rfl
@[simp] theorem State.modEngine_sched (s : State) (e : Nat) (f : Engine → Engine) : (s.modEngine e f).sched = s.sched := rfl
@[simp] theorem State.modEngine_power (s : State) (e : Nat) (f : Engine → Engine) : (s.modEngine e f).power = s.power := rfl
@[simp] theorem State.modEngine_host (s : State) (e : Nat) (f : Engine → Engine) : (s.modEngine e f).host = s.host := rfl
@[simp] theorem State.modEngine_nv (s : State) (e : Nat) (f : Engine → Engine) : (s.modEngine e f).nv = s.nv := rfl
@[simp] theorem State.modEngine_start (s : State) (e : Nat) (f : Engine → Engine) : (s.modEngine e f).start = s.start := rfl
@[simp] theorem State.modEngine_firmware (s : State) (e : Nat) (f : Engine → Engine) : (s.modEngine e f).firmware = s.firmware := rfl
@[simp] theorem State.modEngine_chassis (s : State) (e : Nat) (f : Engine → Engine) : (s.modEngine e f).chassis = s.chassis := rfl
@[simp] theorem State.modEngine_eventCounts (s : State) (e : Nat) (f : Engine → Engine) : (s.modEngine e f).eventCounts = s.eventCounts := rfl
@[simp] theorem State.modEngine_journal (s : State) (e : Nat) (f : Engine → Engine) : (s.modEngine e f).journal = s.journal := rfl
@[simp] theorem State.modEngine_log (s : State) (e : Nat) (f : Engine → Engine) : (s.modEngine e f).log = s.log := rfl
@[simp] theorem State.modEngine_pending (s : State) (e : Nat) (f : Engine → Engine) : (s.modEngine e f).pending = s.pending := rfl

/-! ### State.modHostPort -/

@[simp] theorem State.modHostPort_timeBase (s : State) (i : Nat) (f : HostPort → HostPort) : (s.modHostPort i f).timeBase = s.timeBase := rfl
@[simp] theorem State.modHostPort_freeCtr (s : State) (i : Nat) (f : HostPort → HostPort) : (s.modHostPort i f).freeCtr = s.freeCtr := rfl
@[simp] theorem State.modHostPort_mem (s : State) (i : Nat) (f : HostPort → HostPort) : (s.modHostPort i f).mem = s.mem := rfl
@[simp] theorem State.modHostPort_wordErr (s : State) (i : Nat) (f : HostPort → HostPort) : (s.modHostPort i f).wordErr = s.wordErr := rfl
@[simp] theorem State.modHostPort_writeBack (s : State) (i : Nat) (f : HostPort → HostPort) : (s.modHostPort i f).writeBack = s.writeBack := rfl
@[simp] theorem State.modHostPort_out (s : State) (i : Nat) (f : HostPort → HostPort) : (s.modHostPort i f).out = s.out := rfl
@[simp] theorem State.modHostPort_cores (s : State) (i : Nat) (f : HostPort → HostPort) : (s.modHostPort i f).cores = s.cores := rfl
@[simp] theorem State.modHostPort_clusters (s : State) (i : Nat) (f : HostPort → HostPort) : (s.modHostPort i f).clusters = s.clusters := rfl
@[simp] theorem State.modHostPort_islands (s : State) (i : Nat) (f : HostPort → HostPort) : (s.modHostPort i f).islands = s.islands := rfl
@[simp] theorem State.modHostPort_hbm (s : State) (i : Nat) (f : HostPort → HostPort) : (s.modHostPort i f).hbm = s.hbm := rfl
@[simp] theorem State.modHostPort_hbmStacks (s : State) (i : Nat) (f : HostPort → HostPort) : (s.modHostPort i f).hbmStacks = s.hbmStacks := rfl
@[simp] theorem State.modHostPort_links (s : State) (i : Nat) (f : HostPort → HostPort) : (s.modHostPort i f).links = s.links := rfl
@[simp] theorem State.modHostPort_mesh (s : State) (i : Nat) (f : HostPort → HostPort) : (s.modHostPort i f).mesh = s.mesh := rfl
@[simp] theorem State.modHostPort_sched (s : State) (i : Nat) (f : HostPort → HostPort) : (s.modHostPort i f).sched = s.sched := rfl
@[simp] theorem State.modHostPort_power (s : State) (i : Nat) (f : HostPort → HostPort) : (s.modHostPort i f).power = s.power := rfl
@[simp] theorem State.modHostPort_arch (s : State) (i : Nat) (f : HostPort → HostPort) : (s.modHostPort i f).arch = s.arch := rfl
@[simp] theorem State.modHostPort_nv (s : State) (i : Nat) (f : HostPort → HostPort) : (s.modHostPort i f).nv = s.nv := rfl
@[simp] theorem State.modHostPort_start (s : State) (i : Nat) (f : HostPort → HostPort) : (s.modHostPort i f).start = s.start := rfl
@[simp] theorem State.modHostPort_firmware (s : State) (i : Nat) (f : HostPort → HostPort) : (s.modHostPort i f).firmware = s.firmware := rfl
@[simp] theorem State.modHostPort_chassis (s : State) (i : Nat) (f : HostPort → HostPort) : (s.modHostPort i f).chassis = s.chassis := rfl
@[simp] theorem State.modHostPort_eventCounts (s : State) (i : Nat) (f : HostPort → HostPort) : (s.modHostPort i f).eventCounts = s.eventCounts := rfl
@[simp] theorem State.modHostPort_journal (s : State) (i : Nat) (f : HostPort → HostPort) : (s.modHostPort i f).journal = s.journal := rfl
@[simp] theorem State.modHostPort_log (s : State) (i : Nat) (f : HostPort → HostPort) : (s.modHostPort i f).log = s.log := rfl
@[simp] theorem State.modHostPort_pending (s : State) (i : Nat) (f : HostPort → HostPort) : (s.modHostPort i f).pending = s.pending := rfl

/-! ### State.setSession -/

@[simp] theorem State.setSession_timeBase (s : State) (sid : W64) (x : Session) : (s.setSession sid x).timeBase = s.timeBase := rfl
@[simp] theorem State.setSession_freeCtr (s : State) (sid : W64) (x : Session) : (s.setSession sid x).freeCtr = s.freeCtr := rfl
@[simp] theorem State.setSession_mem (s : State) (sid : W64) (x : Session) : (s.setSession sid x).mem = s.mem := rfl
@[simp] theorem State.setSession_wordErr (s : State) (sid : W64) (x : Session) : (s.setSession sid x).wordErr = s.wordErr := rfl
@[simp] theorem State.setSession_writeBack (s : State) (sid : W64) (x : Session) : (s.setSession sid x).writeBack = s.writeBack := rfl
@[simp] theorem State.setSession_out (s : State) (sid : W64) (x : Session) : (s.setSession sid x).out = s.out := rfl
@[simp] theorem State.setSession_cores (s : State) (sid : W64) (x : Session) : (s.setSession sid x).cores = s.cores := rfl
@[simp] theorem State.setSession_clusters (s : State) (sid : W64) (x : Session) : (s.setSession sid x).clusters = s.clusters := rfl
@[simp] theorem State.setSession_islands (s : State) (sid : W64) (x : Session) : (s.setSession sid x).islands = s.islands := rfl
@[simp] theorem State.setSession_hbm (s : State) (sid : W64) (x : Session) : (s.setSession sid x).hbm = s.hbm := rfl
@[simp] theorem State.setSession_hbmStacks (s : State) (sid : W64) (x : Session) : (s.setSession sid x).hbmStacks = s.hbmStacks := rfl
@[simp] theorem State.setSession_links (s : State) (sid : W64) (x : Session) : (s.setSession sid x).links = s.links := rfl
@[simp] theorem State.setSession_mesh (s : State) (sid : W64) (x : Session) : (s.setSession sid x).mesh = s.mesh := rfl
@[simp] theorem State.setSession_sched (s : State) (sid : W64) (x : Session) : (s.setSession sid x).sched = s.sched := rfl
@[simp] theorem State.setSession_power (s : State) (sid : W64) (x : Session) : (s.setSession sid x).power = s.power := rfl
@[simp] theorem State.setSession_arch (s : State) (sid : W64) (x : Session) : (s.setSession sid x).arch = s.arch := rfl
@[simp] theorem State.setSession_nv (s : State) (sid : W64) (x : Session) : (s.setSession sid x).nv = s.nv := rfl
@[simp] theorem State.setSession_start (s : State) (sid : W64) (x : Session) : (s.setSession sid x).start = s.start := rfl
@[simp] theorem State.setSession_firmware (s : State) (sid : W64) (x : Session) : (s.setSession sid x).firmware = s.firmware := rfl
@[simp] theorem State.setSession_chassis (s : State) (sid : W64) (x : Session) : (s.setSession sid x).chassis = s.chassis := rfl
@[simp] theorem State.setSession_eventCounts (s : State) (sid : W64) (x : Session) : (s.setSession sid x).eventCounts = s.eventCounts := rfl
@[simp] theorem State.setSession_journal (s : State) (sid : W64) (x : Session) : (s.setSession sid x).journal = s.journal := rfl
@[simp] theorem State.setSession_log (s : State) (sid : W64) (x : Session) : (s.setSession sid x).log = s.log := rfl
@[simp] theorem State.setSession_pending (s : State) (sid : W64) (x : Session) : (s.setSession sid x).pending = s.pending := rfl

/-! ### State.alert -/

@[simp] theorem State.alert_timeBase (s : State) (bit : Nat) : (s.alert bit).timeBase = s.timeBase := rfl
@[simp] theorem State.alert_freeCtr (s : State) (bit : Nat) : (s.alert bit).freeCtr = s.freeCtr := rfl
@[simp] theorem State.alert_mem (s : State) (bit : Nat) : (s.alert bit).mem = s.mem := rfl
@[simp] theorem State.alert_wordErr (s : State) (bit : Nat) : (s.alert bit).wordErr = s.wordErr := rfl
@[simp] theorem State.alert_writeBack (s : State) (bit : Nat) : (s.alert bit).writeBack = s.writeBack := rfl
@[simp] theorem State.alert_out (s : State) (bit : Nat) : (s.alert bit).out = s.out := rfl
@[simp] theorem State.alert_cores (s : State) (bit : Nat) : (s.alert bit).cores = s.cores := rfl
@[simp] theorem State.alert_clusters (s : State) (bit : Nat) : (s.alert bit).clusters = s.clusters := rfl
@[simp] theorem State.alert_islands (s : State) (bit : Nat) : (s.alert bit).islands = s.islands := rfl
@[simp] theorem State.alert_hbm (s : State) (bit : Nat) : (s.alert bit).hbm = s.hbm := rfl
@[simp] theorem State.alert_hbmStacks (s : State) (bit : Nat) : (s.alert bit).hbmStacks = s.hbmStacks := rfl
@[simp] theorem State.alert_links (s : State) (bit : Nat) : (s.alert bit).links = s.links := rfl
@[simp] theorem State.alert_mesh (s : State) (bit : Nat) : (s.alert bit).mesh = s.mesh := rfl
@[simp] theorem State.alert_sched (s : State) (bit : Nat) : (s.alert bit).sched = s.sched := rfl
@[simp] theorem State.alert_power (s : State) (bit : Nat) : (s.alert bit).power = s.power := rfl
@[simp] theorem State.alert_arch (s : State) (bit : Nat) : (s.alert bit).arch = s.arch := rfl
@[simp] theorem State.alert_host (s : State) (bit : Nat) : (s.alert bit).host = s.host := rfl
@[simp] theorem State.alert_nv (s : State) (bit : Nat) : (s.alert bit).nv = s.nv := rfl
@[simp] theorem State.alert_start (s : State) (bit : Nat) : (s.alert bit).start = s.start := rfl
@[simp] theorem State.alert_firmware (s : State) (bit : Nat) : (s.alert bit).firmware = s.firmware := rfl
@[simp] theorem State.alert_eventCounts (s : State) (bit : Nat) : (s.alert bit).eventCounts = s.eventCounts := rfl
@[simp] theorem State.alert_journal (s : State) (bit : Nat) : (s.alert bit).journal = s.journal := rfl
@[simp] theorem State.alert_log (s : State) (bit : Nat) : (s.alert bit).log = s.log := rfl
@[simp] theorem State.alert_pending (s : State) (bit : Nat) : (s.alert bit).pending = s.pending := rfl

/-! ### State.countTime -/

@[simp] theorem State.countTime_freeCtr (s : State) : s.countTime.freeCtr = s.freeCtr := by unfold State.countTime; split <;> rfl
@[simp] theorem State.countTime_mem (s : State) : s.countTime.mem = s.mem := by unfold State.countTime; split <;> rfl
@[simp] theorem State.countTime_wordErr (s : State) : s.countTime.wordErr = s.wordErr := by unfold State.countTime; split <;> rfl
@[simp] theorem State.countTime_writeBack (s : State) : s.countTime.writeBack = s.writeBack := by unfold State.countTime; split <;> rfl
@[simp] theorem State.countTime_out (s : State) : s.countTime.out = s.out := by unfold State.countTime; split <;> rfl
@[simp] theorem State.countTime_cores (s : State) : s.countTime.cores = s.cores := by unfold State.countTime; split <;> rfl
@[simp] theorem State.countTime_clusters (s : State) : s.countTime.clusters = s.clusters := by unfold State.countTime; split <;> rfl
@[simp] theorem State.countTime_islands (s : State) : s.countTime.islands = s.islands := by unfold State.countTime; split <;> rfl
@[simp] theorem State.countTime_hbm (s : State) : s.countTime.hbm = s.hbm := by unfold State.countTime; split <;> rfl
@[simp] theorem State.countTime_hbmStacks (s : State) : s.countTime.hbmStacks = s.hbmStacks := by unfold State.countTime; split <;> rfl
@[simp] theorem State.countTime_links (s : State) : s.countTime.links = s.links := by unfold State.countTime; split <;> rfl
@[simp] theorem State.countTime_mesh (s : State) : s.countTime.mesh = s.mesh := by unfold State.countTime; split <;> rfl
@[simp] theorem State.countTime_sched (s : State) : s.countTime.sched = s.sched := by unfold State.countTime; split <;> rfl
@[simp] theorem State.countTime_power (s : State) : s.countTime.power = s.power := by unfold State.countTime; split <;> rfl
@[simp] theorem State.countTime_host (s : State) : s.countTime.host = s.host := by unfold State.countTime; split <;> rfl
@[simp] theorem State.countTime_nv (s : State) : s.countTime.nv = s.nv := by unfold State.countTime; split <;> rfl
@[simp] theorem State.countTime_start (s : State) : s.countTime.start = s.start := by unfold State.countTime; split <;> rfl
@[simp] theorem State.countTime_firmware (s : State) : s.countTime.firmware = s.firmware := by unfold State.countTime; split <;> rfl
@[simp] theorem State.countTime_chassis (s : State) : s.countTime.chassis = s.chassis := by unfold State.countTime; split <;> rfl
@[simp] theorem State.countTime_eventCounts (s : State) : s.countTime.eventCounts = s.eventCounts := by unfold State.countTime; split <;> rfl
@[simp] theorem State.countTime_journal (s : State) : s.countTime.journal = s.journal := by unfold State.countTime; split <;> rfl
@[simp] theorem State.countTime_log (s : State) : s.countTime.log = s.log := by unfold State.countTime; split <;> rfl
@[simp] theorem State.countTime_pending (s : State) : s.countTime.pending = s.pending := by unfold State.countTime; split <;> rfl

/-! ### Reads after an update -/

@[simp] theorem State.core_setCore (s : State) (L : Nat) (c : Core) : (s.setCore L c).core L = c := by
  simp [State.core, State.setCore]

theorem State.core_setCore_other (s : State) {L M : Nat} (c : Core) (h : M ≠ L) : (s.setCore L c).core M = s.core M := by
  simp [State.core, State.setCore, SMap.getD_put, h]

@[simp] theorem State.core_modCore (s : State) (L : Nat) (f : Core → Core) : (s.modCore L f).core L = f (s.core L) := by
  simp [State.modCore]

theorem State.core_modCore_other (s : State) {L M : Nat} (f : Core → Core) (h : M ≠ L) : (s.modCore L f).core M = s.core M :=
  State.core_setCore_other s _ h

@[simp] theorem State.cluster_setCluster (s : State) (c : Nat) (x : Cluster) : (s.setCluster c x).cluster c = x := by
  simp [State.cluster, State.setCluster]

theorem State.cluster_setCluster_other (s : State) {c d : Nat} (x : Cluster) (h : d ≠ c) :
    (s.setCluster c x).cluster d = s.cluster d := by
  simp [State.cluster, State.setCluster, SMap.getD_put, h]

@[simp] theorem State.cluster_modCluster (s : State) (c : Nat) (f : Cluster → Cluster) :
    (s.modCluster c f).cluster c = f (s.cluster c) := by
  simp [State.modCluster]

theorem State.cluster_modCluster_other (s : State) {c d : Nat} (f : Cluster → Cluster) (h : d ≠ c) :
    (s.modCluster c f).cluster d = s.cluster d := State.cluster_setCluster_other s _ h

@[simp] theorem State.cluster_setCore (s : State) (L : Nat) (c : Core) (d : Nat) : (s.setCore L c).cluster d = s.cluster d := rfl
@[simp] theorem State.cluster_modCore (s : State) (L : Nat) (f : Core → Core) (d : Nat) :
    (s.modCore L f).cluster d = s.cluster d := rfl
@[simp] theorem State.core_modCluster (s : State) (c : Nat) (f : Cluster → Cluster) (L : Nat) :
    (s.modCluster c f).core L = s.core L := rfl

@[simp] theorem State.part_setPart (s : State) (p : Nat) (x : Part) : (s.setPart p x).part p = x := by
  simp [State.part, State.setPart]

@[simp] theorem State.part_modPart (s : State) (p : Nat) (f : Part → Part) : (s.modPart p f).part p = f (s.part p) := by
  simp [State.modPart]

@[simp] theorem State.part_modJob (s : State) (p : Nat) (f : Job → Job) :
    (s.modJob p f).part p = { s.part p with job := (s.part p).job.map f } := by
  simp [State.modJob]

@[simp] theorem State.stack_modStack (s : State) (i : Nat) (f : Stack → Stack) : (s.modStack i f).stack i = f (s.stack i) := by
  simp [State.stack, State.modStack, State.setStack]

@[simp] theorem State.island_modIsland (s : State) (i : Nat) (f : Island → Island) :
    (s.modIsland i f).island i = f (s.island i) := by
  simp [State.island, State.modIsland, State.setIsland]

@[simp] theorem State.portSet_modPort (s : State) (n d : Nat) (f : PortSet → PortSet) :
    (s.modPort n d f).portSet n d = f (s.portSet n d) := by
  simp [State.portSet, State.modPort, State.setPort]

@[simp] theorem State.engine_modEngine (s : State) (e : Nat) (f : Engine → Engine) : (s.modEngine e f).engine e = f (s.engine e) := by
  simp [State.engine, State.modEngine]

@[simp] theorem State.hostPort_modHostPort (s : State) (i : Nat) (f : HostPort → HostPort) :
    (s.modHostPort i f).hostPort i = f (s.hostPort i) := by
  simp [State.hostPort, State.modHostPort]

@[simp] theorem State.session_setSession (s : State) (sid : W64) (x : Session) : (s.setSession sid x).session? sid = some x := by
  simp [State.session?, State.setSession]

/-! ### Memory -/

/-- A byte after a store: the stored run inside it, what stood before outside it. -/
theorem State.readByte_store (s : State) (a n : Nat) (es : SMap Byte) (k : Nat) :
    (s.store a n es).readByte k = if a ≤ k ∧ k < a + n then SMap.getD es (k - a) 0 else s.readByte k := by
  unfold State.readByte State.store
  rw [SMap.getD_splice]
  split
  · exact SMap.getD_normal _ _ _
  · rfl

theorem State.store_keeps_wf (s : State) (a n : Nat) (es : SMap Byte) (h : memoryWf s.mem = true) :
    memoryWf (s.store a n es).mem = true := SMap.wf_splice _ _ h (SMap.wf_normal _ _)

theorem State.writeBytes_keeps_wf (s : State) (a : Nat) (bs : List Byte) (h : memoryWf s.mem = true) :
    memoryWf (s.writeBytes a bs).mem = true := s.store_keeps_wf _ _ _ h

theorem State.zero_keeps_wf (s : State) (a n : Nat) (h : memoryWf s.mem = true) : memoryWf (s.zero a n).mem = true :=
  s.store_keeps_wf _ _ _ h

theorem State.copy_keeps_wf (s : State) (src dst n : Nat) (h : memoryWf s.mem = true) : memoryWf (s.copy src dst n).mem = true :=
  s.store_keeps_wf _ _ _ h

theorem State.reset_memoryWf : memoryWf State.reset.mem = true := rfl

/-! ### Core registers -/

@[simp] theorem Core.reg_zero (c : Core) : c.reg 0 = 0 := rfl

theorem Core.reg_setReg (c : Core) (r q : Nat) (v : W64) :
    (c.setReg r v).reg q = if q = r ∧ r ≠ 0 then v else c.reg q := by
  unfold Core.setReg Core.reg
  by_cases hr : r = 0 <;> by_cases hq : q = 0 <;> by_cases hqr : q = r <;> simp_all [SMap.getD_set]

@[simp] theorem Core.reg_setReg_same (c : Core) (r : Nat) (v : W64) (h : r ≠ 0) : (c.setReg r v).reg r = v := by
  simp [Core.reg_setReg, h]


@[simp] theorem Core.token_setToken (c : Core) (t : Nat) (k : Token) : (c.setToken t k).token t = k := by
  simp [Core.token, Core.setToken]

@[simp] theorem Core.inbox_setInbox (c : Core) (i : Nat) (x : Inbox) : (c.setInbox i x).inbox i = x := by
  simp [Core.inbox, Core.setInbox]

@[simp] theorem Core.setReg_zero (c : Core) (v : W64) : c.setReg 0 v = c := rfl

@[simp] theorem Core.setReg_pc (c : Core) (r : Nat) (v : W64) : (c.setReg r v).pc = c.pc := by
  unfold Core.setReg; split <;> rfl
@[simp] theorem Core.setReg_vregs (c : Core) (r : Nat) (v : W64) : (c.setReg r v).vregs = c.vregs := by
  unfold Core.setReg; split <;> rfl
@[simp] theorem Core.setReg_banks (c : Core) (r : Nat) (v : W64) : (c.setReg r v).banks = c.banks := by
  unfold Core.setReg; split <;> rfl
@[simp] theorem Core.setReg_stages (c : Core) (r : Nat) (v : W64) : (c.setReg r v).stages = c.stages := by
  unfold Core.setReg; split <;> rfl
@[simp] theorem Core.setReg_stageTags (c : Core) (r : Nat) (v : W64) : (c.setReg r v).stageTags = c.stageTags := by
  unfold Core.setReg; split <;> rfl
@[simp] theorem Core.setReg_tokens (c : Core) (r : Nat) (v : W64) : (c.setReg r v).tokens = c.tokens := by
  unfold Core.setReg; split <;> rfl
@[simp] theorem Core.setReg_startTokens (c : Core) (r : Nat) (v : W64) : (c.setReg r v).startTokens = c.startTokens := by
  unfold Core.setReg; split <;> rfl
@[simp] theorem Core.setReg_inboxes (c : Core) (r : Nat) (v : W64) : (c.setReg r v).inboxes = c.inboxes := by
  unfold Core.setReg; split <;> rfl
@[simp] theorem Core.setReg_closedSlots (c : Core) (r : Nat) (v : W64) : (c.setReg r v).closedSlots = c.closedSlots := by
  unfold Core.setReg; split <;> rfl
@[simp] theorem Core.setReg_matQ (c : Core) (r : Nat) (v : W64) : (c.setReg r v).matQ = c.matQ := by
  unfold Core.setReg; split <;> rfl
@[simp] theorem Core.setReg_matRun (c : Core) (r : Nat) (v : W64) : (c.setReg r v).matRun = c.matRun := by
  unfold Core.setReg; split <;> rfl
@[simp] theorem Core.setReg_vecQ (c : Core) (r : Nat) (v : W64) : (c.setReg r v).vecQ = c.vecQ := by
  unfold Core.setReg; split <;> rfl
@[simp] theorem Core.setReg_syncQ (c : Core) (r : Nat) (v : W64) : (c.setReg r v).syncQ = c.syncQ := by
  unfold Core.setReg; split <;> rfl
@[simp] theorem Core.setReg_ferry0 (c : Core) (r : Nat) (v : W64) : (c.setReg r v).ferry0 = c.ferry0 := by
  unfold Core.setReg; split <;> rfl
@[simp] theorem Core.setReg_ferry1 (c : Core) (r : Nat) (v : W64) : (c.setReg r v).ferry1 = c.ferry1 := by
  unfold Core.setReg; split <;> rfl
@[simp] theorem Core.setReg_hold (c : Core) (r : Nat) (v : W64) : (c.setReg r v).hold = c.hold := by
  unfold Core.setReg; split <;> rfl
@[simp] theorem Core.setReg_inTurn (c : Core) (r : Nat) (v : W64) : (c.setReg r v).inTurn = c.inTurn := by
  unfold Core.setReg; split <;> rfl
@[simp] theorem Core.setReg_live (c : Core) (r : Nat) (v : W64) : (c.setReg r v).live = c.live := by
  unfold Core.setReg; split <;> rfl
@[simp] theorem Core.setReg_carry (c : Core) (r : Nat) (v : W64) : (c.setReg r v).carry = c.carry := by
  unfold Core.setReg; split <;> rfl
@[simp] theorem Core.setReg_entry (c : Core) (r : Nat) (v : W64) : (c.setReg r v).entry = c.entry := by
  unfold Core.setReg; split <;> rfl
@[simp] theorem Core.setReg_nextEntry (c : Core) (r : Nat) (v : W64) : (c.setReg r v).nextEntry = c.nextEntry := by
  unfold Core.setReg; split <;> rfl
@[simp] theorem Core.setReg_opPoint (c : Core) (r : Nat) (v : W64) : (c.setReg r v).opPoint = c.opPoint := by
  unfold Core.setReg; split <;> rfl
@[simp] theorem Core.setReg_attempt (c : Core) (r : Nat) (v : W64) : (c.setReg r v).attempt = c.attempt := by
  unfold Core.setReg; split <;> rfl
@[simp] theorem Core.setReg_matOrd (c : Core) (r : Nat) (v : W64) : (c.setReg r v).matOrd = c.matOrd := by
  unfold Core.setReg; split <;> rfl
@[simp] theorem Core.setReg_drainOrd (c : Core) (r : Nat) (v : W64) : (c.setReg r v).drainOrd = c.drainOrd := by
  unfold Core.setReg; split <;> rfl
@[simp] theorem Core.setReg_vecOrd (c : Core) (r : Nat) (v : W64) : (c.setReg r v).vecOrd = c.vecOrd := by
  unfold Core.setReg; split <;> rfl
@[simp] theorem Core.setReg_ledgers (c : Core) (r : Nat) (v : W64) : (c.setReg r v).ledgers = c.ledgers := by
  unfold Core.setReg; split <;> rfl
@[simp] theorem Core.setReg_signals (c : Core) (r : Nat) (v : W64) : (c.setReg r v).signals = c.signals := by
  unfold Core.setReg; split <;> rfl
@[simp] theorem Core.setReg_addrLog (c : Core) (r : Nat) (v : W64) : (c.setReg r v).addrLog = c.addrLog := by
  unfold Core.setReg; split <;> rfl
@[simp] theorem Core.setReg_dataLog (c : Core) (r : Nat) (v : W64) : (c.setReg r v).dataLog = c.dataLog := by
  unfold Core.setReg; split <;> rfl
@[simp] theorem Core.setReg_pins (c : Core) (r : Nat) (v : W64) : (c.setReg r v).pins = c.pins := by
  unfold Core.setReg; split <;> rfl
@[simp] theorem Core.setReg_lastStatus (c : Core) (r : Nat) (v : W64) : (c.setReg r v).lastStatus = c.lastStatus := by
  unfold Core.setReg; split <;> rfl
@[simp] theorem Core.setReg_arrayState (c : Core) (r : Nat) (v : W64) : (c.setReg r v).arrayState = c.arrayState := by
  unfold Core.setReg; split <;> rfl
@[simp] theorem Core.setReg_apart (c : Core) (r : Nat) (v : W64) : (c.setReg r v).apart = c.apart := by
  unfold Core.setReg; split <;> rfl
@[simp] theorem Core.setReg_seq (c : Core) (r : Nat) (v : W64) : (c.setReg r v).seq = c.seq := by
  unfold Core.setReg; split <;> rfl
@[simp] theorem Core.setReg_counters (c : Core) (r : Nat) (v : W64) : (c.setReg r v).counters = c.counters := by
  unfold Core.setReg; split <;> rfl
@[simp] theorem Core.setReg_events (c : Core) (r : Nat) (v : W64) : (c.setReg r v).events = c.events := by
  unfold Core.setReg; split <;> rfl
@[simp] theorem Core.setReg_ramp (c : Core) (r : Nat) (v : W64) : (c.setReg r v).ramp = c.ramp := by
  unfold Core.setReg; split <;> rfl
@[simp] theorem Core.setReg_probe (c : Core) (r : Nat) (v : W64) : (c.setReg r v).probe = c.probe := by
  unfold Core.setReg; split <;> rfl
@[simp] theorem Core.setReg_unanswered (c : Core) (r : Nat) (v : W64) : (c.setReg r v).unanswered = c.unanswered := by
  unfold Core.setReg; split <;> rfl

@[simp] theorem Core.advance_regs (c : Core) (n : Nat) : (c.advance n).regs = c.regs := rfl
@[simp] theorem Core.advance_vregs (c : Core) (n : Nat) : (c.advance n).vregs = c.vregs := rfl
@[simp] theorem Core.advance_banks (c : Core) (n : Nat) : (c.advance n).banks = c.banks := rfl
@[simp] theorem Core.advance_stages (c : Core) (n : Nat) : (c.advance n).stages = c.stages := rfl
@[simp] theorem Core.advance_stageTags (c : Core) (n : Nat) : (c.advance n).stageTags = c.stageTags := rfl
@[simp] theorem Core.advance_tokens (c : Core) (n : Nat) : (c.advance n).tokens = c.tokens := rfl
@[simp] theorem Core.advance_startTokens (c : Core) (n : Nat) : (c.advance n).startTokens = c.startTokens := rfl
@[simp] theorem Core.advance_inboxes (c : Core) (n : Nat) : (c.advance n).inboxes = c.inboxes := rfl
@[simp] theorem Core.advance_closedSlots (c : Core) (n : Nat) : (c.advance n).closedSlots = c.closedSlots := rfl
@[simp] theorem Core.advance_matQ (c : Core) (n : Nat) : (c.advance n).matQ = c.matQ := rfl
@[simp] theorem Core.advance_matRun (c : Core) (n : Nat) : (c.advance n).matRun = c.matRun := rfl
@[simp] theorem Core.advance_vecQ (c : Core) (n : Nat) : (c.advance n).vecQ = c.vecQ := rfl
@[simp] theorem Core.advance_syncQ (c : Core) (n : Nat) : (c.advance n).syncQ = c.syncQ := rfl
@[simp] theorem Core.advance_ferry0 (c : Core) (n : Nat) : (c.advance n).ferry0 = c.ferry0 := rfl
@[simp] theorem Core.advance_ferry1 (c : Core) (n : Nat) : (c.advance n).ferry1 = c.ferry1 := rfl
@[simp] theorem Core.advance_hold (c : Core) (n : Nat) : (c.advance n).hold = c.hold := rfl
@[simp] theorem Core.advance_inTurn (c : Core) (n : Nat) : (c.advance n).inTurn = c.inTurn := rfl
@[simp] theorem Core.advance_live (c : Core) (n : Nat) : (c.advance n).live = c.live := rfl
@[simp] theorem Core.advance_carry (c : Core) (n : Nat) : (c.advance n).carry = c.carry := rfl
@[simp] theorem Core.advance_entry (c : Core) (n : Nat) : (c.advance n).entry = c.entry := rfl
@[simp] theorem Core.advance_nextEntry (c : Core) (n : Nat) : (c.advance n).nextEntry = c.nextEntry := rfl
@[simp] theorem Core.advance_opPoint (c : Core) (n : Nat) : (c.advance n).opPoint = c.opPoint := rfl
@[simp] theorem Core.advance_attempt (c : Core) (n : Nat) : (c.advance n).attempt = c.attempt := rfl
@[simp] theorem Core.advance_matOrd (c : Core) (n : Nat) : (c.advance n).matOrd = c.matOrd := rfl
@[simp] theorem Core.advance_drainOrd (c : Core) (n : Nat) : (c.advance n).drainOrd = c.drainOrd := rfl
@[simp] theorem Core.advance_vecOrd (c : Core) (n : Nat) : (c.advance n).vecOrd = c.vecOrd := rfl
@[simp] theorem Core.advance_ledgers (c : Core) (n : Nat) : (c.advance n).ledgers = c.ledgers := rfl
@[simp] theorem Core.advance_signals (c : Core) (n : Nat) : (c.advance n).signals = c.signals := rfl
@[simp] theorem Core.advance_addrLog (c : Core) (n : Nat) : (c.advance n).addrLog = c.addrLog := rfl
@[simp] theorem Core.advance_dataLog (c : Core) (n : Nat) : (c.advance n).dataLog = c.dataLog := rfl
@[simp] theorem Core.advance_pins (c : Core) (n : Nat) : (c.advance n).pins = c.pins := rfl
@[simp] theorem Core.advance_lastStatus (c : Core) (n : Nat) : (c.advance n).lastStatus = c.lastStatus := rfl
@[simp] theorem Core.advance_arrayState (c : Core) (n : Nat) : (c.advance n).arrayState = c.arrayState := rfl
@[simp] theorem Core.advance_apart (c : Core) (n : Nat) : (c.advance n).apart = c.apart := rfl
@[simp] theorem Core.advance_seq (c : Core) (n : Nat) : (c.advance n).seq = c.seq := rfl
@[simp] theorem Core.advance_counters (c : Core) (n : Nat) : (c.advance n).counters = c.counters := rfl
@[simp] theorem Core.advance_events (c : Core) (n : Nat) : (c.advance n).events = c.events := rfl
@[simp] theorem Core.advance_ramp (c : Core) (n : Nat) : (c.advance n).ramp = c.ramp := rfl
@[simp] theorem Core.advance_probe (c : Core) (n : Nat) : (c.advance n).probe = c.probe := rfl
@[simp] theorem Core.advance_unanswered (c : Core) (n : Nat) : (c.advance n).unanswered = c.unanswered := rfl

@[simp] theorem Core.setVreg_pc (c : Core) (v : Nat) (ls : List W32) : (c.setVreg v ls).pc = c.pc := rfl
@[simp] theorem Core.setVreg_regs (c : Core) (v : Nat) (ls : List W32) : (c.setVreg v ls).regs = c.regs := rfl
@[simp] theorem Core.setVreg_banks (c : Core) (v : Nat) (ls : List W32) : (c.setVreg v ls).banks = c.banks := rfl
@[simp] theorem Core.setVreg_stages (c : Core) (v : Nat) (ls : List W32) : (c.setVreg v ls).stages = c.stages := rfl
@[simp] theorem Core.setVreg_stageTags (c : Core) (v : Nat) (ls : List W32) : (c.setVreg v ls).stageTags = c.stageTags := rfl
@[simp] theorem Core.setVreg_tokens (c : Core) (v : Nat) (ls : List W32) : (c.setVreg v ls).tokens = c.tokens := rfl
@[simp] theorem Core.setVreg_startTokens (c : Core) (v : Nat) (ls : List W32) : (c.setVreg v ls).startTokens = c.startTokens := rfl
@[simp] theorem Core.setVreg_inboxes (c : Core) (v : Nat) (ls : List W32) : (c.setVreg v ls).inboxes = c.inboxes := rfl
@[simp] theorem Core.setVreg_closedSlots (c : Core) (v : Nat) (ls : List W32) : (c.setVreg v ls).closedSlots = c.closedSlots := rfl
@[simp] theorem Core.setVreg_matQ (c : Core) (v : Nat) (ls : List W32) : (c.setVreg v ls).matQ = c.matQ := rfl
@[simp] theorem Core.setVreg_matRun (c : Core) (v : Nat) (ls : List W32) : (c.setVreg v ls).matRun = c.matRun := rfl
@[simp] theorem Core.setVreg_vecQ (c : Core) (v : Nat) (ls : List W32) : (c.setVreg v ls).vecQ = c.vecQ := rfl
@[simp] theorem Core.setVreg_syncQ (c : Core) (v : Nat) (ls : List W32) : (c.setVreg v ls).syncQ = c.syncQ := rfl
@[simp] theorem Core.setVreg_ferry0 (c : Core) (v : Nat) (ls : List W32) : (c.setVreg v ls).ferry0 = c.ferry0 := rfl
@[simp] theorem Core.setVreg_ferry1 (c : Core) (v : Nat) (ls : List W32) : (c.setVreg v ls).ferry1 = c.ferry1 := rfl
@[simp] theorem Core.setVreg_hold (c : Core) (v : Nat) (ls : List W32) : (c.setVreg v ls).hold = c.hold := rfl
@[simp] theorem Core.setVreg_inTurn (c : Core) (v : Nat) (ls : List W32) : (c.setVreg v ls).inTurn = c.inTurn := rfl
@[simp] theorem Core.setVreg_live (c : Core) (v : Nat) (ls : List W32) : (c.setVreg v ls).live = c.live := rfl
@[simp] theorem Core.setVreg_carry (c : Core) (v : Nat) (ls : List W32) : (c.setVreg v ls).carry = c.carry := rfl
@[simp] theorem Core.setVreg_entry (c : Core) (v : Nat) (ls : List W32) : (c.setVreg v ls).entry = c.entry := rfl
@[simp] theorem Core.setVreg_nextEntry (c : Core) (v : Nat) (ls : List W32) : (c.setVreg v ls).nextEntry = c.nextEntry := rfl
@[simp] theorem Core.setVreg_opPoint (c : Core) (v : Nat) (ls : List W32) : (c.setVreg v ls).opPoint = c.opPoint := rfl
@[simp] theorem Core.setVreg_attempt (c : Core) (v : Nat) (ls : List W32) : (c.setVreg v ls).attempt = c.attempt := rfl
@[simp] theorem Core.setVreg_matOrd (c : Core) (v : Nat) (ls : List W32) : (c.setVreg v ls).matOrd = c.matOrd := rfl
@[simp] theorem Core.setVreg_drainOrd (c : Core) (v : Nat) (ls : List W32) : (c.setVreg v ls).drainOrd = c.drainOrd := rfl
@[simp] theorem Core.setVreg_vecOrd (c : Core) (v : Nat) (ls : List W32) : (c.setVreg v ls).vecOrd = c.vecOrd := rfl
@[simp] theorem Core.setVreg_ledgers (c : Core) (v : Nat) (ls : List W32) : (c.setVreg v ls).ledgers = c.ledgers := rfl
@[simp] theorem Core.setVreg_signals (c : Core) (v : Nat) (ls : List W32) : (c.setVreg v ls).signals = c.signals := rfl
@[simp] theorem Core.setVreg_addrLog (c : Core) (v : Nat) (ls : List W32) : (c.setVreg v ls).addrLog = c.addrLog := rfl
@[simp] theorem Core.setVreg_dataLog (c : Core) (v : Nat) (ls : List W32) : (c.setVreg v ls).dataLog = c.dataLog := rfl
@[simp] theorem Core.setVreg_pins (c : Core) (v : Nat) (ls : List W32) : (c.setVreg v ls).pins = c.pins := rfl
@[simp] theorem Core.setVreg_lastStatus (c : Core) (v : Nat) (ls : List W32) : (c.setVreg v ls).lastStatus = c.lastStatus := rfl
@[simp] theorem Core.setVreg_arrayState (c : Core) (v : Nat) (ls : List W32) : (c.setVreg v ls).arrayState = c.arrayState := rfl
@[simp] theorem Core.setVreg_apart (c : Core) (v : Nat) (ls : List W32) : (c.setVreg v ls).apart = c.apart := rfl
@[simp] theorem Core.setVreg_seq (c : Core) (v : Nat) (ls : List W32) : (c.setVreg v ls).seq = c.seq := rfl
@[simp] theorem Core.setVreg_counters (c : Core) (v : Nat) (ls : List W32) : (c.setVreg v ls).counters = c.counters := rfl
@[simp] theorem Core.setVreg_events (c : Core) (v : Nat) (ls : List W32) : (c.setVreg v ls).events = c.events := rfl
@[simp] theorem Core.setVreg_ramp (c : Core) (v : Nat) (ls : List W32) : (c.setVreg v ls).ramp = c.ramp := rfl
@[simp] theorem Core.setVreg_probe (c : Core) (v : Nat) (ls : List W32) : (c.setVreg v ls).probe = c.probe := rfl
@[simp] theorem Core.setVreg_unanswered (c : Core) (v : Nat) (ls : List W32) : (c.setVreg v ls).unanswered = c.unanswered := rfl

@[simp] theorem Core.setToken_pc (c : Core) (t : Nat) (k : Token) : (c.setToken t k).pc = c.pc := rfl
@[simp] theorem Core.setToken_regs (c : Core) (t : Nat) (k : Token) : (c.setToken t k).regs = c.regs := rfl
@[simp] theorem Core.setToken_vregs (c : Core) (t : Nat) (k : Token) : (c.setToken t k).vregs = c.vregs := rfl
@[simp] theorem Core.setToken_banks (c : Core) (t : Nat) (k : Token) : (c.setToken t k).banks = c.banks := rfl
@[simp] theorem Core.setToken_stages (c : Core) (t : Nat) (k : Token) : (c.setToken t k).stages = c.stages := rfl
@[simp] theorem Core.setToken_stageTags (c : Core) (t : Nat) (k : Token) : (c.setToken t k).stageTags = c.stageTags := rfl
@[simp] theorem Core.setToken_startTokens (c : Core) (t : Nat) (k : Token) : (c.setToken t k).startTokens = c.startTokens := rfl
@[simp] theorem Core.setToken_inboxes (c : Core) (t : Nat) (k : Token) : (c.setToken t k).inboxes = c.inboxes := rfl
@[simp] theorem Core.setToken_closedSlots (c : Core) (t : Nat) (k : Token) : (c.setToken t k).closedSlots = c.closedSlots := rfl
@[simp] theorem Core.setToken_matQ (c : Core) (t : Nat) (k : Token) : (c.setToken t k).matQ = c.matQ := rfl
@[simp] theorem Core.setToken_matRun (c : Core) (t : Nat) (k : Token) : (c.setToken t k).matRun = c.matRun := rfl
@[simp] theorem Core.setToken_vecQ (c : Core) (t : Nat) (k : Token) : (c.setToken t k).vecQ = c.vecQ := rfl
@[simp] theorem Core.setToken_syncQ (c : Core) (t : Nat) (k : Token) : (c.setToken t k).syncQ = c.syncQ := rfl
@[simp] theorem Core.setToken_ferry0 (c : Core) (t : Nat) (k : Token) : (c.setToken t k).ferry0 = c.ferry0 := rfl
@[simp] theorem Core.setToken_ferry1 (c : Core) (t : Nat) (k : Token) : (c.setToken t k).ferry1 = c.ferry1 := rfl
@[simp] theorem Core.setToken_hold (c : Core) (t : Nat) (k : Token) : (c.setToken t k).hold = c.hold := rfl
@[simp] theorem Core.setToken_inTurn (c : Core) (t : Nat) (k : Token) : (c.setToken t k).inTurn = c.inTurn := rfl
@[simp] theorem Core.setToken_live (c : Core) (t : Nat) (k : Token) : (c.setToken t k).live = c.live := rfl
@[simp] theorem Core.setToken_carry (c : Core) (t : Nat) (k : Token) : (c.setToken t k).carry = c.carry := rfl
@[simp] theorem Core.setToken_entry (c : Core) (t : Nat) (k : Token) : (c.setToken t k).entry = c.entry := rfl
@[simp] theorem Core.setToken_nextEntry (c : Core) (t : Nat) (k : Token) : (c.setToken t k).nextEntry = c.nextEntry := rfl
@[simp] theorem Core.setToken_opPoint (c : Core) (t : Nat) (k : Token) : (c.setToken t k).opPoint = c.opPoint := rfl
@[simp] theorem Core.setToken_attempt (c : Core) (t : Nat) (k : Token) : (c.setToken t k).attempt = c.attempt := rfl
@[simp] theorem Core.setToken_matOrd (c : Core) (t : Nat) (k : Token) : (c.setToken t k).matOrd = c.matOrd := rfl
@[simp] theorem Core.setToken_drainOrd (c : Core) (t : Nat) (k : Token) : (c.setToken t k).drainOrd = c.drainOrd := rfl
@[simp] theorem Core.setToken_vecOrd (c : Core) (t : Nat) (k : Token) : (c.setToken t k).vecOrd = c.vecOrd := rfl
@[simp] theorem Core.setToken_ledgers (c : Core) (t : Nat) (k : Token) : (c.setToken t k).ledgers = c.ledgers := rfl
@[simp] theorem Core.setToken_signals (c : Core) (t : Nat) (k : Token) : (c.setToken t k).signals = c.signals := rfl
@[simp] theorem Core.setToken_addrLog (c : Core) (t : Nat) (k : Token) : (c.setToken t k).addrLog = c.addrLog := rfl
@[simp] theorem Core.setToken_dataLog (c : Core) (t : Nat) (k : Token) : (c.setToken t k).dataLog = c.dataLog := rfl
@[simp] theorem Core.setToken_pins (c : Core) (t : Nat) (k : Token) : (c.setToken t k).pins = c.pins := rfl
@[simp] theorem Core.setToken_lastStatus (c : Core) (t : Nat) (k : Token) : (c.setToken t k).lastStatus = c.lastStatus := rfl
@[simp] theorem Core.setToken_arrayState (c : Core) (t : Nat) (k : Token) : (c.setToken t k).arrayState = c.arrayState := rfl
@[simp] theorem Core.setToken_apart (c : Core) (t : Nat) (k : Token) : (c.setToken t k).apart = c.apart := rfl
@[simp] theorem Core.setToken_seq (c : Core) (t : Nat) (k : Token) : (c.setToken t k).seq = c.seq := rfl
@[simp] theorem Core.setToken_counters (c : Core) (t : Nat) (k : Token) : (c.setToken t k).counters = c.counters := rfl
@[simp] theorem Core.setToken_events (c : Core) (t : Nat) (k : Token) : (c.setToken t k).events = c.events := rfl
@[simp] theorem Core.setToken_ramp (c : Core) (t : Nat) (k : Token) : (c.setToken t k).ramp = c.ramp := rfl
@[simp] theorem Core.setToken_probe (c : Core) (t : Nat) (k : Token) : (c.setToken t k).probe = c.probe := rfl
@[simp] theorem Core.setToken_unanswered (c : Core) (t : Nat) (k : Token) : (c.setToken t k).unanswered = c.unanswered := rfl

@[simp] theorem Core.setInbox_pc (c : Core) (i : Nat) (x : Inbox) : (c.setInbox i x).pc = c.pc := rfl
@[simp] theorem Core.setInbox_regs (c : Core) (i : Nat) (x : Inbox) : (c.setInbox i x).regs = c.regs := rfl
@[simp] theorem Core.setInbox_vregs (c : Core) (i : Nat) (x : Inbox) : (c.setInbox i x).vregs = c.vregs := rfl
@[simp] theorem Core.setInbox_banks (c : Core) (i : Nat) (x : Inbox) : (c.setInbox i x).banks = c.banks := rfl
@[simp] theorem Core.setInbox_stages (c : Core) (i : Nat) (x : Inbox) : (c.setInbox i x).stages = c.stages := rfl
@[simp] theorem Core.setInbox_stageTags (c : Core) (i : Nat) (x : Inbox) : (c.setInbox i x).stageTags = c.stageTags := rfl
@[simp] theorem Core.setInbox_tokens (c : Core) (i : Nat) (x : Inbox) : (c.setInbox i x).tokens = c.tokens := rfl
@[simp] theorem Core.setInbox_startTokens (c : Core) (i : Nat) (x : Inbox) : (c.setInbox i x).startTokens = c.startTokens := rfl
@[simp] theorem Core.setInbox_closedSlots (c : Core) (i : Nat) (x : Inbox) : (c.setInbox i x).closedSlots = c.closedSlots := rfl
@[simp] theorem Core.setInbox_matQ (c : Core) (i : Nat) (x : Inbox) : (c.setInbox i x).matQ = c.matQ := rfl
@[simp] theorem Core.setInbox_matRun (c : Core) (i : Nat) (x : Inbox) : (c.setInbox i x).matRun = c.matRun := rfl
@[simp] theorem Core.setInbox_vecQ (c : Core) (i : Nat) (x : Inbox) : (c.setInbox i x).vecQ = c.vecQ := rfl
@[simp] theorem Core.setInbox_syncQ (c : Core) (i : Nat) (x : Inbox) : (c.setInbox i x).syncQ = c.syncQ := rfl
@[simp] theorem Core.setInbox_ferry0 (c : Core) (i : Nat) (x : Inbox) : (c.setInbox i x).ferry0 = c.ferry0 := rfl
@[simp] theorem Core.setInbox_ferry1 (c : Core) (i : Nat) (x : Inbox) : (c.setInbox i x).ferry1 = c.ferry1 := rfl
@[simp] theorem Core.setInbox_hold (c : Core) (i : Nat) (x : Inbox) : (c.setInbox i x).hold = c.hold := rfl
@[simp] theorem Core.setInbox_inTurn (c : Core) (i : Nat) (x : Inbox) : (c.setInbox i x).inTurn = c.inTurn := rfl
@[simp] theorem Core.setInbox_live (c : Core) (i : Nat) (x : Inbox) : (c.setInbox i x).live = c.live := rfl
@[simp] theorem Core.setInbox_carry (c : Core) (i : Nat) (x : Inbox) : (c.setInbox i x).carry = c.carry := rfl
@[simp] theorem Core.setInbox_entry (c : Core) (i : Nat) (x : Inbox) : (c.setInbox i x).entry = c.entry := rfl
@[simp] theorem Core.setInbox_nextEntry (c : Core) (i : Nat) (x : Inbox) : (c.setInbox i x).nextEntry = c.nextEntry := rfl
@[simp] theorem Core.setInbox_opPoint (c : Core) (i : Nat) (x : Inbox) : (c.setInbox i x).opPoint = c.opPoint := rfl
@[simp] theorem Core.setInbox_attempt (c : Core) (i : Nat) (x : Inbox) : (c.setInbox i x).attempt = c.attempt := rfl
@[simp] theorem Core.setInbox_matOrd (c : Core) (i : Nat) (x : Inbox) : (c.setInbox i x).matOrd = c.matOrd := rfl
@[simp] theorem Core.setInbox_drainOrd (c : Core) (i : Nat) (x : Inbox) : (c.setInbox i x).drainOrd = c.drainOrd := rfl
@[simp] theorem Core.setInbox_vecOrd (c : Core) (i : Nat) (x : Inbox) : (c.setInbox i x).vecOrd = c.vecOrd := rfl
@[simp] theorem Core.setInbox_ledgers (c : Core) (i : Nat) (x : Inbox) : (c.setInbox i x).ledgers = c.ledgers := rfl
@[simp] theorem Core.setInbox_signals (c : Core) (i : Nat) (x : Inbox) : (c.setInbox i x).signals = c.signals := rfl
@[simp] theorem Core.setInbox_addrLog (c : Core) (i : Nat) (x : Inbox) : (c.setInbox i x).addrLog = c.addrLog := rfl
@[simp] theorem Core.setInbox_dataLog (c : Core) (i : Nat) (x : Inbox) : (c.setInbox i x).dataLog = c.dataLog := rfl
@[simp] theorem Core.setInbox_pins (c : Core) (i : Nat) (x : Inbox) : (c.setInbox i x).pins = c.pins := rfl
@[simp] theorem Core.setInbox_lastStatus (c : Core) (i : Nat) (x : Inbox) : (c.setInbox i x).lastStatus = c.lastStatus := rfl
@[simp] theorem Core.setInbox_arrayState (c : Core) (i : Nat) (x : Inbox) : (c.setInbox i x).arrayState = c.arrayState := rfl
@[simp] theorem Core.setInbox_apart (c : Core) (i : Nat) (x : Inbox) : (c.setInbox i x).apart = c.apart := rfl
@[simp] theorem Core.setInbox_seq (c : Core) (i : Nat) (x : Inbox) : (c.setInbox i x).seq = c.seq := rfl
@[simp] theorem Core.setInbox_counters (c : Core) (i : Nat) (x : Inbox) : (c.setInbox i x).counters = c.counters := rfl
@[simp] theorem Core.setInbox_events (c : Core) (i : Nat) (x : Inbox) : (c.setInbox i x).events = c.events := rfl
@[simp] theorem Core.setInbox_ramp (c : Core) (i : Nat) (x : Inbox) : (c.setInbox i x).ramp = c.ramp := rfl
@[simp] theorem Core.setInbox_probe (c : Core) (i : Nat) (x : Inbox) : (c.setInbox i x).probe = c.probe := rfl
@[simp] theorem Core.setInbox_unanswered (c : Core) (i : Nat) (x : Inbox) : (c.setInbox i x).unanswered = c.unanswered := rfl

@[simp] theorem Core.reg_advance (c : Core) (n r : Nat) : (c.advance n).reg r = c.reg r := rfl

end Sys2Proof.Machine
end

