-- ==== Sys2Proof/Laws/Issue.lean ====
section
/-! SUPPORT. An instruction that runs retires (Safety.lean): the issue rule of a core that takes it comes to one update of the core. -/

namespace Sys2Proof.Machine

/-- One more instruction counts in the attempt and no failure follows (04 R127 step 5). -/
theorem State.countIssue_of_counts (s : State) (L : Nat) (f : Core → Core) (hf : ∀ c, (f c).attempt = c.attempt) (h : s.Counts L) :
    (s.modCore L f).countIssue L = s.retire L f := by
  have hc : (s.modCore L f).core L = f (s.core L) := State.core_modCore s L f
  have e : (s.modCore L f).modCore L (fun c => { c with attempt := { c.attempt with issued := c.attempt.issued + 1 } }) = s.retire L f := by
    unfold State.retire
    rw [State.modCore, hc, hf]
    simp only [State.modCore, State.setCore, SMap.put_put]
  unfold State.countIssue
  rw [e]
  have hr : (s.retire L f).core L = { f (s.core L) with attempt := { (s.core L).attempt with issued := (s.core L).attempt.issued + 1 } } := by
    unfold State.retire; simp [State.core, State.setCore]
  simp only [hr]
  cases hfst : (s.core L).attempt.first with
  | none => rfl
  | some g =>
    have := h g hfst
    dsimp only
    rw [if_neg]
    rintro ⟨h1, h2⟩
    rcases this with h3 | h3
    · exact h1 h3
    · omega

/-- The issue rule of a core in its turn (04 R121). -/
theorem State.issue_of_takes (s : State) (L : Nat) (v : Verdict) (h : s.Takes L) :
    s.issue L v = match v with
      | .wait => s
      | .raise st => s.raise L st
      | .run t => t.countIssue L
      | .stop t => t := by
  cases v <;> simp only [State.issue, if_pos h.1, if_pos h.2.1]

theorem State.issue_run (s : State) (L : Nat) (f : Core → Core) (hf : ∀ c, (f c).attempt = c.attempt) (h : s.Takes L) :
    s.issue L (.run (s.modCore L f)) = s.retire L f := by
  rw [s.issue_of_takes L _ h]
  exact s.countIssue_of_counts L f hf h.2.2

end Sys2Proof.Machine
end

