-- ==== Sys2Proof/Laws/OnMesh.lean ====
section
/-! SUPPORT. What leaves on the mesh, or is taken from it, changes the mesh alone (Safety.lean): one lemma for each operation of
Machine/MeshNet.lean. -/

namespace Sys2Proof.Machine

variable {s t u : State}

theorem State.OnMesh.refl (s : State) : s.OnMesh s := rfl

theorem State.OnMesh.trans (h : s.OnMesh t) (k : t.OnMesh u) : s.OnMesh u := by
  unfold State.OnMesh at *
  rw [k, h]

/-- A fold of operations on the mesh stays on the mesh. -/
theorem State.OnMesh.foldl {β : Type} {f : State → β → State} (hf : ∀ t x, s.OnMesh t → s.OnMesh (f t x)) (l : List β)
    (h : s.OnMesh t) : s.OnMesh (l.foldl f t) := by
  induction l generalizing t with
  | nil => exact h
  | cons x _ ih => exact ih (hf t x h)

theorem State.OnMesh.foldl_fst {β γ : Type} {f : State × γ → β → State × γ} (hf : ∀ t x, s.OnMesh t.1 → s.OnMesh (f t x).1)
    (l : List β) {a : State × γ} (h : s.OnMesh a.1) : s.OnMesh (l.foldl f a).1 := by
  induction l generalizing a with
  | nil => exact h
  | cons x _ ih => exact ih (hf a x h)

theorem State.OnMesh.mem (h : s.OnMesh t) : t.mem = s.mem := by rw [h]
theorem State.OnMesh.cores (h : s.OnMesh t) : t.cores = s.cores := by rw [h]
theorem State.OnMesh.clusters (h : s.OnMesh t) : t.clusters = s.clusters := by rw [h]
theorem State.OnMesh.sched (h : s.OnMesh t) : t.sched = s.sched := by rw [h]
theorem State.OnMesh.hbm (h : s.OnMesh t) : t.hbm = s.hbm := by rw [h]
theorem State.OnMesh.hbmStacks (h : s.OnMesh t) : t.hbmStacks = s.hbmStacks := by rw [h]
theorem State.OnMesh.islands (h : s.OnMesh t) : t.islands = s.islands := by rw [h]

theorem State.OnMesh.setMesh (h : s.OnMesh t) (m : Mesh) : s.OnMesh { t with mesh := m } := by
  unfold State.OnMesh at *
  rw [h]

theorem State.OnMesh.modPort (h : s.OnMesh t) (n d : Nat) (f : PortSet → PortSet) : s.OnMesh (t.modPort n d f) := by
  unfold State.OnMesh at *
  rw [h]
  rfl

theorem State.OnMesh.emit (h : s.OnMesh t) (o : Output) : s.OnMesh (t.emit o) := by
  unfold State.OnMesh at *
  rw [h]
  rfl

theorem State.OnMesh.fresh (h : s.OnMesh t) : s.OnMesh t.fresh.2 := by
  unfold State.OnMesh at *
  rw [h]
  rfl

theorem State.OnMesh.countWay (h : s.OnMesh t) (cls : Bool) (n : Nat) (way : List (Nat × Nat × Bool × Nat)) :
    s.OnMesh (t.countWay cls n way) :=
  State.OnMesh.foldl (fun _ _ k => k.modPort _ _ _) _ h

theorem State.OnMesh.keepTransfers (h : s.OnMesh t) (p : MeshPkt) (way : List (Nat × Nat × Bool × Nat)) :
    s.OnMesh (t.keepTransfers p way) :=
  State.OnMesh.foldl (fun _ _ k => k.modPort _ _ _) _ h

theorem State.OnMesh.launch (h : s.OnMesh t) (p : MeshPkt) (half : Bool) (way : Option (List (Nat × Nat × Bool × Nat))) :
    s.OnMesh (t.launch p half way) := by
  unfold State.launch
  split
  · exact h
  · exact (((h.emit _).countWay _ _ _).keepTransfers _ _).setMesh _

theorem State.OnMesh.bulkHalf (h : s.OnMesh t) (src dst : Nat) : s.OnMesh (t.bulkHalf src dst).1 := by
  unfold State.bulkHalf
  repeat' (first | exact h | exact h.fresh | split | dsimp only)

theorem State.OnMesh.inject (h : s.OnMesh t) (p : MeshPkt) : s.OnMesh (t.inject p) := by
  unfold State.inject
  dsimp only
  split
  · exact (h.launch _ _ _).launch _ _ _
  · exact (h.bulkHalf _ _).launch _ _ _

theorem State.OnMesh.traffic (h : s.OnMesh t) (cls : Bool) (src dst bytes : Nat) : s.OnMesh (t.traffic cls src dst bytes) := by
  unfold State.traffic
  dsimp only
  repeat' (first | exact h | exact (h.countWay _ _ _).countWay _ _ _ | exact (h.bulkHalf _ _).countWay _ _ _ | split)

theorem State.OnMesh.sendPacket (h : s.OnMesh t) (p : MeshPkt) : s.OnMesh (t.sendPacket p) := by
  unfold State.sendPacket
  dsimp only
  split
  · exact ((h.setMesh _).setMesh _).inject _
  · exact (h.setMesh _).setMesh _

theorem State.OnMesh.sendQueued (h : s.OnMesh t) (src : W16) : s.OnMesh (t.sendQueued src) := by
  refine State.OnMesh.foldl (fun t q k => ?_) _ h
  split
  · exact (k.setMesh _).inject _
  · exact k

theorem State.OnMesh.answer (h : s.OnMesh t) (p : MeshPkt) (typ : Nat) (st : W16) : s.OnMesh (t.answer p typ st) := h.inject _

theorem State.OnMesh.arrived (h : s.OnMesh t) (p : MeshPkt) : s.OnMesh (t.arrived p) := by
  unfold State.arrived
  split
  · exact h.setMesh _
  · exact h

theorem State.OnMesh.receive (h : s.OnMesh t) (p : MeshPkt) : s.OnMesh (t.receive p).1 := by
  unfold State.receive
  dsimp only
  split
  · exact h
  · exact h.setMesh _

theorem State.OnMesh.acknowledged (h : s.OnMesh t) (src dest : W16) (cls : Bool) (seq : Nat) :
    s.OnMesh (t.acknowledged src dest cls seq) := (h.setMesh _).sendQueued _

theorem State.OnMesh.dropPackets (h : s.OnMesh t) (f : MeshPkt → Bool) : s.OnMesh (t.dropPackets f) := h.setMesh _

theorem State.OnMesh.addContribution (h : s.OnMesh t) (c : Contribution) : s.OnMesh (t.addContribution c) := by
  unfold State.addContribution
  split <;> exact h.setMesh _

end Sys2Proof.Machine
end

