-- ==== Sys2Proof/Laws/Reads.lean ====
section
/-! SUPPORT. A read of a run of memory that stands as it is (Safety.lean) changes nothing and gives all of its data. -/

namespace Sys2Proof.Machine

theorem State.serveAbsent_readable (s : State) (a n : Nat) (h : a < 2 ^ 41 → s.allAnswer = true) : s.serveAbsent a n = (s, []) := by
  have ha : 2 ^ 41 ≤ a ∨ s.allAnswer = true := by
    by_cases hb : 2 ^ 41 ≤ a
    · exact .inl hb
    · exact .inr (h (by omega))
  simp only [State.serveAbsent, ha, if_true]

theorem State.readRange_readable (s : State) (a n found core : Nat) (h : s.Readable a n) : s.readRange a n found core = (s, []) := by
  have he : (s.wordErr.filter fun q =>
      decide (a / 8 ≤ q.1) && decide (q.1 < (a + n + 7) / 8) && !s.granuleAbsent (q.1 / 32 * 256)) = [] := by
    rw [List.filter_eq_nil_iff]
    intro q hq hc
    simp only [Bool.and_eq_true, decide_eq_true_eq] at hc
    exact h.1 q hq hc.1
  unfold State.readRange
  simp only [he, List.map_nil, List.foldl_nil, s.serveAbsent_readable a n h.2, List.append_nil]

theorem State.readable_coreStore {s : State} {L w n : Nat} (h : s.Sound (csBase L + w * 8) n) : s.Readable (csBase L + w * 8) n :=
  ⟨h, fun hh => by unfold csBase at hh; omega⟩

end Sys2Proof.Machine
end

