-- ==== Sys2Proof/WellFormed.lean ====
section
/-! DEFINITION. Which commands a sender can send: the bounds that the spec puts on a packet, a datagram, a line's words and an image's
tables, where the operand's type admits more. Commands that the module itself refuses are well formed. -/

namespace Sys2Proof

/-- An endpoint number: node below 48, bits [15:10] zero (07 R185). -/
def endpointOk (e : W16) : Bool := decide (e.toNat % 64 < 48) && decide (e.toNat < 1024)

/-- A mesh packet: payload to 480 B in assured class, to 4,032 B in bulk class (07 R185, R186). -/
def meshOk (p : MeshPkt) : Bool :=
  endpointOk p.dest && endpointOk p.src && decide (p.addr.toNat < 2 ^ 48) &&
    decide (p.payload.length ≤ if p.flags.getLsbD 0 then 480 else 4032)

/-- A strait packet: seats below 64, data to 208 B in assured class, to 3,808 B in bulk class (09 R243). -/
def straitOk (p : StraitPkt) : Bool :=
  decide (p.destSeat.toNat < 64) && decide (p.srcSeat.toNat < 64) &&
    decide (p.data.length ≤ if p.flags.getLsbD 0 then 208 else 3808)

/-- Words in error lie in the line and have at least one wrong bit (05 R142). -/
def upsetsOk (words : Nat) (us : List Upset) : Bool := us.all fun u => decide (u.word < words) && (decide (0 < u.bits) || u.fold)

/-- A pulled image holds eight sub-port entries, two port modes and four priorities (11 R322, R324). -/
def stagedOk (o : StagedObject) : Bool :=
  match o with
  | .image m => m.subPorts.length == 8 && m.portMode.length == 2 && m.capPriority.length == 4
  | .none => true
  | .firmware _ => true

/-- A well-formed command. -/
def Instr.wellFormed (i : Instr) : Bool :=
  match i with
  | .meshReadReq p => meshOk p
  | .meshReadData p => meshOk p
  | .meshWrite p => meshOk p
  | .meshReduce p => meshOk p
  | .meshRelay p => meshOk p
  | .meshAck p => meshOk p
  | .meshStatus p => meshOk p
  | .meshToken p => meshOk p
  | .meshCredit p => meshOk p
  | .parityDelta p => meshOk p
  | .meshControl p => meshOk p
  | .straitData _ p => straitOk p
  | .straitAck _ p => straitOk p
  | .straitReduce _ p => straitOk p
  | .membership _ p _ => straitOk p
  | .paceTime _ p _ _ _ => straitOk p
  | .paceReport _ p _ => straitOk p
  | .straitCommit _ p _ => straitOk p
  | .straitStatus _ p => straitOk p
  | .mirrorAck _ p _ => straitOk p
  | .journalMirror _ p entry => straitOk p && entry.length == 128
  | .hello _ _ _ ek => ek.length == 1568
  | .scrubLine _ us _ => upsetsOk 16 us
  | .forcedScrub _ us _ => upsetsOk 16 us
  | .hbmPatrol _ stripe us => decide (stripe < 2 ^ 29) && upsetsOk 512 us
  | .datagramReceive _ _ _ _ _ _ _ _ data => decide (data.length ≤ 1404)
  | .startJob _ b => b.seed.length == 32
  | .stagingPullDone o => stagedOk o
  | .add _ | .sub _ | .mul _ | .and _ | .or _ | .xor _ | .shl _ | .shr _ | .sar _ | .slt _ | .sltu _ | .addi _ | .subi _
  | .muli _ | .andi _ | .ori _ | .xori _ | .shli _ | .shri _ | .sari _ | .slti _ | .sltui _ | .li _ | .lui _ | .ld _ | .st _
  | .beq _ | .bne _ | .blt _ | .bge _ | .jmp _ | .jal _ | .jr _ | .rdspec _ | .vadd _ | .vsub _ | .vmul _ | .vfma _ | .vmin _
  | .vmax _ | .vabs _ | .vneg _ | .vcmpeq _ | .vcmplt _ | .vcmple _ | .vsel _ | .viadd _ | .visub _ | .vimul _ | .viadds _
  | .visubs _ | .viand _ | .vior _ | .vixor _ | .vcvtFrom _ | .vcvtTo _ | .vrsum _ | .vrmax _ | .vrmin _ | .vrcp _ | .vrsqrt _
  | .vexp _ | .vexp2 _ | .vlog _ | .vlog2 _ | .vdraw _ | .vdrop _ | .vld _ | .vst _ | .vsplat _ | .vmovs _ | .matrixGanged _ _
  | .matrixApart _ _ _ _ _ | .matrixFinalise _ _ _ | .drainComplete _ | .ferryGet _ | .ferryPut _ | .ferryPutReduce _
  | .ferryRelayPut _ | .ferryTransferComplete _ _ | .relayCreditArrival _ _ | .reduceHoldAdmit _ | .wait _ _ _ _
  | .waitSatisfied _ | .signal _ _ _ _ | .signalRemote _ _ _ _ _ | .tokenTest _ _ _ _ | .tokenClear _ _ _ | .fence _ _ _
  | .fenceSatisfied _ | .inboxOpen _ _ _ _ _ _ | .inboxTake _ _ _ _ | .inboxTakeSatisfied _ | .inboxFree _ _ _
  | .inboxClose _ _ _ | .inboxCloseSatisfied _ | .turnBegin _ _ _ | .turnEnd _ _ _ _ _ | .phaseHintInstr _ _ _ _ _
  | .ledgerOpen _ _ _ _ _ _ _ _ | .ledgerClose _ _ _ | .queuePlaceFreed _ _ | .dummyGapExpiry _ _ | .rampStep _ _
  | .livenessProbe _ | .livenessProbeTimeout _ | .correctedRateExceeded _ | .rankDurable _ | .turnCommit _ | .turnOverrun _
  | .partRebuildDone _ | .jobLoadDone _ | .backedFillDone _ _ | .doublesCompare _ | .thirdCopyDone _ _ _
  | .correctedWriteBack _ | .lagoonGranuleReload _ | .linkCrcError _ _ _ _ | .wireTest _ _ _ | .wireTestDone _ _ _ _ _
  | .routerHalfInternalError _ _ | .detourInstall _ _ _ | .bulkResendTimeout _ _ _ | .assuredResendTimeout _ _ _
  | .busyResend _ _ _ | .resettingRetry _ _ _ | .hbmChannelRetrain _ _ _ | .hbmRetrainComplete _ _ _
  | .hbmUncorrectableRateRetire _ _ | .hbmStackFault _ _ | .hbmTempRead _ _ | .hbmSelfRefreshEntry _ | .hbmSelfRefreshExit _
  | .hbmClearDone _ | .flitCrcError _ _ | .linkControlFlit _ _ | .laneFailure _ _ | .lanePauseEnd _ | .engineLinkUp _ _ _ _ _
  | .straitBulkResend _ _ | .straitAssuredResend _ _ | .paceReportTick | .paceTimeTick | .linkDelayMeasure _ _
  | .joinElectionTimeout | .memberLossTimeout _ _ | .collectiveComplete _ _ _ _ | .fragmentTimeout _ _
  | .hostAuth _ _ | .hostAuthResume _ _ _ _ | .handshakeTimeout _ | .keepalive _ | .closeSession _ _ | .counters _
  | .bindPartition _ _ _ _ | .unbindPartition _ _ | .loadImage _ _ _ _ _ _ | .loadImagePullDone _ _ | .endJob _ _
  | .partitionReset _ _ _ | .partitionResetDone _ | .jobStatus _ _ | .openQp _ _ _ _ _ _ | .closeQp _ _
  | .journalRead _ _ _ _ _ | .snapshot _ _ _ _ _ _ _ | .snapshotCopyDone _ _ _ _ | .drainPageAck _ _ _ _
  | .drainQpWaitTimeout _ | .groupSnapshotTimeout _ | .restore _ _ | .restoreDataDone _ _ | .rollTest _ _
  | .rollTestClusterDone _ _ _ _ | .attest _ _ | .registerRead _ _ | .phaseHint _ _ _ _ _ | .stageUpdateImage _ _ _ _ _
  | .stageUpdateOpfw _ _ _ _ _ | .stageUpdateTf _ _ _ _ _ | .rdmaWriteRequest _ _ _ _ | .rdmaReadRequest _ _ _ _
  | .cnpReceive _ | .pfcPauseFrame _ _ _ | .arpRequest _ _ _ | .neighbourSolicitation _ _ _ | .icmpEchoRequest _ _ _ _
  | .ptpMessage _ _ _ | .leaseExpiry _ | .retentionExpiry _ | .subportLoss _ _ _ | .subportReturn _ _ | .inputApplied _
  | .prechargeDone _ _ | .inputOutOfRange _ | .stage0End _ _ | .stage1Firmware _ | .stage2Image | .islandWaveDone _ _
  | .hbmTrainingDone _ _ | .coolingCheck _ _ _ | .hostLinkUpDone _ _ | .stageLimitExpiry | .joinDone _ _ _ _ _ _ | .ready _
  | .modResetAssert _ | .modResetRelease | .latchOpenAssert _ | .removalWritesDone | .presentBreak | .sidebandAddressAssign _ _
  | .pldmSensorUpdate _ | .enterStandbyEffecter | .leaveStandbyEffecter | .vendorRegisterRead _ _ | .vendorRegisterWrite _ _ _
  | .registerWrite _ _ | .phaseFailure _ _ _ | .sectorPhaseFailure _ _ | .dipWarning _ _ | .dipRecovery _ _ _
  | .dipBubbleRelease _ | .dipResetLevel _ _ _ | .regionOvercurrent _ _ | .overcurrentRelease _ | .overcurrentTrip _ _
  | .sectorLimit _ _ | .sectorLimitRelease _ | .junctionSensorRead _ _ _ | .throttleRecompute | .shedRelease _
  | .capShareTick _ | .capOpPointStep | .capBackstop _ | .capBackstopRelease | .opPointSlewDone _ | .wakeRequest _
  | .wakeHeadroomTimeout _ _ | .wakeHeaderStage _ | .wakeSettled _ | .hintPrepare _ | .hintDummyRamp _ | .hintExpiry _
  | .pmWatchdogExpiry | .pmRestartDone | .securityWatchdogExpiry | .schedulerWatchdogExpiry | .schedulerRestartDone _
  | .cccWatchdogExpiry _ | .lockstepMismatch _ | .logAppendRequest _ _ _ | .logHeadWritten | .clusterResetDone _ | .dozeEntry _
  | .lagoonRetentionEntry _ | .lagoonRetentionExit _ | .harbourEntry | .harbourExit | .harbourStackIdle _ | .standbyExit _
  | .presentMake | .latchOpenRelease | .inputReturnsToRange _ | .mirrorWaitExpiry | .roceLocalAckTimeout _ => true

end Sys2Proof
end

