-- ==== Sys2Proof/Tests/Slice0.lean ====
section
/-! SUPPORT. Tests: terms that the well-formedness check refuses, single steps on small states, and for each statement that has
hypotheses a state and operands that meet them, clause by clause. -/

open Sys2Proof Sys2Proof.Machine

namespace Sys2Proof.Tests

set_option Elab.async false

/-! ### Small states -/

def body0 : StartJobBody := ⟨0, false, false, 0, 3, 0, 0, 0, List.replicate 32 0⟩

/-- An image of one rank: its carried range holds two banks, words 0x4000 to 0xBFFF, its inbox range words 0x10000 to 0x1FFFF. -/
def image0 : Image :=
  { elastic := false, relay := false, ranks := 1, turns := 3, codeOffset := 128, codeSize := 64, codeWord := 0x100
    jobBlockWord := 0x200, ranges := [⟨0x4000, 0x8000, 1, 0, 0, 0, 0⟩, ⟨0x10000, 0x10000, 2, 0, 0, 0, 0⟩]
    backed := [⟨0x040000000000, 0x10000, 0x20000, true⟩], hbmMinGib := 1, size := 128, digest := [] }

/-- A running job of session 7 with its one rank on core 0. -/
def job0 : Job :=
  { req := ⟨0x11, 7, 1, body0⟩, keys := [], turns := 3, td := 0, ts := 0, firstTurn := 0, state := .running, placement := [0]
    shadow := [(0, { entry := 0x100, carry := 0x4000 })] }

def part0 : Part := { session := some 7, tenant := 1, baseGib := 1, sizeGib := 2, image := some image0, job := some job0 }

/-- A cluster with slots 12 and 13 in reserve. -/
def cluster0 : Cluster :=
  { slots := [(12, 1), (13, 1)], map := List.range 12, active := 12, reserves := 2, region := .running, op := 1 }

def core0 : Core :=
  { pc := 0x100, seq := .running, inTurn := true, entry := 0x100
    regs := [(1, 5), (2, 0xFFFFFFFFFFFFFFF0), (3, 0x1FFFFF), (4, 0x10000), (5, 0x4000), (6, 0x1FFF00), (7, 0x20), (8, 0x40100000), (9, 64), (10, 13)] }

def session0 : Session :=
  { keyId := 1, tenant := 1, operator := true, partitionMask := 0xFFFFFFFFFFFF, features := 0x3FFF, lease := 10, retention := 10
    token := 9, lastCmd := 4 }

def qp0 : Qp := { sid := 7, port := 0, sub := 0, hostQpn := 5, hostGid := 1, hostPsn := 0, psn := 0, rkey := 0x77 }

/-- A module at work: partition 0 bound to session 7, its job in a turn on core 0. -/
def busy : State :=
  { timeBase := 1000000, clusters := [(0, cluster0)], cores := [(0, core0)]
    sched := { layouts := [List.replicate 48 0], parts := [(0, part0)] }
    hbmStacks := (List.range 16).map fun k => (k, { state := .inService })
    host := { sessions := [(7, session0)], qps := [(5, qp0)], ports := [(0, { up := 1 }), (1, { up := 1 })] }
    start := { ready := true, stage := 7, image := some imageAtShipment }
    chassis := { present := true, latchOpen := false, inputMv := 54000, applied := true, main := true }
    power := { capW := 20000, inputMv := 54000 }, nv := State.reset.nv, journal := { id := 3 } }

def busyCore (f : Core → Core) : State := busy.modCore 0 f
def busyPart (f : Part → Part) : State := busy.modPart 0 f
def busyJob (f : Job → Job) : State := busy.modJob 0 f

def sc (rd rs1 rs2 : Reg) (imm : W32) : ScalarF := ⟨0, rd, rs1, rs2, imm, 0⟩
def ve (vd vs1 vs2 vs3 rs : Reg) (imm : BitVec 12) (fmt : BitVec 4) (round : BitVec 3) : VectorF :=
  ⟨0, vd, vs1, vs2, vs3, rs, imm, 0, fmt, round, 0⟩

/-- A core takes an instruction, where no part of its has failed in this turn. -/
theorem takes_of (s : State) (L : Nat)
    (h : (s.coreReady L && (s.core L).inTurn && (s.core L).attempt.first.isNone) = true) : s.Takes L := by
  simp only [Bool.and_eq_true, Option.isNone_iff_eq_none] at h
  refine ⟨h.1.1, h.1.2, fun f hf => ?_⟩
  rw [h.2] at hf; cases hf

theorem counts_of (s : State) (L : Nat) (h : (s.core L).attempt.first.isNone = true) : s.Counts L := by
  rw [Option.isNone_iff_eq_none] at h
  intro f hf
  rw [h] at hf; cases hf

theorem sound_of (s : State) (a n : Nat) (h : s.wordErr = []) : s.Sound a n := by
  intro q hq; rw [h] at hq; cases hq

theorem busy_takes : busy.Takes 0 := takes_of _ _ (by decide +kernel)

/-! ### Witnesses: queue and scalar instructions -/

/-- ADD of s0 and s0 into s0 at core 0's program counter. -/
def coded : State := { busy with mem := [(csBase 0 + 0x801, 1)] }

/-- A command in front; no sequencer that can take an instruction; an instruction at the counter, and words that spell none. -/
theorem witness_StepRunsFrontCommand :
    ({ busy with pending := [.presentMake] } : State).pending = .presentMake :: [] ∧
    (busy.pending = [] ∧ State.reset.pending = [] ∧ ∀ L, State.reset.coreReady L = false) ∧
    (coded.coreReady 0 = true ∧ (∀ k, coded.Sound (csBase 0 + ((coded.core 0).pc + k) % 2 ^ 21 * 8) 8) ∧
      (decodeCore 0 fun k => coded.readWord (csBase 0 + ((coded.core 0).pc + k) % 2 ^ 21 * 8)) = some (.add ⟨0, 0, 0, 0, 0, 0⟩)) ∧
    (busy.coreReady 0 = true ∧ (decodeCore 0 fun k => busy.readWord (csBase 0 + ((busy.core 0).pc + k) % 2 ^ 21 * 8)) = none) :=
  ⟨rfl, ⟨rfl, rfl, fun _ => rfl⟩, ⟨by decide +kernel, fun _ => sound_of _ _ _ rfl, by decide +kernel⟩, by decide +kernel⟩

theorem witness_StepKeepsInvariant : busy.Inv ∧ ∃ t, step { busy with pending := [.presentMake] } = .next t :=
  ⟨⟨by decide, by decide, by decide⟩, _, rfl⟩

theorem witness_FuseMapNeverChanges : ∃ t, step { busy with pending := [.logHeadWritten] } = .next t := ⟨_, rfl⟩

theorem witness_LogEntriesNeverRemoved :
    ∃ t, step { busy with pending := [.logAppendRequest 0x11 0 0] } = .next t := ⟨_, rfl⟩

theorem witness_ScalarResults : busy.Takes (sc 0 1 2 0xFFFFFFFF).core.val ∧ (sc 0 1 2 0xFFFFFFFF).rsv = 0 := ⟨busy_takes, rfl⟩

/-- Every special value, the first beyond them, and a target that wraps. -/
theorem witness_BranchesJumpsAndSpecialValues :
    busy.Takes (sc 31 1 2 0x80000000).core.val ∧ (sc 31 1 2 0x80000000).rsv = 0 ∧
      ∀ k ∈ List.range 6, (sc 3 0 0 (BitVec.ofNat 32 k)).rsv = 0 ∧ ((sc 3 0 0 (BitVec.ofNat 32 k)).imm.toNat = k) :=
  ⟨busy_takes, rfl, by decide⟩

/-- The last word of core store for LD and ST, and the address after it. -/
theorem witness_LoadsAndStoresOfOneWord :
    busy.Takes (sc 9 3 1 0).core.val ∧ (sc 9 3 1 0).rsv = 0 ∧
      ((busy.core 0).reg 3 + (sc 9 3 1 0).imm.signExtend 64).toNat = 2 ^ 21 - 1 ∧
      (busy.core 0).readBlocked (2 ^ 21 - 1) 1 = false ∧ busy.Sound (csBase 0 + (2 ^ 21 - 1) * 8) 8 ∧
      busy.writeRefused 0 (2 ^ 21 - 1) 1 = false ∧ (busy.core 0).writeBlocked (2 ^ 21 - 1) 1 = false ∧
      ((busy.core 0).reg 3 + (sc 9 3 1 1).imm.signExtend 64).toNat = 2 ^ 21 :=
  ⟨busy_takes, rfl, by decide +kernel, by decide +kernel, sound_of _ _ _ rfl, by decide +kernel, by decide +kernel, by decide +kernel⟩

theorem witness_RefusedInstructionsRaise :
    ((busyCore fun c => { c with hold := .fence 1 }).coreReady 0 = false) ∧
      (busyCore fun c => { c with inTurn := false }).coreReady 0 = true ∧
      ((busyCore fun c => { c with inTurn := false }).core 0).inTurn = false ∧ busy.coreReady 0 = true ∧
      (⟨0, 1, 1, 1, 0, 2⟩ : ScalarF).rsv ≠ 0 ∧ (⟨0, 1, 1, 1, 1, 1, 0, 0, 0, 0, 1⟩ : VectorF).rsv ≠ 0 := by decide +kernel

def failedOnce (st : W16) : State := busyCore fun c => { c with attempt := { c.attempt with first := some ⟨st, 0x100, 4⟩ } }

/-- A first failure; an overrun after a spare took the part; a second failure alike; a second TURN_OVERRUN elsewhere; a second one unlike,
with a reserve slot. -/
theorem witness_FailuresReplayThenEndOrSubstitute :
    (busy.standOf 0 = some ⟨0, 0, false⟩ ∧ (busy.core 0).attempt.first = none ∧ (busy.core 0).attempt.durable = false ∧
      (busy.core 0).attempt.spared = false) ∧
    (let s := busyCore fun c => { c with attempt := { c.attempt with spared := true } };
      s.standOf 0 = some ⟨0, 0, false⟩ ∧ (s.core 0).attempt.first = none ∧ (s.core 0).attempt.spared = true) ∧
    ((failedOnce 0x0501).standOf 0 = some ⟨0, 0, false⟩ ∧
      ((failedOnce 0x0501).core 0).attempt.first = some ⟨0x0501, 0x100, 4⟩ ∧ ((failedOnce 0x0501).core 0).pc = 0x100 ∧
      ((failedOnce 0x0501).part 0).job.map Job.holdStatus = some false) ∧
    ((failedOnce 0x0503).core 0).attempt.first = some ⟨0x0503, 0x100, 4⟩ ∧
    ((failedOnce 0x0502).core 0).attempt.first = some ⟨0x0502, 0x100, 4⟩ ∧
      ((failedOnce 0x0502).cluster 0).lowestReserve = some 12 ∧ (failedOnce 0x0502).thirdRuns 0 = false ∧ ((failedOnce 0x0502).cluster 0).map.getD 0 0xF ≠ 0xF := by
  decide +kernel

/-! ### Witnesses: vector and matrix instructions -/

theorem witness_VectorLanes :
    busy.Takes (ve 31 1 2 3 0 0 0 0).core.val ∧ (ve 31 1 2 3 0 0 0 0).rsv = 0 ∧
      ((busyCore fun c => { c with vecQ := 15 }).core 0).vecQ < 16 := ⟨busy_takes, rfl, by decide⟩

/-- Lane 511, the last ordinal, ROUND 4, an MX pair that ends at v31. -/
theorem witness_VectorMovesDrawsAndConversions :
    busy.Takes (ve 30 30 2 3 1 511 3 4).core.val ∧ (ve 30 30 2 3 1 511 3 4).rsv = 0 ∧ (busy.core 0).vecQ < 16 ∧
      (ve 30 30 2 3 1 511 3 4).imm.toNat < 512 ∧ ((busyCore fun c => { c with vecOrd := 2 ^ 23 - 1 }).core 0).vecOrd < 2 ^ 23 ∧
      fmtOfCode (ve 30 30 2 3 1 511 3 4).fmt.toNat = some .e4m3 ∧ (ve 30 30 2 3 1 511 3 4).round.toNat < 5 ∧
      (ve 30 30 2 3 1 511 3 4).vs1.val ≠ 31 ∧ (ve 30 30 2 3 1 511 3 4).vd.val ≠ 31 := by
  refine ⟨busy_takes, rfl, ?_⟩; decide +kernel

/-- A run that ends with core store; an unaligned one; one past the end; a reserved format; lane 512; no ordinal left. -/
theorem witness_VectorMemoryAndRefusals :
    busy.Takes (ve 1 1 2 3 6 0 0 0).core.val ∧ (busy.core 0).vecQ < 16 ∧
      ((busy.core 0).reg 6 + (ve 1 1 2 3 6 0 0 0).imm.signExtend 64 * 256).toNat = 0x1FFF00 ∧ 0x1FFF00 % 32 = 0 ∧
      0x1FFF00 + 256 ≤ 2 ^ 21 ∧ (busy.core 0).readBlocked 0x1FFF00 256 = false ∧ busy.Sound (csBase 0 + 0x1FFF00 * 8) 2048 ∧
      busy.writeRefused 0 0x1FFF00 256 = false ∧ (busy.core 0).writeBlocked 0x1FFF00 256 = false ∧
      ((busy.core 0).reg 1 + (ve 1 1 2 3 1 0 0 0).imm.signExtend 64 * 256).toNat % 32 ≠ 0 ∧
      2 ^ 21 < ((busy.core 0).reg 6 + (ve 1 1 2 3 6 1 0 0).imm.signExtend 64 * 256).toNat + 256 ∧ fmtOfCode 15 = none ∧
      512 ≤ (ve 1 1 2 3 6 512 0 0).imm.toNat ∧ 2 ^ 23 ≤ ((busyCore fun c => { c with vecOrd := 2 ^ 23 }).core 0).vecOrd := by
  refine ⟨busy_takes, by decide +kernel, by decide +kernel, rfl, by decide, by decide +kernel, sound_of _ _ _ rfl, ?_⟩
  decide +kernel

def head (fa fb : BitVec 4) : MatrixHead := ⟨0, 3, true, 0, 0, fb, fa, 0⟩
/-- A part that streams both operands from descriptors in s10 and s11 into bank 0. -/
def mpart (drain : Bool) (src : BitVec 2) : MatrixPart := ⟨12, 0, false, false, 0, 8, drain, false, false, src, src, 11, 10, 0⟩
def busyMat : State := busyCore fun c => { c with regs := [(10, 0x4000), (11, 0x5000), (12, 0x6000)] }

/-- BF16 operands; a drain. -/
theorem witness_MatrixInstructionsQueueOrRaise :
    busyMat.Takes (head 8 8).core.val ∧ (head 8 8).rsv = 0 ∧ (head 8 8).round.toNat < 5 ∧
      fmtOfCode (head 8 8).fmtA.toNat = some .bf16 ∧ pairAllowed .bf16 .bf16 = true ∧ (busyMat.core 0).matQ.length < 16 ∧
      (∀ drain, partIllegal busyMat 0 false 0 .bf16 .bf16 (mpart drain 0) 0x6000 = false ∧
        partMisaligned .bf16 .bf16 ⟨mpart drain 0, 0x4000, 0x5000, 0x6000⟩ = false ∧
        partPastEnd false .bf16 .bf16 ⟨mpart drain 0, 0x4000, 0x5000, 0x6000⟩ = false ∧
        ∀ w ∈ partWrites false ⟨mpart drain 0, 0x4000, 0x5000, 0x6000⟩, (busyMat.core 0).pinned w.1 w.2 = false) ∧
      (∀ k < 4, partIllegal busyMat 0 true k .bf16 .bf16 (mpart true 1) 0x6000 = false) ∧
      fmtOfCode (head 15 8).fmtA.toNat = none ∧ (mpart false 3).srcA = 3 ∧ (mpart false 2).srcA = 2 := by
  refine ⟨takes_of _ _ (by decide +kernel), ?_⟩; decide +kernel

def run0 (drain finalised : Bool) (ds : List DrainOut) : MatRun :=
  { apart := false, head := head 8 8, parts := [⟨mpart drain 0, 0x4000, 0x5000, 0x6000⟩], ord := 0, drainOrd := 0
    finalised := finalised, drains := ds }
def drain0 : DrainOut :=
  { addr := 0x050000030000, len := 32768, bytes := [(0, 1), (32767, 2)], scaleAddr := 0, scaleLen := 0, scaleBytes := []
    ledger := none, amax := 0, nonfinite := false, events := 2 }
def accepted (r : MatRun) : State := busyCore fun c => { c with matRun := [r], arrayState := 1 }

theorem witness_MatrixFinalisesAndDrains :
    (((accepted (run0 false false [])).core 0).matRun = [run0 false false []] ∧ (run0 false false []).finalised = false ∧
      ((accepted (run0 false false [])).core 0).matQ = [] ∧ ((accepted (run0 false false [])).core 0).hold = .none ∧
      (accepted (run0 false false [])).wordErr = [] ∧ (∀ p ∈ (run0 false false []).parts, p.part.drain = false) ∧
      (accepted (run0 false false [])).counting 0 = true) ∧
    (((accepted (run0 true true [drain0])).core 0).matRun = [run0 true true [drain0]] ∧ (run0 true true [drain0]).finalised = true ∧
      (run0 true true [drain0]).drains = [drain0] ∧ drain0.ledger = none ∧ drain0.scaleLen = 0 ∧
      ((accepted (run0 true true [drain0])).core 0).matQ = [] ∧ ((accepted (run0 true true [drain0])).core 0).hold = .none) := by
  decide +kernel

/-- A slot with nothing open, behind nothing and behind an instruction in the array; one that stands open, and one that the queue opens. -/
theorem witness_LedgerSlotsOpenAndClose :
    (busy.Takes 0 ∧ (busy.core 0).matQ = [] ∧ (busy.core 0).matRun = [] ∧ (busy.core 0).ledgerView 63 = none ∧
      fmtOfCode 3 = some .e4m3 ∧ ledgerFormat .e4m3 = true ∧ (16 : BitVec 5).toNat ≤ 16 ∧ (0x7F : Byte) ≠ 0x80) ∧
    ((accepted (run0 false false [])).Takes 0 ∧ ((accepted (run0 false false [])).core 0).matRun ≠ [] ∧
      ((accepted (run0 false false [])).core 0).matQ.length < 16 ∧ ((accepted (run0 false false [])).core 0).ledgerView 63 = none) ∧
    ((busyCore fun c => { c with ledgers := [(63, .e4m3)] }).core 0).ledgerView 63 ≠ none ∧
    (let c := { core0 with matQ := [.ledgerOpen 63 .e4m3 16 0 false 0] };
      c.matQ.length < 16 ∧ c.matRun = [] ∧ c.ledgerView 63 ≠ none) := by
  refine ⟨⟨busy_takes, ?_⟩, ⟨takes_of _ _ (by decide +kernel), ?_⟩, ?_⟩ <;> decide +kernel

/-! ### Witnesses: ferry, synchronisation and turn instructions -/

def ferry (rr : Reg) (svc : Bool) (rowsM1 : W16) : FerryF :=
  { core := 0, inbox := 2, rn := 9, rr := rr, rl := 4, rsigToken := 0, rsigEn := false, sigToken := 4, sigEn := true, redOp := 0
    conv := 0, svc := svc, port := false, rsv0 := 0, rowsM1 := rowsM1, rs := 0, rsv1 := 0 }
def xfer (op : FerryOp) (remote : Nat) : Xfer :=
  { op := op, f := ferry 8 false 0, local0 := 0x10000, remote := remote, rowBytes := 64, strides := 0, started := true, peer := if op = .relayPut then 13 else 0 }

/-- One row of 64 bytes to or from the first bytes of partition 0, and to core 13 of the next cluster. -/
theorem witness_FerryInstructionsQueue :
    busy.Takes (ferry 8 false 0).core.val ∧
      (∀ op ∈ [FerryOp.get, .put, .putReduce], ∀ x, x = ({ xfer op 0x40100000 with started := false } : Xfer) →
        ferryIllegal busy op (ferry 8 false 0) x 64 = false ∧ ferryMisaligned op (ferry 8 false 0) x = false ∧
          ferryPastEnd x = false ∧ ∀ w ∈ x.localWords, (busy.core 0).pinned w.1 w.2 = false) ∧
      ((busy.core 0).reg (ferry 8 false 0).rr.val).toNat % 2 ^ 48 = 0x40100000 ∧
      ((busy.core 0).reg (ferry 8 false 0).rl.val).toNat = 0x10000 ∧
      ((busy.core 0).reg (ferry 8 false 0).rn.val).toNat = 64 ∧
      (((busyCore fun c => { c with ferry0 := List.replicate 15 (xfer .put 0) ++ [xfer .get 0] }).core 0).port false).length = 16 ∧
      ((((busyCore fun c => { c with ferry0 := List.replicate 15 (xfer .put 0) ++ [xfer .get 0] }).core 0).port false).filter
        fun y => !y.started).length < 16 ∧
      ((busy.core 0).reg (ferry 10 false 0).rr.val).toNat % 1024 = 13 ∧
      ferryIllegal busy .relayPut (ferry 10 false 0) { xfer .relayPut 13 with f := ferry 10 false 0 } 64 = false := by
  refine ⟨busy_takes, ?_⟩
  simp only [List.mem_cons, List.not_mem_nil, or_false, forall_eq_or_imp, forall_eq]
  decide +kernel

/-- 65 rows of 64 bytes. -/
theorem witness_AssuredFerryLimit :
    busy.Takes (ferry 8 true 64).core.val ∧ (ferry 8 true 64).svc = true ∧
      4096 < ((ferry 8 true 64).rowsM1.toNat + 1) * ((busy.core 0).reg (ferry 8 true 64).rn.val).toNat := by
  refine ⟨busy_takes, ?_⟩; decide +kernel

def moving (x : Xfer) : State := { busyCore fun c => { c with ferry0 := [x] } with mem := [(0x40100000, 3), (0x4010003F, 4), (0x050000080000, 5)] }
def inbox1 : Inbox := { isOpen := true, base := 0x10000, slotWords := 512, slots := [.empty, .empty] }
def crediting : State :=
  (moving (xfer .relayPut 13)).modCore 13 (fun c => { c with inboxes := [(2, inbox1)] }) |> fun s =>
    { s with mesh := { s.mesh with credits := [(106, 1)] } }
def contrib0 : Contribution := ⟨2, 0, 0, 0, 0, 0, [(0x40100000, List.replicate 64 1)], 2, 0⟩
/-- The last piece of a GET from the core's own lagoon. -/
def piece0 : Piece := ⟨0, 0, 64, 0x040000000000, none⟩
def getting (ps : List Piece) : Xfer := { xfer .get 0x040000000000 with pieces := ps }
def reducing : State := { busy with mesh := { waiting := [contrib0] } }

/-- A GET whose pieces have all moved, and one with its last still to cross; a RELAY_PUT that has moved, and one whose credit has come; a
contribution that fits. -/
theorem witness_FerryTransfersMove :
    (let s := moving (getting []); (s.core 0).port false = getting [] :: [] ∧ (getting []).started = true ∧ (getting []).status = 0 ∧
      (s.core 0).hold = .none ∧ (getting []).pieces = []) ∧
    (let x := { xfer .relayPut 13 with slot := some 0 }; ((moving x).core 0).port false = x :: [] ∧ x.pieces = [] ∧ x.slot.isSome = true) ∧
    (let s := moving (getting [piece0]); let x := getting [piece0]; x.op = .get ∧ x.f.core = 0 ∧ x.f.conv = 0 ∧ x.pieces = [piece0] ∧
      piece0.via = none ∧ 2 ^ 41 ≤ piece0.addr ∧ s.standOf 0 = some ⟨0, 0, false⟩ ∧ s.accessStatus 0 piece0.addr piece0.n false = 0 ∧
      s.accessWaits piece0.addr piece0.n false = false ∧
      s.pinnedAt (csBase 0 + (x.local0 + piece0.row * x.localStride) * 8 + piece0.off) piece0.n = false ∧ s.wordErr = []) ∧
    (let s := crediting; let x := xfer .relayPut 13; let d := s.peerOf 0 x.remote;
      let b := (s.core x.peer).inbox x.f.inbox.toNat;
      d = x.peer ∧ (s.core 0).port false = x :: [] ∧ x.op = .relayPut ∧ x.started = true ∧ x.slot = none ∧ x.status = 0 ∧ x.f.core = 0 ∧
        s.wordErr = [] ∧ x.peer ≠ 0 ∧ b.isOpen = true ∧ b.fillSlot = some 0 ∧
        0 < SMap.getD s.mesh.credits (x.peer * 8 + x.f.inbox.toNat) 0 ∧ x.total ≤ b.slotWords * 8) ∧
    ((reducing.mesh.waiting.filter fun x => x.site == 2) = [contrib0] ∧ reducing.holdAdmits contrib0 = true) := by decide +kernel

def withTokens (ts : SMap Token) (h : Hold) : State := busyCore fun c => { c with tokens := ts, hold := h }

/-- A count that reaches its limit and one that passes it; a token that holds COUNT, one that lacks one, one in error; a full queue. -/
theorem witness_TokensAndWaits :
    busy.Takes 0 ∧ (withTokens [(3, ⟨65535, false, 0, false⟩)] .none).Takes 0 ∧ (busy.core 0).syncQ < 16 ∧
      ((busyCore fun c => { c with syncQ := 16 }).Takes 0 ∧ 16 ≤ ((busyCore fun c => { c with syncQ := 16 }).core 0).syncQ) ∧
      ((withTokens [(3, ⟨5, false, 0, false⟩)] .none).core 0).token 3 = ⟨5, false, 0, false⟩ ∧ (5 : W16).toNat ≤ 5 ∧ 5 < (6 : W16).toNat ∧
      (((withTokens [(3, ⟨5, true, 0x0201, false⟩)] .none).core 0).token 3).err = true ∧
      ((withTokens [(3, ⟨5, false, 0, false⟩)] (.wait 3 5)).core 0).hold = .wait 3 (5 : W16).toNat ∧
      (withTokens [(3, ⟨5, false, 0, false⟩)] (.wait 3 5)).Counts 0 := by
  refine ⟨busy_takes, takes_of _ _ (by decide +kernel), ?_, ⟨takes_of _ _ (by decide +kernel), ?_⟩, ?_, ?_, ?_, ?_, ?_,
    counts_of _ _ (by decide +kernel)⟩ <;> decide +kernel

def withInbox (b : Inbox) (h : Hold) : State := busyCore fun c => { c with inboxes := [(2, b)], hold := h }

/-- Two slots of 512 words that end with the inbox range; a ring with a full, a taken, and only empty or freed slots. -/
theorem witness_FencesAndInboxes :
    (busy.Takes 0 ∧ (busy.core 0).matQ = [] ∧ (busy.core 0).matRun = [] ∧ (busy.core 0).vecQ = 0 ∧ (busy.core 0).ferry0 = [] ∧
      (busy.core 0).ferry1 = [] ∧ (busy.core 0).syncQ < 16) ∧
    ((busyCore fun c => { c with vecQ := 1 }).Takes 0 ∧ ((busyCore fun c => { c with vecQ := 1 }).core 0).vecQ ≠ 0 ∧
      ((busyCore fun c => { c with hold := .fence 15 }).core 0).hold = .fence 15 ∧ (busyCore fun c => { c with hold := .fence 15 }).Counts 0) ∧
    (((busy.core 0).inbox 2).isOpen = false ∧ busy.imageOf 0 = some (image0, 0) ∧ 0x1FC00 % 512 = 0 ∧
      0x1FC00 + ((1 : BitVec 6).toNat + 1) * 512 = 0x20000 ∧ 0x20000 ≤ 2 ^ 21 ∧ image0.holds 0 2 0x1FC00 1024 = true) ∧
    (((withInbox { inbox1 with slots := [.freed 1 2, .empty] } .none).core 0).inbox 2).clearToClose = true ∧
    (((withInbox { inbox1 with slots := [.taken 1 2, .empty] } .none).core 0).inbox 2).clearToClose = false ∧
    (let b := { inbox1 with slots := [SlotState.full 1 2, .taken 3 4], nextTake := 0, nextFree := 1 };
      b.slots.getD b.nextTake .empty = .full 1 2 ∧ b.slots.getD b.nextFree .empty = .taken 3 4 ∧
        ((withInbox b (.take 2 9)).core 0).hold = .take 2 9 ∧ ((withInbox b (.close 2)).core 0).hold = .close 2) := by
  refine ⟨⟨busy_takes, ?_⟩, ⟨takes_of _ _ (by decide +kernel), ?_, ?_, counts_of _ _ (by decide +kernel)⟩, ?_⟩ <;> decide +kernel

/-- Both banks live at a carry area that ends with the carried range; operating points 0 and 8; a unit still at work. -/
theorem witness_TurnsBeginAndEnd :
    (let s := busyCore fun c => { c with inTurn := false, live := 3, carry := 0x4000 };
      s.coreReady 0 = true ∧ (s.core 0).inTurn = false ∧ s.wordErr = [] ∧ s.tokensDue 0 = [] ∧ (8 : BitVec 4).toNat ≤ 8 ∧ (s.core 0).live = 3) ∧
    (busyCore fun c => { c with inTurn := false }).Counts 0 ∧
    (busy.Takes 0 ∧ ((busy.core 0).reg 5).toNat % 2 ^ 21 = 0x4000 ∧ carryIllegal busy 0 0x4000 3 = false ∧ 0x4000 % 512 = 0 ∧
      carryIllegal busy 0 0x8000 3 = false ∧ carryIllegal busy 0 0x8200 3 = true ∧ (busy.core 0).syncQ < 16 ∧ (busy.core 0).matQ = [] ∧
      (busy.core 0).matRun = [] ∧ (busy.core 0).vecQ = 0 ∧ (busy.core 0).ferry0 = [] ∧ (busy.core 0).ferry1 = []) ∧
    ((busyCore fun c => { c with vecQ := 1 }).core 0).vecQ ≠ 0 := by
  refine ⟨?_, counts_of _ _ (by decide +kernel), ⟨busy_takes, ?_⟩, ?_⟩ <;> decide +kernel

/-! ### Witnesses: what happens to a core, jobs, memory -/

def queued (op : FerryOp) : Xfer := { xfer op 0x40100000 with started := false }

def hinting (core : Option Nat) : State := busy.modCluster 0 fun x => { x with hint := some ⟨8, 1, 1, core, false⟩ }

theorem witness_QueuesArrayAndHints :
    (busy.core 0).hold = .none ∧ ((busyCore fun c => { c with vecQ := 0, syncQ := 1 }).core 0).hold = .none ∧
    ((busyCore fun c => { c with matQ := [.work false (head 8 8) [] 0 0] }).core 0).matQ = .work false (head 8 8) [] 0 0 :: [] ∧
    (((busyCore fun c => { c with ferry0 := [queued .put] }).core 0).port false = queued .put :: [] ∧ (queued .put).op ≠ .relayPut ∧
      (queued .put).started = false ∧ (busyCore fun c => { c with ferry0 := [queued .put] }).wordErr = []) ∧
    (((busyCore fun c => { c with ferry1 := [queued .get] }).core 0).port true = queued .get :: [] ∧ busy.discards (queued .get) = false) ∧
    (((busyCore fun c => { c with arrayState := 2 }).core 0).arrayState = 2 ∧ (busyCore fun c => { c with arrayState := 2 }).counting 0 = true) ∧
    ((busyCore fun c => { c with arrayState := 3, ramp := 1 }).core 0).arrayState = 3 ∧
    busy.Takes 0 ∧ busy.power.safeFloor = false ∧ (busy.cluster 0).hint = none ∧ (busy.core 0).syncQ < 16 ∧
    ((hinting (some 5)).Takes 0 ∧ ((hinting (some 5)).cluster 0).hint = some ⟨8, 1, 1, some 5, false⟩) ∧
    ({ busy with power := { busy.power with safeFloor := true } } : State).power.safeFloor = true ∧
    ({ busy with power := { busy.power with safeFloor := true } } : State).Takes 0 := by
  refine ⟨?_, ?_, ?_, ?_, ?_, ?_, ?_, busy_takes, ?_, ?_, ?_, ⟨takes_of _ _ (by decide +kernel), ?_⟩, ?_, takes_of _ _ (by decide +kernel)⟩ <;>
    decide +kernel

theorem witness_CoreHealth :
    ((busy.cluster 0).lowestReserve = some 12 ∧ busy.thirdRuns 0 = false ∧ (busy.cluster 0).map.getD 11 0xF = 11 ∧ (11 : Nat) ≠ 0xF) ∧
    (((busyCore fun c => { c with probe := true, unanswered := 1 }).core 0).probe = true ∧
      ((busyCore fun c => { c with probe := true, unanswered := 1 }).core 0).unanswered = 1) ∧
    ((accepted (run0 false false [])).core 0).matRun = [run0 false false []] ∧ (accepted (run0 false false [])).wordErr = [] ∧
    (((busyCore fun c => { c with probe := true }).core 0).probe = true ∧ ((busyCore fun c => { c with probe := true }).core 0).unanswered = 0) ∧
    (let s := (busyJob fun j => { j with vote := some ⟨[0], some 0, false, false⟩ }).modCluster 0 fun x => { x with
        slots := SMap.put x.slots 13 3 };
      s.thirdRuns 0 = true ∧ (s.cluster 0).reserveSlots.length = 1 ∧ (s.cluster 0).map.getD 0 0xF ≠ 0xF ∧ (s.cluster 0).failing = []) := by
  decide +kernel

/-- The part at its end, with a carried page that has changed; one in its turn; one that waits to be rebuilt, having begun before, and one
that waits before any began. -/
theorem witness_PartsEndOverrunAndReplay :
    (let s := { busyCore fun c => { c with attempt := { c.attempt with ended := true }, inTurn := false } with
        mem := [(csBase 0 + 0x4000 * 8, 1)] };
      s.standOf 0 = some ⟨0, 0, false⟩ ∧ (s.part 0).image = some image0 ∧ (s.part 0).job = some job0 ∧ job0.state = .running ∧
        job0.waiting = false ∧ (s.core 0).attempt.ended = true ∧ (s.core 0).attempt.durable = false ∧
        job0.req.body.doubles = false ∧ job0.req.body.group = false ∧ (s.core 0).ledgers = [] ∧ s.wordErr = [] ∧
        s.shadowWaits (s.part 0) image0 job0 0 0 = false ∧ 0 < image0.ranks ∧ shadowBytes image0.ranks ≤ (s.part 0).bytes ∧
        (s.part 0).base + (s.part 0).bytes ≤ 2 ^ 41 ∧ (image0.carriedPages 0).length ≤ 512 ∧ (image0.carriedPages 0)[2]? = some 0x4000) ∧
    ((busy.core 0).inTurn = true ∧ (busy.core 0).attempt.rebuild = false) ∧
    (let s := busyCore fun c => { c with attempt := { c.attempt with rebuild := true, again := true } };
      (s.core 0).attempt.rebuild = true ∧ (s.core 0).attempt.durable = false ∧ (s.cluster 0).region = .running ∧
        (s.cluster 0).resetting = false ∧ (s.cluster 0).failing = [] ∧ s.testing 0 = false ∧ s.turnBegun job0 = true ∧ s.allAnswer = true) ∧
    (let s := busyCore fun c => { c with inTurn := false, seq := .heldBoundary, attempt := { c.attempt with rebuild := true } };
      s.turnBegun job0 = false ∧ s.wordErr = [] ∧ s.allAnswer = true ∧
        ∀ L ∈ job0.cores, s.inService (L / 12) = true ∧ (s.cluster (L / 12)).usable = true ∧ s.testing (L / 12) = false) := by
  decide +kernel

def durableBusy (td : Nat) : State :=
  (busyJob fun j => { j with td := td, ts := td, pendingShadow := [(0, { entry := 0x180, carry := 0x4000 })] }).modCore 0
    fun c => { c with inTurn := false, seq := .heldBoundary, attempt := { c.attempt with ended := true, durable := true } }
def loadingBusy : State :=
  { (busyJob fun j => { j with state := .loading, shadow := [] }) with cores := [], mem := [(0x40020000, 9), (0x40020001, 8)] }

/-- The same job in a group. -/
def ringLoading : State := loadingBusy.modJob 0 fun j => { j with req := { j.req with body := { body0 with group := true, groupId := 0x21 } } }

/-- The turn before the last and the last one; the last backed region; the load's end, alone and in a group. -/
theorem witness_JobsLoadAndCommit :
    (∀ td ∈ ([1, 2] : List Nat),
      (((durableBusy td).part 0).job.map fun j => (j.state, j.td, (durableBusy td).allDurable j)) =
        some (.running, td, true) ∧ (((durableBusy td).part 0).job.map fun j => (j.req.body.doubles, j.req.body.group, j.leaseDue)) =
        some (false, false, false) ∧ (durableBusy td).sched.restarting = false ∧
        (durableBusy td).host.rollTests = [] ∧ ((durableBusy td).part 0).queue = [] ∧ (durableBusy td).combineWaits 0 td = false ∧
        ((durableBusy td).part 0).job.map Job.lost = some false ∧ (durableBusy td).inService 0 = true ∧
        ((durableBusy td).cluster 0).region = .running ∧ ((durableBusy td).cluster 0).shed = false ∧ (durableBusy td).testing 0 = false) ∧
    busy.allDurable job0 = false ∧
    ((loadingBusy.part 0).image = some image0 ∧ ((loadingBusy.part 0).job.map fun j => (j.state, j.loaded, j.req.body.group, j.leaseDue)) =
        some (.loading, false, false, false) ∧ image0.backed[0]? = some ⟨0x040000000000, 0x10000, 0x20000, true⟩ ∧
      (∀ b ∈ image0.backed, b.filled = true ∧ loadingBusy.accessWaits ((loadingBusy.part 0).base + b.master) b.length false = false ∧
        loadingBusy.accessWaits b.addr b.length true = false) ∧ loadingBusy.wordErr = [] ∧ loadingBusy.allAnswer = true ∧
      loadingBusy.inService 0 = true ∧ (loadingBusy.cluster 0).region = .running ∧ (loadingBusy.cluster 0).shed = false ∧
      loadingBusy.testing 0 = false) ∧
    (let s := { ringLoading with arch := { ringLoading.arch with groups := [(0x21, { admitted := true })] } };
      (ringLoading.part 0).job.map (fun j => (j.state, j.loaded, j.req.body.group)) = some (.loading, false, true) ∧
        (ringLoading.group 0x21).admitted = false ∧ (s.group 0x21).admitted = true) := by
  refine ⟨?_, ?_, ?_, ?_⟩ <;> decide +kernel

def doublesJob (v : Option Vote) : Job :=
  { job0 with req := { job0.req with body := { body0 with doubles := true } }, placement := [0], placementB := [1], vote := v }
def doublesBusy (v : Option Vote) : State :=
  (busyPart fun x => { x with job := some (doublesJob v) }) |> fun s =>
    [0, 1].foldl (fun t L => t.modCore L fun c => { c with attempt := { c.attempt with ended := true, durable := true } }) s

theorem witness_DoublesCopiesAreCompared :
    (let s := doublesBusy none; (s.part 0).job = some (doublesJob none) ∧ (doublesJob none).state = .running ∧
      (doublesJob none).req.body.doubles = true ∧ s.sched.restarting = false ∧ s.allDurable (doublesJob none) = true ∧
      (doublesJob none).compared = false ∧
      (s.core 0).addrDigest = (s.core 1).addrDigest ∧ (s.core 0).dataDigest = (s.core 1).dataDigest) ∧
    (let v : Vote := ⟨[0], some 2, false, false⟩; let s := doublesBusy (some v);
      let u := (s.modCore 1 fun c => { c with dataLog := [1] })
      let d := fun (x : List Byte) => BitVec.ofNat 128 (fileNat x 0 16)
      (s.part 0).job = some (doublesJob (some v)) ∧ (doublesJob (some v)).vote = some v ∧ (s.cluster 2).failing = [] ∧
        (s.modJob 0 fun j => { j with vote := none }).sched.parts.all (fun e => (e.2.job.bind Job.vote).isNone) = true ∧
        (s.core 0).addrDigest = leBytes 16 (d (s.core 0).addrDigest).toNat ∧
        (s.core 0).dataDigest = leBytes 16 (d (s.core 0).dataDigest).toNat ∧
        (u.core 1).addrDigest = (u.core 0).addrDigest ∧ (u.core 1).dataDigest = leBytes 16 (d (u.core 1).dataDigest).toNat ∧
        (u.core 0).dataDigest ≠ leBytes 16 (d (u.core 1).dataDigest).toNat ∧
        (u.core 0).dataDigest ≠ leBytes 16 0 ∧ (u.core 1).dataDigest ≠ leBytes 16 0 ∧
        (s.cluster 0).lowestReserve = some 12 ∧ (s.cluster 0).map.getD 0 0xF ≠ 0xF ∧ (s.cluster 0).map.getD 1 0xF ≠ 0xF) := by decide +kernel

/-- The last line of a bank and of a slice, regions and lagoon at work and at rest; a reserve slot; a corrected word; a granule of the backed
region. -/
theorem witness_ScrubbingAndReloads :
    (placeOf 0x050000000000 = .coreStore 0 0 ∧ busy.wordErr = [] ∧ (busy.cluster 0).region = .running ∧
      SMap.getD ((busy.modCluster 0 fun x => { x with scrub := [(0, 2047)] }).cluster 0).scrub 0 0 = 2047 ∧
      (busy.cluster 0).slotState 12 = 1) ∧
    (placeOf 0x050001000000 = .coreStore 1 0 ∧ (({ busy with clusters := [] } : State).cluster 0).region ≠ .running) ∧
    (placeOf 0x04000FFFFFFF = .lagoon 0 3 ∧ placeOf 0x0400B0000000 = .lagoon 11 0 ∧ (busy.island 0).lagoon = 0 ∧
      SMap.getD ((busy.modIsland 0 fun y => { y with scrub := [(31, 65535)] }).island 0).scrub 31 0 = 65535 ∧
      ((busy.modIsland 0 fun y => { y with lagoon := 1 }).island 0).lagoon ≠ 0) ∧
    (0x40000008 / 8 ∈ ({ busy with writeBack := [0x8000001] } : State).writeBack) ∧
    (busy.backedAt 0x040000010004 = some (0, ⟨0x040000000000, 0x10000, 0x20000, true⟩) ∧ busy.wordErr = [] ∧ busy.allAnswer = true) := by
  decide +kernel

/-! ### Witnesses: mesh and HBM -/

def wide : State := { busy with clusters := [(0, cluster0), (1, cluster0)] }
def pkt (typ flags : Byte) (dest src : W16) (addr : W64) (payload : List Byte) : MeshPkt :=
  ⟨addr, dest, src, typ, flags, 0, 0, 0, 0, payload⟩
/-- From core 13 to core 0. -/
def there (typ flags : Byte) (addr : W64) (payload : List Byte) : MeshPkt := pkt typ flags (coreEndpoint 0) (coreEndpoint 13) addr payload
def owner : W16 := busy.ownerOf 0x40100000
/-- A request of core 13's to the stack that holds the first bytes of partition 0. -/
def asks (typ flags : Byte) (payload : List Byte) : MeshPkt := pkt typ flags owner (coreEndpoint 13) 0x40100000 payload
/-- Core 13's transfer, one piece of it under way in the packet of SEQ 0. -/
def bears (op : FerryOp) (dest : W16) : State := wide.modCore 13 fun c => { c with ferry0 :=
  [{ xfer op 0x40100000 with f := { ferry 8 false 0 with core := 13 }, slot := some 1, pieces := [⟨0, 0, 64, 0x40100000, some (dest, 0)⟩] }] }
def relay0 : MeshPkt := there 5 0 0 (List.replicate 64 9)
def written : State := (bears .relayPut (coreEndpoint 0)).modCore 0 fun c =>
  { c with inboxes := [(2, { inbox1 with slots := [.empty, .written 13 0] })] }
def seen (s : State) (p : MeshPkt) : State :=
  { s with mesh := { s.mesh with windows := [(seqKey p.src p.dest p.assuredClass, ⟨1, []⟩)] } }

/-- Where requests go wrong: no transfer has sent it; its window has passed it, sent once or again; its partition is under reset; it is not
its partition's. -/
theorem witness_MeshRequestsRefused :
    (let p := asks 1 0 (leBytes 4 64); wide.orphan p = true) ∧
    (let p := asks 3 8 (List.replicate 64 7); let s := seen (bears .put owner) p;
      s.orphan p = false ∧ s.stale p = true ∧ p.resent = true ∧ s.hadBefore p = true ∧ s.pendingAt p = false ∧
        (asks 3 0 []).resent = false) ∧
    (let p := there 3 0 (csBase 0) (List.replicate 64 7);
      let s := (bears .put (coreEndpoint 0)).modPart 0 fun x => { x with clearing := some ⟨false, true, none, 7, 1⟩ };
      s.orphan p = false ∧ s.stale p = false ∧ s.requestStatus p = stResetting) ∧
    (let p := { asks 3 0 (List.replicate 64 7) with part := 1 }; let s := bears .put owner;
      s.orphan p = false ∧ s.stale p = false ∧ s.requestStatus p ≠ stOk ∧ s.requestStatus p ≠ stResetting) := by decide +kernel

/-- Where they wait: at a pinned line; at a region that does not run, within 64 KiB and past them. -/
theorem witness_MeshRequestsWait :
    let p := there 3 0 (csBase 0) (List.replicate 64 7)
    let base := bears .put (coreEndpoint 0)
    (let s := base.modCore 0 fun c => { c with pins := [⟨0, 8, 0, 0, 0⟩] };
      s.reach p = some (csBase 0, 64, true) ∧ s.orphan p = false ∧ s.stale p = false ∧ s.requestStatus p = stOk ∧
        s.targetSleeps (csBase 0) = false ∧ s.requestWaits p = true) ∧
    (let s := base.modCluster 0 fun x => { x with region := .gated };
      placeOf (csBase 0) = .coreStore 0 0 ∧ s.requestStatus p = stOk ∧ (s.cluster 0).region ≠ .running ∧ (s.cluster 0).doze = false ∧
        ejectedBytes [p] ≤ 65536 ∧ 65536 < ejectedBytes (List.replicate 16 (there 3 0 (csBase 0) (List.replicate 4032 7)) ++ [there 3 0 (csBase 0) (List.replicate 4032 7)])) := by
  decide +kernel

/-- Each request that is served. -/
theorem witness_MeshRequestsAreServedOnce :
    (∀ e ∈ [(FerryOp.get, asks 1 0 (leBytes 4 64)), (.put, asks 3 0 (List.replicate 64 7)), (.putReduce, asks 4 0 (List.replicate 64 1))],
      let s := bears e.1 owner
      s.reach e.2 = some (0x40100000, 64, e.1 != .get) ∧ s.orphan e.2 = false ∧ s.stale e.2 = false ∧ s.requestStatus e.2 = stOk ∧
        s.targetSleeps 0x40100000 = false ∧ s.requestWaits e.2 = false ∧ s.wordErr = [] ∧ s.allAnswer = true ∧ (s.carried e.2).isSome) ∧
    (written.reach relay0 = some (csBase 0 + (0x10000 + 512) * 8, 64, true) ∧ written.orphan relay0 = false ∧ written.stale relay0 = false ∧
      written.requestStatus relay0 = stOk ∧ written.requestWaits relay0 = false) := by decide +kernel

def sentPkt : MeshPkt := { pkt 3 0 (coreEndpoint 13) (coreEndpoint 0) 0x40100000 (List.replicate 64 7) with seq := 9 }
def sentAssured : MeshPkt := { sentPkt with flags := 1 }
def putting (svc : Bool) : Xfer :=
  { xfer .put 0x40100000 with f := ferry 8 svc 0, pieces := [⟨0, 0, 64, 0x40100000, some (coreEndpoint 13, 9)⟩] }
def sending (q : MeshPkt) : State :=
  { (moving (putting q.assuredClass)) with clusters := wide.clusters, mesh := { sent := [q] } }
/-- An answer from core 13 to SEQ 9. -/
def back (typ flags : Byte) (st : W16) : MeshPkt := { there typ flags 0 [] with seq := 9, status := st }

/-- Data that a GET awaits; an ACK; busy, a reset and a refusal, in each class. -/
theorem witness_MeshAnswersAct :
    (let x := { xfer .get 0x40100000 with pieces := [⟨0, 0, 64, 0x40100000, some (coreEndpoint 13, 0)⟩] };
      let p := there 2 0 0x40100000 (List.replicate 64 7); let s := moving x;
      s.stale p = false ∧ s.awaiting p = some (0, x, x.pieces.headD ⟨0, 0, 0, 0, none⟩) ∧ s.pinnedAt (csBase 0 + 0x80000) 64 = false) ∧
    ((sending sentPkt).answered (back 6 0 0) = some sentPkt ∧ sentPkt ∉ (sending sentPkt).mesh.queued ∧
      coreOfEndpoint sentPkt.src = some 0 ∧ wide.answered (back 6 0 0) = none) ∧
    ((sending sentAssured).answered (back 7 1 stResetting) = some sentAssured ∧ sentAssured.assuredClass = true ∧
      (sending sentPkt).answered (back 7 0 0x0201) = some sentPkt ∧ sentPkt.assuredClass = false ∧
      (sending sentPkt).carried sentPkt = some (putting false, ⟨0, 0, 64, 0x40100000, some (coreEndpoint 13, 9)⟩)) := by decide +kernel

def tokened : MeshPkt := there 8 1 0 (3 :: List.replicate 7 1)
/-- The four assured notices, new to their endpoint: a token on its way and none; credits within the ring and past it; a delta whose parity
stack is there and lost; one that the window has passed. -/
theorem witness_MeshNoticesAct :
    (wide.stale tokened = false ∧ coreOfEndpoint tokened.dest = some 0 ∧ wide.sentPacket tokened.src tokened.dest true 0 = none ∧
      (({ wide with mesh := { sent := [tokened] } } : State).sentPacket tokened.src tokened.dest true 0).isSome = true) ∧
    (let p := there 9 1 0 [0, 2]; let s := wide.modCore 13 fun c => { c with inboxes := [(2, inbox1)] };
      s.stale p = false ∧ coreOfEndpoint p.src = some 13 ∧ p.payloadNat 0 1 = 0 ∧ p.payloadNat 1 1 % 8 = 2 ∧
        ((s.core 13).inbox 2).isOpen = true ∧ 0 + ((s.core 13).inbox 2).occupied < ((s.core 13).inbox 2).slots.length ∧
        ((s.core 13).inbox 3).isOpen = false ∧ (there 9 1 0 [1, 2]).payloadNat 0 1 ≠ 0) ∧
    (let p := there 10 1 0x40100000 (leBytes 8 5); let pl := wide.granulePlace 0x40100000;
      wide.stale p = false ∧ wide.gone pl.parityStack pl.ch = false ∧
        (wide.modStack pl.parityStack fun y => { y with state := .lost }).gone pl.parityStack pl.ch = true) ∧
    (let p := there 11 9 0 []; wide.stale p = false ∧ (seen wide p).stale p = true ∧ p.resent = true ∧ (seen wide p).hadBefore p = true) := by
  decide +kernel

theorem witness_UnansweredPacketsGoAgain :
    (let k := (coreEndpoint 0, coreEndpoint 13, (9 : W32));
      let s := { sending sentPkt with mesh := { sent := [sentPkt], busy := [(k.1, k.2.1, k.2.2, false)] } };
      s.sentPacket k.1 k.2.1 false 9 = some sentPkt ∧ (k.1, k.2.1, k.2.2, false) ∈ s.mesh.busy ∧ (k.1, k.2.1, k.2.2, true) ∉ s.mesh.busy ∧
        s.sentPacket k.1 k.2.1 true 9 = none) ∧
    (let k := (coreEndpoint 0, coreEndpoint 13, (9 : W32));
      let s := { sending sentAssured with mesh := { sent := [sentAssured], busy := [(k.1, k.2.1, k.2.2, true)], retry := [k] } };
      s.sentPacket k.1 k.2.1 true 9 = some sentAssured ∧ (k.1, k.2.1, k.2.2, true) ∈ s.mesh.busy ∧
        (k.1, k.2.1, k.2.2, false) ∉ s.mesh.busy ∧ k ∈ s.mesh.retry ∧ s.sentPacket k.1 k.2.1 false 9 = none) := by decide +kernel

def linked (n d : Nat) (f : PortSet → PortSet) : State := busy.modPort n d f

/-- A link inside an island and one across a seam, at the first and the last node; the 64th error within 1 ms, and the 63rd; the sixteenth
within 100 ms of a clean test; a half with sixteen recent errors; a spare unused and in use. -/
theorem witness_LinksAreSparedAndLost :
    (peerNode 0 0 = some 1 ∧ isSeam 0 0 = false ∧ peerNode 47 2 = some 46 ∧ peerNode 1 0 = some 2 ∧ isSeam 1 0 = true ∧
      (busy.portSet 0 0).half false ≠ 2 ∧ (busy.portSet 1 0).clean false = none ∧ busy.timeBase.toNat = 1000000) ∧
    (((linked 0 0 fun x => x.setReplays false (List.replicate 62 1000000)).portSet 0 0).replays false).length = 62 ∧
    (((linked 0 0 fun x => x.setReplays false (List.replicate 63 1000000)).portSet 0 0).replays false).length = 63 ∧
    (let x := (linked 1 0 fun x => (x.setReplays false (List.replicate 15 1000000)).setClean false (some 5)).portSet 1 0;
      x.clean false = some 5 ∧ (x.replays false).length = 15) ∧
    (let x := (linked 1 0 fun x => x.setReplays false (List.replicate 16 1000000)).portSet 1 0;
      x.half false = 0 ∧ 16 ≤ x.recent false 1000000 1000000) ∧
    (let x := (linked 1 0 fun x => x.setHalf false 1).portSet 1 0; x.half false = 1 ∧ (128 : Fin 130).val < 129 ∧
      x.spared false = 0 ∧ x.usedSpare false = 0 ∧ x.steered false = []) ∧
    (((linked 1 0 fun x => (x.setHalf false 1).spare false 0 5).portSet 1 0).spared false).getLsbD 0 = true ∧
    (0, false) ∉ busy.mesh.routersOut ∧
    (((linked 0 0 fun x => x.setHalf true 2).portSet 0 0).half true = 2 ∧ (0, 0, true) ∉ busy.mesh.detours) := by decide +kernel

/-- A stack with four channels retired, and one with a retraining on its second attempt. -/
theorem witness_HbmChannelsRetrainAndRetire :
    ((busy.stack 3).state = .inService ∧ (busy.stack 3).retired.getLsbD 31 = false ∧ busy.retrainBlocked 3 31 = false) ∧
    (let s := busy.modStack 3 fun y => { y with retired := 15 };
      (s.stack 3).state ≠ .lost ∧ (s.stack 3).retired.getLsbD 31 = false ∧
        ¬ ((List.range 32).filter fun i => ((s.stack 3).retired ||| BitVec.ofNat 32 (2 ^ 31)).getLsbD i).length < 5) ∧
    (∀ n ∈ [1, 2], let s := busy.modStack 3 fun y => { y with retraining := true, retrainCh := 31, attempts := n };
      (s.stack 3).retraining = true ∧ (s.stack 3).attempts = n ∧ (s.stack 3).retrainCh = 31) ∧
    ((busy.modStack 3 fun y => { y with state := .lost }).stack 3).state = .lost := by
  refine ⟨?_, ?_, ?_, ?_⟩ <;> decide +kernel

def unprotected : State := { busy with hbm := { mode := true, written := [(0, true)] } }
def protected0 : State := { busy with hbm := { written := [(0, true)] } }

theorem witness_HbmHeatPatrolRefreshAndClear :
    (∀ v : Fin 4, ((busy.modStack 0 fun y => { y with thermal := BitVec.ofFin v }).stack 0).thermal = BitVec.ofFin v) ∧
    ((unprotected.stack 0).state = .inService ∧ (unprotected.stack 0).retraining = false ∧ (unprotected.stack 0).thermal ≠ 3 ∧
      unprotected.shareWritten 0 0 = true ∧ unprotected.hbm.mode = true ∧ unprotected.wordErr = [] ∧
      unprotected.stripeWord 0 31 * 8 < 2 ^ 41 ∧ (unprotected.granulePlace (unprotected.stripeWord 0 31 * 8)).stack = 0 ∧
      (unprotected.stack 0).retired.getLsbD (channelOf 0) = false) ∧
    (protected0.shareWritten 0 0 = true ∧ protected0.hbm.mode = false ∧ protected0.hbm.parityErr = [] ∧ protected0.patrolsParity 0 = true ∧
      ∀ n < 32, (List.range 15).foldl (fun acc j => acc ^^^ protected0.readWord (protected0.granuleAddr 0 j + 8 * n)) 0 =
        protected0.parityWord 0 n) ∧
    ({ busy with chassis := { busy.chassis with mode := 3 } } : State).chassis.mode = 3 ∧
    ((busy.modStack 0 fun y => { y with state := .selfRefresh }).stack 0).state = .selfRefresh ∧
    (let s := busyPart fun x => { x with hbmClearing := true }; (s.part 0).hbmClearing = true ∧
      ∀ e ∈ s.rangeEnds (s.part 0).base (s.part 0).bytes, s.hbmWaits e.1 e.2 true = false) := by
  refine ⟨?_, ?_, ?_, ?_, ?_, ?_⟩ <;> decide +kernel

/-! ### Witnesses: the archipelago -/

def engine0 : Engine := { state := 2, laneUse := 0xFF, good := 0x1FF, peerSeat := 2, peerEngine := 6, trunk := 0 }
/-- Seat 1 of a ring of four, its group's job running. -/
def ring (role : Nat) (f : Arch → Arch) : State :=
  { (busyJob fun j => { j with req := { j.req with body := { body0 with group := true, groupId := 0x21, groupMap := 0xF } } }) with
    arch := f { topology := 1, size := 4, seat := 1, eligible := [0, 1], state := 2, role := role, epoch := 5, members := 0xF
                master := if role = 3 then 1 else 0, deputy := 2, engines := [(0, engine0)] } }
def alone (f : Engine → Engine) : State := { busy with arch := { engines := [(0, f engine0)] } }

/-- A flit of a reserved KIND. -/
theorem bad_kind : Flit.bad ⟨0, 0, 0, 0, 0, [], 0⟩ 0 = true := by simp [Flit.bad]

/-- A seat's public identity in the image: seat 2 of serial 7. -/
def named : State := { ring 1 fun a => { a with engines := [(0, { engine0 with state := 1 })] } with
  start := { busy.start with image := some { imageAtShipment with seats := [⟨2, true, true, 7⟩] } } }

def logged0 (n : Nat) : LogEntry := ⟨0, 0, BitVec.ofNat 64 n, 0, 0, [], []⟩
/-- Six lanes of engine 0 are in the log. -/
def narrow : State := { busy with log := { entries := (List.range 6).map fun l => logged0 (unitCode 0x0A 0 l 0).toNat } }

/-- A link in service, alone and in a ring; a flit of a reserved KIND; a lane with a spare, and the last of four; an engine that trains
with and without four good lanes, its peer known and unknown. -/
theorem witness_StraitLinksAndLanes :
    (((ring 1 id).engine 0).state = 2 ∧ ((ring 1 id).engine 0).laneUse.getLsbD 7 = true ∧ 7 ∉ ((ring 1 id).engine 0).paused ∧
      ((ring 1 id).engine 0).missing = none ∧ ((ring 1 id).engine 0).expect = 0 ∧
      ((alone fun x => { x with missing := some 3 }).engine 0).missing ≠ none) ∧
    (((alone fun x => { x with paused := [7], good := 0x17F }).engine 0).paused = [7] ∧ ((alone id).engine 0).width = 8 ∧
      ((List.range 9).find? fun l => !(0xFF : BitVec 9).getLsbD l && (0x17F : BitVec 9).getLsbD l) = some 8 ∧
      ((List.range 9).find? fun l => !(0xFF : BitVec 9).getLsbD l && (0x07F : BitVec 9).getLsbD l) = none ∧
      4 ≤ ({ engine0 with laneUse := 0xFF &&& ~~~(BitVec.ofNat 9 (2 ^ 7)) } : Engine).width ∧
      ({ engine0 with laneUse := 0x0F &&& ~~~(BitVec.ofNat 9 (2 ^ 3)) } : Engine).width < 4) ∧
    (named.arch.trunkOf 0 = some (0, 2, 6) ∧ (named.engine 0).state ≠ 2 ∧ named.arch.state ≠ 1 ∧ named.arch.state ≠ 3 ∧
      named.knownPeer 2 7 = true ∧ named.knownPeer 2 8 = false ∧
      4 ≤ ({ named.engine 0 with laneUse := firstEight (named.lanesLogged 0) } : Engine).width ∧
      ({ named.engine 0 with laneUse := firstEight (narrow.lanesLogged 0) } : Engine).width < 4) := by
  refine ⟨?_, ?_, ?_⟩ <;> decide +kernel

def spkt (typ flags : Byte) (addr : W64) (data : List Byte) : StraitPkt :=
  ⟨addr, 1, 0, typ, flags, 0x21, 0, 0, 0, data⟩
/-- The same, turn 0 committed. -/
def ringDone (f : Arch → Arch) : State := (ring 1 f).modJob 0 fun j => { j with td := 1 }
def sentStrait (flags : Byte) : StraitPkt := ⟨0, 0, 1, 1, flags, 0x21, 9, 0, 0, [1, 2]⟩
def collective0 (op : Nat) : Collective := ⟨0x21, 0, 3, { op := op, red := 0, lag := 0, root := 0, src := 0x100000, dst := 0x200000, len := 4096 }, [], []⟩

def summing (topology : Nat) : State :=
  ringDone fun a => { a with topology := topology, torusA := 2, torusB := 2, collectives := [collective0 1] }
/-- The share that seat 2 or seat 1 holds at the end, which seat 0 feeds. -/
def share (owner : Nat) : Chunk := ⟨owner, true, 512 * owner, 512⟩

/-- A packet for this seat and one for the next; too early and in time; outside program space; partial blocks that go on, that end here, and
that wait for another; packets to be acknowledged. -/
theorem witness_StraitPacketsMoveBlocks :
    ((ringDone id).arch.topology ≠ 0 ∧ ((ringDone id).engine 0).state = 2 ∧ (spkt 1 0 0x100000 []).destSeat.toNat = (ringDone id).arch.seat ∧
      ({ spkt 1 0 0x100000 [] with destSeat := 2 } : StraitPkt).destSeat.toNat ≠ (ringDone id).arch.seat) ∧
    ((ring 1 id).tooEarly 0x21 0 = true ∧ (ringDone id).tooEarly 0x21 0 = false ∧
      (((ringDone id).straitArrive 0 (spkt 1 0 0x100000 [1])).straitFresh (spkt 1 0 0x100000 [1])).2 = true ∧
      (ringDone id).groupHome 0x21 = some 0 ∧ (ringDone id).straitStatusOf 0x21 0x100000 64 = 0 ∧
      (ringDone id).straitStatusOf 0x21 0x7FFFFFF0 64 ≠ 0) ∧
    (∀ e ∈ [(2, some 2), (1, none)],
      (summing 1).reductionAt 0x21 0 (0x100000 + 512 * e.1) ((summing 1).groupMapOf 0) false = some (collective0 1, share e.1) ∧
        (summing 1).arch.feeders ((summing 1).groupMapOf 0) (share e.1) 1 = [(spkt 3 0 0 []).srcSeat.toNat] ∧
        (summing 1).arch.onward ((summing 1).groupMapOf 0) (share e.1) 1 = e.2) ∧
    ((summing 2).reductionAt 0x21 0 0x100200 ((summing 2).groupMapOf 0) false = some (collective0 1, share 1) ∧
      (summing 2).arch.feeders ((summing 2).groupMapOf 0) (share 1) 1 = [0, 3] ∧ (collective0 1).arrived = []) ∧
    (∀ f ∈ [(0 : Byte), 1],
      (ring 1 fun a => { a with sent := [(5, sentStrait f)] }).arch.sent.find? (fun q => q.2.destSeat == 0 &&
        q.2.flags.getLsbD 0 == f.getLsbD 0 && q.2.seq == 9) = some (5, sentStrait f)) := by
  refine ⟨?_, ?_, ?_, ?_, ?_⟩ <;> decide +kernel

def ringJob : Job := { job0 with req := { job0.req with body := { body0 with group := true, groupId := 0x21, groupMap := 0xF } } }

theorem parts_kept {s : State} {x : Part} (h : s.sched.parts = [(0, x)]) (hx : ∀ j, x.job = some j → j.lost = false) :
    ∀ k j, (s.part k).job = some j → j.lost = false := by
  intro k j hj
  simp only [State.part, h, SMap.getD] at hj
  split at hj
  · exact hx j hj
  · cases hj

theorem ring_parts_kept : ∀ k j, ((ring 1 id).part k).job = some j → j.lost = false :=
  parts_kept (x := { part0 with job := some ringJob }) rfl (by rintro _ ⟨⟩; rfl)

/-- A message from the master; a member and a master; a join of the last seat; elections won and lost; losses that isolate this module, that
it decides, and that another decides. -/
theorem witness_MembershipTimeAndPace :
    (∀ typ ∈ [(4 : Byte), 5, 6], (((ring 3 id).straitArrive 0 (spkt typ 1 0 [])).straitFresh (spkt typ 1 0 [])).2 = true) ∧
    (let a := (ring 3 fun a => { a with members := 7 }).arch; a.state = 2 ∧ a.role = 3 ∧ a.members.getLsbD 3 = false ∧
      (0xF : W64).getLsbD a.seat = true ∧ a.members.getLsbD 2 = true ∧ a.decides (a.members &&& ~~~(BitVec.ofNat 64 (2 ^ 2))) = true) ∧
    ((spkt 5 1 0 []).srcSeat.toNat = (ring 1 id).arch.master ∧ (ring 1 id).arch.role ≠ 3 ∧ ((ring 1 id).groupPart 0x21).isSome = true) ∧
    ((ring 1 fun a => { a with state := 1, members := 0 }).arch.elect (0 ||| BitVec.ofNat 64 (2 ^ 1)) = some (1, 1) ∧
      (ring 1 fun a => { a with state := 1, members := 1 }).arch.elect (1 ||| BitVec.ofNat 64 (2 ^ 1)) = some (0, 1)) ∧
    (let a := (ring 1 fun a => { a with members := 3 }).arch;
      a.state = 2 ∧ a.members.getLsbD 0 = true ∧ (0 : Nat) ≠ a.seat ∧ a.lossFrom = none ∧
        goesOn a.members (a.members &&& ~~~(BitVec.ofNat 64 (2 ^ 0))) a.master a.deputy = false) ∧
    (let a := (ring 3 fun a => { a with members := 3 }).arch; let side := a.members &&& ~~~(BitVec.ofNat 64 (2 ^ 0));
      goesOn a.members side a.master a.deputy = true ∧ a.decides side = true) ∧
    (let a := (ring 1 id).arch; let side := a.members &&& ~~~(BitVec.ofNat 64 (2 ^ 3));
      goesOn a.members side a.master a.deputy = true ∧ a.decides side = false) := by
  refine ⟨?_, ?_, ?_, ?_, ?_, ?_, ?_⟩ <;> decide +kernel


/-- A master that waits for another member, and one for the last; a member that has yet to end its turn; a journal entry, an
acknowledgement and a collective; a removal that waits. -/
theorem witness_GroupCommitsAndMirrors :
    ((ring 3 id).arch.topology ≠ 0 ∧ ((ring 3 id).engine 0).state = 2 ∧ (spkt 7 1 0 []).destSeat.toNat = (ring 3 id).arch.seat ∧
      (∀ typ ∈ [(7 : Byte), 8], (((ring 3 id).straitArrive 0 (spkt typ 1 0 [])).straitFresh (spkt typ 1 0 [])).2 = true)) ∧
    ((ring 3 id).arch.role = 3 ∧ ((ring 3 id).group 0x21).decided = none ∧
      (let durable := SMap.put ((ring 3 id).group 0x21).durable 0 ((0 : Nat), (5 : BitVec 128));
        seatsOf 1 ≠ [] ∧ (∀ k ∈ seatsOf 1, ((SMap.get? durable k).map fun x => x.1) = some 0) ∧
          3 ∈ seatsOf 0xF ∧ ((SMap.get? durable 3).map fun x => x.1) ≠ some 0)) ∧
    ((ring 1 id).arch.role = 1 ∧ (ring 1 id).groupPart 0x21 = some 0 ∧ ((ring 1 id).part 0).job = some ringJob ∧
      ringJob.td = (0 : W64).toNat ∧ ringJob.go = none ∧ (ring 1 id).allDurable ringJob = false) ∧
    ((ring 3 id).chassis.leaving ≠ some (4 : W64).toNat) ∧
    ((ring 1 fun a => { a with collectives := [collective0 2] }).arch.collectives.find? (fun c => c.group == 0x21 && c.turn == (0 : W64).toNat &&
        c.slot == (3 : Byte).toNat) = some (collective0 2) ∧ ringJob.holdStatus = false) ∧
    ({ ring 1 id with chassis := { busy.chassis with removal := 1 } } : State).chassis.removal = 1 := by
  refine ⟨?_, ?_, ?_, ?_, ?_, ?_⟩ <;> decide +kernel

/-! ### Witnesses: hosts -/

def req0 : HostReq := ⟨7, 5, false⟩

theorem busy_serves : busy.Serves req0 session0 [0, 1, 2, 3, 4, 5, 6, 7, 8, 9, 10, 12] true := by unfold State.Serves; decide +kernel

/-- The last command of the window. -/
theorem busy_serves_last : busy.Serves ⟨7, 68, false⟩ session0 [0] false := by unfold State.Serves; decide +kernel

theorem serves_fewer {s : State} {r : HostReq} {x : Session} {fs gs : List Nat} {o : Bool} (h : s.Serves r x fs true)
    (hs : ∀ b ∈ gs, b ∈ fs) : s.Serves r x gs o := by
  obtain ⟨h1, h2, h3, h4, h5, h6, h7, h8, h9, h10, h11⟩ := h
  exact ⟨h1, h2, h3, h4, h5, h6, h7, h8, fun b hb => h9 b (hs b hb), fun _ => h10 rfl, h11⟩

def handshake0 : Handshake := ⟨0x99, 1, 4, [], [], 0, []⟩
def key0 : HostKey := ⟨1, 1, true, 0x3FFF, 0xFFFFFFFFFFFF⟩
def auth0 (ok : Bool) : HostAuth := ⟨1, none, 0, 0, 0x3FFF, 1, [], ok⟩
def greeting : State := { busy with host := { busy.host with handshakes := [handshake0] } }
def unbound : State := { busy with sched := { busy.sched with parts := [] } }

theorem witness_HandshakesOpenSessions :
    (busy.hears = true ∧ busy.datagramOk 7 9 6 46 47 1404 true = true ∧ busy.datagramOk 7 9 6 46 47 1405 true = false) ∧
    ((∀ h ∈ greeting.host.handshakes ++ greeting.host.answered, h.nonce ≠ 5) ∧ greeting.host.handshakes.length < 64 ∧
      ((greeting.host.handshakes ++ greeting.host.answered).find? fun h => h.nonce == 4) = some handshake0) ∧
    (greeting.answers = true ∧ (greeting.host.handshakes.find? fun h => h.id == 0x99) = some handshake0 ∧
      greeting.hostKey (auth0 true).keyId = some key0 ∧ greeting.host.sessions.length < 4096 ∧ authRefusal (auth0 true) = none) ∧
    (greeting.session? 7 = some session0 ∧ key0.tenant = session0.tenant ∧ session0.lockedUntil ≤ greeting.timeBase.toNat ∧
      ({ greeting with sched := unbound.sched } : State).ownedParts 7 = [] ∧ (8 : BitVec 256) ≠ session0.token) := by
  refine ⟨?_, ?_, ?_, ?_⟩ <;> decide +kernel

def withSession (f : Session → Session) : State := { unbound with host := { unbound.host with sessions := [(7, f session0)] } }
def kept0 : Response := ⟨0x8001, 0, 0, 0, 5, []⟩

theorem witness_SessionsAnswerAndEnd :
    (busy.Serves req0 session0 [0] false ∧ unbound.ownedParts 7 = []) ∧ unbound.Serves req0 session0 [0] false ∧
    ((withSession fun x => { x with held := true }).session? 7 = some { session0 with held := true }) ∧
    (SMap.get? ({ session0 with kept := [(5, kept0)] } : Session).kept 5 = some kept0 ∧ kept0.journalSeq = 0) ∧
    (({ session0 with features := 2 } : Session).has 0 = false ∧ session0.has 0 = true ∧ (⟨7, 5, true⟩ : HostReq).malformed = true) ∧
    (({ session0 with lastCmd := 69 } : Session).lastCmd = (5 : W64).toNat + 64) ∧
    (let x := { session0 with dual := true, arrived := [(5, busy.timeBase.toNat)] };
      x.lately 5 busy.timeBase.toNat = true ∧ x.lately 5 (busy.timeBase.toNat + 100000000) = false) ∧ busy.sched.restarting = false := by
  refine ⟨⟨serves_fewer busy_serves (by decide), by decide +kernel⟩, by unfold State.Serves; decide +kernel, ?_⟩
  refine ⟨?_, ?_, ?_, ?_, ?_, ?_⟩ <;> decide +kernel

def clearing0 : Clearing := ⟨false, true, none, 7, 1⟩

/-- Partition 1 has cluster 0 in layout 1, and nobody is bound. -/
def twoLayouts : State := { unbound with sched := { layouts := [List.replicate 48 0, 1 :: List.replicate 47 0], parts := [] } }

/-- The largest binding of protected HBM at the lowest free place; another layout; a partition that the session holds; a reset's end. -/
theorem witness_PartitionsBindAndReset :
    (unbound.Serves req0 session0 [1] false ∧ (0 : Byte).toNat = unbound.sched.active ∧ (unbound.part 0).session = none ∧
      (unbound.part 0).clearing = none ∧ unbound.mayBind session0 7 0 0 = true ∧ 0 < (1899 : W32).toNat ∧ (1899 : W32).toNat ≤ 1900 ∧
      unbound.hbm.mode = false ∧ unbound.bindingBase 1899 = some 0) ∧
    (twoLayouts.Serves req0 session0 [1] false ∧ (1 : Byte).toNat ≠ twoLayouts.sched.active ∧ (twoLayouts.part 1).session = none ∧
      (twoLayouts.part 1).clearing = none ∧ twoLayouts.mayBind session0 7 1 1 = true ∧ twoLayouts.bindingBase 1900 = some 0 ∧
      ∀ q ∈ twoLayouts.changed (twoLayouts.sched.layouts.getD 1 []), (twoLayouts.part q).session = none) ∧
    (busy.Serves req0 session0 [1] false ∧ (busy.part 0).session = some 7 ∧ (busy.part 0).clearing = none ∧
      busy.mayBind session0 7 0 0 = true ∧ 0 < (busy.part 0).sizeGib ∧ (busy.part 0).sizeGib ≤ 1900 ∧ busy.hbm.mode = false) ∧
    (((busyPart fun x => { x with clearing := some clearing0 }).part 0).clearing = some clearing0 ∧
      ((busyPart fun x => { x with clearing := some clearing0 }).part 0).hbmClearing = false ∧
      ∀ c ∈ busy.clustersOf 0, (busy.cluster c).resetting = false) := by
  refine ⟨⟨by unfold State.Serves; decide +kernel, ?_⟩, ⟨by unfold State.Serves; decide +kernel, ?_⟩, ⟨serves_fewer busy_serves (by decide), ?_⟩, ?_⟩ <;>
    decide +kernel

/-- A program image of 128 bytes: one rank, three turns, no ranges. -/
def imageFile : List Byte :=
  [70, 86, 80, 71, 1, 0, 0, 0, 1, 0, 0, 0, 0, 0, 0, 0, 3, 0, 0, 0, 0, 0, 0, 0, 96, 0, 0, 0, 32, 0, 0, 0] ++
  [0, 0, 0, 0, 0, 250, 31, 0, 96, 0, 0, 0, 96, 0, 0, 0, 0, 0, 0, 0, 0, 0, 0, 0, 128, 0, 0, 0, 0, 0, 0, 0] ++
  [48, 162, 81, 86, 227, 49, 237, 168, 249, 47, 216, 58, 68, 152, 237, 119, 252, 47, 98, 241, 85, 109, 166, 239, 16, 224, 17, 194] ++
  [61, 129, 237, 24] ++ List.replicate 32 0
def pulling : State := busyPart fun x => { x with job := none, load := some ⟨7, 5, [], 128, ⟨5, 0, 128⟩⟩ }

/-- An image that passes; a full queue but one; the heaviest hint. -/
theorem witness_ImagesLoadAndJobsQueue :
    (let s := busyPart fun x => { x with job := none };
      s.Serves req0 session0 [1, 2] false ∧ (s.part 0).session = some 7 ∧ s.ownsQp 7 5 = true ∧
      (0x80000000 : W64).toNat ≤ (s.part 0).bytes ∧ (s.part 0).busy = false ∧ (s.part 0).load = none ∧ (s.part 0).restore = none ∧
      (s.part 0).clearing = none) ∧
    ((pulling.part 0).load = some ⟨7, 5, [], 128, ⟨5, 0, 128⟩⟩ ∧ pulling.session? 7 = some session0) ∧
    (pulling.imageRefusal 0 128 (some imageFile) = none ∧ pulling.imageRefusal 0 128 none ≠ none) ∧
    (let s := busyPart fun x => { x with job := none };
      s.Serves req0 session0 [1] false ∧ (s.part 0).busy = false ∧ (s.part 0).queue = [] ∧ (s.part 0).jobCount < 16 ∧
        clustersNeeded 1 false ≤ (s.clusterOrder 0 image0.relay).length) ∧
    (let s := busyPart fun x => { x with queue := [⟨0x12, 7, 1, body0⟩] };
      s.Serves req0 session0 [1] false ∧ (s.part 0).restore = none ∧ s.findJob 7 0x12 = some (0, false)) ∧
    (busy.Serves req0 session0 [1] false ∧ startJobRange (busy.part 0) body0 = false ∧ (busy.part 0).image = some image0 ∧
      clustersNeeded 1 false ≤ (busy.clusterOrder 0 false).length ∧ (busy.part 0).busy = true ∧
      ((busyPart fun x => { x with queue := List.replicate 14 ⟨1, 7, 1, body0⟩ }).part 0).jobCount < 16) ∧
    ((busy.part 0).job = some job0 ∧ busy.findJob 7 0x11 = some (0, true) ∧ (busy.part 0).queue = []) ∧
    (busy.Serves req0 session0 [8] false ∧ (15 : Byte).toNat ≤ 15 ∧ busy.power.safeFloor = false) := by
  refine ⟨⟨by unfold State.Serves; decide +kernel, ?_⟩, ?_, ?_, ⟨by unfold State.Serves; decide +kernel, ?_⟩,
    ⟨by unfold State.Serves; decide +kernel, ?_⟩, ⟨serves_fewer busy_serves (by decide), ?_⟩, ?_,
    ⟨serves_fewer busy_serves (by decide), ?_⟩⟩ <;> decide +kernel

theorem witness_QueuePairsMoveData :
    (unbound.Serves req0 session0 [2] false ∧ unbound.ownedParts 7 = [] ∧ (0 : Byte).toNat < subPortsOf (unbound.hostPort 1).mode ∧
      (unbound.host.qps.filter fun q => q.2.sid == 7).length < 16 ∧ (0xFFFFFF : W32).toNat < 2 ^ 24) ∧
    (busy.Serves req0 session0 [2] false ∧ busy.ownsQp 7 5 = true) ∧
    (busy.liveQp 5 = some qp0 ∧ busy.rdmaStatus qp0 0x77 0x40100000 16 true = (0, some 0) ∧
      busy.rdmaStatus qp0 0x77 0x40100000 16 false = (0, some 0) ∧ busy.wordErr = [] ∧ busy.allAnswer = true ∧
      busy.hbmWaits 0x40100000 16 true = false ∧
      (let s := (List.range 16).foldl (fun t k => t.modStack k fun x => { x with state := .selfRefresh }) busy;
        s.rdmaStatus qp0 0x77 0x40100000 16 true = (0, some 0) ∧ s.rdmaStatus qp0 0x77 0x40100000 16 false = (0, some 0) ∧
          s.liveQp 5 = some qp0 ∧ s.hbmWaits 0x40100000 16 true = true ∧ s.hbmWaits 0x40100000 16 false = true)) ∧
    (({ qp0 with retries := 6 } : Qp).retries < 7 ∧ 7 ≤ ({ qp0 with retries := 7 } : Qp).retries ∧ busy.qp? 5 = some qp0) := by
  refine ⟨⟨by unfold State.Serves; decide +kernel, ?_⟩, ⟨serves_fewer busy_serves (by decide), ?_⟩, ?_, ?_⟩ <;> decide +kernel

theorem witness_HostPortsServe :
    busy.subPort 0 0 = some ⟨0x010000000002, 64, 0, 1, 0⟩ ∧
    ({ busy with start := { busy.start with image := some { imageAtShipment with
      subPorts := [⟨2, 0, 24, 1, 0x0A000001⟩] } } } : State).subPort 0 0 = some ⟨2, 0, 24, 1, 0x0A000001⟩ ∧
    busy.subPort 0 3 = none ∧ (busy.hostPort 0).up.getLsbD 3 = false ∧ (∃ p : Fin 8, busy.pfcPriority ≠ some p.val) ∧
    busy.pfcPriority = some 3 ∧ (busy.hostPort 1).up.getLsbD 0 = true ∧
    (busy.start.ready = true ∧ busy.chassis.standby = false ∧
      (({ busy with host := { busy.host with ports := [] } } : State).hostPort 1).up.getLsbD 0 = false ∧
      0 < subPortsOf (busy.hostPort 1).mode) := by decide +kernel

def snap0 (phase : SnapPhase) : Snapshot :=
  { id := 0x55, sid := 7, cmdSeq := 4, acceptedSeq := 2, drain := phase = .draining, phase := phase, jobId := 0x11, td := 1, ts := 1, hbmBytes := 2 ^ 31
    shadow := [(0, { entry := 0x100 })], placement := [0] }
def snapped (k : Snapshot) (f : Part → Part) : State := busyPart fun x => f { x with snap := some k }
def restoreBody0 : RestoreBody := ⟨0, false, none, 0, 0x55, 1, 1, 0, 0, 0, 0, 0⟩
def restoring : State := snapped (snap0 .kept) fun x => { x with job := none }
def restore0 : Restore :=
  { sid := 7, cmdSeq := 5, acceptedSeq := 2, snapId := 0x55, jobId := 0x11, td := 1, ts := 1, epoch := 0, keys := [], doubles := false
    group := false, groupId := 0, groupMap := 0, hbm := [], lagoon := [], shadow := [(0, { entry := 0x100 })], slots := [], placement := [0] }

/-- A running job; snapshots in each phase; a kept snapshot of a partition at rest. -/
theorem witness_SnapshotsAndRestores :
    (busy.Serves req0 session0 [4] false ∧ (busy.part 0).job = some job0 ∧ job0.req.body.group = false ∧ (busy.part 0).snap = none ∧
      (busy.part 0).restore = none ∧ busy.snapshotMib 0 + busy.areaUsed 0 ≤ 14336) ∧
    (((snapped (snap0 .copying) fun x => { x with job := none }).part 0).snap = some (snap0 .copying) ∧ (snap0 .copying).drain = false ∧
      ((snapped (snap0 .copying) id).part 0).job = some job0 ∧ (snapped (snap0 .copying) id).wordErr = []) ∧
    (let k := { snap0 .copying with drain := true, maxBytes := 2 ^ 40 };
      ((snapped k id).part 0).snap = some k ∧ (snapped k id).leastBytes 0 { k with pauseUs := 1, copyUs := 1 } ≤ k.maxBytes.toNat) ∧
    (((snapped (snap0 .draining) id).part 0).snap = some (snap0 .draining) ∧ (snap0 .draining).waitQp = false) ∧
    (((snapped { snap0 .draining with waitQp := true } id).session? 7) = some session0 ∧ session0.held = false) ∧
    (let k := { snap0 .requested with groupAsked := true }; ((snapped k id).part 0).job = some job0 ∧ k.groupTurn = none) ∧
    (restoring.Serves req0 session0 [4] false ∧ (restoring.findSnapshot 7 restoreBody0).map (fun f => (f.k.jobId, f.k.td, f.streamTurn)) =
        some (0x11, 1, 1) ∧ (restoring.findSnapshot 7 restoreBody0).map (fun f => (f.signed, f.versions, f.digest, f.streamJob)) =
        some (true, true, [], 0x11) ∧ restoring.restoreBlocked restoreBody0 0x11 = false ∧ (restoring.part 0).image = some image0 ∧
      clustersNeeded 1 false ≤ (restoring.clusterOrder 0 false).length) ∧
    (let s := busyPart fun x => { x with job := none, restore := some restore0 };
      (s.part 0).restore = some restore0 ∧ (∀ c ∈ s.clustersOf 0, s.testing c = false) ∧ restore0.group = false ∧
        clustersNeeded 1 restore0.doubles ≤ (s.clusterOrder 0 image0.relay).length) ∧
    (let s := { (busyPart fun x => { x with job := none, restore := some restore0 }) with
        host := { busy.host with rollTests := [{ cluster := 0, sid := 7, cmdSeq := 5, running := true }] } };
      ∃ c ∈ s.clustersOf 0, s.testing c = true) := by
  refine ⟨⟨serves_fewer busy_serves (by decide), ?_⟩, ?_, ?_, ?_, ?_, ?_, ⟨by unfold State.Serves; decide +kernel, ?_⟩, ?_, ?_⟩ <;> decide +kernel

def testing0 : RollTest := { cluster := 0, sid := 7, cmdSeq := 5, running := true }
def results0 : List SlotResult := [⟨0, 9, 0⟩, ⟨1, 9, 0⟩, ⟨2, 9, 0⟩]
/-- Reserve slot 12 disagrees. -/
def results1 : List SlotResult := results0 ++ [⟨12, 8, 0⟩]
def tested : State := { busy with sched := { parts := [] }, host := { busy.host with rollTests := [testing0] } }
def staging0 (kind : Nat) : State := { busy with host := { busy.host with staging := some ⟨kind, 7, 5, 2, ⟨5, 0, 0⟩⟩ } }
def newerImage : MorrikImage := { imageAtShipment with version := 2 }

theorem witness_TrustCommandsAnswer :
    (busy.Serves req0 session0 [3] false ∧ busy.Serves req0 session0 [3, 9] false ∧ busy.Serves req0 session0 [7] false ∧ busy.Serves req0 session0 [6] false ∧
      (500 : W16).toNat ≤ 500 ∧ SMap.get? busy.arch.mirrors 63 = none ∧ (0x07F000000000 : W64).toNat % 8 = 0 ∧ (busy.readReg 0x07F000000000).isSome) ∧
    (busy.Serves req0 session0 [5] false ∧ busy.partOf 47 = some 0 ∧ (busy.part 0).session = some 7 ∧ busy.host.rollTests = [] ∧
      (busy.part 0).clearing = none ∧ busy.testCanStart 0 = false ∧
      (({ busy with clusters := [(47, { cluster0 with region := .gated })] } : State).cluster 47).wakeable = false) ∧
    (tested.host.rollTests = [testing0] ∧ majority results0 = some 9 ∧ failing results0 9 = [] ∧ majority results1 = some 9 ∧
      failing results1 9 = [12] ∧ (tested.cluster 0).slotState 12 = 1 ∧ 12 ∉ (tested.cluster 0).map) ∧
    (busy.Serves req0 session0 [12] true ∧ busy.ownsQp 7 5 = true ∧ busy.host.staging = none ∧ 37568 ≤ 2 ^ 20 ∧ (2 ^ 24 : W64).toNat ≤ 2 ^ 24) ∧
    ((staging0 0).host.staging = some ⟨0, 7, 5, 2, ⟨5, 0, 0⟩⟩ ∧ (staging0 0).nv.stagedOk (.image newerImage) 0 = true ∧
      (staging0 2).nv.stagedOk .none 2 = false) := by
  refine ⟨⟨serves_fewer busy_serves (by decide), serves_fewer busy_serves (by decide), serves_fewer busy_serves (by decide),
    serves_fewer busy_serves (by decide), ?_⟩, ⟨serves_fewer busy_serves (by decide), ?_⟩, ?_, ⟨serves_fewer busy_serves (by decide), ?_⟩, ?_⟩ <;> decide +kernel

/-! ### Witnesses: starts, pins, power, firmware, low power -/

def starting (stage : Nat) (f : State → State) : State := f
  { State.reset with
    chassis := { present := true, latchOpen := false, inputMv := 54000, applied := true, main := true }
    start := { active := true, stage := stage, image := if stage < 3 then none else some imageAtShipment, tfVersion := 1, opfwVersion := 1 } }
def offline (f : Chassis → Chassis) : State := { State.reset with chassis := f { present := true, latchOpen := false } }

/-- The limits of the input range; a latched trip before and after the fall below 40 V; the bank within 1 V and just outside. -/
theorem witness_InputStartsStageZero :
    ((offline id).chassis.present = true ∧ (offline id).chassis.latchOpen = false ∧ (offline id).chassis.main = false ∧
      (offline id).chassis.applied = false ∧ 40000 ≤ (40000 : W32).toNat ∧ (59500 : W32).toNat ≤ 59500) ∧
    ((offline fun x => { x with tripped := true, fellBelow := true }).chassis.fellBelow = true ∧
      (offline fun x => { x with tripped := true }).chassis.fellBelow = false) ∧
    (let s := { starting 0 id with chassis := { (starting 0 id).chassis with main := false } };
      s.chassis.applied = true ∧ s.chassis.main = false ∧ s.start.active = true ∧ s.chassis.inputMv ≤ (53000 : W32).toNat + 1000 ∧
        (52999 : W32).toNat + 1000 < s.chassis.inputMv) ∧
    ((starting 0 id).start.active = true ∧ (starting 0 id).start.stage = 0 ∧ (starting 0 id).chassis.main = true) := by decide +kernel

def newerTf : FwImage := { firmwareAtShipment 1 with version := 2 }
def withNv (stage : Nat) (f : Nv → Nv) : State := starting stage fun s => { s with nv := f s.nv }

theorem witness_FirmwareAndImageChosen :
    ((starting 1 id).inStage 1 = true ∧ (withNv 1 fun n => { n with fusesOk := false }).nv.fusesOk = false) ∧
    (let n := (starting 1 id).nv; n.fusesOk = true ∧ n.productCode = 0x0576 ∧ n.firmwarePasses 1 (firmwareAtShipment 1) = true ∧
      n.firmwarePasses 2 (firmwareAtShipment 2) = true ∧ runTogether (firmwareAtShipment 1) (firmwareAtShipment 2) = true ∧
      SMap.get? n.opfw n.opfwActive = some (firmwareAtShipment 2) ∧ SMap.get? n.tf n.tfActive = some (firmwareAtShipment 1) ∧
      n.pending = 0) ∧
    (let n := (withNv 1 fun n => { n with tf := n.tf ++ [(1, newerTf)], pending := 1 }).nv; n.firmwarePasses 1 newerTf = true ∧
      runTogether newerTf (firmwareAtShipment 2) = true ∧ SMap.get? n.tf (1 - n.tfActive) = some newerTf ∧
      n.pending.getLsbD 0 = true ∧ (firmwareAtShipment 1).version.toNat < newerTf.version.toNat) ∧
    ((starting 2 id).inStage 2 = true ∧ (starting 2 id).nv.imageAt 0 = some imageAtShipment ∧
      (starting 2 id).nv.imagePasses imageAtShipment = true) ∧
    (let n := (withNv 2 fun n => { n with images := n.images ++ [(1, newerImage)], pending := 4 }).nv;
      n.imageAt 1 = some newerImage ∧ n.imagePasses newerImage = true ∧ n.pending.getLsbD 2 = true) ∧
    (let n := (withNv 2 fun n => { n with images := [] }).nv; n.imageOk 0 = false ∧ n.imageOk 1 = false) := by
  refine ⟨?_, ?_, ?_, ?_, ?_, ?_⟩ <;> decide +kernel

def waving (w : Nat) : State := starting 3 fun s => { s with start := { s.start with wave := w }, nv := { s.nv with slotBad := [(4, 3)] } }

def found0 : List IslandFindings := [{ island := 1, badSlots := [(3, 13)], wires := [], lostPhases := [], failed := false }]
/-- The log lists phase 3 of cluster 0. -/
def wavingLogged : State := { waving 0 with log := { entries := [logged0 (unitCode 0x0D 0 0 3).toNat] } }

/-- The first wave and the last; a finding in the first wave's island; a logged phase. -/
theorem witness_IslandsComeUpInWaves :
    (∀ w ∈ [0, 4], (waving w).inStage 3 = true ∧ (waving w).start.wave = w ∧ (waving w).log.units = []) ∧
    (∀ f ∈ found0, f.wires = [] ∧ f.lostPhases = [] ∧ found0.find? (fun g => g.island.val == f.island.val) = some f ∧
      f.island.val ∈ waveIslands 0) ∧
    (wavingLogged.loggedUnits 0x0D = [unitCode 0x0D 0 0 3] ∧ unitByte (unitCode 0x0D 0 0 3) 1 = 0 ∧ unitByte (unitCode 0x0D 0 0 3) 2 = 0 ∧
      unitByte (unitCode 0x0D 0 0 3) 3 = 3 ∧ wavingLogged.inStage 3 = true ∧ wavingLogged.start.wave = 0) := by decide +kernel

/-- The log lists stack 3, and stacks 3 and 5. -/
def trainingLogged (ks : List Nat) : State :=
  starting 4 fun s => { s with log := { entries := ks.map fun k => logged0 (unitCode 0x09 k 0 0).toNat } }

theorem witness_MemoryTrainsAndCoolingFits :
    (starting 4 id).inStage 4 = true ∧ (starting 4 id).start.image = some imageAtShipment ∧ (starting 4 id).start.trained = false ∧
    ((trainingLogged [3]).loggedStacks = [3] ∧ unreconstructable (trainingLogged [3]).loggedStacks (trainingLogged [3]).loggedChannels = false) ∧
    unreconstructable (trainingLogged [3, 5]).loggedStacks (trainingLogged [3, 5]).loggedChannels = true ∧
    (starting 4 fun s => { s with start := { s.start with cooled := true } }).start.cooled = true ∧
    (starting 4 fun s => { s with start := { s.start with trained := true, drifted := true } }).start.drifted = true ∧
    5 * (38000 - 32000) = 30000 ∧ (starting 4 id).start.drifted = false ∧ (starting 4 id).start.cooled = false := by decide +kernel

def archipelago : Arch := { topology := 1, size := 4, seat := 1, eligible := [0, 1], state := 1, engines := [(0, { state := 1 })] }

theorem witness_LinksJoinAndReady :
    (starting 5 id).inStage 5 = true ∧ (starting 5 fun s => { s with arch := archipelago }).arch.topology ≠ 0 ∧
    (let s := starting 6 fun s => { s with arch := archipelago }; s.inStage 6 = true ∧ s.arch.state = 1 ∧ (s.arch.trunkOf 0).isSome ∧
      (s.engine 0).state = 1) ∧
    (starting 7 id).inStage 7 = true ∧
    (starting 7 fun s => { s with start := { s.start with tfTrial := true, opfwTrial := true } }).start.tfTrial = true := by decide +kernel

/-- Below and above the input's range and at both its limits, with main power and without; 99 us and 1 ms of MOD_RESET#; a reset that is held;
each step of removal. -/
theorem witness_PinsAndSidebandAct :
    (busy.chassis.main = true ∧ (offline id).chassis.main = false ∧ (39999 : W32).toNat < 40000 ∧ 59500 < (59501 : W32).toNat ∧
      (63000 : W32).toNat ≤ 63000) ∧
    ((99 : Nat) < 100 ∧ busy.chassis.removal = 0 ∧ (∀ n ∈ [1, 2], ({ busy with chassis := { busy.chassis with removal := n } } : State).chassis.removal = n)) ∧
    (let s := starting 0 fun s => { s with start := { s.start with kind := 1, active := false }, chassis := { s.chassis with modReset := true } };
      s.chassis.modReset = true ∧ s.chassis.main = true ∧ s.chassis.removal = 0 ∧ s.start.kind = 1 ∧ s.start.active = false ∧
        s.start.ready = false ∧ s.start.failed = false) ∧
    (let s := { busy with chassis := { busy.chassis with modReset := true } }; s.chassis.modReset = true ∧ s.start.ready = true) ∧
    (busy.chassis.latchOpen = false ∧ busy.start.ready = true ∧ busy.arch.topology = 0 ∧ (ring 1 id).arch.topology ≠ 0 ∧
      2 ≤ (ring 1 id).arch.state ∧ (ring 1 id).chassis.standby = false ∧ (ring 1 id).start.ready = true ∧ (starting 3 id).start.ready = false ∧
      (starting 3 id).chassis.main = true) ∧
    (vendorReadable (0x07F00000B000 : W64).toNat = true ∧ vendorReadable (0x07F00000B008 : W64).toNat = false ∧
      (0x07F00000B008 : W64).toNat ≠ 0x07F00000B000) := by decide +kernel

def hotCluster (f : Cluster → Cluster) : State := busy.modCluster 0 f

/-- The fifth isolated phase of a region and the fourth; the last phase of transit, lagoon and attach; the limits of a rail; a third dip, with
a bank in reserve and one in support; a second trip. -/
theorem witness_SupplyFaultsAct :
    (((hotCluster fun x => { x with isolated := 0xF }).cluster 0).isolated.getLsbD 11 = false ∧ bitCount (0xF ||| BitVec.ofNat 12 (2 ^ 11)) = 5 ∧
      ((hotCluster fun x => { x with isolated := 0x7 }).cluster 0).isolated.getLsbD 11 = false ∧
      ((hotCluster fun x => { x with isolated := 0x7 }).cluster 0).isolated.getLsbD 2 = true) ∧
    (((busy.modIsland 0 fun y => { y with transitIsolated := 7 }).island 0).transitIsolated.getLsbD 3 = false ∧
      ((busy.modIsland 0 fun y => { y with lagoonIsolated := 0x1F }).island 0).lagoonIsolated.getLsbD 5 = false ∧
      ((busy.modIsland 0 fun y => { y with attachIsolated := 0x7F }).island 0).attachIsolated.getLsbD 7 = false ∧
      (busy.island 0).sectorIsolated.getLsbD 3 = false ∧ busy.chassis.main = true) ∧
    (55 * 720 ≤ 100 * (396 : W16).toNat ∧ 100 * (395 : W16).toNat < 55 * 720 ∧ 55 * 700 ≤ 100 * (385 : W16).toNat ∧
      100 * (384 : W16).toNat < 55 * 700) ∧
    ((busy.cluster 0).region = .running ∧ ((hotCluster fun x => { x with dipTimes := [5, 6] }).cluster 0).dipTimes.length = 2 ∧
      (hotCluster fun x => { x with dipTimes := [5, 6] }).timeBase.toNat - 5 < 10000000000 ∧
      ((hotCluster fun x => { x with dipping := true }).cluster 0).dipping = true ∧ (busy.cluster 0).dipping = false ∧
      ((hotCluster fun x => { x with bank := .reserve }).cluster 0).bank = .reserve ∧
      ((hotCluster fun x => { x with bank := .supports 1 }).cluster 0).bank = .supports 1) ∧
    (((hotCluster fun x => { x with tripTime := some 5 }).cluster 0).tripTime = some 5 ∧ busy.timeBase.toNat - 5 < 1000000000 ∧
      (busy.cluster 0).tripTime = none ∧ (busy.cluster 0).map.idxOf? 11 = some 11 ∧ (busy.cluster 0).lowestReserve = some 12 ∧ busy.thirdRuns 0 = false) := by
  decide +kernel

/-- 99 C, 100 C, 104 C, 105 C, 119 C and 120 C, at regions that run, wake, are gated or dark; a compute demand that the cap slows by the largest
fraction. -/
theorem witness_HeatAndCapAct :
    ((99 : Byte).toNat < 100 ∧ 100 ≤ (104 : Byte).toNat ∧ (104 : Byte).toNat < 105 ∧ 105 ≤ (119 : Byte).toNat ∧ (119 : Byte).toNat < 120 ∧
      120 ≤ (120 : Byte).toNat ∧ (busy.cluster 0).shed = false ∧ (busy.cluster 0).region = .running ∧ busy.power.safeFloor = false) ∧
    (∀ r ∈ [Region.waking, .gated, .dark], ((hotCluster fun x => { x with region := r }).cluster 0).region = r) ∧
    (({ busy with power := { busy.power with safeFloor := true } } : State).power.safeFloor = true ∧ 110 ≤ (110 : Byte).toNat) ∧
    (((hotCluster fun x => { x with shed := true, temp := 94 }).cluster 0).shed = true ∧ ((hotCluster fun x => { x with shed := true, temp := 95 }).cluster 0).temp = 95 ∧
      (busy.hostedBy 0).isSome = true ∧ (unbound.hostedBy 0).isSome = false) ∧
    (busy.capOrder = [0, 1, 2, 3] ∧ 2000 + 1000 + 2000 + 10000 + 5000 ≤ busy.power.capW) ∧
    (busy.power.capW < 10000 + 80000 ∧ 10000 + 80000 ≤ busy.power.capW + 7 * (busy.power.capW - 10000)) ∧
    (8 < ({ busy with power := { busy.power with bCap := 9 } } : State).power.bCap ∧ busy.power.bCap = 0 ∧ busy.power.underUsed = false ∧
      ({ busy with power := { busy.power with underUsed := true } } : State).power.underUsed = true) := by decide +kernel

def waking (n : Option Nat) : State :=
  (hotCluster fun x => { x with region := if n.isSome then .waking else .gated, wake := n }).modIsland 0 fun y => { y with wakes := [0] }
def hinted (f : Hint → Hint) : State := hotCluster fun x => { x with hint := some (f ⟨8, 1, 1, some 0, false⟩) }
def expired (n : Nat) : State := { busy with power := { busy.power with expiries := List.replicate n 5 } }

theorem witness_PointsWakesAndHints :
    ((busy.cluster 0).region = .running ∧ busy.power.safeFloor = false ∧ (busy.cluster 0).released = false ∧
      ((hotCluster fun x => { x with released := true }).cluster 0).released = true) ∧
    (let s := hotCluster fun x => { x with region := .gated, doze := true };
      (s.cluster 0).region ≠ .running ∧ (s.cluster 0).shed = false ∧ s.inService 0 = true ∧ (s.island 0).wakes.contains 0 = false) ∧
    (((hotCluster fun x => { x with shed := true }).cluster 0).shed = true) ∧
    ((waking none).wakeTurn 0 = true ∧ ((waking none).cluster 0).wake = none ∧ (waking none).neighbourDips 0 = false ∧ busy.wakeTurn 0 = false ∧
      ((waking none).modCluster 3 fun x => { x with dipping := true }).neighbourDips 0 = true) ∧
    (((waking (some 7)).cluster 0).wake = some 7 ∧ ((waking (some 8)).cluster 0).wake = some 8 ∧ ((waking (some 8)).cluster 0).temp < 105 ∧
      105 ≤ (((waking (some 8)).modCluster 0 fun x => { x with temp := 105 }).cluster 0).temp ∧ ((waking (some 8)).cluster 0).shed = false) ∧
    (((hinted id).cluster 0).hint = some ⟨8, 1, 1, some 0, false⟩ ∧ ((hinted id).cluster 0).region = .running ∧
      ((hinted id).core 0).arrayState = 0 ∧ (hinted id).hintCores 0 ⟨8, 1, 1, some 0, false⟩ = [0] ∧ (busy.cluster 0).hint = none) ∧
    (busy.onTrial = false ∧ ((expired 1).power.expiries.filter fun u => decide ((expired 1).timeBase.toNat - u < 600000000000)).length = 1 ∧
      (starting 7 fun s => { s with start := { s.start with tfTrial := true } }).chassis.main = true ∧
      (starting 7 fun s => { s with start := { s.start with tfTrial := true } }).onTrial = true) ∧
    (({ busy with power := { busy.power with safeFloor := true } } : State).power.safeFloor = true ∧ busy.pairsOff = false ∧
      (busy.modIsland 1 fun y => { y with attachIsolated := 0xFF }).pairsOff = true) := by
  refine ⟨?_, ?_, ?_, ?_, ?_, ?_, ?_, ?_⟩ <;> decide +kernel

def idle : State := { busy with sched := { busy.sched with parts := [] }, cores := [], host := { ports := busy.host.ports } }

def loggedOut : State := { busy.modCluster 3 fun x => { x with cccDown := true } with log := { entries := [logged0 0x0303] } }

/-- A log without a free place, whose entries name another unit. -/
def fullLog (n : Nat) : State :=
  { wide.modCluster 3 fun x => { x with cccDown := true } with log := { entries := List.replicate n (logged0 5) } }

theorem full_units (n : Nat) : (fullLog n).log.units = List.replicate n 5 := by simp [fullLog, DefectLog.units, logged0]

theorem full_length (n : Nat) : n ≤ (fullLog n).log.units.length := by rw [full_units]; simp

theorem full_lacks (n : Nat) : (fullLog n).log.units.contains 0x0303 = false := by rw [full_units]; simp

theorem full_out (n : Nat) : (fullLog n).unitOut 0x0303 = true := by
  have h : (fullLog n).unitOut 0x0303 = (fullLog 0).unitOut 0x0303 := rfl
  rw [h]; decide +kernel

theorem witness_WatchdogsAndLogAct :
    (busy.chassis.main = true ∧ busy.onTrial = false) ∧
    ((starting 7 fun s => { s with start := { s.start with tfTrial := true } }).onTrial = true ∧
      (starting 7 fun s => { s with start := { s.start with tfTrial := true } }).chassis.main = true) ∧
    (({ idle with sched := { idle.sched with restarting := true } } : State).sched.restarting = true ∧ idle.host.waiting = [] ∧
      idle.pairsOff = false ∧ idle.start.ready = true) ∧ (∀ p, (idle.part p).job = none) ∧
    ((wide.cluster 0).cccDown = false ∧ ((wide.modCluster 1 fun x => { x with cccDown := true }).cluster 1).cccDown = true) ∧
    ((fullLog 260096).unitOut 0x0303 = true ∧ (fullLog 260096).log.units.contains 0x0303 = false ∧
      260096 ≤ (fullLog 260096).log.units.length) ∧
    (busy.unitOut 0x0303 = false ∧ (busy.modCluster 3 fun x => { x with cccDown := true }).unitOut 0x0303 = true ∧
      busy.log.units.contains 0x0303 = false ∧ loggedOut.unitOut 0x0303 = true ∧ loggedOut.log.units.contains 0x0303 = true) ∧
    (({ busy with log := { waiting := [logged0 3] } } : State).log.waiting ≠ [] ∧ busy.log.waiting = []) ∧
    (((hotCluster fun x => { x with resetting := true, region := .dark }).cluster 0).resetting = true ∧
      ((hotCluster fun x => { x with resetting := true, shed := true }).cluster 0).shed = true) := by
  refine ⟨?_, ?_, ?_, fun _ => rfl, ?_, ⟨full_out _, full_lacks _, full_length _⟩, ?_, ?_, ?_⟩ <;> decide +kernel

def lateExpiries (now : W64) (xs : List Nat) : State :=
  { busy with timeBase := now, firmware := { schedExpiries := xs }, power := { busy.power with expiries := xs } }

/-- Two earlier expiries, the first 1 ns less and 1 ns more than 600 s ago; one and none. -/
theorem witness_ThirdExpiryResets :
    (let s := lateExpiries 600000000004 [5, 6];
      s.onTrial = false ∧ s.chassis.main = true ∧ s.firmware.schedExpiries = [5, 6] ∧ s.power.expiries = [5, 6] ∧
      s.timeBase.toNat - 5 = 600000000000 - 1) ∧
    (let s := lateExpiries 600000000006 [5, 6];
      s.onTrial = false ∧ s.firmware.schedExpiries = [5, 6] ∧ s.power.expiries = [5, 6] ∧ s.timeBase.toNat - 5 = 600000000000 + 1) ∧
    (lateExpiries 7 [5]).firmware.schedExpiries.length = 1 ∧ (lateExpiries 7 [5]).power.expiries.length = 1 ∧
    (lateExpiries 7 []).firmware.schedExpiries.length = 0 ∧ (lateExpiries 7 []).onTrial = false := by
  decide +kernel

def harboured (standby : Bool) (mode : Nat) : State := { idle with chassis := { idle.chassis with mode := mode, standby := standby } }

theorem witness_LowPowerStates :
    ((idle.cluster 0).region = .running ∧ (idle.cluster 0).resetting = false ∧ idle.start.ready = true ∧ idle.restful 0 = true) ∧
    (let s := [0, 1, 2, 3].foldl (fun t c => t.modCluster c fun x => { x with region := .gated, doze := true }) idle;
      (s.island 0).lagoon = 0 ∧ ∀ k < 4, (s.cluster k).doze = true) ∧
    ((idle.modIsland 0 fun y => { y with lagoon := 1 }).island 0).lagoon = 1 ∧
    idle.mayHarbour = true ∧ (idle.stack 0).state = .inService ∧ (idle.stack 0).retraining = false ∧
    (harboured false 3).chassis.mode = 3 ∧ (harboured true 4).chassis.mode = 4 ∧ (harboured true 6).chassis.mode = 6 ∧
    idle.chassis.mode ≠ 3 ∧ idle.chassis.mode ≠ 4 := by decide +kernel

/-- A turn at point 0, one above the ceiling, and none. -/
theorem witness_PreferenceIsHighestPoint :
    (busy.core 0).inTurn = true ∧ ((busyCore fun c => { c with opPoint := 15 }).core 0).opPoint.toNat = 15 ∧ busy.ceiling 0 = 4 ∧
    (∀ p ∈ List.range 12, (idle.core p).inTurn = false) ∧ (idle.cluster 0).region = .running ∧ (idle.cluster 0).hint = none := by
  decide +kernel

/-! ### Well-formedness: an ill-formed term for each check -/

def farNode : MeshPkt := pkt 1 0 48 0 0 []
def farSource : MeshPkt := pkt 1 0 0 0x0400 0 []
def wideAddr : MeshPkt := pkt 1 0 0 0 0x1000000000000 []
def longAssured : MeshPkt := pkt 3 1 0 0 0 (List.replicate 481 0)
def longBulk : MeshPkt := pkt 3 0 0 0 0 (List.replicate 4033 0)
def badSeat : StraitPkt := { spkt 1 0 0 [] with destSeat := 64 }
def badSource : StraitPkt := { spkt 1 0 0 [] with srcSeat := 64 }
def longStrait : StraitPkt := spkt 1 1 0 (List.replicate 209 0)
def longBlock : StraitPkt := spkt 1 0 0 (List.replicate 3809 0)
def shortImage : MorrikImage := { imageAtShipment with subPorts := [] }

theorem test_wf_mesh_packet_edges : meshOk (pkt 3 1 47 0x03EF 0xFFFFFFFFFFFF (List.replicate 480 0)) = true := by decide +kernel
theorem test_wf_meshReadReq : (Instr.meshReadReq farNode).wellFormed = false ∧ (Instr.meshReadReq farSource).wellFormed = false ∧
    (Instr.meshReadReq wideAddr).wellFormed = false := by decide +kernel
theorem test_wf_meshReadData : (Instr.meshReadData longBulk).wellFormed = false := by decide +kernel
theorem test_wf_meshWrite : (Instr.meshWrite longAssured).wellFormed = false ∧ (Instr.meshWrite longBulk).wellFormed = false := by decide +kernel
theorem test_wf_meshReduce : (Instr.meshReduce farNode).wellFormed = false := by decide +kernel
theorem test_wf_meshRelay : (Instr.meshRelay farSource).wellFormed = false := by decide +kernel
theorem test_wf_meshAck : (Instr.meshAck farNode).wellFormed = false := by decide +kernel
theorem test_wf_meshStatus : (Instr.meshStatus farNode).wellFormed = false := by decide +kernel
theorem test_wf_meshToken : (Instr.meshToken longAssured).wellFormed = false := by decide +kernel
theorem test_wf_meshCredit : (Instr.meshCredit farSource).wellFormed = false := by decide +kernel
theorem test_wf_parityDelta : (Instr.parityDelta wideAddr).wellFormed = false := by decide +kernel
theorem test_wf_meshControl : (Instr.meshControl farNode).wellFormed = false := by decide +kernel
theorem test_wf_straitData : (Instr.straitData 0 badSeat).wellFormed = false ∧ (Instr.straitData 0 longBlock).wellFormed = false := by decide +kernel
theorem test_wf_straitAck : (Instr.straitAck 0 badSource).wellFormed = false := by decide +kernel
theorem test_wf_straitReduce : (Instr.straitReduce 0 longBlock).wellFormed = false := by decide +kernel
theorem test_wf_membership : (Instr.membership 0 badSeat (.join 0)).wellFormed = false := by decide +kernel
theorem test_wf_paceTime : (Instr.paceTime 0 longStrait 0 0 []).wellFormed = false := by decide +kernel
theorem test_wf_paceReport : (Instr.paceReport 0 badSource []).wellFormed = false := by decide +kernel
theorem test_wf_straitCommit : (Instr.straitCommit 0 badSeat (.commit 0 0 false)).wellFormed = false := by decide +kernel
theorem test_wf_straitStatus : (Instr.straitStatus 0 badSource).wellFormed = false := by decide +kernel
theorem test_wf_mirrorAck : (Instr.mirrorAck 0 badSeat 0).wellFormed = false := by decide +kernel
theorem test_wf_journalMirror : (Instr.journalMirror 0 badSeat (List.replicate 128 0)).wellFormed = false ∧
    (Instr.journalMirror 0 (spkt 1 1 0 []) (List.replicate 127 0)).wellFormed = false := by decide +kernel
theorem test_wf_scrubLine : (Instr.scrubLine 0 [⟨16, 1, false⟩] none).wellFormed = false ∧ (Instr.scrubLine 0 [⟨0, 0, false⟩] none).wellFormed = false := by
  decide +kernel
theorem test_wf_forcedScrub : (Instr.forcedScrub 0 [⟨16, 1, false⟩] true).wellFormed = false := by decide +kernel
theorem test_wf_hbmPatrol : (Instr.hbmPatrol 0 (2 ^ 29) []).wellFormed = false ∧ (Instr.hbmPatrol 0 0 [⟨512, 1, false⟩]).wellFormed = false := by
  decide +kernel
theorem test_wf_datagramReceive : (Instr.datagramReceive 0 7 0 6 0 1 false true (List.replicate 1405 0)).wellFormed = false := by decide +kernel
theorem test_wf_startJob : (Instr.startJob req0 { body0 with seed := [] }).wellFormed = false ∧ (Instr.startJob req0 body0).wellFormed = true := by
  decide +kernel
theorem test_wf_stagingPullDone : (Instr.stagingPullDone (.image shortImage)).wellFormed = false ∧
    (Instr.stagingPullDone (.image { imageAtShipment with portMode := [0] })).wellFormed = false ∧
    (Instr.stagingPullDone (.image { imageAtShipment with capPriority := [] })).wellFormed = false ∧
    (Instr.stagingPullDone (.image imageAtShipment)).wellFormed = true := by decide +kernel

/-! ### Single steps -/

/-- The table gives no row any bits, so no word spells a command. -/
theorem test_no_word_spells_a_command : decodeTableWord 64 0x1122 = none ∧ State.reset.withFetchWord 64 0x1122 = State.reset := ⟨rfl, rfl⟩

/-- The worked encoding of 04 R109. -/
def workedWord (k : Nat) : W64 := if k = 0 then 0x0000000003803312 else 0x000000060F07E0A4

/-- It decodes to the instruction that 04 R109 describes: E4M3 by E4M3, token 3; A from s4, B held, bank 1, carried on, drained as E4M3 in
slabs through ledger slot 3 to s6. -/
theorem test_worked_encoding : decodeCore 7 workedWord = some (.matrixGanged
    { core := 7, sigToken := 3, sigEn := true, stream := 0, round := 0, fmtB := 3, fmtA := 3, rsv := 0 }
    { rd := 6, ledgerSlot := 3, ledgerEn := true, drainLayout := true, drainRound := 0, drainFmt := 3, drain := true, carry := true
      bank := true, srcB := 2, srcA := 0, rb := 5, ra := 4, rsv := 0 }) := by decide +kernel

/-- ADDI s9 = s2 + (-1): OP 0x11, RD 9, RS1 2, IMM32 0xFFFFFFFF (04 R123, R124); a reserved OP, CLASS or EXT spells nothing (04 R99). -/
theorem test_scalar_word : decodeCore 0 (fun _ => 0xFFFFFFFF00491100) = some (.addi ⟨0, 9, 2, 0, 0xFFFFFFFF, 0⟩) ∧
    decodeCore 0 (fun _ => 0x1000) = none ∧ decodeCore 0 (fun _ => 0x0106) = none ∧ decodeCore 0 (fun _ => 0x0110) = none := by decide +kernel

/-- VADD v3 = v1 + v2 (04 R125): CLASS 1, OP 1, VD 3, VS1 1, VS2 2. -/
theorem test_vector_word : decodeCore 0 (fun _ => 0x08230101) = some (.vadd (ve 3 1 2 0 0 0 0 0)) := by decide +kernel

/-- GET on port 1, rows 1, assured, N in s9, remote in s8, local in s4, token 4 signalled (04 R110). -/
theorem test_ferry_word : decodeCore 0 (fun k => if k = 0 then 0x0000094100241093 else 0) =
    some (.ferryGet { ferry 8 true 0 with port := true, inbox := 0 }) := by decide +kernel

/-- WAIT for 5 of token 3; TURN_END with both banks live, RC s5 (04 R117, R119). -/
theorem test_sync_and_turn_words : decodeCore 0 (fun _ => 0x0000000500030104) = some (.wait 0 3 5 0) ∧
    decodeCore 0 (fun _ => 0xA30205) = some (.turnEnd 0 3 5 0 0) := by decide +kernel

/-- The core's state after a command, where it completes. -/
def coreAfter (c : Instr) (s : State) : Core :=
  match exec c s with
  | .next t => t.core 0
  | _ => {}

/-- 5 - 0xFFFFFFFFFFFFFFF0 = 21 mod 2^64 (04 R124). -/
theorem test_sub_wraps : (coreAfter (.sub (sc 9 1 2 0)) busy).reg 9 = 21 := by decide +kernel
/-- A write to s0 is discarded (04 R100). -/
theorem test_s0_discards : (coreAfter (.li (sc 0 0 0 7)) busy).regs = core0.regs := by decide +kernel
/-- SAR keeps the sign: -16 >> 2 = -4 (04 R124). -/
theorem test_sari_sign : (coreAfter (.sari (sc 9 2 0 2)) busy).reg 9 = 0xFFFFFFFFFFFFFFFC := by decide +kernel
/-- A shift count takes its six low bits: 5 << (64 mod 64) = 5 (04 R124). -/
theorem test_shli_count : (coreAfter (.shli (sc 9 1 0 64)) busy).reg 9 = 5 := by decide +kernel
/-- LUI 1 is 2^32 (04 R124). -/
theorem test_lui : (coreAfter (.lui (sc 9 0 0 1)) busy).reg 9 = 0x100000000 := by decide +kernel
/-- JAL leaves PC + 1 and goes to PC + IMM32 (04 R123, R124). -/
theorem test_jal : ((coreAfter (.jal (sc 9 0 0 0xFFFFFFFF)) busy).pc, (coreAfter (.jal (sc 9 0 0 0xFFFFFFFF)) busy).reg 9) = (0xFF, 0x101) := by
  decide +kernel
/-- SIGNAL saturates a token at 65,535 with its overflow flag (04 R117). -/
theorem test_signal_saturates :
    (coreAfter (.signal 0 3 1 0) (withTokens [(3, ⟨65535, false, 0, false⟩)] .none)).token 3 = ⟨65535, false, 0, true⟩ := by decide +kernel
/-- SPEC 5 is no special value (04 R124). -/
theorem test_rdspec_illegal : (coreAfter (.rdspec (sc 9 0 0 5)) busy).lastStatus = 0x0501 := by decide +kernel

/-- 1.5 + 2.25 = 3.75 in FP32, no event (03 R76). -/
theorem test_fadd : fadd 0x3FC00000 0x40100000 = (0x40700000, 0) := by decide +kernel
/-- Infinity less infinity is the NaN (03 R77). -/
theorem test_fsub_infinities : (fsub 0x7F800000 0x7F800000).1 = canonicalNan := by decide +kernel
/-- SHAKE256 of the empty string, as FIPS 202 gives it. -/
theorem test_shake_empty : shake256 [] 8 = [0x46, 0xb9, 0xdd, 0x2b, 0x0b, 0xa8, 0x8d, 0x13] := by decide +kernel

/-- Node 0 is the first cluster's, and nodes and clusters number each other (00 R6). -/
theorem test_nodes : nodeOf 0 = 0 ∧ ∀ n ∈ List.range 48, nodeOf (clusterAt n) = n := by decide +kernel
/-- The first address of each region of the map (05 R133). -/
theorem test_map : placeOf 0 = .hbm 0 ∧ placeOf 0x020000000000 = .reserved ∧ placeOf 0x050001000008 = .coreStore 1 1 ∧
    placeOf 0x07F000000010 = .moduleReg 0x10 := by decide +kernel

/-- An input of 63,001 mV stops the machine, one of 63,000 mV does not (17 R462). -/
theorem test_overvoltage : exec (.inputOutOfRange 63001) busy = .fault .outsideGuarantee := rfl

end Sys2Proof.Tests
end

/-! SUPPORT. The pins, the removal and the sideband (15 R426, R427, 16 R450 to R457): what a loss of main power, a module reset and a
planned leave keep, and each command of Machine/Chassis.lean by its cases. -/

namespace Sys2Proof.Machine

/-! ### Parity deltas land (06 R165) -/

theorem State.OnMesh.nv {s t : State} (h : s.OnMesh t) : t.nv = s.nv := by rw [h]
theorem State.OnMesh.log {s t : State} (h : s.OnMesh t) : t.log = s.log := by rw [h]
theorem State.OnMesh.chassis {s t : State} (h : s.OnMesh t) : t.chassis = s.chassis := by rw [h]

/-- Deltas in flight change HBM's parity, and their acknowledgements the mesh. -/
theorem State.settleDeltas_onMesh (s : State) : ({ s with hbm := s.settleDeltas.hbm } : State).OnMesh s.settleDeltas := by
  let s1 : State := { s with hbm := { s.hbm with
    parity := s.hbm.deltas.foldl (fun m d => SMap.set m d.1 (SMap.getD m d.1 0 ^^^ d.2) 0) s.hbm.parity
    deltas := [] } }
  have h : s1.OnMesh s.settleDeltas := State.OnMesh.foldl (fun _ _ k => (k.receive _).acknowledged _ _ _ _) _ (State.OnMesh.refl s1)
  rw [h.hbm]
  exact h

@[simp] theorem State.settleDeltas_nv (s : State) : s.settleDeltas.nv = s.nv := s.settleDeltas_onMesh.nv
@[simp] theorem State.settleDeltas_log (s : State) : s.settleDeltas.log = s.log := s.settleDeltas_onMesh.log
@[simp] theorem State.settleDeltas_chassis (s : State) : s.settleDeltas.chassis = s.chassis := s.settleDeltas_onMesh.chassis

/-! ### Main power goes (15 R426, R437) -/

/-- Main power is off and all that is volatile is gone; fuses and configuration memory are `nv`. -/
def State.Dark (nv : Nv) (t : State) : Prop :=
  t.chassis.main = false ∧ t.chassis.applied = false ∧ t.start = {} ∧ t.mem = [] ∧ t.cores = [] ∧
    t.sched = {} ∧ t.journal = {} ∧ t.timeBase = 0 ∧ t.nv = nv

/-- The chassis's own side of a module without main power may be anything. -/
theorem State.powerOff_dark (s : State) (x : Chassis) (hm : x.main = false) (ha : x.applied = false) :
    State.Dark s.nv { s.powerOff with chassis := x } := ⟨hm, ha, rfl, rfl, rfl, rfl, rfl, rfl, rfl⟩

theorem presentBreak_powered {s : State} (h : s.chassis.main = true) :
    presentBreak s = { s.powerOff with chassis := { s.powerOff.chassis with present := false, indicator := false } } := by
  simp only [presentBreak, h, if_true]

theorem presentBreak_unpowered {s : State} (h : s.chassis.main = false) :
    presentBreak s = { s with chassis := { s.chassis with applied := false, present := false, indicator := false }, start := {} } := by
  simp [presentBreak, State.stopPrecharge, h]

theorem inRange_false {mv : Nat} (h : mv < 40000 ∨ 59500 < mv) : inRange mv = false := by
  simp only [inRange, decide_eq_false_iff_not]
  omega

theorem inRange_true {mv : Nat} (lo : 40000 ≤ mv) (hi : mv ≤ 59500) : inRange mv = true := decide_eq_true ⟨lo, hi⟩

theorem inputOutOfRange_powered {s : State} {mv : Nat} (hr : inRange mv = false) (h : s.chassis.main = true) :
    inputOutOfRange mv s = { s.powerOff with chassis := { s.powerOff.chassis with
      inputMv := mv, fellBelow := s.chassis.fellBelow || decide (mv < 40000) } } := by
  simp [inputOutOfRange, hr, h, State.powerOff, State.volatileCleared]

theorem inputOutOfRange_unpowered {s : State} {mv : Nat} (hr : inRange mv = false) (h : s.chassis.main = false) :
    inputOutOfRange mv s = { s with
      chassis := { s.chassis with applied := false, inputMv := mv, fellBelow := s.chassis.fellBelow || decide (mv < 40000) }
      start := {} } := by
  simp [inputOutOfRange, State.stopPrecharge, hr, h]

/-- Up to the limit of 17 R462 the input has its effect. -/
theorem exec_inputOutOfRange {mv : W32} (h : mv.toNat ≤ 63000) (s : State) :
    exec (.inputOutOfRange mv) s = .next (inputOutOfRange mv.toNat s) := if_neg (Nat.not_lt.mpr h)

theorem inputOutOfRange_inRange {s : State} {mv : Nat} (hr : inRange mv = true) : inputOutOfRange mv s = s := if_pos hr

theorem inputReturnsToRange_inRange {s : State} {mv : Nat} (hr : inRange mv = true) : inputReturnsToRange mv s = { s with
    chassis := { s.chassis with inputMv := mv, tripped := s.chassis.tripped && !s.chassis.fellBelow } } := if_pos hr

/-! ### MOD_RESET# (15 R427, R439, 16 R450) -/

/-- A module reset by its RESET_CAUSE keeps configuration memory, the time base, the log's entries and the pins. -/
theorem State.moduleReset_powered {s : State} (h : s.chassis.main = true) (cause : Nat) :
    s.moduleReset cause = { s.settleDeltas.volatileCleared with
      timeBase := s.timeBase, hbm := { prevMode := s.hbm.prevMode }
      start := { revertedStart s.start cause with
        active := !s.chassis.modReset, stage := 0, kind := 1, zero := s.timeBase.toNat
        prevReports := s.start.reports, resetCause := BitVec.ofNat 8 cause } } := by
  simp only [State.moduleReset, h, Bool.not_true, Bool.false_eq_true, if_false]

theorem modResetAssert_glitch {s : State} {us : Nat} (h : us < 100) : modResetAssert us s = s := if_pos h

/-- The pin held low, before the reset that it causes. -/
def State.heldLow (s : State) : State := { s with chassis := { s.chassis with modReset := true } }

theorem modResetAssert_long {s : State} {us : Nat} (h : 1000 ≤ us) :
    modResetAssert us s = if s.chassis.removal = 0 then s.heldLow.moduleReset 1 else s.heldLow := by
  have h1 : ¬ us < 100 := by omega
  have h2 : ¬ us < 1000 := by omega
  simp only [modResetAssert, h1, h2, if_false, State.heldLow]

theorem modResetAssert_recorded {s : State} {us : Nat} (h : 1000 ≤ us) (hx : s.chassis.removal ≠ 0 ∨ s.chassis.main = false) :
    modResetAssert us s = s.heldLow := by
  rw [modResetAssert_long h]
  split
  next h0 =>
    have hm : s.chassis.main = false := hx.resolve_left (absurd h0)
    simp [State.moduleReset, State.heldLow, hm]
  next => rfl

theorem modResetRelease_cases {s : State} (h : s.chassis.modReset = true) :
    modResetRelease s =
      if s.chassis.main = true ∧ s.chassis.removal = 0 ∧ s.start.kind = 1 ∧ s.start.active = false ∧ s.start.ready = false ∧
        s.start.failed = false
      then { s with
        chassis := { s.chassis with modReset := false }
        start := { s.start with active := true, zero := s.timeBase.toNat, before := 0, begun := 0 } }
      else { s with chassis := { s.chassis with modReset := false } } := by
  simp [modResetRelease, h, and_assoc]

/-! ### What leaves on the strait, and what the journal takes (09 R244, R260, 10 R291 to R297) -/

/-- `t` differs from `s` by notices sent and journal entries written alone: traffic and its counters, what leaves the block, free values
used up, the packets and entries that wait for an answer, and the journal with its event counts. -/
def State.Notifies (s t : State) : Prop := t = { s with
  mesh := t.mesh, links := t.links, out := t.out, freeCtr := t.freeCtr, eventCounts := t.eventCounts, journal := t.journal
  start := { s.start with deferred := t.start.deferred }, host := { s.host with ports := t.host.ports }
  arch := { s.arch with engines := t.arch.engines, seqs := t.arch.seqs, sent := t.arch.sent, mirrorWait := t.arch.mirrorWait } }

section
variable {s t u : State}

theorem State.Notifies.refl (s : State) : s.Notifies s := rfl

theorem State.Notifies.trans (h : s.Notifies t) (k : t.Notifies u) : s.Notifies u := by
  unfold State.Notifies at *
  rw [k, h]

theorem State.Notifies.foldl {β : Type} {f : State → β → State} (hf : ∀ (t : State) x, t.Notifies (f t x)) (l : List β) (s : State) :
    s.Notifies (l.foldl f s) := by
  induction l generalizing s with
  | nil => exact State.Notifies.refl s
  | cons x _ ih => exact (hf s x).trans (ih _)

theorem State.OnMesh.notifies (h : s.OnMesh t) : s.Notifies t := by
  unfold State.OnMesh at h
  unfold State.Notifies
  rw [h]

theorem State.modEngine_notifies (s : State) (e : Nat) (f : Engine → Engine) : s.Notifies (s.modEngine e f) := rfl
theorem State.modHostPort_notifies (s : State) (i : Nat) (f : HostPort → HostPort) : s.Notifies (s.modHostPort i f) := rfl
theorem State.emit_notifies (s : State) (o : Output) : s.Notifies (s.emit o) := rfl
theorem State.fresh_notifies (s : State) : s.Notifies s.fresh.2 := rfl
theorem State.countEvent_notifies (s : State) (code : W16) : s.Notifies (s.countEvent code) := rfl

theorem State.sendFlits_notifies (s : State) (e : Nat) (p : StraitPkt) : s.Notifies (s.sendFlits e p) :=
  (s.modEngine_notifies e _).trans (State.emit_notifies _ _)

theorem State.leaveEngine_notifies (s : State) (src e : Nat) (p : StraitPkt) : s.Notifies (s.leaveEngine src e p) := by
  have h : ∀ cls dst n, s.Notifies (s.traffic cls src dst n) := fun _ _ _ => ((State.OnMesh.refl s).traffic _ _ _ _).notifies
  unfold State.leaveEngine
  dsimp only
  split
  · exact (h _ _ _).trans (State.sendFlits_notifies _ _ _)
  · exact (h _ _ _).trans (State.modEngine_notifies _ _ _)

theorem State.leaveAny_notifies (s : State) (src : Nat) (es : List Nat) (p : StraitPkt) : s.Notifies (s.leaveAny src es p) := by
  unfold State.leaveAny
  split
  · exact State.Notifies.refl s
  · exact s.leaveEngine_notifies _ _ _
  · exact s.fresh_notifies.trans (State.leaveEngine_notifies _ _ _ _)

theorem State.leaveStrait_notifies (s : State) (src : Nat) (p : StraitPkt) : s.Notifies (s.leaveStrait src p) := by
  unfold State.leaveStrait
  dsimp only
  split
  · exact (s.leaveAny_notifies _ _ _).trans (State.leaveAny_notifies _ _ _ _)
  · exact s.leaveAny_notifies _ _ _

theorem State.sendStrait_notifies (s : State) (src typ : Nat) (assured : Bool) (dest : Nat) (group : W32) (turn addr : Nat) (st : W16)
    (data : List Byte) : s.Notifies (s.sendStrait src typ assured dest group turn addr st data) :=
  State.Notifies.trans (by exact rfl) (State.leaveStrait_notifies _ _ _)

theorem State.sendMember_notifies (s : State) (seat : Nat) (n : MemberNote) : s.Notifies (s.sendMember seat n) :=
  (s.sendStrait_notifies _ _ _ _ _ _ _ _ _).trans (State.emit_notifies _ _)

theorem State.mirrorOut_notifies (s : State) (e : JEntry) : s.Notifies (s.mirrorOut e) := by
  unfold State.mirrorOut
  split
  · exact State.Notifies.refl s
  · exact (s.sendStrait_notifies _ _ _ _ _ _ _ _ _).trans rfl

theorem State.countTx_notifies (s : State) (sid : W64) (bytes : Nat) : s.Notifies (s.countTx sid bytes) := by
  unfold State.countTx
  split
  · exact State.Notifies.refl s
  · dsimp only
    split
    · exact (s.modHostPort_notifies _ _).trans (State.modHostPort_notifies _ _ _)
    · exact s.modHostPort_notifies _ _

theorem State.journalPut_notifies (s : State) (e : JEntry) : s.Notifies (s.journalPut e) := by
  have enter : ∀ (j : Journal) (b : Bool) (e : JEntry),
      s.Notifies (if b then ({ s with journal := j } : State).mirrorOut e else { s with journal := j }) := by
    intro j b e
    split
    · exact State.Notifies.trans (t := { s with journal := j }) rfl (State.mirrorOut_notifies _ _)
    · rfl
  unfold State.journalPut
  dsimp only
  split
  · exact ((enter _ _ _).trans (State.emit_notifies _ _)).trans (State.countTx_notifies _ _ _)
  · exact enter _ _ _

theorem State.journalWrite_notifies (s : State) (kind : Nat) (code : W16) (turn : Nat) (who : Concern) (detail : List Byte) :
    s.Notifies (s.journalWrite kind code turn who detail) := by
  unfold State.journalWrite
  dsimp only
  split
  · exact s.journalPut_notifies _
  · rfl

theorem State.event_notifies (s : State) (code : W16) (p : Option Nat) (detail : List Byte) : s.Notifies (s.event code p detail) :=
  (s.countEvent_notifies code).trans (State.journalWrite_notifies _ _ _ _ _ _)

end

/-! ### A planned leave (09 R251) -/

/-- What a module that has left keeps of the archipelago: it is no member, and its seat is gone from the map. -/
def Arch.departed (a : Arch) : Arch :=
  { a with members := a.members &&& ~~~(seatBit a.seat), epoch := a.epoch + 1, state := 0, role := 0 }

/-- A member that leaves changes its membership and sends notices; nothing else changes. -/
theorem State.leaveArch_member {s : State} (ht : s.arch.topology ≠ 0) (hs : 2 ≤ s.arch.state) :
    ({ s with arch := s.arch.departed } : State).Notifies s.leaveArch := by
  have told : s.Notifies (s.otherSeats.foldl (fun t k => t.sendMember k (.leave (Fin.ofNat 64 s.arch.seat))) s) :=
    State.Notifies.foldl (fun t k => t.sendMember_notifies k _) _ s
  have hn : ¬ (s.arch.topology = 0 ∨ s.arch.state < 2) := by omega
  unfold State.leaveArch
  rw [if_neg hn]
  dsimp only
  generalize s.otherSeats.foldl _ s = s1 at told ⊢
  have left : ({ s1 with arch := { s1.arch with
      members := s1.arch.members &&& ~~~(seatBit s.arch.seat), epoch := s1.arch.epoch + 1 } } : State).Notifies
      (State.leftEvent { s1 with arch := { s1.arch with
        members := s1.arch.members &&& ~~~(seatBit s.arch.seat), epoch := s1.arch.epoch + 1 } } 0 s.arch.seat) :=
    State.event_notifies _ _ _ _
  generalize State.leftEvent _ _ _ = s3 at left ⊢
  unfold State.Notifies at *
  rw [left, told]
  rfl

theorem State.leaveArch_outside {s : State} (h : s.arch.topology = 0 ∨ s.arch.state < 2) : s.leaveArch = s := if_pos h

/-- Whether or not it is a member, a leave stays with the archipelago and its notices. -/
theorem State.leaveArch_notifies (s : State) : ∃ a, ({ s with arch := a } : State).Notifies s.leaveArch := by
  by_cases h : s.arch.topology = 0 ∨ s.arch.state < 2
  · exact ⟨s.arch, by rw [State.leaveArch_outside h]; rfl⟩
  · exact ⟨s.arch.departed, State.leaveArch_member (by omega) (by omega)⟩

/-! ### Removal (16 R454) -/

/-- What step 1 of a removal sets, before the module leaves its archipelago and finishes its writes. -/
def State.removalOpened (s : State) : State :=
  ({ s with
    chassis := { s.chassis with removal := 1, removing := true }, host := { s.host with partials := [], waiting := [] } }).alert 5

/-- A module without a topology, or in standby, goes on to finishing writes at once. -/
theorem State.beginRemoval_alone {s : State} (h : s.arch.topology = 0 ∨ s.chassis.standby = true) :
    s.beginRemoval = s.removalOpened.finishWrites := if_pos h

/-- Any other module leaves first: it then finishes its writes, or waits for the mirror of MODULE_LEFT. -/
theorem State.beginRemoval_leaves {s : State} (ht : s.arch.topology ≠ 0) (hs : s.chassis.standby = false) :
    s.beginRemoval = s.removalOpened.leaveArch.finishWrites ∨ ∃ seq, s.beginRemoval =
      { s.removalOpened.leaveArch with chassis := { s.removalOpened.leaveArch.chassis with leaving := some seq } } := by
  have hn : ¬ (s.arch.topology = 0 ∨ s.chassis.standby = true) := by simp [ht, hs]
  have e : s.beginRemoval = _ := if_neg hn
  rw [e]
  dsimp only
  split
  · exact .inr ⟨_, rfl⟩
  · exact .inl rfl

/-- What holds once a removal has begun, whether it finishes its writes or waits for its mirror: the pins and alerts show it, incomplete
messages are gone, and memory and cores stand. -/
structure State.RemovalBegun (s t : State) : Prop where
  latchOpen : t.chassis.latchOpen = s.chassis.latchOpen
  removing : t.chassis.removing = true
  removal : t.chassis.removal = 1 ∨ t.chassis.removal = 2
  alerts : t.chassis.alerts = s.chassis.alerts ||| 32
  partials : t.host.partials = []
  mem : t.mem = s.mem
  cores : t.cores = s.cores

theorem State.removalOpened_begun (s : State) : s.RemovalBegun s.removalOpened := ⟨rfl, rfl, .inl rfl, rfl, rfl, rfl, rfl⟩

theorem State.RemovalBegun.leaveArch {s t : State} (h : s.RemovalBegun t) : s.RemovalBegun t.leaveArch := by
  obtain ⟨a, e⟩ := t.leaveArch_notifies
  rw [State.Notifies] at e
  rw [e]
  exact ⟨h.latchOpen, h.removing, h.removal, h.alerts, h.partials, h.mem, h.cores⟩

theorem State.RemovalBegun.finishWrites {s t : State} (h : s.RemovalBegun t) : s.RemovalBegun t.finishWrites :=
  ⟨h.latchOpen, rfl, .inr rfl, h.alerts, h.partials, h.mem, h.cores⟩

theorem State.beginRemoval_begun (s : State) : s.RemovalBegun s.beginRemoval := by
  by_cases h : s.arch.topology = 0 ∨ s.chassis.standby = true
  · rw [State.beginRemoval_alone h]
    exact s.removalOpened_begun.finishWrites
  · rw [not_or, Bool.not_eq_true] at h
    have left := s.removalOpened_begun.leaveArch
    rcases State.beginRemoval_leaves h.1 h.2 with e | ⟨seq, e⟩
    · exact e ▸ left.finishWrites
    · rw [e]
      exact ⟨left.latchOpen, left.removing, left.removal, left.alerts, left.partials, left.mem, left.cores⟩

/-- A member's removal takes it out of the archipelago (09 R251, 16 R454 step 3). -/
theorem State.beginRemoval_departs {s : State} (ht : s.arch.topology ≠ 0) (hm : 2 ≤ s.arch.state) (hs : s.chassis.standby = false) :
    s.beginRemoval.arch.state = 0 ∧ s.beginRemoval.arch.members = s.arch.members &&& ~~~(seatBit s.arch.seat) := by
  have left : ({ s.removalOpened with arch := s.arch.departed } : State).Notifies s.removalOpened.leaveArch :=
    State.leaveArch_member (s := s.removalOpened) ht hm
  have e : s.beginRemoval.arch = s.removalOpened.leaveArch.arch := by
    rcases State.beginRemoval_leaves ht hs with e | ⟨_, e⟩ <;> exact (congrArg State.arch e).trans rfl
  rw [e]
  exact ⟨congrArg (fun t => t.arch.state) left, congrArg (fun t => t.arch.members) left⟩

/-- The latch has opened, before the removal that it begins. -/
def State.unlatched (s : State) : State := { s with chassis := { s.chassis with latchOpen := true } }

theorem latchOpenAssert_without_effect {s : State} {us : Nat} (h : us < 1000 ∨ s.chassis.latchOpen = true) : latchOpenAssert us s = s :=
  if_pos h

/-- An open latch begins a removal, which during a start runs from step 5. -/
theorem latchOpenAssert_begins {s : State} {us : Nat} (h : 1000 ≤ us) (hl : s.chassis.latchOpen = false) (hm : s.chassis.main = true)
    (hr : s.chassis.removal = 0) :
    latchOpenAssert us s = if s.start.ready = true then s.unlatched.beginRemoval
      else ({ s.unlatched with start := { s.start with active := false } } : State).finishWrites := by
  have hn : ¬ (us < 1000 ∨ s.chassis.latchOpen = true) := by rw [hl]; simpa using h
  unfold latchOpenAssert
  rw [if_neg hn]
  dsimp only
  rw [if_neg (by simp [hm]), if_neg (not_not.mpr hr)]
  rfl

theorem mirrorWaitExpiry_waiting {s : State} (h : s.chassis.removal = 1) : mirrorWaitExpiry s = s.finishWrites := if_pos h

/-- The last writes of a removal have landed (16 R454 steps 5 and 6). -/
def State.written (s : State) : State := ({ s with log := s.log.cover } : State).settleDeltas

theorem removalWritesDone_finishing {s : State} (h : s.chassis.removal = 2) : removalWritesDone s =
    { s.written.powerOff with chassis := { s.written.powerOff.chassis with indicator := true } } := if_neg (not_not.mpr h)

theorem DefectLog.cover_entries (l : DefectLog) : l.cover.entries = l.entries ++ l.waiting := by
  unfold DefectLog.cover
  split
  next h => rw [List.isEmpty_iff.mp h, List.append_nil]
  next => rfl

theorem State.written_nv (s : State) : s.written.nv = s.nv := State.settleDeltas_nv _

theorem State.written_logEntries (s : State) : s.written.log.entries = s.log.entries ++ s.log.waiting := by
  rw [State.written, State.settleDeltas_log, DefectLog.cover_entries]

/-! ### The sideband (16 R451 to R453, R455, 00 R12, R14) -/

theorem State.sidebandUp_ready {s : State} (hm : s.chassis.main = true) (hr : s.start.ready = true) : s.sidebandUp = true := by
  simp [State.sidebandUp, hm, hr]

theorem sidebandAddressAssign_up {s : State} (h : s.sidebandUp = true) (addr : BitVec 7) :
    sidebandAddressAssign addr s = { s with chassis := { s.chassis with dynAddr := some addr } } := if_pos h

theorem pldmSensorUpdate_up {s : State} (hm : s.chassis.main = true) (h : s.sidebandUp = true) (lid : Byte) :
    pldmSensorUpdate lid s = (let t : State := { s with chassis := { s.chassis with lidTemp := lid } }
      t.emit (.sensors t.sensorValues)) := by
  have ht : ({ s with chassis := { s.chassis with lidTemp := lid } } : State).sidebandUp = true := h
  unfold pldmSensorUpdate
  dsimp only
  rw [if_neg (by simp [hm]), if_pos ht]

theorem vendorMessage_read {s : State} (h : s.sidebandUp = true) (a : Nat) (v : W64) :
    vendorMessage 1 a v s = if vendorReadable a then s.emit (.sideband stOk ((s.readReg a).getD 0)) else s.emit (.sideband stUnmapped 0) := by
  simp [vendorMessage, h]

theorem vendorMessage_write {s : State} (h : s.sidebandUp = true) (a : Nat) (v : W64) :
    vendorMessage 2 a v s = if a = chassisStatusAddr then
        (s.clearAlerts v).emit (.sideband stOk (((s.clearAlerts v).readReg a).getD 0))
      else s.emit (.sideband stUnmapped 0) := by
  simp [vendorMessage, h]

theorem State.readReg_chassisStatus (s : State) : s.readReg chassisStatusAddr = some (s.moduleReg 0xB000) := by
  have h : placeOf chassisStatusAddr = .moduleReg 0xB000 := by decide
  rw [State.readReg, h]

theorem registerWrite_chassisStatus {s : State} (hm : s.chassis.main = true) (v : W64) :
    registerWrite chassisStatusAddr v s = (s.clearAlerts v).emit (.access stOk) := by
  simp [registerWrite, s.readReg_chassisStatus, hm]

theorem registerWrite_readOnly (s : State) {a : Nat} (ha : a ≠ chassisStatusAddr) (v : W64) :
    registerWrite a v s = s.emit (.access (if (s.readReg a).isSome then stOk else stUnmapped)) := by
  unfold registerWrite
  cases s.readReg a <;> simp [ha]

/-! ### The commands, each as the statement has it -/

section
variable {s : State}

theorem completes_presentBreak (hm : s.chassis.main = true) : Completes .presentBreak s fun t =>
    State.Dark s.nv t ∧ t.chassis.present = false ∧ t.log.entries = s.log.entries :=
  ⟨_, congrArg Host.Outcome.next (presentBreak_powered hm), s.powerOff_dark _ rfl rfl, rfl, rfl⟩

theorem completes_inputOutOfRange {mv : W32} (h63 : mv.toNat ≤ 63000) (hr : inRange mv.toNat = false) (hm : s.chassis.main = true) :
    Completes (.inputOutOfRange mv) s fun t => State.Dark s.nv t ∧ t.chassis.inputMv = mv.toNat ∧
      t.chassis.fellBelow = (s.chassis.fellBelow || decide (mv.toNat < 40000)) := by
  refine ⟨_, exec_inputOutOfRange h63 s, ?_⟩
  rw [inputOutOfRange_powered hr hm]
  exact ⟨s.powerOff_dark _ rfl rfl, rfl, rfl⟩

/-- A reset that the pin causes holds the start until its release. -/
theorem completes_modResetAssert {us : Nat} (h : 1000 ≤ us) (hr : s.chassis.removal = 0) (hm : s.chassis.main = true) :
    Completes (.modResetAssert us) s fun t =>
      t.chassis.modReset = true ∧ t.chassis.main = true ∧ t.mem = [] ∧ t.cores = [] ∧ t.sched = {} ∧ t.start.active = false ∧
      t.start.ready = false ∧ t.start.kind = 1 ∧ t.start.resetCause = 1 ∧ t.start.prevReports = s.start.reports ∧
      t.hbm.prevMode = s.hbm.prevMode ∧ t.timeBase = s.timeBase ∧ t.nv = s.nv ∧ t.log.entries = s.log.entries := by
  have e : modResetAssert us s = s.heldLow.moduleReset 1 := by rw [modResetAssert_long h, if_pos hr]
  refine ⟨_, congrArg Host.Outcome.next e, ?_⟩
  rw [State.moduleReset_powered (s := s.heldLow) hm]
  have hx : s.heldLow.settleDeltas.chassis = s.heldLow.chassis := State.settleDeltas_chassis _
  have hnv : s.heldLow.settleDeltas.nv = s.nv := State.settleDeltas_nv _
  have hlog : s.heldLow.settleDeltas.log.entries = s.log.entries := congrArg DefectLog.entries (State.settleDeltas_log _)
  exact ⟨congrArg Chassis.modReset hx, (congrArg Chassis.main hx).trans hm, rfl, rfl, rfl, rfl, rfl, rfl, rfl, rfl, rfl, rfl, hnv, hlog⟩

theorem completes_latchOpenAssert {us : Nat} (h : 1000 ≤ us) (hl : s.chassis.latchOpen = false) (hm : s.chassis.main = true)
    (hr : s.chassis.removal = 0) (hready : s.start.ready = true) :
    Completes (.latchOpenAssert us) s fun t => t.chassis.latchOpen = true ∧ t.chassis.removing = true ∧
      t.chassis.alerts = s.chassis.alerts ||| 32 ∧ t.host.partials = [] ∧ t.mem = s.mem ∧ t.cores = s.cores ∧
      (s.arch.topology = 0 → t.chassis.removal = 2 ∧ t.host.staging = none) ∧
      (s.arch.topology ≠ 0 → 2 ≤ s.arch.state → s.chassis.standby = false → (t.chassis.removal = 1 ∨ t.chassis.removal = 2) ∧
        t.arch.state = 0 ∧ t.arch.members = s.arch.members &&& ~~~(seatBit s.arch.seat)) := by
  have e : latchOpenAssert us s = s.unlatched.beginRemoval := by rw [latchOpenAssert_begins h hl hm hr, if_pos hready]
  have b : s.unlatched.RemovalBegun s.unlatched.beginRemoval := State.beginRemoval_begun _
  refine ⟨_, congrArg Host.Outcome.next e, b.latchOpen, b.removing, b.alerts, b.partials, b.mem, b.cores, fun ht => ?_, fun ht hj hs => ⟨b.removal, ?_⟩⟩
  · rw [State.beginRemoval_alone (s := s.unlatched) (.inl ht)]
    exact ⟨rfl, rfl⟩
  · exact State.beginRemoval_departs (s := s.unlatched) ht hj hs

theorem completes_removalWritesDone (hr : s.chassis.removal = 2) : Completes .removalWritesDone s fun t =>
    State.Dark s.nv t ∧ t.chassis.removal = 0 ∧ t.chassis.indicator = true ∧ t.log.entries = s.log.entries ++ s.log.waiting := by
  have dark := s.written.powerOff_dark { s.written.powerOff.chassis with indicator := true } rfl rfl
  rw [s.written_nv] at dark
  exact ⟨_, congrArg Host.Outcome.next (removalWritesDone_finishing hr), dark, rfl, rfl, s.written_logEntries⟩

/-- The report names the hottest junction, the hottest base die and the module's state by `State.sensorValues`. -/
theorem completes_pldmSensorUpdate (hm : s.chassis.main = true) (hup : s.sidebandUp = true) (lid : Byte) :
    Completes (.pldmSensorUpdate lid) s fun t => t.chassis = { s.chassis with lidTemp := lid } ∧ t.out = s.out ++
      [.sensors [s.power.inputMv, s.power.inputW, s.clusters.foldl (fun m e => max m e.2.temp) 0,
        s.hbmStacks.foldl (fun m e => max m e.2.temp.toNat) 0, lid.toNat, s.power.capW, s.moduleMode]] :=
  ⟨_, congrArg Host.Outcome.next (pldmSensorUpdate_up hm hup lid), rfl, rfl⟩

/-- A write of the alert bits is answered with the register as it then reads. -/
theorem completes_vendorRegisterWrite (hup : s.sidebandUp = true) {a : W64} (ha : a.toNat = chassisStatusAddr) (v : W64) :
    Completes (.vendorRegisterWrite 2 a v) s fun t => t.chassis.alerts = s.chassis.alerts &&& ~~~(v.truncate 6) ∧
      t.out = s.out ++ [.sideband 0 ((s.clearAlerts v).moduleReg 0xB000)] := by
  have e := vendorMessage_write hup a.toNat v
  rw [if_pos ha, ha, State.readReg_chassisStatus, ← ha] at e
  exact ⟨_, congrArg Host.Outcome.next e, rfl, rfl⟩

end

/-- Settles O53, each command by the lemma that gives its cases. -/
theorem pinsAndSidebandAct : Obligations.PinsAndSidebandAct := by
  unfold Obligations.PinsAndSidebandAct
  intro s x dark
  refine ⟨⟨rfl, rfl, completes_presentBreak, fun hm => congrArg Host.Outcome.next (presentBreak_unpowered hm), fun mv h63 => ⟨?_, ?_, ?_⟩⟩,
    ⟨fun us h => congrArg Host.Outcome.next (modResetAssert_glitch h), fun us h hx => congrArg Host.Outcome.next (modResetAssert_recorded h hx),
      fun us => completes_modResetAssert, fun hlow => ⟨?_, ?_⟩⟩,
    ⟨fun us => completes_latchOpenAssert, fun us h hl hm hr hready => ?_, fun us h => congrArg Host.Outcome.next (latchOpenAssert_without_effect h),
      fun hr => congrArg Host.Outcome.next (mirrorWaitExpiry_waiting hr), completes_removalWritesDone⟩,
    fun hm hready => ?_⟩
  · exact fun hout hm => completes_inputOutOfRange h63 (inRange_false hout) hm
  · exact fun hout hm => (exec_inputOutOfRange h63 s).trans (congrArg Host.Outcome.next (inputOutOfRange_unpowered (inRange_false hout) hm))
  · intro lo hi
    have hin := inRange_true lo hi
    exact ⟨(exec_inputOutOfRange h63 s).trans (congrArg Host.Outcome.next (inputOutOfRange_inRange hin)),
      congrArg Host.Outcome.next (inputReturnsToRange_inRange hin)⟩
  · exact fun held => congrArg Host.Outcome.next ((modResetRelease_cases hlow).trans (if_pos held))
  · exact fun free => congrArg Host.Outcome.next ((modResetRelease_cases hlow).trans (if_neg free))
  · have e := latchOpenAssert_begins h hl hm hr
    rw [if_neg (by rw [hready]; exact Bool.false_ne_true)] at e
    exact congrArg Host.Outcome.next e
  · have hup : s.sidebandUp = true := State.sidebandUp_ready hm hready
    refine ⟨fun _ addr => congrArg Host.Outcome.next (sidebandAddressAssign_up hup addr), fun lid => ?_,
      fun a v => ⟨fun h => ?_, fun h => ?_, fun ha => ⟨?_, ?_⟩, fun ha => ⟨?_, ?_⟩⟩⟩
    · obtain ⟨t, e, hx, ho⟩ := completes_pldmSensorUpdate hm hup lid
      exact ⟨t, e, hx, _, _, _, ho⟩
    · exact congrArg Host.Outcome.next ((vendorMessage_read hup a.toNat 0).trans (if_pos h))
    · exact congrArg Host.Outcome.next ((vendorMessage_read hup a.toNat 0).trans (if_neg (by rw [h]; exact Bool.false_ne_true)))
    · obtain ⟨t, e, hx, ho⟩ := completes_vendorRegisterWrite hup ha v
      exact ⟨t, e, hx, _, ho⟩
    · exact congrArg Host.Outcome.next ((congrArg (registerWrite · v s) ha).trans (registerWrite_chassisStatus hm v))
    · exact congrArg Host.Outcome.next ((vendorMessage_write hup a.toNat v).trans (if_neg ha))
    · exact congrArg Host.Outcome.next (registerWrite_readOnly s ha v)

end Sys2Proof.Machine

/-! SUPPORT. Stage 3 (11 R309 to R312): what selecting spares, findings and rows of the spare table keep of a state, and what they set. -/

namespace Sys2Proof.Machine

/-- A fold is related to its start as each of its steps is. -/
theorem foldl_related {σ β : Type} {R : σ → σ → Prop} (refl : ∀ s, R s s) (trans : ∀ {s t u}, R s t → R t u → R s u) {f : σ → β → σ}
    {l : List β} (hf : ∀ x ∈ l, ∀ t, R t (f t x)) (s : σ) : R s (l.foldl f s) := by
  induction l generalizing s with
  | nil => exact refl s
  | cons x _ ih => exact trans (hf x (by simp) s) (ih (fun y hy => hf y (by simp [hy])) _)

/-- A fold keeps what each of its steps keeps. -/
theorem foldl_keeps {σ β γ : Type} (g : σ → γ) {f : σ → β → σ} (hf : ∀ t x, g (f t x) = g t) (l : List β) (s : σ) :
    g (l.foldl f s) = g s := foldl_related (R := fun s t => g t = g s) (fun _ => rfl) (fun h k => k.trans h) (fun x _ t => hf t x) s

/-- What one task of a list sets and every other task keeps holds once the list is done. -/
theorem foldl_establishes {σ β : Type} {f : σ → β → σ} {P : σ → Prop} {l : List β} {x : β} (hx : x ∈ l) (sets : ∀ t, P (f t x))
    (keeps : ∀ y ∈ l, y ≠ x → ∀ t, P t → P (f t y)) (s : σ) : P (l.foldl f s) := by
  obtain ⟨a, b, rfl⟩ := List.append_of_mem hx
  rw [List.foldl_append, List.foldl_cons]
  refine foldl_related (R := fun t u => P t → P u) (fun _ h => h) (fun h k p => k (h p)) (fun y hy t h => ?_) _ (sets _)
  by_cases e : y = x
  · exact e ▸ sets t
  · exact keeps y (by simp [hy]) e t h

/-- Cores that change one after the other leave every region as it is. -/
@[simp] theorem foldl_modCore_clusters {β : Type} (l : List β) (k : β → Nat) (f : β → Core → Core) (s : State) :
    (l.foldl (fun t x => t.modCore (k x) (f x)) s).clusters = s.clusters := foldl_keeps State.clusters (fun t _ => t.modCore_clusters _ _) l s

/-! ### A job that loses a cluster leaves every region as it is (08 R217, R218, R228) -/

section
variable (s : State)

theorem State.Notifies.clusters {s t : State} (h : s.Notifies t) : t.clusters = s.clusters := by rw [h]

@[simp] theorem State.journalWrite_clusters (kind : Nat) (code : W16) (turn : Nat) (who : Concern) (detail : List Byte) :
    (s.journalWrite kind code turn who detail).clusters = s.clusters := (s.journalWrite_notifies _ _ _ _ _).clusters

@[simp] theorem State.event_clusters (code : W16) (p : Option Nat) (detail : List Byte) : (s.event code p detail).clusters = s.clusters :=
  (s.event_notifies _ _ _).clusters

theorem State.withdrawSlots_clusters (L : Nat) : (s.withdrawSlots L).clusters = s.clusters := by
  refine foldl_keeps State.clusters (fun t e => foldl_keeps State.clusters (fun u b => ?_) _ _) _ _
  dsimp only
  split <;> rfl

theorem State.withdrawPart_clusters (p L : Nat) : (s.withdrawPart p L).clusters = s.clusters :=
  State.withdrawSlots_clusters (s.withdrawHeld p (some L)) L

theorem State.awaitRebuild_clusters (L : Nat) (cleared : Bool) : (s.awaitRebuild L cleared).clusters = s.clusters := by
  unfold State.awaitRebuild
  rw [State.modCore_clusters]
  cases s.standOf L with
  | none => rfl
  | some st =>
    dsimp only
    split
    · rfl
    · exact s.withdrawPart_clusters _ _

theorem State.abandonParts_clusters (p : Nat) : (s.abandonParts p).clusters = s.clusters := by
  unfold State.abandonParts
  split
  · rfl
  · exact (foldl_modCore_clusters _ id _ _).trans (foldl_keeps State.clusters (fun t L => t.withdrawPart_clusters p L) _ s)

theorem State.tellGroup_clusters (p : Nat) (ended : Bool) : (s.tellGroup p ended).clusters = s.clusters := by
  unfold State.tellGroup
  split
  · rfl
  · split
    · exact foldl_keeps State.clusters (fun t k => (t.sendMember_notifies k _).clusters) _ _
    · rfl

theorem State.enterHold_clusters (p : Nat) : (s.enterHold p).clusters = s.clusters := by
  unfold State.enterHold
  split
  · rfl
  · dsimp only
    split
    · rfl
    · rw [State.tellGroup_clusters, State.journalWrite_clusters, State.modJob_clusters]

theorem State.holdCapacity_clusters (p : Nat) : (s.holdCapacity p).clusters = s.clusters :=
  (State.enterHold_clusters _ p).trans (s.abandonParts_clusters p)

theorem State.landTokens_clusters (L : Nat) : (s.landTokens L).clusters = s.clusters := by
  refine foldl_keeps State.clusters (fun t q => ?_) _ s
  rw [State.modCore_clusters]
  exact (((State.OnMesh.refl t).receive _).acknowledged _ _ _ _).clusters

theorem State.renameCores_clusters (p : Nat) (moved : List Nat) (mv : Nat → Nat) : (s.renameCores p moved mv).clusters = s.clusters := by
  unfold State.renameCores
  split
  · rfl
  · exact foldl_modCore_clusters _ id _ s

theorem State.queueWake_clusters (c : Nat) : (s.queueWake c).clusters = s.clusters := by
  unfold State.queueWake
  dsimp only
  split <;> rfl

theorem State.moveRanks_clusters (p c d : Nat) : (s.moveRanks p c d).clusters = s.clusters := by
  unfold State.moveRanks
  split
  · rfl
  · dsimp only
    have moved : ∀ {t : State}, t.clusters = s.clusters →
        (if (t.cluster d).wakeable then t.queueWake d else t).clusters = s.clusters := by
      intro t h
      split
      · rw [State.queueWake_clusters, h]
      · exact h
    refine moved ((State.renameCores_clusters _ _ _ _).trans (foldl_keeps State.clusters (fun t L => ?_) _ _))
    rw [State.modCore_clusters, State.awaitRebuild_clusters, State.setCore_clusters]
    split
    · exact t.landTokens_clusters L
    · rw [State.withdrawPart_clusters, State.landTokens_clusters]

theorem State.clusterUnusable_clusters (c : Nat) (shed : Bool) : (s.clusterUnusable c shed).clusters = s.clusters := by
  unfold State.clusterUnusable
  cases s.partOf c with
  | none => rfl
  | some p =>
    dsimp only
    cases (s.part p).job with
    | none => rfl
    | some j =>
      dsimp only
      split
      · rfl
      · split
        · split
          · rfl
          · exact s.moveRanks_clusters _ _ _
        · split
          · refine foldl_keeps State.clusters (fun t L => ?_) _ _
            split
            · rfl
            · exact t.awaitRebuild_clusters _ _
          · exact s.holdCapacity_clusters p

end

/-! ### The isolated phases of a region (12 R337, R338) -/

/-- An update of a region that leaves its isolated phases leaves those of every region. -/
theorem State.isolated_modCluster (s : State) (c d : Nat) {f : Cluster → Cluster} (hf : ∀ x, (f x).isolated = x.isolated) :
    ((s.modCluster c f).cluster d).isolated = (s.cluster d).isolated := by
  by_cases h : d = c
  · rw [h, State.cluster_modCluster, hf]
  · rw [State.cluster_modCluster_other s f h]

theorem State.cluster_of_clusters {s t : State} (h : t.clusters = s.clusters) (c : Nat) : t.cluster c = s.cluster c := by
  rw [State.cluster, h, State.cluster]

theorem State.loseCluster_isolated (s : State) (c cause d : Nat) : ((s.loseCluster c cause).cluster d).isolated = (s.cluster d).isolated := by
  unfold State.loseCluster
  dsimp only
  rw [State.cluster_of_clusters (State.clusterUnusable_clusters _ _ _), State.cluster_of_clusters (State.event_clusters _ _ _ _),
    State.cluster_of_clusters (foldl_modCore_clusters _ _ _ _)]
  exact s.isolated_modCluster c d fun _ => by rfl

theorem State.clearWake_isolated (s : State) (c d : Nat) : ((s.clearWake c).cluster d).isolated = (s.cluster d).isolated := by
  unfold State.clearWake
  dsimp only
  split
  · rw [State.cluster_of_clusters (State.modIsland_clusters _ _ _), State.isolated_modCluster _ _ _ fun _ => by rfl]
    rfl
  · rw [State.isolated_modCluster _ _ _ fun _ => by rfl]
    rfl

theorem State.clearStores_isolated (s : State) (c d : Nat) : ((s.clearStores c).cluster d).isolated = (s.cluster d).isolated := by
  unfold State.clearStores
  rw [State.cluster_of_clusters (foldl_keeps (f := fun t p => State.zero t _ _) State.clusters (fun t p => t.store_clusters _ _ _) _ _)]
  exact s.isolated_modCluster c d fun _ => by rfl

theorem State.darken_isolated (s : State) (c d : Nat) : ((s.darken c).cluster d).isolated = (s.cluster d).isolated := by
  have dark : ∀ t f, (∀ x : Cluster, (f x).isolated = x.isolated) →
      ((((t : State).stopArrays c).modCluster c f).clearStores c |>.cluster d).isolated = (t.cluster d).isolated := fun t f hf => by
    rw [State.clearStores_isolated, State.isolated_modCluster _ c d hf, State.stopArrays,
      State.cluster_of_clusters (foldl_modCore_clusters _ _ _ t)]
  unfold State.darken
  dsimp only
  split
  · rw [State.loseCluster_isolated, dark _ _ fun _ => by rfl, State.clearWake_isolated]
  · rw [dark _ _ fun _ => by rfl, State.clearWake_isolated]

@[simp] theorem State.logRequest_clusters (s : State) (u : W64) (source : Byte) (ev : W16) :
    (s.logRequest u source ev).clusters = s.clusters := by
  unfold State.logRequest
  dsimp only
  split
  · rfl
  · split <;> rfl

theorem getLsbD_or_bit {n p : Nat} (h : p < n) (x : BitVec n) : (x ||| BitVec.ofNat n (2 ^ p)).getLsbD p = true := by
  have e : (BitVec.ofNat n (2 ^ p)).getLsbD p = true := by
    rw [BitVec.getLsbD_ofNat, Nat.testBit_two_pow_self, Bool.and_true, decide_eq_true h]
  rw [BitVec.getLsbD_or, e, Bool.or_true]

@[simp] theorem State.logRequest_cluster (s : State) (u : W64) (source : Byte) (ev : W16) (c : Nat) :
    (s.logRequest u source ev).cluster c = s.cluster c := State.cluster_of_clusters (s.logRequest_clusters _ _ _) c

@[simp] theorem State.phaseEvent_cluster (s : State) (u : W64) (left limit : Nat) (p : Option Nat) (c : Nat) :
    (s.phaseEvent u left limit p).cluster c = s.cluster c := State.cluster_of_clusters (s.event_clusters _ _ _) c

/-- A phase of a region that fails is isolated, whatever it takes with it (12 R337, R338). -/
theorem regionPhaseLost_isolates (c : Nat) {p : Nat} (h : p < 12) (s : State) :
    ((regionPhaseLost c p s).cluster c).isolated.getLsbD p = true := by
  have bit := getLsbD_or_bit h (s.cluster c).isolated
  unfold regionPhaseLost
  dsimp only
  split
  next held => exact held.resolve_left (by omega)
  next =>
    split
    · rw [State.darken_isolated]
      split <;> simp only [State.phaseEvent_cluster, State.logRequest_cluster, State.cluster_modCluster, bit]
    · split <;> simp only [State.phaseEvent_cluster, State.logRequest_cluster, State.cluster_modCluster, bit]

/-! ### What a start's appends leave of the field defect log (11 R319) -/

/-- The log took appends of the units `us` alone, each once. -/
def DefectLog.Appends (us : List W64) (l l' : DefectLog) : Prop :=
  ∃ new, l'.units = l.units ++ new ∧ new.Nodup ∧ ∀ u ∈ new, u ∈ us ∧ u ∉ l.units

section
variable {us vs : List W64} {k l m : DefectLog}

theorem DefectLog.Appends.refl (us : List W64) (l : DefectLog) : l.Appends us l := ⟨[], by simp⟩

theorem DefectLog.Appends.trans (h : k.Appends us l) (h' : l.Appends us m) : k.Appends us m := by
  obtain ⟨n, e, nd, hn⟩ := h
  obtain ⟨n', e', nd', hn'⟩ := h'
  rw [e, List.append_assoc] at e'
  refine ⟨n ++ n', e', List.nodup_append.2 ⟨nd, nd', fun a ha b hb hab => (hn' b hb).2 ?_⟩, fun u hu => ?_⟩
  · rw [e, ← hab]
    exact List.mem_append_right _ ha
  · rcases List.mem_append.1 hu with hu | hu
    · exact hn u hu
    · exact ⟨(hn' u hu).1, fun hk => (hn' u hu).2 (by rw [e]; exact List.mem_append_left _ hk)⟩

theorem DefectLog.Appends.mono (hs : us ⊆ vs) (h : l.Appends us m) : l.Appends vs m := by
  obtain ⟨n, e, nd, hn⟩ := h
  exact ⟨n, e, nd, fun u hu => ⟨hs (hn u hu).1, (hn u hu).2⟩⟩

theorem DefectLog.Appends.keeps (h : l.Appends us m) {u : W64} (hu : u ∈ l.units) : u ∈ m.units := by
  obtain ⟨n, e, -⟩ := h
  rw [e]
  exact List.mem_append_left _ hu

theorem DefectLog.Appends.units_eq (h : l.Appends [] m) : m.units = l.units := by
  obtain ⟨n, e, -, hn⟩ := h
  cases n with
  | nil => rwa [List.append_nil] at e
  | cons u n => exact absurd (hn u (by simp)).1 (by simp)

theorem DefectLog.Appends.length_le (h : l.Appends us m) : m.units.length ≤ l.units.length + us.length := by
  obtain ⟨n, e, nd, hn⟩ := h
  have := (nd.subperm fun u hu => (hn u hu).1).length_le
  rw [e, List.length_append]
  omega

/-- A property that none of the appended units has holds of some unit afterwards where it did before. -/
theorem DefectLog.Appends.any_iff (h : l.Appends us m) {p : W64 → Prop} (hp : ∀ u ∈ us, ¬ p u) :
    (∃ u ∈ m.units, p u) ↔ ∃ u ∈ l.units, p u := by
  refine ⟨fun ⟨u, hu, hpu⟩ => ?_, fun ⟨u, hu, hpu⟩ => ⟨u, h.keeps hu, hpu⟩⟩
  obtain ⟨n, e, -, hn⟩ := h
  rw [e] at hu
  rcases List.mem_append.1 hu with hu | hu
  · exact ⟨u, hu, hpu⟩
  · exact absurd hpu (hp u (hn u hu).1)

end

/-- An append asked for: the unit stood in the log, or the log is full, or the unit stands last. -/
theorem State.logRequest_log (s : State) (u : W64) (source : Byte) (ev : W16) :
    let t := s.logRequest u source ev
    (u ∈ s.log.units ∧ t.log = s.log) ∨
    (u ∉ s.log.units ∧ ((260096 ≤ s.log.units.length ∧ t.log.units = s.log.units) ∨ t.log.units = s.log.units ++ [u])) := by
  have held : ((s.log.entries ++ s.log.waiting).any fun e => e.unit == u) = true ↔ u ∈ s.log.units := by
    simp [DefectLog.units]
  dsimp only
  unfold State.logRequest
  dsimp only
  split
  next h => exact .inl ⟨held.1 h, rfl⟩
  next h =>
    refine .inr ⟨fun hu => h (held.2 hu), ?_⟩
    split
    next full => exact .inl ⟨by simpa [DefectLog.units] using full, rfl⟩
    next => exact .inr (by simp [DefectLog.units])

theorem State.logRequest_appends (s : State) (u : W64) (source : Byte) (ev : W16) : s.log.Appends [u] (s.logRequest u source ev).log := by
  rcases s.logRequest_log u source ev with ⟨-, e⟩ | ⟨hu, ⟨-, e⟩ | e⟩
  · rw [e]
    exact .refl _ _
  · exact ⟨[], by simp [e]⟩
  · exact ⟨[u], e, by simp, by simpa using hu⟩

/-- A log with room lists the unit afterwards. -/
theorem State.logRequest_lists {s : State} (h : s.log.units.length < 260096) (u : W64) (source : Byte) (ev : W16) :
    u ∈ (s.logRequest u source ev).log.units := by
  rcases s.logRequest_log u source ev with ⟨hu, e⟩ | ⟨-, ⟨full, -⟩ | e⟩
  · rwa [e]
  · omega
  · simp [e]

/-! ### Unit codes (11 R306) -/

theorem unitCode_toNat {k a b : Nat} (hk : k < 256) (ha : a < 256) (hb : b < 256) :
    (unitCode k a b 0).toNat = k + a * 256 + b * 65536 := by
  rw [unitCode, BitVec.toNat_ofNat, Nat.mod_eq_of_lt (by omega)]
  omega

theorem unitByte_unitCode {k a b : Nat} (hk : k < 256) (ha : a < 256) (hb : b < 256) :
    unitByte (unitCode k a b 0) 0 = k ∧ unitByte (unitCode k a b 0) 1 = a ∧ unitByte (unitCode k a b 0) 2 = b := by
  simp only [unitByte, unitCode_toNat hk ha hb]
  omega

/-- The units that the bring-up of an island can list: its slots and the stacks (11 R312, 12 R339). -/
def islandUnits (i : Nat) : List W64 :=
  ((List.range 4).flatMap fun b => (List.range 14).map fun k => unitCode 0x02 (i * 4 + b) k 0) ++
    (List.range 16).map fun k => unitCode 0x09 k 0 0

theorem islandUnits_length (i : Nat) : (islandUnits i).length = 72 := rfl

theorem slotUnit_mem (i : Nat) (b : Fin 4) (k : Fin 14) : unitCode 0x02 (i * 4 + b.val) k.val 0 ∈ islandUnits i :=
  List.mem_append_left _ (List.mem_flatMap.2 ⟨b.val, by simp, List.mem_map.2 ⟨k.val, by simp, rfl⟩⟩)

theorem stackUnit_mem (i : Nat) {k : Nat} (h : k < 16) : unitCode 0x09 k 0 0 ∈ islandUnits i :=
  List.mem_append_right _ (List.mem_map.2 ⟨k, by simpa using h, rfl⟩)

/-- Each names a slot of the island, or a stack. -/
theorem islandUnits_kind {i : Nat} (hi : i < 12) {u : W64} (h : u ∈ islandUnits i) :
    (unitByte u 0 = 2 ∧ unitByte u 1 / 4 = i) ∨ unitByte u 0 = 9 := by
  rcases List.mem_append.1 h with h | h
  · obtain ⟨b, hb, h⟩ := List.mem_flatMap.1 h
    obtain ⟨k, hk, rfl⟩ := List.mem_map.1 h
    simp only [List.mem_range] at hb hk
    obtain ⟨h0, h1, -⟩ := unitByte_unitCode (k := 2) (a := i * 4 + b) (b := k) (by omega) (by omega) (by omega)
    exact .inl ⟨h0, by omega⟩
  · obtain ⟨k, hk, rfl⟩ := List.mem_map.1 h
    simp only [List.mem_range] at hk
    exact .inr (unitByte_unitCode (by omega) (by omega) (by omega)).1

theorem State.fieldBad_iff (s : State) (c i : Nat) :
    s.fieldBad c i = true ↔ ∃ u ∈ s.log.units, unitByte u 0 = 2 ∧ unitByte u 1 = c ∧ unitByte u 2 = i := by
  have e : s.loggedUnits 0x02 = s.log.units.filter fun u => unitByte u 0 == 2 := rfl
  simp [State.fieldBad, e]

theorem State.cccLogged_iff (s : State) (c : Nat) :
    s.cccLogged c = true ↔ ∃ u ∈ s.log.units, unitByte u 0 = 3 ∧ unitByte u 1 = c := by
  have e : s.loggedUnits 0x03 = s.log.units.filter fun u => unitByte u 0 == 3 := rfl
  simp [State.cccLogged, e]

/-! ### What the work of a wave keeps -/

/-- `t` came from `s` within stage 3: fuses and configuration memory stand, the start goes on where it was, and the log took appends of
the units `us` alone. -/
structure State.InStart (us : List W64) (s t : State) : Prop where
  nv : t.nv = s.nv
  active : t.start.active = s.start.active
  stage : t.start.stage = s.start.stage
  waveMs : t.start.waveMs = s.start.waveMs
  log : s.log.Appends us t.log

/-- Work beside the spare table: no cluster and no core changes. -/
structure State.Prepares (us : List W64) (s t : State) : Prop extends State.InStart us s t where
  clusters : t.clusters = s.clusters
  cores : t.cores = s.cores

/-- Work on the spare table: no region's phases change. -/
structure State.BringsUp (us : List W64) (s t : State) : Prop extends State.InStart us s t where
  isolated : ∀ c, (t.cluster c).isolated = (s.cluster c).isolated

section
variable {us vs : List W64} {s t u : State}

theorem State.InStart.refl (us : List W64) (s : State) : s.InStart us s := ⟨rfl, rfl, rfl, rfl, .refl _ _⟩

theorem State.InStart.trans (h : s.InStart us t) (k : t.InStart us u) : s.InStart us u :=
  ⟨k.nv.trans h.nv, k.active.trans h.active, k.stage.trans h.stage, k.waveMs.trans h.waveMs, h.log.trans k.log⟩

theorem State.InStart.mono (hs : us ⊆ vs) (h : s.InStart us t) : s.InStart vs t := ⟨h.nv, h.active, h.stage, h.waveMs, h.log.mono hs⟩

theorem State.InStart.foldl {β : Type} {f : State → β → State} {l : List β} (hf : ∀ x ∈ l, ∀ t : State, t.InStart us (f t x)) (s : State) :
    s.InStart us (l.foldl f s) := foldl_related (.refl us) (fun h k => h.trans k) hf s

theorem State.Prepares.refl (us : List W64) (s : State) : s.Prepares us s := ⟨.refl _ _, rfl, rfl⟩

theorem State.Prepares.trans (h : s.Prepares us t) (k : t.Prepares us u) : s.Prepares us u :=
  ⟨h.toInStart.trans k.toInStart, k.clusters.trans h.clusters, k.cores.trans h.cores⟩

theorem State.Prepares.mono (hs : us ⊆ vs) (h : s.Prepares us t) : s.Prepares vs t := ⟨h.toInStart.mono hs, h.clusters, h.cores⟩

theorem State.Prepares.of_mem {v : W64} (hv : v ∈ us) (h : s.Prepares [v] t) : s.Prepares us t := h.mono (by simpa using hv)

theorem State.Prepares.foldl {β : Type} {f : State → β → State} {l : List β} (hf : ∀ x ∈ l, ∀ t : State, t.Prepares us (f t x)) (s : State) :
    s.Prepares us (l.foldl f s) := foldl_related (.refl us) (fun h k => h.trans k) hf s

/-- What touches none of the parts looked at goes on with the work. -/
theorem State.Prepares.beside (h : s.Prepares us t) (hnv : u.nv = t.nv) (hs : u.start = t.start) (hl : u.log = t.log)
    (hc : u.clusters = t.clusters) (hk : u.cores = t.cores) : s.Prepares us u :=
  ⟨⟨hnv.trans h.nv, hs ▸ h.active, hs ▸ h.stage, hs ▸ h.waveMs, hl ▸ h.log⟩, hc.trans h.clusters, hk.trans h.cores⟩

theorem State.Prepares.bringsUp (h : s.Prepares us t) : s.BringsUp us t :=
  ⟨h.toInStart, fun c => by rw [State.cluster_of_clusters h.clusters]⟩

theorem State.BringsUp.refl (us : List W64) (s : State) : s.BringsUp us s := ⟨.refl _ _, fun _ => rfl⟩

theorem State.BringsUp.trans (h : s.BringsUp us t) (k : t.BringsUp us u) : s.BringsUp us u :=
  ⟨h.toInStart.trans k.toInStart, fun c => (k.isolated c).trans (h.isolated c)⟩

theorem State.BringsUp.mono (hs : us ⊆ vs) (h : s.BringsUp us t) : s.BringsUp vs t := ⟨h.toInStart.mono hs, h.isolated⟩

theorem State.BringsUp.foldl {β : Type} {f : State → β → State} {l : List β} (hf : ∀ x ∈ l, ∀ t : State, t.BringsUp us (f t x)) (s : State) :
    s.BringsUp us (l.foldl f s) := foldl_related (.refl us) (fun h k => h.trans k) hf s

/-- A control core is logged afterwards where it was before: no bring-up lists one. -/
theorem State.InStart.cccLogged (h : s.InStart us t) (hu : ∀ u ∈ us, unitByte u 0 ≠ 3) (c : Nat) : t.cccLogged c = s.cccLogged c := by
  rw [Bool.eq_iff_iff, State.cccLogged_iff, State.cccLogged_iff]
  exact h.log.any_iff fun u hm hc => hu u hm hc.1

/-- The slots of a cluster that no append named are field-bad where they were before. -/
theorem State.InStart.fieldBad (h : s.InStart us t) {c : Nat} (hu : ∀ u ∈ us, unitByte u 0 = 2 → unitByte u 1 ≠ c) (i : Nat) :
    t.fieldBad c i = s.fieldBad c i := by
  rw [Bool.eq_iff_iff, State.fieldBad_iff, State.fieldBad_iff]
  exact h.log.any_iff fun u hm hc => hu u hm hc.1 hc.2.1

theorem State.Notifies.prepares (h : s.Notifies t) (us : List W64) : s.Prepares us t := by
  unfold State.Notifies at h
  rw [h]
  exact ⟨⟨rfl, rfl, rfl, rfl, .refl _ _⟩, rfl, rfl⟩

end

/-! ### Findings of an island (11 R310 to R312, 12 R339) -/

section
variable (s : State)

theorem State.leftOut_prepares (us : List W64) (u : W64) (code : W16) : s.Prepares us (s.leftOut u code) :=
  ⟨⟨rfl, rfl, rfl, rfl, .refl _ _⟩, rfl, rfl⟩

theorem State.modPort_prepares (us : List W64) (n d : Nat) (f : PortSet → PortSet) : s.Prepares us (s.modPort n d f) :=
  ⟨⟨rfl, rfl, rfl, rfl, .refl _ _⟩, rfl, rfl⟩

theorem State.logRequest_prepares (u : W64) (source : Byte) (ev : W16) : s.Prepares [u] (s.logRequest u source ev) := by
  have kept : ∀ {γ : Type} (g : State → γ), (∀ (t : State) l, g { t with log := l } = g t) → g (s.logRequest u source ev) = g s := by
    intro γ g hg
    unfold State.logRequest
    dsimp only
    split
    · rfl
    · split <;> exact hg _ _
  exact ⟨⟨kept State.nv fun _ _ => rfl, kept (·.start.active) fun _ _ => rfl, kept (·.start.stage) fun _ _ => rfl,
    kept (·.start.waveMs) fun _ _ => rfl, s.logRequest_appends u source ev⟩,
    kept State.clusters fun _ _ => rfl, kept State.cores fun _ _ => rfl⟩

theorem State.loseStack_prepares (k cause : Nat) : s.Prepares [unitCode 0x09 k 0 0] (s.loseStack k cause) := by
  unfold State.loseStack
  dsimp only
  split
  · exact .refl _ _
  · refine State.Prepares.trans ?_ ((State.event_notifies _ _ _ _).prepares _)
    refine State.Prepares.trans ?_ (State.logRequest_prepares _ _ _ _)
    exact (State.Prepares.refl _ s).beside rfl rfl rfl rfl rfl

theorem State.engineOut_notifies (e : Nat) : s.Notifies (s.engineOut e) := by
  unfold State.engineOut
  dsimp only
  split
  · exact (s.modEngine_notifies e _).trans (State.event_notifies _ _ _ _)
  · split
    · exact s.modEngine_notifies e _
    · exact .refl s

theorem State.attachStops_prepares (i : Nat) : s.Prepares (islandUnits i) (s.attachStops i) := by
  unfold State.attachStops
  dsimp only
  have lost : ∀ p : Nat → Bool, s.Prepares (islandUnits i) (((List.range 16).filter p).foldl (fun t k => t.loseStack k 2) s) :=
    fun p => State.Prepares.foldl (fun k hk t =>
      (t.loseStack_prepares k 2).of_mem (stackUnit_mem i (List.mem_range.1 (List.mem_of_mem_filter hk)))) s
  have out : ∀ (l : List Nat) (t : State), t.Prepares (islandUnits i) (l.foldl (fun t e => t.engineOut e) t) :=
    fun l t => State.Prepares.foldl (fun e _ t => (t.engineOut_notifies e).prepares _) t
  have both := (lost fun k => clusterAt (attachNode k) / 4 == i).trans
    (out ((List.range 24).filter fun e => clusterAt (engineNode e) / 4 == i) _)
  split
  · exact both.beside rfl rfl rfl rfl rfl
  · exact both

/-- A slot found bad is listed (11 R312). -/
def State.slotListed (i : Nat) (b : Fin 4 × Fin 14) : State :=
  let u := unitCode 0x02 (i * 4 + b.1.val) b.2.val 0
  (s.logRequest u 0 0).leftOut u evCapacityChanged

/-- An attach domain without a phase stops (12 R339). -/
def State.attachChecked (i : Nat) : State := if (s.island i).attachIsolated = 0xFF then s.attachStops i else s

/-- Bad slots listed and the attach domain checked: what precedes the rows of an island whose wires all passed. -/
def State.findingsTaken (f : IslandFindings) : State := (f.badSlots.foldl (fun t b => t.slotListed f.island.val b) s).attachChecked f.island.val

theorem State.slotListed_prepares (i : Nat) (b : Fin 4 × Fin 14) : s.Prepares (islandUnits i) (s.slotListed i b) :=
  ((s.logRequest_prepares _ _ _).of_mem (slotUnit_mem i b.1 b.2)).trans (State.leftOut_prepares _ _ _ _)

theorem State.attachChecked_prepares (i : Nat) : s.Prepares (islandUnits i) (s.attachChecked i) := by
  unfold State.attachChecked
  split
  · exact s.attachStops_prepares i
  · exact .refl _ _

theorem State.findingsTaken_prepares (f : IslandFindings) : s.Prepares (islandUnits f.island.val) (s.findingsTaken f) :=
  (State.Prepares.foldl (fun b _ t => t.slotListed_prepares _ b) s).trans (State.attachChecked_prepares _ _)

/-- Each slot found bad stands in a log with room for the island's units. -/
theorem State.findingsTaken_lists {s : State} {f : IslandFindings} {b : Fin 4 × Fin 14} (hb : b ∈ f.badSlots)
    (room : s.log.units.length + 72 < 260096) : unitCode 0x02 (f.island.val * 4 + b.1.val) b.2.val 0 ∈ (s.findingsTaken f).log.units := by
  obtain ⟨xs, ys, e⟩ := List.append_of_mem hb
  refine (State.attachChecked_prepares _ _).log.keeps ?_
  rw [e, List.foldl_append, List.foldl_cons]
  refine (State.Prepares.foldl (us := islandUnits f.island.val) (fun y _ t => t.slotListed_prepares _ y) _).log.keeps ?_
  have before : s.Prepares (islandUnits f.island.val) (xs.foldl (fun t b => t.slotListed f.island.val b) s) :=
    State.Prepares.foldl (fun y _ t => t.slotListed_prepares _ y) s
  have := before.log.length_le
  rw [islandUnits_length] at this
  exact State.logRequest_lists (by omega) _ _ _

end

/-! ### A row of the spare table (01 R26, R37, 11 R312, R320) -/

/-- At most four phases of a region are out (12 R338). -/
@[reducible] def State.lit (t : State) (c : Nat) : Prop := bitCount (t.cluster c).isolated ≤ 4

/-- A cluster serves: twelve good slots, a region that runs, a control core of its pair. -/
@[reducible] def State.servesRow (t : State) (c : Nat) : Prop :=
  12 ≤ (t.goodSlots c).length ∧ t.lit c ∧ ¬ (t.cccLogged c = true ∧ t.cccLogged (partner c) = true)

/-- The spare table holds for a cluster what its good slots, its phases and its control cores make of it. -/
structure State.RowStands (t : State) (c : Nat) : Prop where
  lit : t.lit c → (t.cluster c).region = .running ∧ (t.cluster c).op = 1
  dark : ¬ t.lit c → (t.cluster c).region = .dark ∧ (t.cluster c).op = 0
  serves : t.servesRow c → (t.cluster c).map = (t.goodSlots c).take 12 ∧ (t.cluster c).active = 12 ∧
    (t.cluster c).reserves = (t.goodSlots c).length - 12
  out : ¬ t.servesRow c → (t.cluster c).map = List.replicate 12 0xF ∧ (t.cluster c).active = 0 ∧ (t.cluster c).reserves = 0
  slots : ∀ i < 14, (t.cluster c).slotState i =
    if t.factoryBad c i then 2 else if t.fieldBad c i then 3 else if t.servesRow c ∧ i ∉ (t.goodSlots c).take 12 then 1 else 0
  cores : t.servesRow c → ∀ p < 12, (t.core (c * 12 + p)).seq = .noTurn

/-- All that the row of a cluster is made from, and the row, are as they were. -/
structure State.SameRow (s t : State) (c : Nat) : Prop where
  cluster : t.cluster c = s.cluster c
  cores : ∀ p < 12, t.core (c * 12 + p) = s.core (c * 12 + p)
  nv : t.nv = s.nv
  fieldBad : ∀ i, t.fieldBad c i = s.fieldBad c i
  cccLogged : ∀ d, t.cccLogged d = s.cccLogged d

section
variable {s t u : State} {c d : Nat} {us : List W64}

theorem State.mem_goodSlots {i : Nat} (hi : i < 14) : i ∈ s.goodSlots c ↔ s.factoryBad c i = false ∧ s.fieldBad c i = false := by
  simp [State.goodSlots, hi]

theorem State.SameRow.factoryBad (h : s.SameRow t c) (i : Nat) : t.factoryBad c i = s.factoryBad c i := by
  rw [State.factoryBad, h.nv, State.factoryBad]

theorem State.SameRow.goodSlots (h : s.SameRow t c) : t.goodSlots c = s.goodSlots c := by
  simp only [State.goodSlots, h.factoryBad, h.fieldBad]

theorem State.SameRow.servesRow (h : s.SameRow t c) : t.servesRow c ↔ s.servesRow c := by
  simp only [State.servesRow, State.lit, h.goodSlots, h.cluster, h.cccLogged]

theorem State.RowStands.of_same (k : s.RowStands c) (h : s.SameRow t c) : t.RowStands c where
  lit := by simpa only [State.lit, h.cluster] using k.lit
  dark := by simpa only [State.lit, h.cluster] using k.dark
  serves := by simpa only [h.servesRow, h.cluster, h.goodSlots] using k.serves
  out := by simpa only [h.servesRow, h.cluster] using k.out
  slots := by simpa only [h.servesRow, h.cluster, h.goodSlots, h.factoryBad, h.fieldBad] using k.slots
  cores hs p hp := by rw [h.cores p hp]; exact k.cores (h.servesRow.1 hs) p hp

theorem State.SameRow.refl (s : State) (c : Nat) : s.SameRow s c := ⟨rfl, fun _ _ => rfl, rfl, fun _ => rfl, fun _ => rfl⟩

theorem State.SameRow.trans (h : s.SameRow t c) (k : t.SameRow u c) : s.SameRow u c :=
  ⟨k.cluster.trans h.cluster, fun p hp => (k.cores p hp).trans (h.cores p hp), k.nv.trans h.nv, fun i => (k.fieldBad i).trans (h.fieldBad i),
    fun d => (k.cccLogged d).trans (h.cccLogged d)⟩

theorem State.SameRow.foldl {β : Type} {f : State → β → State} {l : List β} (hf : ∀ x ∈ l, ∀ t : State, t.SameRow (f t x) c) (s : State) :
    s.SameRow (l.foldl f s) c :=
  foldl_related (R := fun s t => State.SameRow s t c) (fun s => .refl s c) (fun h k => h.trans k) hf s

theorem State.InStart.sameRow (h : s.InStart us t) (h3 : ∀ u ∈ us, unitByte u 0 ≠ 3) (h2 : ∀ u ∈ us, unitByte u 0 = 2 → unitByte u 1 ≠ c)
    (hc : t.cluster c = s.cluster c) (hk : ∀ p < 12, t.core (c * 12 + p) = s.core (c * 12 + p)) : s.SameRow t c :=
  ⟨hc, hk, h.nv, h.fieldBad h2, h.cccLogged h3⟩

/-- The cluster of a row that serves or not, with its region dark or not, from what the state gives. -/
def State.rowOf (s : State) (c : Nat) (serves dark : Bool) : Cluster := { s.cluster c with
  slots := (List.range 14).map fun i => (i, if s.factoryBad c i then 2 else if s.fieldBad c i then 3 else
    if serves && !((s.goodSlots c).take 12).contains i then 1 else 0)
  map := if serves then (s.goodSlots c).take 12 else List.replicate 12 0xF, active := if serves then 12 else 0
  reserves := if serves then (s.goodSlots c).length - 12 else 0, cccDown := s.cccLogged c
  skips := (List.range 14).filter fun i => s.factoryBad c i || s.fieldBad c i
  region := if dark then .dark else .running, op := if dark then 0 else 1 }

/-- The positions of a cluster stand without a turn. -/
def State.positionsServed (s : State) (c : Nat) : State :=
  (List.range 12).foldl (fun t p => t.modCore (c * 12 + p) fun k => { k with seq := .noTurn }) s

/-- The cluster that `buildRow` gives a row. -/
def State.rowBuilt (s : State) (c : Nat) : Cluster := s.rowOf c (decide (s.servesRow c)) (decide ¬ s.lit c)

/-- A row takes its cluster, its positions where it serves, and a mark where it does not or lost its control core. -/
theorem State.buildRow_prepares (us : List W64) (s : State) (c : Nat) :
    (if decide (s.servesRow c) then (s.setCluster c (s.rowBuilt c)).positionsServed c else s.setCluster c (s.rowBuilt c)).Prepares us
      (s.buildRow c) := by
  have dark : decide (12 - bitCount (s.cluster c).isolated ≤ 7) = decide ¬ s.lit c := by
    rw [decide_eq_decide]; omega
  have serves : (decide (12 ≤ (s.goodSlots c).length) && !decide (¬ s.lit c) && !(s.cccLogged c && s.cccLogged (partner c))) =
      decide (s.servesRow c) := by
    rw [Bool.eq_iff_iff]; simp [and_assoc]
  unfold State.buildRow State.rowBuilt
  simp only [dark, serves]
  generalize decide (s.servesRow c) = b
  generalize decide (¬ s.lit c) = d
  cases b with
  | false => exact State.leftOut_prepares _ _ _ _
  | true =>
    simp only [Bool.not_true, Bool.false_eq_true, if_true, if_false]
    split
    · exact State.leftOut_prepares _ _ _ _
    · exact State.Prepares.refl _ _

theorem State.positionsServed_inStart (us : List W64) (s : State) (c : Nat) : s.InStart us (s.positionsServed c) :=
  State.InStart.foldl (f := fun t p => t.modCore (c * 12 + p) _) (fun _ _ _ => ⟨rfl, rfl, rfl, rfl, .refl _ _⟩) s

theorem State.positionsServed_clusters (s : State) (c : Nat) : (s.positionsServed c).clusters = s.clusters := foldl_modCore_clusters _ _ _ s

theorem State.buildRow_clusters (s : State) (c : Nat) : (s.buildRow c).clusters = (s.setCluster c (s.rowBuilt c)).clusters := by
  rw [(s.buildRow_prepares [] c).clusters]
  split
  · rw [State.positionsServed_clusters]
  · rfl

theorem State.buildRow_cluster (s : State) (c : Nat) : (s.buildRow c).cluster c = s.rowBuilt c := by
  rw [State.cluster_of_clusters (s.buildRow_clusters c), State.cluster_setCluster]

theorem State.buildRow_cluster_other (s : State) {c d : Nat} (h : d ≠ c) : (s.buildRow c).cluster d = s.cluster d := by
  rw [State.cluster_of_clusters (s.buildRow_clusters c), State.cluster_setCluster_other _ _ h]

theorem State.buildRow_inStart (us : List W64) (s : State) (c : Nat) : s.InStart us (s.buildRow c) := by
  have set : s.InStart us (s.setCluster c (s.rowBuilt c)) := ⟨rfl, rfl, rfl, rfl, .refl _ _⟩
  refine State.InStart.trans ?_ (s.buildRow_prepares us c).toInStart
  split
  · exact set.trans (State.positionsServed_inStart us _ c)
  · exact set

theorem State.buildRow_bringsUp (us : List W64) (s : State) (c : Nat) : s.BringsUp us (s.buildRow c) := by
  refine ⟨s.buildRow_inStart us c, fun d => ?_⟩
  by_cases h : d = c
  · rw [h, State.buildRow_cluster]
    rfl
  · rw [s.buildRow_cluster_other h]

theorem State.core_of_cores {s t : State} (h : t.cores = s.cores) (L : Nat) : t.core L = s.core L := by rw [State.core, h, State.core]

theorem State.buildRow_core_other (s : State) {c L : Nat} (h : L / 12 ≠ c) : (s.buildRow c).core L = s.core L := by
  rw [State.core_of_cores (s.buildRow_prepares [] c).cores]
  split
  · refine foldl_related (R := fun s t => State.core t L = State.core s L) (fun _ => rfl) (fun h k => k.trans h) (fun p hp t => ?_) _
    have := List.mem_range.1 hp
    exact t.core_modCore_other _ (by omega)
  · rfl

theorem State.buildRow_core_served {s : State} {c : Nat} (h : s.servesRow c) {p : Nat} (hp : p < 12) :
    ((s.buildRow c).core (c * 12 + p)).seq = .noTurn := by
  rw [State.core_of_cores (s.buildRow_prepares [] c).cores, if_pos (decide_eq_true h)]
  refine foldl_establishes (P := fun t => (State.core t (c * 12 + p)).seq = .noTurn) (List.mem_range.2 hp) (fun t => ?_) (fun q _ hq t ht => ?_) _
  · rw [State.core_modCore]
  · rwa [State.core_modCore_other _ _ (by omega)]

/-- A row leaves every other row as it is. -/
theorem State.buildRow_sameRow (s : State) {c d : Nat} (h : d ≠ c) : s.SameRow (s.buildRow c) d :=
  (s.buildRow_inStart [] c).sameRow (by simp) (by simp) (s.buildRow_cluster_other h) fun p hp => s.buildRow_core_other (by omega)

theorem getD_map_key {α : Type} {l : List Nat} {k : Nat} (h : k ∈ l) (f : Nat → α) (d : α) :
    SMap.getD (l.map fun i => (i, f i)) k d = f k := by
  induction l with
  | nil => cases h
  | cons a l ih =>
    rw [List.map_cons, SMap.getD_cons]
    split
    next e => rw [e]
    next e => exact ih ((List.mem_cons.1 h).resolve_left (Ne.symm e))

/-- The row that is built stands. -/
theorem State.buildRow_stands (s : State) (c : Nat) : (s.buildRow c).RowStands c := by
  have kept := s.buildRow_inStart [] c
  have factory : ∀ i, (s.buildRow c).factoryBad c i = s.factoryBad c i := fun i => by rw [State.factoryBad, kept.nv, State.factoryBad]
  have field : ∀ i, (s.buildRow c).fieldBad c i = s.fieldBad c i := kept.fieldBad (by simp)
  have good : (s.buildRow c).goodSlots c = s.goodSlots c := by simp only [State.goodSlots, factory, field]
  have lit : (s.buildRow c).lit c ↔ s.lit c := by rw [State.lit, (s.buildRow_bringsUp [] c).isolated]
  have serves : (s.buildRow c).servesRow c ↔ s.servesRow c := by
    simp only [State.servesRow, lit, good, kept.cccLogged (by simp)]
  refine ⟨fun h => ?_, fun h => ?_, fun h => ?_, fun h => ?_, fun i hi => ?_, fun h p hp => s.buildRow_core_served (serves.1 h) hp⟩
  · simp [s.buildRow_cluster, State.rowBuilt, State.rowOf, lit.1 h]
  · simp [s.buildRow_cluster, State.rowBuilt, State.rowOf, mt lit.2 h]
  · simp only [s.buildRow_cluster, State.rowBuilt, State.rowOf, decide_eq_true (serves.1 h), if_true, good, and_self]
  · simp only [s.buildRow_cluster, State.rowBuilt, State.rowOf, decide_eq_false (mt serves.2 h), Bool.false_eq_true, if_false, and_self]
  · have e : (s.rowBuilt c).slotState i = _ := getD_map_key (List.mem_range.2 hi) _ 0
    simp only [congrArg (Cluster.slotState · i) (s.buildRow_cluster c), e, factory, field, serves, good,
      Bool.and_eq_true, decide_eq_true_eq, Bool.not_eq_true', List.contains_eq_mem, decide_eq_false_iff_not]

end

/-! ### An island comes up (11 R310 to R312) -/

/-- The four rows of an island. -/
def State.rowsBuilt (s : State) (i : Nat) : State := [i * 4, i * 4 + 1, i * 4 + 2, i * 4 + 3].foldl State.buildRow s

/-- An island whose wires all passed: its phases, its other findings, its rows. -/
theorem State.bringUp_of_no_wires {f : IslandFindings} (h : f.wires = []) (s : State) :
    s.bringUp f = ((f.lostPhases.foldl (fun t p => t.phaseAtStart f.island.val p.1.val p.2.val) s).findingsTaken f).rowsBuilt f.island.val := by
  have e : IslandFindings.sides f = [] := by rw [IslandFindings.sides, h]; rfl
  unfold State.bringUp
  rw [e]
  rfl

/-- An island without a finding on its wires and phases. -/
theorem State.bringUp_clean {f : IslandFindings} (h : f.wires = [] ∧ f.lostPhases = []) (s : State) :
    s.bringUp f = (s.findingsTaken f).rowsBuilt f.island.val := by
  rw [State.bringUp_of_no_wires h.1, h.2]
  rfl

theorem mem_islandRows {i c : Nat} : c ∈ [i * 4, i * 4 + 1, i * 4 + 2, i * 4 + 3] ↔ c / 4 = i := by
  simp only [List.mem_cons, List.not_mem_nil, or_false]
  omega

section
variable (s : State)

theorem State.rowsBuilt_bringsUp (us : List W64) (i : Nat) : s.BringsUp us (s.rowsBuilt i) :=
  State.BringsUp.foldl (fun c _ t => t.buildRow_bringsUp us c) s

theorem State.rowsBuilt_stands {c i : Nat} (h : c / 4 = i) : (s.rowsBuilt i).RowStands c :=
  foldl_establishes (P := fun t => State.RowStands t c) (mem_islandRows.2 h) (fun t => t.buildRow_stands c)
    (fun _ _ hd t ht => ht.of_same (t.buildRow_sameRow (Ne.symm hd))) s

theorem State.rowsBuilt_sameRow {c i : Nat} (h : c / 4 ≠ i) : s.SameRow (s.rowsBuilt i) c :=
  State.SameRow.foldl (fun d hd t => t.buildRow_sameRow (c := d) (d := c) fun e => h (mem_islandRows.1 (e ▸ hd))) s

variable {f : IslandFindings} (hf : f.wires = [] ∧ f.lostPhases = [])
include hf

theorem State.bringUp_bringsUp : s.BringsUp (islandUnits f.island.val) (s.bringUp f) := by
  rw [s.bringUp_clean hf]
  exact (s.findingsTaken_prepares f).bringsUp.trans (State.rowsBuilt_bringsUp _ _ _)

theorem State.bringUp_stands {c : Nat} (h : c / 4 = f.island.val) : (s.bringUp f).RowStands c := by
  rw [s.bringUp_clean hf]
  exact State.rowsBuilt_stands _ h

/-- An island leaves the rows of every other as they are. -/
theorem State.bringUp_sameRow {c : Nat} (h : c / 4 ≠ f.island.val) : s.SameRow (s.bringUp f) c := by
  have kinds := fun u => islandUnits_kind (u := u) f.island.isLt
  have kept := s.findingsTaken_prepares f
  rw [s.bringUp_clean hf]
  refine State.SameRow.trans (kept.toInStart.sameRow (fun u hu => ?_) (fun u hu h0 => ?_) (State.cluster_of_clusters kept.clusters c)
    fun p _ => State.core_of_cores kept.cores _) (State.rowsBuilt_sameRow _ h)
  · have := kinds u hu
    omega
  · have := kinds u hu
    omega

/-- Each slot that an island finds bad is field-bad from then on, where the log has room. -/
theorem State.bringUp_lists {s : State} {b : Fin 4 × Fin 14} (hb : b ∈ f.badSlots) (room : s.log.units.length + 72 < 260096) :
    unitCode 0x02 (f.island.val * 4 + b.1.val) b.2.val 0 ∈ (s.bringUp f).log.units := by
  rw [s.bringUp_clean hf]
  exact (State.rowsBuilt_bringsUp _ [] _).log.keeps (State.findingsTaken_lists hb room)

end

/-! ### What the fuses and the log select before the first wave (11 R316, R320) -/

section
variable (us : List W64) (s : State)

theorem State.fuseSpares_prepares : s.Prepares us s.fuseSpares := State.Prepares.foldl (fun _ _ t => t.modPort_prepares us _ _ _) s

theorem State.loggedSpares_prepares : s.Prepares us s.loggedSpares :=
  State.Prepares.foldl (fun _ _ t => (t.modPort_prepares us _ _ _).trans (State.leftOut_prepares _ _ _ _)) s

theorem State.halfStaysOut_prepares (n d : Nat) (h : Bool) : s.Prepares us (s.halfStaysOut n d h) := by
  unfold State.halfStaysOut
  dsimp only
  split
  · refine State.Prepares.trans ?_ (State.modPort_prepares _ us _ _ _)
    exact (State.Prepares.refl us s).beside rfl rfl rfl rfl rfl
  · exact (State.Prepares.refl us s).beside rfl rfl rfl rfl rfl

theorem State.loggedHalves_prepares : s.Prepares us s.loggedHalves := by
  refine State.Prepares.trans (State.Prepares.foldl (fun _ _ t => (t.halfStaysOut_prepares us _ _ _).trans (State.leftOut_prepares _ _ _ _)) s)
    (State.Prepares.foldl (fun u _ t => ?_) _)
  refine State.Prepares.trans ?_ (State.leftOut_prepares _ _ _ _)
  exact (State.Prepares.foldl (fun d _ w => w.halfStaysOut_prepares us _ d _) t).beside rfl rfl rfl rfl rfl

theorem State.countSeamTests_prepares (w : Nat) : s.Prepares us (s.countSeamTests w) := by
  refine State.Prepares.foldl (fun n _ t => State.Prepares.foldl (fun d _ u => ?_) t) s
  dsimp only
  split
  · exact .refl _ _
  · split
    · exact State.modPort_prepares _ _ _ _ _
    · exact .refl _ _

/-- A logged phase stays isolated. -/
def State.phaseTaken (u : W64) : State :=
  let i := unitByte u 1
  let p := unitByte u 3
  let t1 := match unitByte u 2 with
    | 4 => s.modIsland i fun x => { x with transitIsolated := x.transitIsolated ||| BitVec.ofNat 4 (2 ^ p) }
    | 5 => s.modIsland i fun x => { x with lagoonIsolated := x.lagoonIsolated ||| BitVec.ofNat 6 (2 ^ p) }
    | 6 => s.modIsland i fun x => { x with attachIsolated := x.attachIsolated ||| BitVec.ofNat 8 (2 ^ p) }
    | 7 => s.modIsland i fun x => { x with sectorIsolated := x.sectorIsolated ||| BitVec.ofNat 4 (2 ^ p) }
    | k => s.modCluster (i * 4 + k) fun x => { x with isolated := x.isolated ||| BitVec.ofNat 12 (2 ^ p) }
  t1.leftOut u evPhaseReserveLost

theorem State.loggedPhases_eq : s.loggedPhases = (s.loggedUnits 0x0D).foldl State.phaseTaken s := rfl

theorem State.phaseTaken_cases (u : W64) :
    (s.phaseTaken u).clusters = s.clusters ∧ 4 ≤ unitByte u 2 ∨
    (s.phaseTaken u).clusters = (s.modCluster (unitByte u 1 * 4 + unitByte u 2) fun x =>
      { x with isolated := x.isolated ||| BitVec.ofNat 12 (2 ^ unitByte u 3) }).clusters := by
  unfold State.phaseTaken
  dsimp only
  split
  next e => exact .inl ⟨rfl, e.ge⟩
  next e => exact .inl ⟨rfl, by omega⟩
  next e => exact .inl ⟨rfl, by omega⟩
  next e => exact .inl ⟨rfl, by omega⟩
  next => exact .inr rfl

theorem State.phaseTaken_inStart (u : W64) : s.InStart us (s.phaseTaken u) := by
  unfold State.phaseTaken
  dsimp only
  split <;> exact ⟨rfl, rfl, rfl, rfl, .refl _ _⟩

/-- A phase once isolated stays so. -/
theorem State.phaseTaken_keeps (u : W64) (c p : Nat) (h : (s.cluster c).isolated.getLsbD p = true) :
    ((s.phaseTaken u).cluster c).isolated.getLsbD p = true := by
  rcases s.phaseTaken_cases u with ⟨e, -⟩ | e
  · rwa [State.cluster_of_clusters e]
  · rw [State.cluster_of_clusters e]
    by_cases hc : c = unitByte u 1 * 4 + unitByte u 2
    · rw [hc] at h ⊢
      rw [State.cluster_modCluster, BitVec.getLsbD_or, h, Bool.true_or]
    · rwa [State.cluster_modCluster_other _ _ hc]

/-- The log's phase of a region is isolated. -/
theorem State.phaseTaken_sets {u : W64} (h2 : unitByte u 2 < 4) (h3 : unitByte u 3 < 12) :
    ((s.phaseTaken u).cluster (unitByte u 1 * 4 + unitByte u 2)).isolated.getLsbD (unitByte u 3) = true := by
  rcases s.phaseTaken_cases u with ⟨-, h⟩ | e
  · omega
  · rw [State.cluster_of_clusters e, State.cluster_modCluster]
    exact getLsbD_or_bit h3 _

end

/-! ### A wave (11 R309) -/

/-- What an island of a wave found: the first finding that names it, or nothing. -/
def waveFinding (found : List IslandFindings) (i : Nat) : IslandFindings := (found.find? fun f => f.island.val == i).getD (noFindings i)

def waveFindings (found : List IslandFindings) (w : Nat) : List IslandFindings := (waveIslands w).map (waveFinding found)

/-- The state before a wave's findings: the fuses' and the log's selection before the first, and the wire tests counted. -/
def State.waveBegun (s : State) : State :=
  (if s.start.wave = 0 then s.fuseSpares.loggedSpares.loggedHalves.loggedPhases else s).countSeamTests s.start.wave

/-- The islands of a wave are up. -/
def State.islandsUp (s : State) (found : List IslandFindings) : State := (waveFindings found s.start.wave).foldl State.bringUp s.waveBegun

/-- The wave is counted, with its time. -/
def State.waveUp (s : State) (found : List IslandFindings) (ms : Nat) : State :=
  let t := s.islandsUp found
  { t with start := { t.start with wave := s.start.wave + 1, waveMs := t.start.waveMs ++ [ms] } }

theorem passed_or_degraded (p : Prop) [Decidable p] : (if p then 1 else 2 : Nat) ≠ 3 := by
  split <;> omega

/-- How a wave ends: an island that failed ends the start; else the next wave begins, and the last one ends stage 3 by the nodes cut off. -/
theorem islandWaveDone_cases {s : State} (h : s.inStage 3 = true) (found : List IslandFindings) (ms : Nat) :
    let u := s.waveUp found ms
    let fs := waveFindings found s.start.wave
    ((∃ f ∈ fs, u.islandFails f = true) ∧ ∃ e, e.outcome = 3 ∧ islandWaveDone found ms s = u.endStage e) ∨
    ((∀ f ∈ fs, u.islandFails f = false) ∧
      ((s.start.wave < 4 ∧ islandWaveDone found ms s = u) ∨
        (4 ≤ s.start.wave ∧ ∃ e, (e.outcome = 3 ↔ u.cutNode ≠ none) ∧ islandWaveDone found ms s = u.endStage e))) := by
  have e : islandWaveDone found ms s = _ := if_neg (by simp [h])
  rw [e]
  dsimp only
  split
  next f hf => exact .inl ⟨⟨f, List.mem_of_find?_eq_some hf, List.find?_some hf⟩, _, rfl, rfl⟩
  next hf =>
    have none_fails : (waveFindings found s.start.wave).find? (fun f => (s.waveUp found ms).islandFails f) = none := hf
    refine .inr ⟨fun f hm => by simpa using List.find?_eq_none.1 none_fails f hm, ?_⟩
    split
    next hw => exact .inl ⟨hw, rfl⟩
    next hw =>
      refine .inr ⟨by omega, ?_⟩
      split
      next n hn =>
        have cut : (s.waveUp found ms).cutNode = some n := hn
        exact ⟨_, ⟨fun _ => by simp [cut], fun _ => rfl⟩, rfl⟩
      next hn =>
        exact ⟨_, ⟨fun h3 => absurd h3 (passed_or_degraded _), fun cut => absurd hn cut⟩, rfl⟩

/-! ### The islands of a wave and what they found (11 R309) -/

theorem waveIslands_bounds {w : Nat} (h : w < 5) : (waveIslands w).length ≤ 3 ∧ ∀ i ∈ waveIslands w, i < 12 := by
  revert w
  decide

section
variable {found : List IslandFindings} {w i : Nat}

theorem waveFinding_island (hi : i < 12) : (waveFinding found i).island.val = i := by
  unfold waveFinding
  cases h : found.find? fun f => f.island.val == i with
  | none => exact Nat.mod_eq_of_lt hi
  | some f => simpa using List.find?_some h

theorem waveFinding_of_find {f : IslandFindings} (h : (found.find? fun g => g.island.val == f.island.val) = some f) :
    waveFinding found f.island.val = f := by
  rw [waveFinding, h, Option.getD_some]

/-- An island that no finding names found nothing. -/
theorem waveFinding_mem (found : List IslandFindings) (i : Nat) : waveFinding found i ∈ found ∨ waveFinding found i = noFindings i := by
  unfold waveFinding
  cases h : found.find? fun f => f.island.val == i with
  | none => exact .inr rfl
  | some f => exact .inl (List.mem_of_find?_eq_some h)

theorem waveFinding_clean (h : ∀ f ∈ found, f.wires = [] ∧ f.lostPhases = []) (i : Nat) :
    (waveFinding found i).wires = [] ∧ (waveFinding found i).lostPhases = [] := by
  rcases waveFinding_mem found i with hm | e
  · exact h _ hm
  · rw [e]
    exact ⟨rfl, rfl⟩

theorem waveFinding_failed : (waveFinding found i).failed = true ↔ (found.find? fun f => f.island.val == i).map IslandFindings.failed = some true := by
  unfold waveFinding
  cases found.find? fun f => f.island.val == i with
  | none => simp [noFindings]
  | some f => simp

theorem mem_waveFindings (hi : i ∈ waveIslands w) : waveFinding found i ∈ waveFindings found w := List.mem_map_of_mem hi

/-- The findings of a wave are those of its islands, one of each. -/
theorem waveFindings_island (hw : w < 5) {g : IslandFindings} (hg : g ∈ waveFindings found w) :
    g.island.val ∈ waveIslands w ∧ waveFinding found g.island.val = g := by
  obtain ⟨j, hj, rfl⟩ := List.mem_map.1 hg
  rw [waveFinding_island ((waveIslands_bounds hw).2 j hj)]
  exact ⟨hj, rfl⟩

/-- An island fails with its transit or lagoon domain, or by its own finding (11 R301). -/
theorem State.islandFails_iff {u : State} (hi : i < 12) : u.islandFails (waveFinding found i) = true ↔
    (u.island i).transitIsolated = 0xF ∨ (u.island i).lagoonIsolated = 0x3F ∨
      ((found.find? fun f => f.island.val == i).map IslandFindings.failed) = some true := by
  rw [State.islandFails, waveFinding_island hi, ← waveFinding_failed]
  simp only [Bool.or_eq_true, beq_iff_eq]
  tauto

end

/-! ### Before the first wave and before each later one -/

section
variable {s : State}

theorem State.loggedPhases_inStart (us : List W64) (s : State) : s.InStart us s.loggedPhases :=
  State.InStart.foldl (f := State.phaseTaken) (fun u _ t => t.phaseTaken_inStart us u) s

theorem State.selected_prepares (us : List W64) (s : State) : s.Prepares us s.fuseSpares.loggedSpares.loggedHalves :=
  ((s.fuseSpares_prepares us).trans (State.loggedSpares_prepares _ _)).trans (State.loggedHalves_prepares _ _)

theorem State.waveBegun_inStart (us : List W64) (s : State) : s.InStart us s.waveBegun := by
  refine State.InStart.trans ?_ (State.countSeamTests_prepares us _ _).toInStart
  split
  · exact (s.selected_prepares us).toInStart.trans (State.loggedPhases_inStart us _)
  · exact .refl _ _

theorem State.waveBegun_prepares (us : List W64) (h : s.start.wave ≠ 0) : s.Prepares us s.waveBegun := by
  rw [State.waveBegun, if_neg h]
  exact State.countSeamTests_prepares us _ _

/-- Each region's phase that the log lists is isolated before the first wave (11 R320). -/
theorem State.waveBegun_logged (h : s.start.wave = 0) {u : W64} (hu : u ∈ s.loggedUnits 0x0D) (h2 : unitByte u 2 < 4) (h3 : unitByte u 3 < 12) :
    (s.waveBegun.cluster (unitByte u 1 * 4 + unitByte u 2)).isolated.getLsbD (unitByte u 3) = true := by
  rw [State.waveBegun, if_pos h, State.cluster_of_clusters (State.countSeamTests_prepares [] _ _).clusters, State.loggedPhases_eq]
  have listed : u ∈ s.fuseSpares.loggedSpares.loggedHalves.loggedUnits 0x0D := by
    change u ∈ (State.log _).units.filter _
    rwa [(s.selected_prepares []).log.units_eq]
  exact foldl_establishes (P := fun t => ((State.cluster t _).isolated.getLsbD _ = true)) listed (fun t => t.phaseTaken_sets h2 h3)
    (fun v _ _ t ht => t.phaseTaken_keeps v _ _ ht) _

end

/-! ### The islands of a wave are up -/

theorem waveFindings_clean {found : List IslandFindings} (clean : ∀ f ∈ found, f.wires = [] ∧ f.lostPhases = []) {w : Nat} {f : IslandFindings}
    (hf : f ∈ waveFindings found w) : f.wires = [] ∧ f.lostPhases = [] := by
  obtain ⟨i, -, rfl⟩ := List.mem_map.1 hf
  exact waveFinding_clean clean i

/-- The units that a wave can list. -/
def waveUnits (w : Nat) : List W64 := (waveIslands w).flatMap islandUnits

theorem waveUnits_length {w : Nat} (hw : w < 5) : (waveUnits w).length ≤ 216 := by
  have e : (waveUnits w).length = (waveIslands w).length * 72 := by
    simp [waveUnits, List.length_flatMap, islandUnits_length]
  have := (waveIslands_bounds hw).1
  omega

section
variable {s : State} {found : List IslandFindings} (hw : s.start.wave < 5) (clean : ∀ f ∈ found, f.wires = [] ∧ f.lostPhases = [])
include hw clean

/-- Islands of a wave that come up append units of that wave alone. -/
theorem bringUps_bringsUp {l : List IslandFindings} (hl : ∀ f ∈ l, f ∈ waveFindings found s.start.wave) (t : State) :
    t.BringsUp (waveUnits s.start.wave) (l.foldl State.bringUp t) :=
  State.BringsUp.foldl (fun f hf t => (t.bringUp_bringsUp (waveFindings_clean clean (hl f hf))).mono fun _ hu =>
    List.mem_flatMap.2 ⟨_, (waveFindings_island hw (hl f hf)).1, hu⟩) t

theorem State.islandsUp_bringsUp : s.waveBegun.BringsUp (waveUnits s.start.wave) (s.islandsUp found) :=
  bringUps_bringsUp hw clean (fun _ h => h) _

theorem State.islandsUp_inStart : s.InStart (waveUnits s.start.wave) (s.islandsUp found) :=
  (s.waveBegun_inStart _).trans (State.islandsUp_bringsUp hw clean).toInStart

/-- Each cluster of a wave has its row. -/
theorem State.islandsUp_stands {c : Nat} (hc : c / 4 ∈ waveIslands s.start.wave) : (s.islandsUp found).RowStands c := by
  have hi := waveFinding_island (found := found) ((waveIslands_bounds hw).2 _ hc)
  refine foldl_establishes (P := fun t => State.RowStands t c) (mem_waveFindings hc)
    (fun t => t.bringUp_stands (waveFinding_clean clean _) hi.symm) (fun g hg ne t ht => ht.of_same ?_) _
  refine t.bringUp_sameRow (waveFindings_clean clean hg) fun e => ne ?_
  rw [e, (waveFindings_island hw hg).2]

/-- Clusters of other islands stand as before the wave's findings. -/
theorem State.islandsUp_sameRow {c : Nat} (hc : c / 4 ∉ waveIslands s.start.wave) : s.waveBegun.SameRow (s.islandsUp found) c :=
  State.SameRow.foldl (fun _ hf t => t.bringUp_sameRow (waveFindings_clean clean hf) fun e => hc (e ▸ (waveFindings_island hw hf).1)) _

/-- Each slot that the wave finds bad is field-bad, where the log has room for the wave's units. -/
theorem State.islandsUp_lists {f : IslandFindings} (hf : f ∈ waveFindings found s.start.wave) {b : Fin 4 × Fin 14} (hb : b ∈ f.badSlots)
    (room : s.log.units.length < 260096 - 1000) : (s.islandsUp found).fieldBad (f.island.val * 4 + b.1.val) b.2.val = true := by
  have hi := f.island.isLt
  obtain ⟨h0, h1, h2⟩ := unitByte_unitCode (k := 2) (a := f.island.val * 4 + b.1.val) (b := b.2.val) (by omega) (by omega) (by omega)
  refine (State.fieldBad_iff _ _ _).2 ⟨_, ?_, h0, h1, h2⟩
  obtain ⟨xs, ys, e⟩ := List.append_of_mem hf
  have before : s.InStart (waveUnits s.start.wave) (xs.foldl State.bringUp s.waveBegun) :=
    (s.waveBegun_inStart _).trans (bringUps_bringsUp hw clean (fun g hg => by rw [e]; simp [hg]) _).toInStart
  have long := before.log.length_le
  have units := waveUnits_length hw
  rw [State.islandsUp, e, List.foldl_append, List.foldl_cons]
  exact (bringUps_bringsUp hw clean (fun g hg => by rw [e]; simp [hg]) _).log.keeps
    (State.bringUp_lists (waveFindings_clean clean hf) hb (by omega))

end

/-! ### A phase lost at bring-up (11 R310) -/

theorem State.phaseAtStart_region (s : State) {i d p : Nat} (h : d < 4) :
    s.phaseAtStart i d p = (regionPhaseLost (i * 4 + d) p s).leftOut (unitCode 0x0D i d p) evPhaseReserveLost := by
  match d, h with
  | 0, _ | 1, _ | 2, _ | 3, _ => rfl

/-- The island that lost it isolates it before its rows are built. -/
theorem State.bringUp_isolates (s : State) {f : IslandFindings} {d : Fin 8} {p : Fin 12} (hw : f.wires = []) (hp : f.lostPhases = [(d, p)])
    (hd : d.val < 4) : ((s.bringUp f).cluster (f.island.val * 4 + d.val)).isolated.getLsbD p.val = true := by
  rw [State.bringUp_of_no_wires hw, (State.rowsBuilt_bringsUp _ [] _).isolated,
    State.cluster_of_clusters (State.findingsTaken_prepares _ f).clusters, hp]
  change ((s.phaseAtStart f.island.val d.val p.val).cluster _).isolated.getLsbD _ = true
  rw [State.phaseAtStart_region s hd, State.cluster_of_clusters (State.leftOut_prepares _ [] _ _).clusters]
  exact regionPhaseLost_isolates _ p.isLt s

/-- It stays isolated while the wave's other islands come up. -/
theorem State.islandsUp_isolates {s : State} {f : IslandFindings} {d : Fin 8} {p : Fin 12} (hs : s.start.wave < 5)
    (hi : f.island.val ∈ waveIslands s.start.wave) (hw : f.wires = []) (hp : f.lostPhases = [(d, p)]) (hd : d.val < 4) :
    ((s.islandsUp [f]).cluster (f.island.val * 4 + d.val)).isolated.getLsbD p.val = true := by
  have self : waveFinding [f] f.island.val = f := waveFinding_of_find (by simp)
  have named : f ∈ waveFindings [f] s.start.wave := by simpa only [self] using mem_waveFindings (found := [f]) hi
  refine foldl_establishes (P := fun t => ((State.cluster t _).isolated.getLsbD _ = true)) named
    (fun t => t.bringUp_isolates hw hp hd) (fun g hg ne t ht => ?_) _
  have clean : g.wires = [] ∧ g.lostPhases = [] := by
    have found := waveFinding_mem [f] g.island.val
    rw [(waveFindings_island hs hg).2, List.mem_singleton] at found
    rw [found.resolve_left ne]
    exact ⟨rfl, rfl⟩
  rwa [(t.bringUp_bringsUp clean).isolated]

/-! ### The end of a wave and of stage 3 (11 R301, R309) -/

/-- `t` differs from `s` in the course of the start and in the alerts alone. -/
def State.OnlyStart (s t : State) : Prop := t = { s with start := t.start, chassis := t.chassis }

section
variable {s t : State}

theorem State.OnlyStart.trans {u : State} (h : s.OnlyStart t) (k : t.OnlyStart u) : s.OnlyStart u := by
  unfold State.OnlyStart at *
  rw [k, h]

theorem State.OnlyStart.sameRow (h : s.OnlyStart t) (c : Nat) : s.SameRow t c := by
  unfold State.OnlyStart at h
  rw [h]
  exact ⟨rfl, fun _ _ => rfl, rfl, fun _ => rfl, fun _ => rfl⟩

theorem State.OnlyStart.island (h : s.OnlyStart t) (i : Nat) : t.island i = s.island i := by
  unfold State.OnlyStart at h
  rw [h]
  rfl

theorem State.OnlyStart.cutNode (h : s.OnlyStart t) : t.cutNode = s.cutNode := by
  unfold State.OnlyStart at h
  rw [h]
  rfl

theorem State.endStage_onlyStart (s : State) (e : StageEnd) : s.OnlyStart (s.endStage e) := by
  unfold State.OnlyStart State.endStage
  dsimp only
  split <;> rfl

theorem State.endStage_wave (s : State) (e : StageEnd) : (s.endStage e).start.wave = s.start.wave := by
  unfold State.endStage
  dsimp only
  split <;> rfl

/-- A stage that failed ends the start. -/
theorem State.endStage_failed {e : StageEnd} (h : e.outcome = 3) :
    (s.endStage e).start.active = false ∧ (s.endStage e).start.failed = true ∧ (s.endStage e).start.stage = s.start.stage := by
  unfold State.endStage
  dsimp only
  rw [if_pos h]
  exact ⟨rfl, rfl, rfl⟩

/-- A stage that passed, degraded or not, gives way to the next. -/
theorem State.endStage_passed {e : StageEnd} (h : e.outcome ≠ 3) :
    (s.endStage e).start.active = s.start.active ∧ (s.endStage e).start.stage = s.start.stage + 1 := by
  unfold State.endStage
  dsimp only
  rw [if_neg h]
  exact ⟨rfl, rfl⟩

theorem exec_islandWaveDone (found : List IslandFindings) (ms : W16) (s : State) :
    exec (.islandWaveDone found ms) s = .next (islandWaveDone found ms.toNat s) := rfl

variable (h : s.inStage 3 = true) (found : List IslandFindings) (ms : Nat)
include h

/-- However it ends, a wave leaves its islands as they came up, and is counted. -/
theorem islandWaveDone_onlyStart : (s.islandsUp found).OnlyStart (islandWaveDone found ms s) ∧
    (islandWaveDone found ms s).start.wave = s.start.wave + 1 := by
  have up : (s.islandsUp found).OnlyStart (s.waveUp found ms) := rfl
  have ended : ∀ e, (s.islandsUp found).OnlyStart ((s.waveUp found ms).endStage e) ∧
      ((s.waveUp found ms).endStage e).start.wave = s.start.wave + 1 :=
    fun e => ⟨up.trans (State.endStage_onlyStart _ e), State.endStage_wave _ e⟩
  rcases islandWaveDone_cases h found ms with ⟨-, e, -, eq⟩ | ⟨-, ⟨-, eq⟩ | ⟨-, e, -, eq⟩⟩
  · exact eq ▸ ended e
  · exact eq ▸ ⟨up, rfl⟩
  · exact eq ▸ ended e

end

section
variable {s : State} (h : s.inStage 3 = true) (hw : s.start.wave < 5) {found : List IslandFindings}
  (clean : ∀ f ∈ found, f.wires = [] ∧ f.lostPhases = []) (ms : Nat)

/-- An island of the wave lost its transit or lagoon domain, or failed. -/
def State.WaveLost (t : State) (found : List IslandFindings) (w : Nat) : Prop :=
  ∃ i ∈ waveIslands w, (t.island i).transitIsolated = 0xF ∨ (t.island i).lagoonIsolated = 0x3F ∨
    ((found.find? fun f => f.island.val == i).map IslandFindings.failed) = some true

theorem State.inStage_start {n : Nat} (h : s.inStage n = true) : s.start.active = true ∧ s.start.stage = n := by
  simp only [State.inStage, Bool.and_eq_true, beq_iff_eq] at h
  exact h.1

include hw in
theorem State.waveLost_iff (u : State) :
    u.WaveLost found s.start.wave ↔ ∃ f ∈ waveFindings found s.start.wave, u.islandFails f = true := by
  have lt := (waveIslands_bounds hw).2
  constructor
  · rintro ⟨i, hi, fails⟩
    exact ⟨_, mem_waveFindings hi, (State.islandFails_iff (lt i hi)).2 fails⟩
  · rintro ⟨f, hf, fails⟩
    obtain ⟨hi, e⟩ := waveFindings_island hw hf
    exact ⟨_, hi, (State.islandFails_iff (lt _ hi)).1 (by rwa [e])⟩

include h hw clean

/-- How a wave leaves the start: over where an island is lost, in stage 3 before the last wave, after it in stage 4 or over by a node
that is cut off (11 R301). -/
theorem islandWaveDone_start {t : State} (ht : islandWaveDone found ms s = t) :
    (t.WaveLost found s.start.wave → t.start.active = false ∧ t.start.failed = true ∧ t.start.stage = 3) ∧
    (¬ t.WaveLost found s.start.wave → s.start.wave < 4 →
      t.start.active = true ∧ t.start.stage = 3 ∧ t.start.waveMs = s.start.waveMs ++ [ms]) ∧
    (¬ t.WaveLost found s.start.wave → s.start.wave = 4 → (t.cutNode = none → t.start.active = true ∧ t.start.stage = 4) ∧
      (t.cutNode ≠ none → t.start.active = false ∧ t.start.failed = true)) := by
  obtain ⟨active, stage⟩ := State.inStage_start h
  have kept := State.islandsUp_inStart hw clean
  have stage3 : (s.waveUp found ms).start.stage = 3 := kept.stage.trans stage
  have runs : (s.waveUp found ms).start.active = true := kept.active.trans active
  have only : (s.waveUp found ms).OnlyStart t := ht ▸ (islandWaveDone_onlyStart h found ms).1
  have lost : t.WaveLost found s.start.wave ↔ ∃ f ∈ waveFindings found s.start.wave, (s.waveUp found ms).islandFails f = true := by
    rw [← State.waveLost_iff hw]
    simp only [State.WaveLost, only.island]
  rw [lost, only.cutNode]
  rcases islandWaveDone_cases h found ms with ⟨failed, e, h3, eq⟩ | ⟨stood, ends⟩
  · obtain rfl : t = _ := ht.symm.trans eq
    have stops := State.endStage_failed (s := s.waveUp found ms) h3
    rw [stage3] at stops
    exact ⟨fun _ => stops, fun n => absurd failed n, fun n => absurd failed n⟩
  · refine ⟨fun ⟨f, hf, fails⟩ => absurd fails (by rw [stood f hf]; exact Bool.false_ne_true), fun _ w4 => ?_, fun _ w4 => ?_⟩
    · obtain rfl : t = _ := ht.symm.trans (ends.resolve_right fun last => by omega).2
      exact ⟨runs, stage3, congrArg (· ++ [ms]) kept.waveMs⟩
    · obtain ⟨-, e, h3, eq⟩ := ends.resolve_left fun more => by omega
      obtain rfl : t = _ := ht.symm.trans eq
      refine ⟨fun joined => ?_, fun cut => ?_⟩
      · have next := State.endStage_passed (s := s.waveUp found ms) (e := e) fun h => h3.1 h joined
        rwa [runs, stage3] at next
      · obtain ⟨inactive, failed, -⟩ := State.endStage_failed (s := s.waveUp found ms) (h3.2 cut)
        exact ⟨inactive, failed⟩

end

/-- Settles O50: the rows of a wave are built on what its islands found, and its end by the domains that stand. -/
theorem islandsComeUpInWaves : Obligations.IslandsComeUpInWaves := by
  unfold Obligations.IslandsComeUpInWaves
  intro s found ms h hw w mine
  refine ⟨⟨_, exec_islandWaveDone _ _ _, (islandWaveDone_onlyStart h found ms.toNat).2⟩, fun i d ph hi hd => ⟨_, exec_islandWaveDone _ _ _, ?_⟩,
    fun clean => ⟨_, exec_islandWaveDone _ _ _, ?_⟩⟩
  · dsimp only
    rw [((islandWaveDone_onlyStart h _ ms.toNat).1.sameRow _).cluster]
    exact State.islandsUp_isolates hw hi rfl rfl hd
  · obtain ⟨t, ht⟩ : ∃ t, islandWaveDone found ms.toNat s = t := ⟨_, rfl⟩
    have only : (s.islandsUp found).OnlyStart t := ht ▸ (islandWaveDone_onlyStart h found ms.toNat).1
    have phases : ∀ c, (t.cluster c).isolated = (s.waveBegun.cluster c).isolated :=
      fun c => by rw [(only.sameRow c).cluster, (State.islandsUp_bringsUp hw clean).isolated]
    rw [ht]
    refine ⟨fun c hc => ?_, fun f _ first hi b hb room => ?_, fun hw0 _ c hc => ?_, islandWaveDone_start h hw clean ms.toNat ht⟩
    · have row : t.RowStands c := (State.islandsUp_stands hw clean hc).of_same (only.sameRow c)
      refine ⟨row.lit, row.dark, row.serves, row.out, fun i hi => ⟨State.mem_goodSlots hi, row.slots i hi⟩, fun serves _ => row.cores serves,
        fun hw0 => ?_, fun hw0 u hu h2 hcu h3 => ?_⟩
      · rw [phases, State.cluster_of_clusters (State.waveBegun_prepares [] hw0).clusters]
      · rw [phases, ← hcu]
        exact State.waveBegun_logged hw0 hu h2 h3
    · rw [(only.sameRow _).fieldBad]
      exact State.islandsUp_lists hw clean (waveFinding_of_find first ▸ mem_waveFindings hi) hb room
    · rw [(only.sameRow c).cluster, (State.islandsUp_sameRow hw clean hc).cluster,
        State.cluster_of_clusters (State.waveBegun_prepares [] hw0).clusters]

end Sys2Proof.Machine

/-! SUPPORT. The tensor core (02 R41 to R61): the array's one instruction from its finalisation to the end of its drain, cell by cell, and
what a core that fails leaves (13 R376). -/

namespace Sys2Proof.Machine

/-! ### Updates of the cores alone -/

/-- `t` differs from `s` by its cores alone. -/
def State.OnCores (s t : State) : Prop := t = { s with cores := t.cores }

section
variable {s t u : State}

theorem State.OnCores.refl (s : State) : s.OnCores s := rfl

theorem State.OnCores.trans (h : s.OnCores t) (k : t.OnCores u) : s.OnCores u := by
  unfold State.OnCores at *
  rw [k, h]

theorem State.OnCores.clusters (h : s.OnCores t) : t.clusters = s.clusters := by rw [h]
theorem State.OnCores.sched (h : s.OnCores t) : t.sched = s.sched := by rw [h]

theorem State.modCore_onCores (s : State) (L : Nat) (f : Core → Core) : s.OnCores (s.modCore L f) := rfl

theorem State.countCore_onCores (s : State) (L : Nat) (f : CoreCounters → CoreCounters) : s.OnCores (s.countCore L f) := by
  unfold State.countCore
  split
  · exact s.modCore_onCores L _
  · exact .refl s

theorem State.OnCores.foldl {β : Type} {f : State → β → State} (hf : ∀ (t : State) x, t.OnCores (f t x)) (l : List β) (s : State) :
    s.OnCores (l.foldl f s) := foldl_related State.OnCores.refl State.OnCores.trans (fun x _ t => hf t x) s

end

/-- Two updates of a core are one. -/
theorem State.modCore_modCore (s : State) (L : Nat) (f g : Core → Core) : (s.modCore L f).modCore L g = s.modCore L (g ∘ f) := by
  simp [State.modCore, State.setCore, State.core]

theorem State.modCore_cores_congr {s t : State} (h : t.cores = s.cores) (L : Nat) {f g : Core → Core} (hfg : ∀ c, f c = g c) :
    (t.modCore L f).cores = (s.modCore L g).cores := by
  simp only [State.modCore, State.setCore, State.core, h, hfg]

/-- One update of each core of a list: a core of the list takes it once, any other stays. -/
theorem core_foldl_modCore {l : List Nat} (once : l.Nodup) (f : Core → Core) (s : State) (M : Nat) :
    (l.foldl (fun t L => t.modCore L f) s).core M = if M ∈ l then f (s.core M) else s.core M := by
  induction l generalizing s with
  | nil => simp
  | cons L l ih =>
    obtain ⟨new, once⟩ := List.nodup_cons.1 once
    rw [List.foldl_cons, ih once]
    by_cases e : M = L
    · subst e
      simp [new]
    · simp [e, State.core_modCore_other s f e]

theorem State.counting_of_clusters {s t : State} (h : t.clusters = s.clusters) (L : Nat) : t.counting L = s.counting L := by
  simp only [State.counting, State.cluster_of_clusters h]

theorem State.countCore_of_counting {s : State} {L : Nat} (h : s.counting L = true) (f : CoreCounters → CoreCounters) :
    s.countCore L f = s.modCore L fun c => { c with counters := f c.counters } := if_pos h

/-! ### The cells of a quadrant (02 R48, R49, 03 R76 to R79) -/

theorem SMap.getD_ofList {α : Type} [DecidableEq α] (vs : List α) (k i : Nat) (d : α) :
    SMap.getD (SMap.ofList vs k d) (k + i) d = vs.getD i d := by
  have below : ∀ (vs : List α) {j k : Nat}, j < k → SMap.getD (SMap.ofList vs k d) j d = d := by
    intro vs
    induction vs with
    | nil => intros; rfl
    | cons v t ih =>
      intro j k h
      unfold SMap.ofList
      split
      · exact ih (by omega)
      · rw [SMap.getD_cons, if_neg (by omega), ih (by omega)]
  induction vs generalizing k i with
  | nil => rfl
  | cons v t ih =>
    unfold SMap.ofList
    cases i with
    | zero => split <;> simp_all [SMap.getD_cons]
    | succ i =>
      rw [← Nat.add_assoc, Nat.add_right_comm, List.getD_cons_succ, ← ih (k + 1) i]
      split
      · rfl
      · rw [SMap.getD_cons, if_neg (by omega)]

/-- The bank map after each of 64 rows of a quadrant has taken its 64 cells: row i stands at `at' + 128 * i`. -/
def spliceRows (m : SMap W32) (at' : Nat) (row : Nat → List W32) : SMap W32 :=
  (List.range 64).foldl (fun m i => SMap.splice m (at' + 128 * i) 64 (SMap.ofList (row i) 0 0)) m

theorem getD_spliceRows (m : SMap W32) (at' : Nat) (row : Nat → List W32) {i j : Nat} (hi : i < 64) (hj : j < 64) :
    SMap.getD (spliceRows m at' row) (at' + 128 * i + j) 0 = (row i).getD j 0 := by
  refine foldl_establishes (P := fun m => SMap.getD m (at' + 128 * i + j) 0 = (row i).getD j 0) (List.mem_range.2 hi)
    (fun t => ?_) (fun y _ hy t ht => ?_) m
  · rw [SMap.getD_splice, if_pos (by omega), ← SMap.getD_ofList (row i) 0 j 0]
    congr 1
    omega
  · rw [SMap.getD_splice, if_neg (by omega), ht]

theorem getD_spliceRows_other (m : SMap W32) (at' : Nat) (row : Nat → List W32) {k : Nat}
    (h : ∀ i < 64, ∀ j < 64, k ≠ at' + 128 * i + j) : SMap.getD (spliceRows m at' row) k 0 = SMap.getD m k 0 := by
  refine foldl_related (R := fun m n => SMap.getD n k 0 = SMap.getD m k 0) (fun _ => rfl) (fun h k => k.trans h) (fun i hi t => ?_) m
  rw [SMap.getD_splice, if_neg]
  rintro ⟨lo, hi'⟩
  exact h i (List.mem_range.1 hi) (k - (at' + 128 * i)) (by omega) (by omega)


/-- Where the cells of a quadrant begin in its bank. -/
def quadrantAt (q : Nat) (p : PartIssue) : Nat := (if p.part.bank then 16384 else 0) + (8192 * (q / 2) + 64 * (q % 2))

/-- What the array finalises in cell (i, j) of a quadrant (03 R76 to R79), with its events. -/
def State.quadrantCell (s : State) (L : Nat) (r : MatRun) (q : Nat) (p : PartIssue) (i j : Nat) : W32 × Events :=
  let fa := (headFmts r.head).1
  let fb := (headFmts r.head).2
  let cell := (64 * (q / 2) + i) * 128 + 64 * (q % 2) + j
  cellValue fa fb r.head.round.toNat (if r.head.round = 4 then s.drawAt L r.head.stream.toNat 0 (r.ord * 16384 + cell) else 0)
    (s.operandShare L r.apart q 0 fa (widerOf fa fb) p.part.srcA p.da) (s.operandShare L r.apart q 1 fb (widerOf fa fb) p.part.srcB p.db) i j
    (if p.part.carry then some (SMap.getD (s.core L).banks ((if p.part.bank then 16384 else 0) + cell) 0) else none)

section
variable (s : State) (L : Nat) (r : MatRun) (q : Nat) (p : PartIssue)

theorem State.finaliseQuadrant_onCores : s.OnCores (s.finaliseQuadrant L r q p) := rfl

/-- A quadrant's finalisation changes its core's banks, stages and events alone. -/
theorem State.finaliseQuadrant_eq : s.finaliseQuadrant L r q p = s.setCore L { s.core L with
    banks := ((s.finaliseQuadrant L r q p).core L).banks, stages := ((s.finaliseQuadrant L r q p).core L).stages
    events := ((s.finaliseQuadrant L r q p).core L).events } := by
  unfold State.finaliseQuadrant
  rw [State.core_modCore]
  rfl

theorem State.finaliseQuadrant_matQ : ((s.finaliseQuadrant L r q p).core L).matQ = (s.core L).matQ := by
  rw [State.finaliseQuadrant_eq, State.core_setCore]

theorem State.finaliseQuadrant_hold : ((s.finaliseQuadrant L r q p).core L).hold = (s.core L).hold := by
  rw [State.finaliseQuadrant_eq, State.core_setCore]

theorem State.finaliseQuadrant_banks : ((s.finaliseQuadrant L r q p).core L).banks =
    spliceRows (s.core L).banks (quadrantAt q p) fun i => (List.range 64).map fun j => (s.quadrantCell L r q p i j).1 := by
  have mode : r.head.round.toNat = 4 ↔ r.head.round = 4 := BitVec.toNat_inj (y := 4)
  unfold State.finaliseQuadrant
  rw [State.core_modCore]
  dsimp only
  rw [← List.map_prod_left_eq_zip, List.foldl_map]
  refine congrArg (fun f => List.foldl f _ _) (funext₂ fun m i => ?_)
  simp only [mode, List.map_map]
  rw [show (if p.part.bank = true then 16384 else 0) + (64 * (q / 2) + i) * 128 + 64 * (q % 2) = quadrantAt q p + 128 * i by
    unfold quadrantAt; omega]
  rfl

/-- Each cell of the quadrant takes its value. -/
theorem State.finaliseQuadrant_cell {i j : Nat} (hi : i < 64) (hj : j < 64) :
    SMap.getD ((s.finaliseQuadrant L r q p).core L).banks
      ((if p.part.bank then 16384 else 0) + ((64 * (q / 2) + i) * 128 + 64 * (q % 2) + j)) 0 = (s.quadrantCell L r q p i j).1 := by
  have at' : (if p.part.bank then 16384 else 0) + ((64 * (q / 2) + i) * 128 + 64 * (q % 2) + j) = quadrantAt q p + 128 * i + j := by
    unfold quadrantAt; omega
  rw [at', State.finaliseQuadrant_banks, getD_spliceRows _ _ _ hi hj]
  simp [hj]

/-- Every other cell of both banks stays. -/
theorem State.finaliseQuadrant_cell_other {k : Nat}
    (h : ∀ i < 64, ∀ j < 64, k ≠ (if p.part.bank then 16384 else 0) + ((64 * (q / 2) + i) * 128 + 64 * (q % 2) + j)) :
    SMap.getD ((s.finaliseQuadrant L r q p).core L).banks k 0 = SMap.getD (s.core L).banks k 0 := by
  rw [State.finaliseQuadrant_banks, getD_spliceRows_other]
  intro i hi j hj e
  refine h i hi j hj (e.trans ?_)
  unfold quadrantAt
  omega

end

/-! ### The array's one instruction (02 R48 to R58, 04 R102) -/

/-- The quadrants of an instruction are finalised one by one. -/
def State.quadrantsFinalised (s : State) (L : Nat) (r : MatRun) : State :=
  (quadrantParts r).foldl (fun t x => t.finaliseQuadrant L r x.1 x.2) s

/-- The array after its one instruction: its quadrants finalised, its beats counted, the array at matched current (02 R58). -/
def State.arrayDone (s : State) (L : Nat) (r : MatRun) (beats : Beats) : State :=
  ((s.quadrantsFinalised L r).countCore L fun k => k.beats (portBubbles r) beats).modCore L fun c => { c with arrayState := 2 }

section
variable {s : State} {L : Nat} {r : MatRun}

theorem State.quadrantsFinalised_onCores (s : State) (L : Nat) (r : MatRun) : s.OnCores (s.quadrantsFinalised L r) := by
  unfold State.quadrantsFinalised
  refine State.OnCores.foldl (fun t x => ?_) _ s
  exact t.finaliseQuadrant_onCores L r x.1 x.2

theorem State.quadrantsFinalised_matQ : ((s.quadrantsFinalised L r).core L).matQ = (s.core L).matQ := by
  unfold State.quadrantsFinalised
  refine foldl_keeps (fun t : State => (t.core L).matQ) (fun t x => ?_) _ s
  exact t.finaliseQuadrant_matQ L r x.1 x.2

theorem State.quadrantsFinalised_hold : ((s.quadrantsFinalised L r).core L).hold = (s.core L).hold := by
  unfold State.quadrantsFinalised
  refine foldl_keeps (fun t : State => (t.core L).hold) (fun t x => ?_) _ s
  exact t.finaliseQuadrant_hold L r x.1 x.2

theorem State.arrayDone_onCores (s : State) (L : Nat) (r : MatRun) (beats : Beats) : s.OnCores (s.arrayDone L r beats) :=
  ((s.quadrantsFinalised_onCores L r).trans (State.countCore_onCores _ _ _)).trans (State.modCore_onCores _ _ _)

/-- Where its core counts, all of that is one update of the core. -/
theorem State.arrayDone_of_counting (h : s.counting L = true) (beats : Beats) :
    s.arrayDone L r beats = (s.quadrantsFinalised L r).modCore L fun c =>
      { c with counters := c.counters.beats (portBubbles r) beats, arrayState := 2 } := by
  have counts := (State.counting_of_clusters (s.quadrantsFinalised_onCores L r).clusters L).trans h
  rw [State.arrayDone, State.countCore_of_counting counts, State.modCore_modCore]
  rfl

/-- Sound operands, and sound records of the ledger slots that its drains pass through, are met without effect (05 R142). -/
theorem State.meetOperands_sound (operands : ∀ w ∈ r.parts.flatMap (partReads r.apart r.head), s.Sound (csBase L + w.1 * 8) (w.2 * 8))
    (records : ∀ p ∈ r.parts, p.part.drain = true → s.Sound (csBase L + ledgerWord p.part.ledgerSlot.toNat * 8) 128) :
    s.meetOperands L r = (s, []) := by
  unfold State.meetOperands
  refine List.foldlRecOn (motive := (· = (s, []))) _ _ rfl fun acc same w hw => ?_
  have sound : s.Sound (csBase L + w.1 * 8) (w.2 * 8) := by
    rcases List.mem_append.1 hw with h | h
    · exact operands w h
    · obtain ⟨p, hp, rfl⟩ := List.mem_map.1 h
      obtain ⟨mem, drains⟩ := List.mem_filter.1 hp
      exact records p mem (Bool.and_eq_true_iff.1 drains).1
  simp [same, State.readRange_readable _ _ _ _ _ (State.readable_coreStore sound)]

theorem State.drainsOf_of_no_drain (h : ∀ p ∈ r.parts, p.part.drain = false) (s : State) (L : Nat) : s.drainsOf L r = [] := by
  unfold State.drainsOf
  rw [List.filter_eq_nil_iff.2, List.map_nil]
  intro x hx
  simp [h x.2 (List.of_mem_zip hx).2]

/-- With nothing queued behind and nothing held, a unit that has finished brings nothing more. -/
theorem State.settleUnit_idle (queue : (s.core L).matQ = []) (free : (s.core L).hold = .none) : s.settleUnit L = s := by
  have ledgers : ∀ n, s.settleLedgers n L = s := fun n => by
    cases n with
    | zero => rfl
    | succ n => simp [State.settleLedgers, queue]
  rw [State.settleUnit, ledgers, State.settleTurnEnd]
  simp [free]

/-- An instruction that stands alone in the array, with operands that are met without effect, finalises: a residue mismatch fails the
core, an instruction that drains stays, any other completes. -/
theorem matrixFinalise_alone (alone : (s.core L).matRun = [r]) (unfinished : r.finalised = false) (met : s.meetOperands L r = (s, []))
    (mismatch : Bool) (beats : Beats) :
    matrixFinalise L mismatch beats s =
      if mismatch then ((s.arrayDone L r beats).countCore L fun k => { k with selfCheck := k.selfCheck + 1 }).failCore L 1
      else if ((s.arrayDone L r beats).drainsOf L r).isEmpty then
        ((s.arrayDone L r beats).modCore L fun c => { c.matrixDone r.head with matRun := [] }).settleUnit L
      else (s.arrayDone L r beats).modCore L fun c =>
        { c with matRun := [{ r with finalised := true, drains := (s.arrayDone L r beats).drainsOf L r }] } := by
  have head : splitRun [r] = ([], some r, []) := by simp [splitRun, unfinished]
  have reads : (s.core L).operandsBlocked r = false := by simp [Core.operandsBlocked, alone, unfinished]
  have banks : (s.core L).bankBlocked r = false := by simp [Core.bankBlocked, alone, unfinished]
  unfold matrixFinalise
  simp only [alone, head, Option.isNone_some, Bool.false_eq_true, if_false, reads, banks, Bool.or_self, met, List.isEmpty_nil, if_true,
    List.nil_append, List.append_nil]
  rfl

/-- One that does not drain is counted and signals its token (02 R58, 04 R102). -/
theorem matrixFinalise_undrained (alone : (s.core L).matRun = [r]) (unfinished : r.finalised = false) (queue : (s.core L).matQ = [])
    (free : (s.core L).hold = .none) (operands : ∀ w ∈ r.parts.flatMap (partReads r.apart r.head), s.Sound (csBase L + w.1 * 8) (w.2 * 8))
    (undrained : ∀ p ∈ r.parts, p.part.drain = false) (counts : s.counting L = true) (beats : Beats) :
    matrixFinalise L false beats s = (s.quadrantsFinalised L r).modCore L fun c =>
      { ({ c with counters := c.counters.beats (portBubbles r) beats, arrayState := 2 } : Core).matrixDone r.head with matRun := [] } := by
  have met := State.meetOperands_sound operands fun p hp drains => absurd drains (by simp [undrained p hp])
  rw [matrixFinalise_alone alone unfinished met, if_neg Bool.false_ne_true, State.drainsOf_of_no_drain undrained, List.isEmpty_nil, if_pos rfl,
    State.arrayDone_of_counting counts, State.modCore_modCore]
  refine State.settleUnit_idle ?_ ?_ <;> rw [State.core_modCore] <;> dsimp only [Function.comp, Core.matrixDone] <;> split
  all_goals simp [Core.signal, State.quadrantsFinalised_matQ, State.quadrantsFinalised_hold, queue, free]

/-- A drain that passes through no ledger slot and has no scales lands its tile and its events. -/
theorem State.landDrain_plain {d : DrainOut} (ledger : d.ledger = none) (scales : d.scaleLen = 0) (s : State) (L : Nat) :
    s.landDrain L d = (s.store d.addr d.len d.bytes).modCore L fun c => c.addEvents d.events := by
  simp [State.landDrain, State.ledgerTake, ledger, scales]

/-- The array's one instruction completes with its one plain drain (02 R50, 04 R102). -/
theorem drainComplete_plain {d : DrainOut} (alone : (s.core L).matRun = [r]) (finalised : r.finalised = true) (drain : r.drains = [d])
    (ledger : d.ledger = none) (scales : d.scaleLen = 0) (queue : (s.core L).matQ = []) (free : (s.core L).hold = .none) :
    drainComplete L s = (s.store d.addr d.len d.bytes).modCore L fun c => { (c.addEvents d.events).matrixDone r.head with matRun := [] } := by
  have stored : (s.store d.addr d.len d.bytes).core L = s.core L := rfl
  unfold drainComplete
  simp only [alone, finalised, if_true, drain, List.foldl_cons, List.foldl_nil, State.landDrain_plain ledger scales, State.modCore_modCore]
  refine State.settleUnit_idle ?_ ?_ <;> rw [State.core_modCore, stored] <;> dsimp only [Function.comp, Core.matrixDone] <;> split
  all_goals simp [Core.signal, Core.addEvents, queue, free]

end

/-- Settles O16: the finalisation of the array's one instruction, its plain drain, and a quadrant cell by cell. -/
theorem matrixFinalisesAndDrains : Obligations.MatrixFinalisesAndDrains := by
  unfold Obligations.MatrixFinalisesAndDrains
  refine ⟨fun s core beats r alone unfinished queue free operands undrained counts => ?_,
    fun s core r d alone finalised drain ledger scales queue free => ?_, fun s L q r p _ => ⟨fun i hi j hj => ?_, fun k h => ?_, ?_⟩⟩
  · refine congrArg Host.Outcome.next
      ((matrixFinalise_undrained alone unfinished queue free operands undrained counts beats).trans ?_)
    refine congrArg (State.modCore _ _) (funext fun c => ?_)
    unfold Core.matrixDone
    dsimp only
    split <;> rfl
  · refine ⟨_, congrArg Host.Outcome.next (drainComplete_plain alone finalised drain ledger scales queue free), fun k => ?_, ?_, rfl⟩
    · exact s.readByte_store _ _ _ k
    · refine State.modCore_cores_congr (s.store_cores _ _ _) core.val fun c => ?_
      unfold Core.matrixDone
      dsimp only
      split <;> rfl
  · exact s.finaliseQuadrant_cell L r q p hi hj
  · exact s.finaliseQuadrant_cell_other L r q p h
  · exact s.finaliseQuadrant_eq L r q p

/-! ### A core that stops (08 R220, R224) -/

@[simp] theorem Core.stop_inTurn (c : Core) : c.stop.inTurn = false := by
  unfold Core.stop
  split <;> rfl

@[simp] theorem Core.stop_seq (c : Core) : c.stop.seq = .noTurn := by
  unfold Core.stop
  split <;> rfl

section
variable (s : State) (L : Nat)

theorem State.withdrawSlots_mem : (s.withdrawSlots L).mem = s.mem := by
  refine foldl_keeps State.mem (fun t e => foldl_keeps State.mem (fun u b => ?_) _ _) _ _
  dsimp only
  split <;> rfl

theorem State.withdrawPart_mem (p : Nat) : (s.withdrawPart p L).mem = s.mem :=
  State.withdrawSlots_mem (s.withdrawHeld p (some L)) L

theorem State.awaitRebuild_mem (cleared : Bool) : (s.awaitRebuild L cleared).mem = s.mem := by
  unfold State.awaitRebuild
  rw [State.modCore_mem]
  cases s.standOf L with
  | none => rfl
  | some st =>
    dsimp only
    split
    · rfl
    · exact s.withdrawPart_mem L _

/-- Neither in a turn nor running. -/
def State.Stopped (L : Nat) : Prop := (s.core L).inTurn = false ∧ (s.core L).seq ≠ .running

theorem State.awaitRebuild_stopped (cleared : Bool) : (s.awaitRebuild L cleared).Stopped L := by
  unfold State.Stopped State.awaitRebuild
  simp

end

/-! ### A core that fails (01 R24, R27, 13 R376, R400) -/

/-- `t` is what a substitution leaves of `s`: slot `n` serves the position of core L, whose failed slot is skipped by its ring; its core
store reads zero and it has stopped. -/
def State.Substituted (s t : State) (L n : Nat) : Prop :=
  let x := s.cluster (L / 12)
  let old := x.map.getD (L % 12) 0xF
  t.cluster (L / 12) = { x with
    map := x.map.set (L % 12) n, slots := SMap.put (SMap.put x.slots old 3) n 0, reserves := x.reserves - 1, skips := x.skips ++ [old] } ∧
  (∀ k, csBase L ≤ k → k < csBase L + 2 ^ 24 → t.readByte k = 0) ∧ t.Stopped L

section
variable {s t u : State} {L n : Nat}

theorem State.thirdRuns_of_sched (h : t.sched = s.sched) (c : Nat) : t.thirdRuns c = s.thirdRuns c := by
  simp only [State.thirdRuns, h]

theorem State.Substituted.of_onCores (h : s.OnCores t) (k : t.Substituted u L n) : s.Substituted u L n := by
  unfold State.Substituted at *
  rwa [State.cluster_of_clusters h.clusters] at k

theorem State.Substituted.awaitRebuild (h : s.Substituted t L n) (cleared : Bool) : s.Substituted (t.awaitRebuild L cleared) L n := by
  obtain ⟨row, zeros, -⟩ := h
  refine ⟨(State.cluster_of_clusters (t.awaitRebuild_clusters L cleared) _).trans row, fun k lo hi => ?_, t.awaitRebuild_stopped L cleared⟩
  rw [State.readByte, t.awaitRebuild_mem]
  exact zeros k lo hi

/-- A failed core whose position is served is substituted by the lowest-numbered reserve slot. -/
theorem State.failCore_substitutes (reserve : (s.cluster (L / 12)).lowestReserve = some n) (free : s.thirdRuns (L / 12) = false)
    (served : (s.cluster (L / 12)).map.getD (L % 12) 0xF ≠ 0xF) (cause : Nat) : s.Substituted (s.failCore L cause) L n := by
  have rebuilt : ∀ {b : Bool} {t : State}, s.Substituted t L n → s.Substituted (if b then t.awaitRebuild L true else t) L n := by
    intro b t h
    split
    · exact h.awaitRebuild true
    · exact h
  unfold State.failCore
  dsimp only
  rw [if_neg served, reserve]
  dsimp only
  rw [if_neg (by simp [free])]
  refine rebuilt ⟨?_, fun k lo hi => ?_, ?_⟩
  · rw [State.cluster_modCore, State.zero, State.cluster_of_clusters (State.store_clusters _ _ _ _),
      State.cluster_of_clusters (State.event_clusters _ _ _ _), State.logRequest_cluster, State.cluster_setCluster]
    rfl
  · exact (State.readByte_store _ _ _ _ k).trans (if_pos ⟨lo, hi⟩)
  · unfold State.Stopped
    rw [State.core_modCore]
    refine ⟨Core.stop_inTurn _, ?_⟩
    dsimp only
    split <;> exact SeqState.noConfusion

/-- While a vote's third copy runs on the cluster's one reserve slot, the failed core stops and its substitution waits. -/
theorem State.failCore_waits (third : s.thirdRuns (L / 12) = true) (one : (s.cluster (L / 12)).reserveSlots.length = 1)
    (served : (s.cluster (L / 12)).map.getD (L % 12) 0xF ≠ 0xF) (first : (s.cluster (L / 12)).failing = []) (cause : Nat) :
    (s.failCore L cause).cluster (L / 12) = { s.cluster (L / 12) with failing := [(L % 12, cause)] } ∧ (s.failCore L cause).Stopped L := by
  obtain ⟨n, only⟩ := List.length_eq_one_iff.1 one
  have reserve : (s.cluster (L / 12)).lowestReserve = some n := List.head?_filter.symm.trans (congrArg List.head? only)
  unfold State.failCore
  dsimp only
  rw [if_neg served, reserve]
  dsimp only
  rw [if_pos ⟨third, one⟩]
  split
  · rw [State.cluster_of_clusters (State.awaitRebuild_clusters _ _ _), State.cluster_modCore, State.cluster_modCluster, first]
    exact ⟨rfl, State.awaitRebuild_stopped _ _ _⟩
  · rw [State.cluster_modCore, State.cluster_modCluster, first]
    exact ⟨rfl, by simp [State.Stopped]⟩

end

/-! ### Liveness probes, corrected words and residues (02 R52, R61) -/

section
variable {s : State} {L n : Nat}

/-- A second probe in a row goes unanswered: the core fails. -/
theorem livenessProbeTimeout_second (probe : (s.core L).probe = true) (once : (s.core L).unanswered = 1) :
    livenessProbeTimeout L s = (s.modCore L fun k => { k with probe := false, unanswered := k.unanswered + 1 }).failCore L 0 := by
  simp [livenessProbeTimeout, probe, once]

/-- A first one counts, and the sequencer stays. -/
theorem livenessProbeTimeout_first (probe : (s.core L).probe = true) (answered : (s.core L).unanswered = 0) :
    livenessProbeTimeout L s = s.modCore L fun k => { k with probe := false, unanswered := 1 } := by
  simp [livenessProbeTimeout, probe, answered, State.modCore]

/-- A residue mismatch fails the core of the array's one instruction (02 R52). -/
theorem matrixFinalise_mismatch {r : MatRun} (alone : (s.core L).matRun = [r]) (unfinished : r.finalised = false) (sound : s.wordErr = [])
    (beats : Beats) : ∃ t : State, s.OnCores t ∧ matrixFinalise L true beats s = t.failCore L 1 := by
  have all : ∀ a n, s.Sound a n := fun a n q hq => by simp [sound] at hq
  exact ⟨_, (s.arrayDone_onCores L r beats).trans (State.countCore_onCores _ _ _),
    matrixFinalise_alone alone unfinished (State.meetOperands_sound (fun _ _ => all _ _) fun _ _ _ => all _ _) true beats⟩

/-- Each of the three events fails its core on a state that differs by its cores alone. -/
theorem coreFails {core : CoreId} {r : MatRun} {beats : Beats} {c : Instr}
    (h : c = .correctedRateExceeded core ∨
      (c = .livenessProbeTimeout core ∧ (s.core core.val).probe = true ∧ (s.core core.val).unanswered = 1) ∨
      (c = .matrixFinalise core true beats ∧ (s.core core.val).matRun = [r] ∧ r.finalised = false ∧ s.wordErr = [])) :
    ∃ (t : State) (cause : Nat), s.OnCores t ∧ exec c s = .next (t.failCore core.val cause) := by
  rcases h with rfl | ⟨rfl, probe, once⟩ | ⟨rfl, alone, unfinished, sound⟩
  · exact ⟨s, 2, .refl s, rfl⟩
  · exact ⟨_, 0, s.modCore_onCores _ _, congrArg Host.Outcome.next (livenessProbeTimeout_second probe once)⟩
  · obtain ⟨t, onCores, eq⟩ := matrixFinalise_mismatch alone unfinished sound beats
    exact ⟨t, 1, onCores, congrArg Host.Outcome.next eq⟩

theorem State.mem_served {c M : Nat} : M ∈ s.served c ↔ ∃ p < 12, (s.cluster c).map.getD p 0xF ≠ 0xF ∧ c * 12 + p = M := by
  simp [State.served, and_assoc]

theorem State.served_nodup (s : State) (c : Nat) : (s.served c).Nodup :=
  (List.nodup_range.filter _).map fun _ _ h => Nat.add_left_cancel h

/-- A probe reaches the served sequencers of its cluster and no other core. -/
theorem livenessProbe_core (s : State) (c M : Nat) :
    (livenessProbe c s).core M = if M ∈ s.served c then (s.core M).probed else s.core M :=
  core_foldl_modCore (s.served_nodup c) Core.probed s M

theorem livenessProbe_onCores (s : State) (c : Nat) : s.OnCores (livenessProbe c s) :=
  State.OnCores.foldl (fun t M => t.modCore_onCores M Core.probed) _ s

end

/-- Settles O25: each failure comes to one core that fails, and a probe to one update of each served core. -/
theorem coreHealth : Obligations.CoreHealth := by
  unfold Obligations.CoreHealth
  refine ⟨fun s core n r beats c fails reserve free served => ?_, fun s core third one served first => ?_,
    fun s c => ⟨_, rfl, fun p hp served => ?_, fun L other => ?_, livenessProbe_onCores s c.val⟩, fun s core probe answered => ?_⟩
  · obtain ⟨t, cause, onCores, eq⟩ := coreFails fails
    have row := State.cluster_of_clusters onCores.clusters (core.val / 12)
    refine ⟨_, eq, State.Substituted.of_onCores onCores (State.failCore_substitutes ?_ ?_ ?_ cause)⟩
    · rwa [row]
    · rwa [State.thirdRuns_of_sched onCores.sched]
    · rwa [row]
  · obtain ⟨row, stopped⟩ := State.failCore_waits third one served first 2
    exact ⟨_, rfl, ⟨2, row⟩, stopped⟩
  · exact (livenessProbe_core s c.val _).trans (if_pos (State.mem_served.2 ⟨p, hp, served, rfl⟩))
  · refine (livenessProbe_core s c.val L).trans (if_neg fun mem => other ?_)
    obtain ⟨p, hp, -, rfl⟩ := State.mem_served.1 mem
    omega
  · exact congrArg Host.Outcome.next (livenessProbeTimeout_first probe answered)

end Sys2Proof.Machine

/-! SUPPORT. Vector instructions with a place in the vector queue (03 R87, R89, 04 R125, R477): each that its own rules let run retires as
one update of its core. -/

namespace Sys2Proof.Machine

/-! ### Lanes and ordinals of a core (03 R87, R89) -/

@[simp] theorem Core.addEvents_none (c : Core) : c.addEvents evNone = c := by
  rw [Core.addEvents, show c.events ||| evNone = c.events from BitVec.or_zero]

/-- Lanes that set no event are lanes alone. -/
theorem Core.laneResult_eventless (c : Core) (vd : Nat) (ls : List W32) : c.laneResult vd (ls.map fun x => (x, evNone)) = c.setVreg vd ls := by
  have quiet : ls.foldl (fun (a : Events) _ => a ||| evNone) evNone = evNone := foldl_keeps id (fun _ _ => BitVec.or_zero) ls evNone
  rw [Core.laneResult, List.foldl_map, quiet, Core.addEvents_none, List.map_map]
  exact congrArg _ (List.map_id ls)

@[simp] theorem Core.addEvents_attempt (c : Core) (e : Events) : (c.addEvents e).attempt = c.attempt := rfl

@[simp] theorem Core.laneResult_attempt (c : Core) (vd : Nat) (rs : List (W32 × Events)) : (c.laneResult vd rs).attempt = c.attempt := rfl

@[simp] theorem Core.takeOrdinal_attempt (c : Core) (b : Bool) : (c.takeOrdinal b).attempt = c.attempt := by
  unfold Core.takeOrdinal
  split <;> rfl

/-- INT32 saturation (03 R89) is a clamp to the range of the lane. -/
theorem isat_eq (i : Int) : isat i = BitVec.ofInt 32 (max (-2147483648) (min 2147483647 i)) := by
  refine congrArg (BitVec.ofInt 32) (show (clampInt (-2147483648) 2147483647 i).1 = _ from ?_)
  unfold clampInt
  split
  next below => dsimp only; omega
  next => split <;> dsimp only <;> omega

/-! ### An instruction with a place in the vector queue (04 R101, R125) -/

section
variable {s : State} {f : VectorF} (takes : s.Takes f.core.val) (unreserved : f.rsv = 0) (room : (s.core f.core.val).vecQ < 16)
include takes unreserved room

/-- One that updates its core alone retires with that update. -/
theorem vectorIssue_retires {v : State → Verdict} {g : Core → Core} (runs : v s = .run (s.modCore f.core.val g))
    (attempt : ∀ c, (g c).attempt = c.attempt) : vectorIssue f s v = s.retireVector f.core.val g := by
  unfold vectorIssue
  rw [if_neg (not_not.2 unreserved), if_neg (Nat.not_le.2 room), runs]
  dsimp only
  rw [State.modCore_modCore]
  exact s.issue_run _ _ attempt takes

theorem laneWise_retires (op : W32 → W32 → W32 → W32 × Events) :
    laneWise f s op = s.retireVector f.core.val fun c => c.laneResult f.vd.val ((List.range 512).map fun i =>
      op (c.lane f.vs1.val i) (c.lane f.vs2.val i) (c.lane f.vs3.val i)) :=
  vectorIssue_retires takes unreserved room rfl fun _ => rfl

theorem laneWise_plain_retires (op : W32 → W32 → W32) :
    laneWise f s (fun a b _ => plain op a b) = s.retireVector f.core.val fun c =>
      c.setVreg f.vd.val ((List.range 512).map fun i => op (c.lane f.vs1.val i) (c.lane f.vs2.val i)) := by
  rw [laneWise_retires takes unreserved room]
  refine congrArg (s.retireVector f.core.val) (funext fun c => ?_)
  rw [← Core.laneResult_eventless, List.map_map]
  rfl

theorem reduceLanes_retires (op : W32 → W32 → W32 × Events) :
    reduceLanes f s op = s.retireVector f.core.val fun c => c.laneResult f.vd.val [tree (treeNode op) (c.vreg f.vs1.val)] :=
  vectorIssue_retires takes unreserved room rfl fun _ => rfl

end

/-- Settles O12: each operation is lane-wise or a reduction by its definition, and both kinds retire with their lanes. -/
theorem vectorLanes : Obligations.VectorLanes := by
  unfold Obligations.VectorLanes
  refine ⟨fun s f takes unreserved room => ?_, fun s f takes unreserved room => ?_, fun s f takes unreserved room => ?_⟩
  · have ran := fun op => congrArg (Host.Outcome.next (φ := Fault) (ρ := Refusal)) (laneWise_plain_retires takes unreserved room op)
    simp only [← isat_eq]
    exact ⟨ran _, ran _, ran _, ran _, ran _, ran _, ran _, ran _⟩
  · have ran := fun op => congrArg (Host.Outcome.next (φ := Fault) (ρ := Refusal)) (laneWise_retires takes unreserved room op)
    exact ⟨ran _, ran _, ran _, ran _, ran _, ran _, ran _, ran _, ran _, ran _, ran _, ran _, ran _, ran _, ran _, ran _, ran _, ran _⟩
  · have ran := fun op => congrArg (Host.Outcome.next (φ := Fault) (ρ := Refusal)) (reduceLanes_retires takes unreserved room op)
    exact ⟨ran _, ran _, ran _⟩

/-! ### Moves, draws and conversions (03 R87, 04 R125, R477) -/

/-- A vector instruction retires by what its update makes of the core it finds. -/
theorem State.retireVector_congr {s : State} {L : Nat} {g h : Core → Core} (e : g (s.core L) = h (s.core L)) :
    s.retireVector L g = s.retireVector L h := by
  simp only [State.retireVector, State.retire, e]

section
variable {s : State} {f : VectorF}

theorem ordinalsSpent_false (left : (s.core f.core.val).vecOrd < 2 ^ 23) : ordinalsSpent s f = false :=
  decide_eq_false (Nat.not_le.2 left)

theorem takesOrdinal_iff : takesOrdinal f = true ↔ f.round = 4 := beq_iff_eq

/-- A conversion takes an ordinal for stochastic rounding alone. -/
theorem Core.takeOrdinal_rounding (c : Core) : c.takeOrdinal (takesOrdinal f) = if f.round = 4 then { c with vecOrd := c.vecOrd + 1 } else c :=
  if_congr takesOrdinal_iff rfl rfl

/-- ROUND is a mode, the pair at `v` ends within the registers, and stochastic rounding has an ordinal left: no conversion is refused. -/
theorem conversion_allowed {fmt : Fmt} {v : Nat} (mode : f.round.toNat < 5) (left : f.round = 4 → (s.core f.core.val).vecOrd < 2 ^ 23)
    (pair : fmt.isMx = true → v ≠ 31) :
    ¬ (decide (5 ≤ f.round.toNat) || (fmt.isMx && v == 31) || (takesOrdinal f && ordinalsSpent s f)) = true := by
  rw [Bool.or_eq_true, Bool.or_eq_true, Bool.and_eq_true, Bool.and_eq_true, decide_eq_true_eq, beq_iff_eq, takesOrdinal_iff]
  rintro ((high | ⟨mx, last⟩) | ⟨stochastic, spent⟩)
  · omega
  · exact pair mx last
  · exact Bool.false_ne_true ((ordinalsSpent_false (left stochastic)).symm.trans spent)

variable (takes : s.Takes f.core.val) (unreserved : f.rsv = 0) (room : (s.core f.core.val).vecQ < 16)
include takes unreserved room

theorem vsplat_retires : exec (.vsplat f) s = .next (s.retireVector f.core.val fun c =>
    c.setVreg f.vd.val ((List.range 512).map fun _ => (c.reg f.rs.val).truncate 32)) :=
  congrArg Host.Outcome.next (vectorIssue_retires takes unreserved room rfl fun _ => rfl)

theorem vmovs_retires (inside : f.imm.toNat < 512) : exec (.vmovs f) s = .next (s.retireVector f.core.val fun c =>
    c.setReg f.rs.val ((c.lane f.vs1.val f.imm.toNat).signExtend 64)) :=
  congrArg Host.Outcome.next (vectorIssue_retires takes unreserved room (if_pos inside) fun _ => Core.setReg_attempt _ _ _)

section
variable (left : (s.core f.core.val).vecOrd < 2 ^ 23)
include left

/-- Lanes drawn under the core's ordinal retire, and take it. -/
theorem draw_retires {v : State → Verdict} {ls ms : Core → List W32}
    (draws : v s = if ordinalsSpent s f then .raise stIllegal else
      .run (s.modCore f.core.val fun c => (c.setVreg f.vd.val (ls c)).takeOrdinal true))
    (lanes : ls (s.core f.core.val) = ms (s.core f.core.val)) :
    vectorIssue f s v = s.retireVector f.core.val fun c => { c.setVreg f.vd.val (ms c) with vecOrd := c.vecOrd + 1 } := by
  rw [if_neg (Bool.eq_false_iff.1 (ordinalsSpent_false left))] at draws
  refine (vectorIssue_retires takes unreserved room draws fun _ => rfl).trans (State.retireVector_congr ?_)
  rw [lanes]
  rfl

theorem vdraw_retires : exec (.vdraw f) s = .next (s.retireVector f.core.val fun c =>
    { c.setVreg f.vd.val ((List.range 512).map fun i => BitVec.ofNat 32 (s.drawAt f.core.val f.stream.toNat 2 (c.vecOrd * 512 + i))) with
      vecOrd := c.vecOrd + 1 }) :=
  congrArg Host.Outcome.next (draw_retires takes unreserved room left rfl rfl)

theorem vdrop_retires : exec (.vdrop f) s = .next (s.retireVector f.core.val fun c =>
    { c.setVreg f.vd.val ((List.range 512).map fun i =>
        if (c.reg f.rs.val).toNat % 2 ^ 32 ≤ s.drawAt f.core.val f.stream.toNat 2 (c.vecOrd * 512 + i) then c.lane f.vs1.val i else 0) with
      vecOrd := c.vecOrd + 1 }) :=
  congrArg Host.Outcome.next (draw_retires takes unreserved room left rfl rfl)

end

section
variable {fmt : Fmt} (format : fmtOfCode f.fmt.toNat = some fmt) (mode : f.round.toNat < 5)
  (left : f.round = 4 → (s.core f.core.val).vecOrd < 2 ^ 23)
include format mode left

theorem vcvtFrom_retires (pair : fmt.isMx = true → f.vs1.val ≠ 31) : exec (.vcvtFrom f) s = .next (s.retireVector f.core.val fun c =>
    (c.laneResult f.vd.val ((List.range 512).map (fromLane f s fmt))).takeOrdinal (takesOrdinal f)) := by
  refine congrArg Host.Outcome.next (vectorIssue_retires takes unreserved room ?_ fun c => by simp)
  unfold fromVerdict
  rw [format]
  exact if_neg (conversion_allowed mode left pair)

theorem vcvtTo_retires (pair : fmt.isMx = true → f.vd.val ≠ 31) : exec (.vcvtTo f) s = .next (s.retireVector f.core.val fun c =>
    let c1 := c.setVreg f.vd.val (packElements fmt.bits (toCodes f s fmt).1)
    ((if fmt.isMx then c1.setVreg (f.vd.val + 1) (packElements 8 (toCodes f s fmt).2.1) else c1).addEvents
      (toCodes f s fmt).2.2).takeOrdinal (takesOrdinal f)) := by
  refine congrArg Host.Outcome.next (vectorIssue_retires takes unreserved room ?_ fun c => ?_)
  · unfold toVerdict
    rw [format]
    exact if_neg (conversion_allowed mode left pair)
  · rw [Core.takeOrdinal_attempt, Core.addEvents_attempt]
    split <;> rfl

end

end

/-- Settles O13: each move, draw and conversion is one update of the core once its own rule lets it run. -/
theorem vectorMovesDrawsAndConversions : Obligations.VectorMovesDrawsAndConversions := by
  unfold Obligations.VectorMovesDrawsAndConversions
  refine ⟨fun s f takes unreserved room => ⟨vsplat_retires takes unreserved room, vmovs_retires takes unreserved room,
    fun left => ⟨vdraw_retires takes unreserved room left, vdrop_retires takes unreserved room left⟩⟩,
    fun s f fmt takes unreserved room format mode left => ⟨fun pair => ?_, fun pair => ?_⟩⟩
  · simpa only [Core.takeOrdinal_rounding] using vcvtFrom_retires takes unreserved room format mode left pair
  · simpa only [Core.takeOrdinal_rounding] using vcvtTo_retires takes unreserved room format mode left pair

end Sys2Proof.Machine

/-! SUPPORT. Ledger instructions (03 R91, 04 R119, R121): in the matrix queue, and the record they write with the array idle. -/

namespace Sys2Proof.Machine

/-! ### Fields of a stored run of bytes (00 R13) -/

theorem leBytes_toNat (n v : Nat) : (leBytes n v).foldr (fun b acc => b.toNat + 256 * acc) 0 = v % 256 ^ n := by
  induction n generalizing v with
  | zero => simp [leBytes, Nat.mod_one]
  | succ n ih =>
    rw [leBytes, List.foldr_cons, ih, BitVec.toNat_ofNat]
    exact Nat.mod_mul.symm.trans (congrArg (v % ·) Nat.pow_succ'.symm)

section
variable (s : State) (a : Nat) {len o : Nat} {bs : List Byte}

/-- A byte of a stored run is the list's, zero beyond it. -/
theorem State.readByte_storeList (inside : o < len) : (s.store a len (SMap.ofList bs 0 0)).readByte (a + o) = bs.getD o 0 := by
  rw [State.readByte_store, if_pos (by omega), Nat.add_sub_cancel_left, ← SMap.getD_ofList bs 0 o 0, Nat.zero_add]

theorem State.readByte_store_outside {es : SMap Byte} {k : Nat} (outside : k < a ∨ a + len ≤ k) :
    (s.store a len es).readByte k = s.readByte k := by
  rw [State.readByte_store, if_neg (by omega)]

/-- A field of a stored run is the number whose bytes stand there. -/
theorem State.readNat_storeList {n v : Nat} (inside : o + n ≤ len) (field : ((List.range n).map fun i => bs.getD (o + i) 0) = leBytes n v)
    (fits : v < 256 ^ n) : (s.store a len (SMap.ofList bs 0 0)).readNat (a + o) n = v := by
  have bytes : (s.store a len (SMap.ofList bs 0 0)).readBytes (a + o) n = leBytes n v := by
    rw [← field]
    refine List.map_congr_left fun i hi => ?_
    have := List.mem_range.1 hi
    rw [Nat.add_assoc]
    exact s.readByte_storeList a (by omega)
  rw [State.readNat, bytes, leBytes_toNat, Nat.mod_eq_of_lt fits]

theorem State.readNat_one (a : Nat) : s.readNat a 1 = (s.readByte a).toNat := rfl

end

/-! ### A core that retires with a store -/

theorem State.retire_congr {s : State} {L : Nat} {f g : Core → Core} (e : f (s.core L) = g (s.core L)) : s.retire L f = s.retire L g := by
  simp only [State.retire, e]

/-- An update of a core does not touch memory: it joins the one after a store. -/
theorem State.modCore_store_modCore (s : State) (L a n : Nat) (es : SMap Byte) (f g : Core → Core) :
    ((s.modCore L f).store a n es).modCore L g = (s.store a n es).modCore L (g ∘ f) := (s.store a n es).modCore_modCore L f g

theorem State.issue_stored {s : State} {L : Nat} (takes : s.Takes L) (a n : Nat) (es : SMap Byte) {f : Core → Core}
    (attempt : ∀ c, (f c).attempt = c.attempt) : s.issue L (.run ((s.store a n es).modCore L f)) = (s.store a n es).retire L f :=
  (s.issue_of_takes L _ takes).trans ((s.store a n es).countIssue_of_counts L f attempt takes.2.2)

/-! ### What a ledger instruction does at the head of the queue (04 R119) -/

/-- The fields of 03 R91 that LEDGER_OPEN gives, up to AMAX; the rest of the record is zero. -/
def ledgerRecord (f : Fmt) (hist margin : Nat) (auto : Bool) (applied : Byte) : List Byte :=
  leBytes 2 1 ++ [BitVec.ofNat 8 f.code, if auto then 3 else 1, BitVec.ofNat 8 hist, 0, BitVec.ofNat 8 margin, 0] ++
    s16 applied.toInt ++ s16 applied.toInt

theorem State.ledgerOpenNow_eq (s : State) (L k : Nat) (f : Fmt) (h m : Nat) (a : Bool) (x : Byte) : s.ledgerOpenNow L k f h m a x =
    (s.store (recordAddr L k) 0x80 (SMap.ofList (ledgerRecord f h m a x) 0 0)).modCore L fun c =>
      { c with ledgers := SMap.put c.ledgers k f } := rfl

theorem State.ledgerCloseNow_eq (s : State) (L k : Nat) : s.ledgerCloseNow L k =
    (s.store (recordAddr L k + 3) 1 (SMap.ofList (leBytes 1 (s.readNat (recordAddr L k + 3) 1 / 2 * 2)) 0 0)).modCore L fun c =>
      { c with ledgers := SMap.erase c.ledgers k } := rfl

/-! ### Ledger instructions in the matrix queue (04 R121) -/

section
variable {s : State} {L : Nat}

/-- Nothing at the head of the queue, a matrix instruction there, or a busy array: no ledger instruction acts. -/
theorem State.settleLedgers_stays
    (h : (s.core L).matRun ≠ [] ∨ (s.core L).matQ = [] ∨ ∃ ap h ps o d rest, (s.core L).matQ = .work ap h ps o d :: rest) (n : Nat) : s.settleLedgers n L = s := by
  cases n with
  | zero => rfl
  | succ n =>
    unfold State.settleLedgers
    rcases h with busy | empty | ⟨ap, h, ps, o, d, rest, work⟩
    · exact if_neg (mt List.isEmpty_iff.1 busy)
    · simp [empty]
    · simp [work]

/-- The one ledger instruction of an idle array acts (04 R121). -/
theorem State.settleLedgers_open {k : Nat} {f : Fmt} {h m : Nat} {a : Bool} {x : Byte} (idle : (s.core L).matRun = [])
    (alone : (s.core L).matQ = [.ledgerOpen k f h m a x]) (n : Nat) :
    s.settleLedgers (n + 1) L = (s.modCore L fun c => { c with matQ := [] }).ledgerOpenNow L k f h m a x := by
  rw [State.settleLedgers]
  simp only [idle, alone, List.isEmpty_nil, if_true]
  refine State.settleLedgers_stays (.inr (.inl ?_)) n
  rw [State.ledgerOpenNow_eq, State.modCore_store_modCore, State.core_modCore]
  rfl

theorem State.settleLedgers_close {k : Nat} (idle : (s.core L).matRun = []) (alone : (s.core L).matQ = [.ledgerClose k]) (n : Nat) :
    s.settleLedgers (n + 1) L = (s.modCore L fun c => { c with matQ := [] }).ledgerCloseNow L k := by
  rw [State.settleLedgers]
  simp only [idle, alone, List.isEmpty_nil, if_true]
  refine State.settleLedgers_stays (.inr (.inl ?_)) n
  rw [State.ledgerCloseNow_eq, State.modCore_store_modCore, State.core_modCore]
  rfl

/-- The core with one more instruction in its matrix queue, at the next word (04 R101). -/
def Core.queueMatrix (c : Core) (it : MatItem) : Core := { c.advance 1 with matQ := c.matQ ++ [it] }

theorem State.queued_alone (queue : (s.core L).matQ = []) (idle : (s.core L).matRun = []) (it : MatItem) :
    ((s.modCore L fun c => c.queueMatrix it).core L).matRun = [] ∧ ((s.modCore L fun c => c.queueMatrix it).core L).matQ = [it] := by
  rw [State.core_modCore]
  exact ⟨idle, by rw [Core.queueMatrix, queue]; rfl⟩

variable (takes : s.Takes L)
include takes

/-- Behind an earlier instruction a ledger instruction waits in the queue. -/
theorem ledger_queues (behind : (s.core L).matRun ≠ [] ∨ ∃ ap h ps o d rest, (s.core L).matQ = .work ap h ps o d :: rest) (it : MatItem) :
    s.issue L (.run ((s.modCore L fun c => c.queueMatrix it).settleLedgers 16 L)) = s.retire L fun c => c.queueMatrix it := by
  have waits : (s.modCore L fun c => c.queueMatrix it).settleLedgers 16 L = s.modCore L fun c => c.queueMatrix it := by
    refine State.settleLedgers_stays ?_ 16
    rw [State.core_modCore]
    rcases behind with busy | ⟨ap, h, ps, o, d, rest, work⟩
    · exact .inl busy
    · exact .inr (.inr ⟨ap, h, ps, o, d, rest ++ [it], by rw [Core.queueMatrix, work]; rfl⟩)
  rw [waits]
  exact s.issue_run L _ (fun _ => rfl) takes

/-- One that acts at once leaves its bytes and its slot's state, and the queue as empty as before. -/
theorem ledger_acts (queue : (s.core L).matQ = []) {it : MatItem} {a n : Nat} {es : SMap Byte} (g : SMap Fmt → SMap Fmt)
    (acts : (s.modCore L fun c => c.queueMatrix it).settleLedgers 16 L =
      (((s.modCore L fun c => c.queueMatrix it).modCore L fun c => { c with matQ := [] }).store a n es).modCore L fun c =>
        { c with ledgers := g c.ledgers }) :
    s.issue L (.run ((s.modCore L fun c => c.queueMatrix it).settleLedgers 16 L)) =
      (s.store a n es).retire L fun c => { c.advance 1 with ledgers := g c.ledgers } := by
  rw [acts, State.modCore_modCore, State.modCore_store_modCore, State.issue_stored takes]
  · exact State.retire_congr (congrArg (fun q => { (s.core L).advance 1 with matQ := q, ledgers := g (s.core L).ledgers }) queue.symm)
  · exact fun _ => rfl

variable (queue : (s.core L).matQ = []) (idle : (s.core L).matRun = [])
include queue idle

theorem ledgerOpen_acts (k : Nat) (f : Fmt) (h m : Nat) (a : Bool) (x : Byte) :
    s.issue L (.run ((s.modCore L fun c => c.queueMatrix (.ledgerOpen k f h m a x)).settleLedgers 16 L)) =
      (s.store (recordAddr L k) 0x80 (SMap.ofList (ledgerRecord f h m a x) 0 0)).retire L fun c =>
        { c.advance 1 with ledgers := SMap.put c.ledgers k f } := by
  obtain ⟨run, alone⟩ := State.queued_alone queue idle (.ledgerOpen k f h m a x)
  exact ledger_acts takes queue (fun l => SMap.put l k f) (State.settleLedgers_open run alone 15)

theorem ledgerClose_acts (k : Nat) :
    s.issue L (.run ((s.modCore L fun c => c.queueMatrix (.ledgerClose k)).settleLedgers 16 L)) =
      (s.store (recordAddr L k + 3) 1 (SMap.ofList (leBytes 1 (s.readNat (recordAddr L k + 3) 1 / 2 * 2)) 0 0)).retire L fun c =>
        { c.advance 1 with ledgers := SMap.erase c.ledgers k } := by
  obtain ⟨run, alone⟩ := State.queued_alone queue idle (.ledgerClose k)
  exact ledger_acts takes queue (fun l => SMap.erase l k) (State.settleLedgers_close run alone 15)

end

/-! ### What the sequencer allows (04 R119, R121) -/

section
variable {s : State} {L slot : Nat}

theorem ledgerOpenIssue_allowed {fc : BitVec 4} {fmt : Fmt} {hist : Nat} {applied : Byte} (format : fmtOfCode fc.toNat = some fmt)
    (allowed : ledgerFormat fmt = true) (short : hist ≤ 16) (exponent : applied ≠ 0x80) (closed : (s.core L).ledgerView slot = none)
    (room : (s.core L).matQ.length < 16) (margin : Nat) (auto : Bool) :
    ledgerOpenIssue L slot fc hist margin auto applied 0 s = s.issue L (.run ((s.modCore L fun c =>
      c.queueMatrix (.ledgerOpen slot fmt (if hist = 0 then 16 else hist) margin auto applied)).settleLedgers 16 L)) := by
  have legal : ¬ ((0 : W64) ≠ 0 ∨ (!ledgerFormat fmt) = true ∨ 16 < hist ∨ applied = 0x80 ∨
      ((s.core L).ledgerView slot).isSome = true) := by
    rintro (reserved | excluded | long | least | opened)
    · exact reserved rfl
    · simp [allowed] at excluded
    · omega
    · exact exponent least
    · simp [closed] at opened
  unfold ledgerOpenIssue
  simp only [format]
  rw [if_neg legal, if_neg (Nat.not_le.2 room)]
  rfl

theorem ledgerCloseIssue_allowed (opened : (s.core L).ledgerView slot ≠ none) (room : (s.core L).matQ.length < 16) :
    ledgerCloseIssue L slot 0 s =
      s.issue L (.run ((s.modCore L fun c => c.queueMatrix (.ledgerClose slot)).settleLedgers 16 L)) := by
  have legal : ¬ ((0 : W64) ≠ 0 ∨ ((s.core L).ledgerView slot).isNone = true) := by simpa using opened
  unfold ledgerCloseIssue
  dsimp only
  rw [if_neg legal, if_neg (Nat.not_le.2 room)]
  rfl

/-- A slot that is open, or will be once the queue has acted, opens no second time. -/
theorem ledgerOpenIssue_refused (takes : s.Takes L) (opened : (s.core L).ledgerView slot ≠ none) (fc : BitVec 4) (hist margin : Nat) (auto : Bool)
    (applied : Byte) : ledgerOpenIssue L slot fc hist margin auto applied 0 s = s.raise L stIllegal := by
  have isOpen := Option.isSome_iff_ne_none.2 opened
  unfold ledgerOpenIssue
  cases fmtOfCode fc.toNat with
  | none => exact s.issue_of_takes L _ takes
  | some fmt =>
    dsimp only
    rw [if_pos (.inr (.inr (.inr (.inr isOpen))))]
    exact s.issue_of_takes L _ takes

theorem ledgerCloseIssue_refused (takes : s.Takes L) (closed : (s.core L).ledgerView slot = none) :
    ledgerCloseIssue L slot 0 s = s.raise L stIllegal := by
  unfold ledgerCloseIssue
  dsimp only
  rw [if_pos (.inr (Option.isNone_iff_eq_none.2 closed))]
  exact s.issue_of_takes L _ takes

end

/-! ### The record (03 R91) -/

/-- The fields of a record that has just opened hold what LEDGER_OPEN gave, AMAX reads zero, and no byte outside changes. -/
theorem ledgerRecord_fields {hist margin : Nat} (short : hist ≤ 16) (small : margin < 8) (s : State) (a : Nat) (f : Fmt) (auto : Bool)
    (applied : Byte) :
    let t := s.store a 0x80 (SMap.ofList (ledgerRecord f hist margin auto applied) 0 0)
    t.readNat a 2 = 1 ∧ t.readByte (a + 2) = BitVec.ofNat 8 f.code ∧ t.readByte (a + 3) = (if auto then 3 else 1) ∧
      t.readNat (a + 4) 1 = hist ∧ t.readNat (a + 6) 1 = margin ∧
      t.readNat (a + 8) 2 = (applied.signExtend 16).toNat ∧ t.readNat (a + 0xA) 2 = (applied.signExtend 16).toNat ∧
      t.readNat (a + 0xC) 4 = 0 ∧ ∀ k, k < a ∨ a + 0x80 ≤ k → t.readByte k = s.readByte k := by
  have exponent : (applied.signExtend 16).toNat = twosOf 16 applied.toInt := BitVec.toNat_ofInt _
  have fits : twosOf 16 applied.toInt < 256 ^ 2 := exponent ▸ (applied.signExtend 16).isLt
  rw [exponent]
  exact ⟨s.readNat_storeList a (o := 0) (by decide) rfl (by decide), s.readByte_storeList a (by decide), s.readByte_storeList a (by decide),
    s.readNat_storeList a (by decide) rfl (by omega), s.readNat_storeList a (by decide) rfl (by omega),
    s.readNat_storeList a (by decide) rfl fits, s.readNat_storeList a (by decide) rfl fits,
    s.readNat_storeList a (by decide) rfl (by decide), fun k outside => s.readByte_store_outside a outside⟩

theorem recordAddr_eq (L slot : Nat) : recordAddr L slot = csBase L + 0xFFE000 + slot * 0x80 := by
  unfold recordAddr
  omega

/-- Settles O17: behind an earlier instruction both wait in the queue, with the array idle both act on the record at once. -/
theorem ledgerSlotsOpenAndClose : Obligations.LedgerSlotsOpenAndClose := by
  unfold Obligations.LedgerSlotsOpenAndClose
  intro s core slot fc fmt hist margin auto applied takes
  have length : (if hist = 0 then 16 else hist.toNat) = if hist.toNat = 0 then 16 else hist.toNat :=
    if_congr (BitVec.toNat_inj (y := 0)).symm rfl rfl
  dsimp only
  rw [← recordAddr_eq, length]
  refine ⟨fun closed format allowed short exponent => ⟨fun room behind => ?_, fun queue idle => ?_⟩,
    fun opened => ⟨fun room behind => ?_, fun queue idle => ?_⟩,
    fun opened => congrArg Host.Outcome.next (ledgerOpenIssue_refused takes opened _ _ _ _ _),
    fun closed => congrArg Host.Outcome.next (ledgerCloseIssue_refused takes closed)⟩
  · exact congrArg Host.Outcome.next
      ((ledgerOpenIssue_allowed format allowed short exponent closed room _ _).trans (ledger_queues takes behind _))
  · have room : (s.core core.val).matQ.length < 16 := by simp [queue]
    have acts := (ledgerOpenIssue_allowed format allowed short exponent closed room margin.toNat auto).trans
      (ledgerOpen_acts takes queue idle _ _ _ _ _ _)
    obtain ⟨version, code, flags, len, marg, app, next, amax, outside⟩ :=
      ledgerRecord_fields (hist := if hist.toNat = 0 then 16 else hist.toNat) (by split <;> omega) margin.isLt s
        (recordAddr core.val slot.toNat) fmt auto applied
    exact ⟨_, congrArg Host.Outcome.next acts, version, code, flags, len, marg, app, next, amax, outside, rfl, rfl⟩
  · exact congrArg Host.Outcome.next ((ledgerCloseIssue_allowed opened room).trans (ledger_queues takes behind _))
  · have room : (s.core core.val).matQ.length < 16 := by simp [queue]
    have acts := (ledgerCloseIssue_allowed opened room).trans (ledgerClose_acts takes queue idle _)
    have flags : s.readNat (recordAddr core.val slot.toNat + 3) 1 / 2 * 2 < 256 ^ 1 := by
      have := (s.readByte (recordAddr core.val slot.toNat + 3)).isLt
      rw [State.readNat_one]
      omega
    exact ⟨_, congrArg Host.Outcome.next acts, s.readNat_storeList _ (o := 0) (by decide) rfl flags,
      fun k other => s.readByte_store_outside _ (by omega), rfl, rfl⟩

end Sys2Proof.Machine

/-! SUPPORT. Scalar instructions (04 R99, R100, R123, R124, R126): results, branches, jumps and special values, the loads and stores of one
word, and what every scalar or vector instruction refuses. -/

namespace Sys2Proof.Machine

/-! ### A core that takes its instruction (04 R120, R121) -/

section
variable {s : State} {L : Nat} (takes : s.Takes L)
include takes

theorem State.issue_raise (st : W16) : s.issue L (.raise st) = s.raise L st := s.issue_of_takes L _ takes

theorem State.issue_stop (t : State) : s.issue L (.stop t) = t := s.issue_of_takes L _ takes

end

/-! ### Results, branches and jumps (04 R123, R124) -/

section
variable {s : State} {f : ScalarF} (takes : s.Takes f.core.val) (unreserved : f.rsv = 0)
include takes unreserved

/-- A scalar instruction without reserved bits that updates its core alone retires with that update. -/
theorem scalarIssue_retires {g : Core → Core} (attempt : ∀ c, (g c).attempt = c.attempt) :
    s.issue f.core.val (if f.rsv ≠ 0 then .raise stIllegal else .run (s.modCore f.core.val g)) = s.retire f.core.val g := by
  rw [if_neg (not_not.2 unreserved)]
  exact s.issue_run _ _ attempt takes

theorem scalarResult_retires (v : Core → W64) :
    scalarResult f s v = s.retire f.core.val fun c => (c.setReg f.rd.val (v c)).advance 1 :=
  scalarIssue_retires takes unreserved fun c => Core.setReg_attempt c _ _

theorem branchResult_retires (test : W64 → W64 → Bool) :
    branchResult f s test = s.retire f.core.val fun c =>
      if test (c.reg f.rs1.val) (c.reg f.rs2.val) then { c with pc := branchTarget f c } else c.advance 1 := by
  refine scalarIssue_retires takes unreserved fun c => ?_
  split <;> rfl

/-- A branch goes to its target where its condition holds, else to the next word. -/
theorem completes_branch {i : Instr} {test : W64 → W64 → Bool} {cond : W64 → W64 → Prop} (runs : exec i s = .next (branchResult f s test))
    (decides : ∀ a b, test a b = true ↔ cond a b) : Completes i s fun t =>
      t = s.retire f.core.val (fun c => { c with pc := branchTarget f c }) ∧
          cond ((s.core f.core.val).reg f.rs1.val) ((s.core f.core.val).reg f.rs2.val) ∨
        t = s.retire f.core.val (fun c => c.advance 1) ∧
          ¬ cond ((s.core f.core.val).reg f.rs1.val) ((s.core f.core.val).reg f.rs2.val) := by
  refine ⟨_, runs.trans (congrArg Host.Outcome.next (branchResult_retires takes unreserved test)), ?_⟩
  by_cases holds : cond ((s.core f.core.val).reg f.rs1.val) ((s.core f.core.val).reg f.rs2.val)
  · exact .inl ⟨State.retire_congr (if_pos ((decides _ _).2 holds)), holds⟩
  · exact .inr ⟨State.retire_congr (if_neg (mt (decides _ _).1 holds)), holds⟩

/-- RDSPEC reads the special value that IMM32 names. -/
theorem rdspec_retires {v : W64} (value : specialValue s f.core.val f.imm.toNat = some v) :
    exec (.rdspec f) s = .next (s.retire f.core.val fun c => (c.setReg f.rd.val v).advance 1) := by
  refine congrArg Host.Outcome.next ?_
  rw [value]
  exact scalarResult_retires takes unreserved fun _ => v

end

theorem specialValue_none (s : State) (L : Nat) {n : Nat} (beyond : 4 < n) : specialValue s L n = none := by
  obtain ⟨m, rfl⟩ := Nat.exists_eq_add_of_le' (Nat.succ_le_of_lt beyond)
  rfl

/-- Settles O7: every form is one result in RD. -/
theorem scalarResults : Obligations.ScalarResults := by
  unfold Obligations.ScalarResults
  refine ⟨fun s f takes unreserved => ?_, fun s f takes unreserved => ?_⟩
  all_goals have ran := fun v => congrArg (Host.Outcome.next (φ := Fault) (ρ := Refusal)) (scalarResult_retires takes unreserved v)
  · exact ⟨ran _, ran _, ran _, ran _, ran _, ran _, ran _, ran _, ran _, ran _, ran _⟩
  · exact ⟨ran _, ran _, ran _, ran _, ran _, ran _, ran _, ran _, ran _, ran _, ran _, ran _, ran _⟩

/-- Settles O8: the branches by their comparisons, the jumps and special values as single updates of the core. -/
theorem branchesJumpsAndSpecialValues : Obligations.BranchesJumpsAndSpecialValues := by
  unfold Obligations.BranchesJumpsAndSpecialValues
  refine ⟨fun s f takes unreserved => ?_, fun s f takes unreserved => ?_⟩
  · have jumps := fun g attempt => congrArg (Host.Outcome.next (φ := Fault) (ρ := Refusal))
      (scalarIssue_retires takes unreserved (g := g) attempt)
    exact ⟨completes_branch takes unreserved rfl fun a b => beq_iff_eq, completes_branch takes unreserved rfl fun a b => bne_iff_ne,
      completes_branch (test := fun a b => decide (a.toInt < b.toInt)) takes unreserved rfl fun a b => decide_eq_true_iff,
      completes_branch (test := fun a b => decide (b.toInt ≤ a.toInt)) takes unreserved rfl fun a b => decide_eq_true_iff,
      jumps _ fun _ => rfl, jumps _ fun c => Core.setReg_attempt c _ _, jumps _ fun _ => rfl⟩
  · have reads := fun (n : Nat) (v : W64) (imm : f.imm = BitVec.ofNat 32 n) (value : specialValue s f.core.val (BitVec.ofNat 32 n).toNat = some v) =>
      rdspec_retires takes unreserved (imm ▸ value)
    refine ⟨fun imm => reads 0 _ imm rfl, fun imm => reads 1 _ imm rfl, fun imm => reads 2 _ imm rfl, fun imm => reads 3 _ imm rfl,
      fun imm => reads 4 _ imm rfl, fun beyond => congrArg Host.Outcome.next ?_⟩
    rw [specialValue_none s _ beyond]
    exact State.issue_raise takes stIllegal

/-! ### One word of core store (04 R124, R126) -/

theorem scalarAddr_inside {f : ScalarF} {c : Core} (inside : (c.reg f.rs1.val + immOf f).toNat < 2 ^ 21) :
    scalarAddr f c = some (c.reg f.rs1.val + immOf f).toNat := if_pos inside

theorem scalarAddr_beyond {f : ScalarF} {c : Core} (beyond : 2 ^ 21 ≤ (c.reg f.rs1.val + immOf f).toNat) : scalarAddr f c = none :=
  if_neg (Nat.not_lt.2 beyond)

/-- Byte `i` of a number, little-endian (00 R13). -/
theorem leBytes_getD {n i : Nat} (inside : i < n) (v : Nat) : (leBytes n v).getD i 0 = BitVec.ofNat 8 (v / 256 ^ i) := by
  induction n generalizing i v with
  | zero => omega
  | succ n ih =>
    cases i with
    | zero => rw [Nat.pow_zero, Nat.div_one]; rfl
    | succ i => rw [leBytes, List.getD_cons_succ, ih (by omega), Nat.div_div_eq_div_mul, Nat.pow_succ']

/-- A byte of a word is the word shifted down to it. -/
theorem byte_of_word (v : W64) (i : Nat) : BitVec.ofNat 8 (v.toNat / 256 ^ i) = (v >>> (8 * i)).truncate 8 := by
  apply BitVec.eq_of_toNat_eq
  rw [BitVec.toNat_ofNat, BitVec.truncate_eq_setWidth, BitVec.toNat_setWidth, BitVec.toNat_ushiftRight, Nat.shiftRight_eq_div_pow, Nat.pow_mul]

theorem State.readByte_writeWord (s : State) (a : Nat) (v : W64) (k : Nat) : (s.writeWord a v).readByte k =
    if a ≤ k ∧ k < a + 8 then (v >>> (8 * (k - a))).truncate 8 else s.readByte k := by
  refine (s.readByte_store a 8 _ k).trans ?_
  split
  next inside =>
    rw [← Nat.zero_add (k - a), SMap.getD_ofList, leBytes_getD (by omega), byte_of_word, Nat.zero_add]
  next => rfl

section
variable {s : State} {f : ScalarF} {w : Nat} (takes : s.Takes f.core.val) (unreserved : f.rsv = 0)
include takes unreserved

theorem ld_retires (addr : scalarAddr f (s.core f.core.val) = some w) (drained : (s.core f.core.val).readBlocked w 1 = false)
    (sound : s.Sound (csBase f.core.val + w * 8) 8) : exec (.ld f) s = .next (s.retire f.core.val fun c =>
      (c.setReg f.rd.val (s.readWord (csBase f.core.val + w * 8))).advance 1) := by
  have runs : loadVerdict f s = .run (s.modCore f.core.val fun c =>
      (c.setReg f.rd.val (s.readWord (csBase f.core.val + w * 8))).advance 1) := by
    simp [loadVerdict, unreserved, addr, drained, State.readRange_readable _ _ _ _ _ (State.readable_coreStore sound)]
  refine congrArg Host.Outcome.next ?_
  rw [runs]
  exact s.issue_run _ _ (fun c => Core.setReg_attempt c _ _) takes

theorem st_retires (addr : scalarAddr f (s.core f.core.val) = some w) (allowed : s.writeRefused f.core.val w 1 = false)
    (free : (s.core f.core.val).writeBlocked w 1 = false) : exec (.st f) s =
      .next ((s.writeWord (csBase f.core.val + w * 8) ((s.core f.core.val).reg f.rs2.val)).retire f.core.val fun c => c.advance 1) := by
  refine congrArg Host.Outcome.next ?_
  have runs : storeVerdict f s = .run ((s.writeWord (csBase f.core.val + w * 8) ((s.core f.core.val).reg f.rs2.val)).modCore f.core.val
      fun c => c.advance 1) := by
    simp [storeVerdict, unreserved, addr, allowed, free]
  rw [runs]
  exact State.issue_stored takes _ _ _ fun _ => rfl

theorem ld_st_unmapped (addr : scalarAddr f (s.core f.core.val) = none) :
    exec (.ld f) s = .next (s.raise f.core.val stUnmapped) ∧ exec (.st f) s = .next (s.raise f.core.val stUnmapped) := by
  have load : loadVerdict f s = .raise stUnmapped := by simp [loadVerdict, unreserved, addr]
  have store : storeVerdict f s = .raise stUnmapped := by simp [storeVerdict, unreserved, addr]
  refine ⟨congrArg Host.Outcome.next ?_, congrArg Host.Outcome.next ?_⟩
  · rw [load]
    exact State.issue_raise takes stUnmapped
  · rw [store]
    exact State.issue_raise takes stUnmapped

end

/-- Settles O9: a load is one result in RD, a store one write of a word, and beyond core store there is no address. -/
theorem loadsAndStoresOfOneWord : Obligations.LoadsAndStoresOfOneWord := by
  unfold Obligations.LoadsAndStoresOfOneWord
  refine ⟨fun s f takes unreserved inside drained sound => ld_retires takes unreserved (scalarAddr_inside inside) drained sound,
    fun s f takes unreserved inside allowed free => ?_,
    fun s f takes unreserved beyond => ld_st_unmapped takes unreserved (scalarAddr_beyond beyond)⟩
  exact ⟨_, st_retires takes unreserved (scalarAddr_inside inside) allowed free, s.readByte_writeWord _ _, rfl, rfl⟩

/-! ### What every scalar and vector instruction refuses (04 R99, R120, R126) -/

/-- A command comes to one instruction at a core's sequencer, which a nonzero reserved field refuses. -/
def ChecksReserved {n : Nat} (L : Nat) (rsv : BitVec n) (s : State) (c : Instr) : Prop :=
  ∃ v, exec c s = .next (s.issue L v) ∧ (rsv ≠ 0 → v = .raise stIllegal)

theorem ChecksReserved.refuses {n L : Nat} {rsv : BitVec n} {s : State} {c : Instr} (h : ChecksReserved L rsv s c) :
    (s.coreReady L = false → exec c s = .next s) ∧
      (s.coreReady L = true → ((s.core L).inTurn = false ∨ rsv ≠ 0) → exec c s = .next (s.raise L stIllegal)) := by
  obtain ⟨v, runs, reserved⟩ := h
  rw [runs]
  refine ⟨fun unready => by simp [State.issue, unready], fun ready refused => congrArg Host.Outcome.next ?_⟩
  unfold State.issue
  rw [if_pos ready]
  split
  next inTurn => rw [reserved (refused.resolve_left (by simp [inTurn]))]
  next => rfl

/-- RDSPEC refuses a reserved bit as every other scalar instruction does. -/
theorem rdspec_checksReserved (f : ScalarF) (s : State) : ChecksReserved f.core.val f.rsv s (.rdspec f) := by
  cases value : specialValue s f.core.val f.imm.toNat with
  | none =>
    refine ⟨.raise stIllegal, congrArg Host.Outcome.next ?_, fun _ => rfl⟩
    rw [value]
  | some v =>
    refine ⟨if f.rsv ≠ 0 then .raise stIllegal else .run (s.modCore f.core.val fun c => (c.setReg f.rd.val v).advance 1),
      congrArg Host.Outcome.next ?_, fun reserved => if_pos reserved⟩
    rw [value]
    rfl

theorem vectorIssue_checksReserved {f : VectorF} {s : State} {c : Instr} {v : State → Verdict} (runs : exec c s = .next (vectorIssue f s v)) :
    ChecksReserved f.core.val f.rsv s c := ⟨_, runs, fun reserved => if_pos reserved⟩

/-- Settles O10: each instruction is issued under a verdict that refuses its reserved bits. -/
theorem refusedInstructionsRaise : Obligations.RefusedInstructionsRaise := by
  unfold Obligations.RefusedInstructionsRaise
  refine ⟨fun s f c mem => ChecksReserved.refuses (rsv := f.rsv) ?_, fun s f c mem => ChecksReserved.refuses (rsv := f.rsv) ?_⟩
  · have checked : ∀ {c v}, exec c s = .next (s.issue f.core.val v) → (f.rsv ≠ 0 → v = .raise stIllegal) →
        ChecksReserved f.core.val f.rsv s c := fun runs reserved => ⟨_, runs, reserved⟩
    refine List.forall_iff_forall_mem.1 ?_ c mem
    repeat' apply And.intro
    on_goal -1 => exact rdspec_checksReserved f s
    all_goals exact checked rfl fun reserved => if_pos reserved
  · refine List.forall_iff_forall_mem.1 ?_ c mem
    repeat' apply And.intro
    all_goals exact vectorIssue_checksReserved rfl

end Sys2Proof.Machine

/-! SUPPORT. What follows a status (04 R127, 08 R220, R223, R228, 13 R376): a part that waits to be rebuilt, a job that holds with its turn's
status, a core that fails. -/

namespace Sys2Proof.Machine

/-! ### What a withdrawn part leaves (04 R115, R127, R128) -/

/-- `t` differs from `s` by its cores and the mesh alone. -/
def State.OnCoresAndMesh (s t : State) : Prop := t = { s with cores := t.cores, mesh := t.mesh }

section
variable {s t u : State}

theorem State.OnCoresAndMesh.refl (s : State) : s.OnCoresAndMesh s := rfl

theorem State.OnCoresAndMesh.trans (h : s.OnCoresAndMesh t) (k : t.OnCoresAndMesh u) : s.OnCoresAndMesh u := by
  unfold State.OnCoresAndMesh at *
  rw [k, h]

theorem State.OnCoresAndMesh.sched (h : s.OnCoresAndMesh t) : t.sched = s.sched := by rw [h]

theorem State.OnCoresAndMesh.foldl {β : Type} {f : State → β → State} (hf : ∀ (t : State) x, t.OnCoresAndMesh (f t x)) (l : List β) (s : State) :
    s.OnCoresAndMesh (l.foldl f s) := foldl_related State.OnCoresAndMesh.refl State.OnCoresAndMesh.trans (fun x _ t => hf t x) s

theorem State.modCore_onCoresAndMesh (s : State) (L : Nat) (f : Core → Core) : s.OnCoresAndMesh (s.modCore L f) := rfl

theorem State.withdrawSlots_onCoresAndMesh (s : State) (L : Nat) : s.OnCoresAndMesh (s.withdrawSlots L) := by
  refine State.OnCoresAndMesh.foldl (fun t e => State.OnCoresAndMesh.foldl (fun u b => ?_) _ _) _ s
  dsimp only
  split <;> rfl

theorem State.withdrawPart_onCoresAndMesh (s : State) (p L : Nat) : s.OnCoresAndMesh (s.withdrawPart p L) :=
  State.OnCoresAndMesh.trans (t := s.withdrawHeld p (some L)) rfl ((State.withdrawSlots_onCoresAndMesh _ L).trans rfl)

end

/-- What an update of a core keeps of every core it keeps of each. -/
theorem State.modCore_keeps {γ : Type} (g : Core → γ) {f : Core → Core} (keeps : ∀ c, g (f c) = g c) (s : State) (L M : Nat) :
    g ((s.modCore L f).core M) = g (s.core M) := by
  by_cases e : M = L
  · rw [e, State.core_modCore, keeps]
  · rw [State.core_modCore_other s f e]

/-- A withdrawal changes the cores' inboxes and pins alone. -/
theorem State.withdrawPart_keeps {γ : Type} (g : Core → γ) (inboxes : ∀ c i x, g (Core.setInbox c i x) = g c)
    (pins : ∀ (c : Core) ps, g { c with pins := ps } = g c) (s : State) (p L M : Nat) :
    g ((s.withdrawPart p L).core M) = g (s.core M) := by
  refine foldl_keeps (fun t : State => g (t.core M)) (fun t e => foldl_keeps (fun t : State => g (t.core M)) (fun u b => ?_) _ t) s.cores
    (s.withdrawHeld p (some L))
  dsimp only
  split
  · exact (State.modCore_keeps g (fun c => pins c _) _ L M).trans (State.modCore_keeps g (fun c => inboxes c _ _) _ e.1 M)
  · rfl

theorem State.part_of_sched {s t : State} (h : t.sched = s.sched) (p : Nat) : t.part p = s.part p := by simp only [State.part, h]

theorem State.standOf_of_sched {s t : State} (h : t.sched = s.sched) (L : Nat) : t.standOf L = s.standOf L := by
  simp only [State.standOf, State.partOf, State.part, h]

/-- A core that stands in a job has one. -/
theorem State.job_of_standOf {s : State} {L : Nat} {pl : Stand} (stand : s.standOf L = some pl) : ∃ j, (s.part pl.part).job = some j := by
  unfold State.standOf at stand
  split at stand
  · cases stand
  · split at stand
    · cases stand
    next p _ _ j job =>
      have part : pl.part = p := by
        split at stand
        · exact (Option.some.inj stand) ▸ rfl
        · split at stand
          · exact (Option.some.inj stand) ▸ rfl
          · cases stand
      exact ⟨j, part ▸ job⟩

/-! ### A part that waits to be rebuilt (04 R127, 08 R220) -/

section
variable {s : State} {L : Nat} {pl : Stand}

/-- A core that stops has nothing left in its units; its last status and its first failure stay. -/
theorem Core.stop_leaves (c : Core) : c.stop.vecQ = 0 ∧ c.stop.matQ = [] ∧ c.stop.ferry0 = [] ∧ c.stop.ferry1 = [] ∧ c.stop.hold = .none ∧
    c.stop.lastStatus = c.lastStatus ∧ c.stop.attempt.first = c.attempt.first := by
  unfold Core.stop
  split <;> exact ⟨rfl, rfl, rfl, rfl, rfl, rfl, rfl⟩

theorem State.awaitRebuild_rebuilds (s : State) (L : Nat) (cleared : Bool) : ((s.awaitRebuild L cleared).core L).attempt.rebuild = true ∧
    ((s.awaitRebuild L true).core L).attempt.cleared = true := by
  unfold State.awaitRebuild
  rw [State.core_modCore, State.core_modCore]
  exact ⟨rfl, Bool.or_true _⟩

theorem State.awaitRebuild_onCoresAndMesh (s : State) (L : Nat) (cleared : Bool) : s.OnCoresAndMesh (s.awaitRebuild L cleared) := by
  unfold State.awaitRebuild
  refine State.OnCoresAndMesh.trans ?_ (State.modCore_onCoresAndMesh _ L _)
  split
  · split
    · rfl
    · exact s.withdrawPart_onCoresAndMesh _ L
  · rfl

/-- The core stops, its attempt and its last status as they were, and waits. -/
theorem State.awaitRebuild_core (s : State) (L : Nat) (cleared : Bool) :
    ∃ c : Core, c.attempt = (s.core L).attempt ∧ c.lastStatus = (s.core L).lastStatus ∧ (s.awaitRebuild L cleared).core L =
      { c.stop with attempt := { c.stop.attempt with
        rebuild := true, ended := false, cleared := c.attempt.cleared || cleared, issued := 0 } } := by
  unfold State.awaitRebuild
  rw [State.core_modCore]
  refine ⟨_, ?_, ?_, rfl⟩
  all_goals split
  any_goals split
  any_goals rfl
  · exact State.withdrawPart_keeps Core.attempt (fun _ _ _ => rfl) (fun _ _ => rfl) s _ L L
  · exact State.withdrawPart_keeps Core.lastStatus (fun _ _ _ => rfl) (fun _ _ => rfl) s _ L L

/-! ### A first failing status (04 R127) -/

/-- The core as a first failing status marks it. -/
def Core.failedFirst (c : Core) (st : W16) : Core :=
  { c with lastStatus := st, attempt := { c.attempt with first := some ⟨st, c.pc, c.attempt.issued⟩ } }

theorem State.raise_first {st : W16} (stand : s.standOf L = some pl) (first : (s.core L).attempt.first = none)
    (replays : st = stOverrun → (s.core L).attempt.spared = false) :
    s.raise L st = (s.modCore L fun c => c.failedFirst st).awaitRebuild L false := by
  have replayed : ¬ (st = stOverrun ∧ (s.core L).attempt.spared = true) := fun ⟨overrun, spared⟩ =>
    Bool.false_ne_true ((replays overrun).symm.trans spared)
  unfold State.raise
  simp only [stand, first]
  rw [if_neg replayed, State.modCore_modCore]
  rfl

/-- On the replay after a substitution a first TURN_OVERRUN ends the turn (08 R235). -/
theorem State.raise_overrun_spared (stand : s.standOf L = some pl) (first : (s.core L).attempt.first = none)
    (spared : (s.core L).attempt.spared = true) :
    s.raise L stOverrun = (s.modCore L fun c => { c with lastStatus := stOverrun }).holdStatus pl.part stOverrun := by
  unfold State.raise
  simp only [stand, first]
  exact if_pos ⟨trivial, spared⟩

theorem State.raise_again {st : W16} {f : Failure} (stand : s.standOf L = some pl) (first : (s.core L).attempt.first = some f)
    (again : f.status = st ∧ (f.addr = (s.core L).pc ∨ st = stOverrun)) :
    s.raise L st = (s.modCore L fun c => { c with lastStatus := st }).holdStatus pl.part st := by
  unfold State.raise
  simp only [stand, first]
  exact if_pos again

theorem State.raise_other {st : W16} {f : Failure} (stand : s.standOf L = some pl) (first : (s.core L).attempt.first = some f)
    (other : ¬ (f.status = st ∧ (f.addr = (s.core L).pc ∨ st = stOverrun))) :
    s.raise L st = (s.modCore L fun c => { c with lastStatus := st }).failCore L 6 := by
  unfold State.raise
  simp only [stand, first]
  exact if_neg other

end

/-! ### A job that holds with a status (08 R228) -/

section
variable {s : State} {p : Nat} {j : Job}

theorem State.Notifies.sched {s t : State} (h : s.Notifies t) : t.sched = s.sched := by rw [h]

theorem State.tellGroup_sched (s : State) (p : Nat) (ended : Bool) : (s.tellGroup p ended).sched = s.sched := by
  unfold State.tellGroup
  split
  · rfl
  · split
    · exact foldl_keeps State.sched (fun t k => (t.sendMember_notifies k _).sched) _ _
    · rfl

theorem State.abandonParts_part (job : (s.part p).job = some j) :
    ∃ k, (s.abandonParts p).part p = { s.part p with job := some k } := by
  have stopped : ∀ (u : State) (f : Core → Core), (j.cores.foldl (fun t L => t.modCore L f) u).sched = u.sched := fun u f =>
    foldl_keeps State.sched (fun t L => t.modCore_sched L f) _ u
  have withdrawn : (j.cores.foldl (fun t L => t.withdrawPart p L) s).sched = s.sched :=
    foldl_keeps State.sched (fun t L => (t.withdrawPart_onCoresAndMesh p L).sched) _ s
  refine ⟨{ j with pendingShadow := [], vote := none, compared := false, reported := false, go := none }, ?_⟩
  unfold State.abandonParts
  rw [job]
  refine (State.part_modJob _ p _).trans ?_
  rw [State.part_of_sched ((stopped _ _).trans withdrawn), job]
  rfl

/-- Status is the only reason of the highest rank. -/
theorem reasonRank_top {r : Nat} (h : 3 ≤ reasonRank r) : r = 2 := by
  unfold reasonRank at h
  split at h
  · rfl
  all_goals omega

/-- A job that holds for Status shows it, the highest cause (08 R228). -/
theorem State.enterHold_part (job : (s.part p).job = some j) (status : j.holdStatus = true) : ∃ k,
    (s.enterHold p).part p = { s.part p with job := some k } ∧ k.state = .holding ∧ k.reason = 2 ∧ k.holdStatus = true := by
  have top : j.topReason = 2 := if_pos status
  unfold State.enterHold
  rw [job]
  simp only [top]
  split
  next shown =>
    exact ⟨j, congrArg (fun x => { s.part p with job := x }) job, shown.1, reasonRank_top shown.2, status⟩
  next =>
    refine ⟨{ j with state := .holding, reason := 2 }, ?_, rfl, rfl, status⟩
    rw [State.part_of_sched (State.tellGroup_sched _ p false), State.part_of_sched (State.journalWrite_notifies _ _ _ _ _ _).sched, State.part_modJob, job]
    rfl

/-- A turn that ends with a status: the partition shows it unless the job holds for one already, and the job holds. -/
theorem State.holdStatus_part (job : (s.part p).job = some j) (st : W16) :
    ((s.part p).job.map Job.holdStatus = some false → ((s.holdStatus p st).part p).lastStatus = st) ∧
      ∃ k, ((s.holdStatus p st).part p).job = some k ∧ k.state = .holding ∧ k.reason = 2 ∧ k.holdStatus = true := by
  obtain ⟨k, abandoned⟩ := State.abandonParts_part job
  have shown : ∃ status, ((s.part p).job.map Job.holdStatus = some false → status = st) ∧
      (if ((s.part p).job.map Job.holdStatus).getD false then s.abandonParts p
        else (s.abandonParts p).modPart p fun x => { x with lastStatus := st }).part p =
        { s.part p with lastStatus := status, job := some k } := by
    split
    next already => exact ⟨(s.part p).lastStatus, fun new => by simp [new] at already, abandoned⟩
    next => exact ⟨st, fun _ => rfl, by rw [State.part_modPart, abandoned]⟩
  obtain ⟨status, new, part⟩ := shown
  have marked : ∀ u : State, u.part p = { s.part p with lastStatus := status, job := some k } →
      (u.modJob p fun j => { j with holdStatus := true }).part p =
        { s.part p with lastStatus := status, job := some { k with holdStatus := true } } := fun u h => by
    rw [State.part_modJob, h]
    rfl
  obtain ⟨k', held, state, reason, hold⟩ := State.enterHold_part (congrArg Part.job (marked _ part)) rfl
  unfold State.holdStatus
  dsimp only
  rw [held, marked _ part]
  exact ⟨new, k', rfl, state, reason, hold⟩

end

/-! ### A second failure fails the core (13 R376) -/

section
variable {s : State} {L n : Nat} {pl : Stand}

/-- A failed core that stands in a job waits to be rebuilt from its sources. -/
theorem State.failCore_rebuilds (stand : s.standOf L = some pl) (reserve : (s.cluster (L / 12)).lowestReserve = some n)
    (free : s.thirdRuns (L / 12) = false) (served : (s.cluster (L / 12)).map.getD (L % 12) 0xF ≠ 0xF) (cause : Nat) :
    ∃ t : State, s.failCore L cause = t.awaitRebuild L true := by
  unfold State.failCore
  dsimp only
  rw [if_neg served, reserve]
  dsimp only
  rw [if_neg (by simp [free]), stand]
  exact ⟨_, if_pos rfl⟩

/-- The slots after a substitution: the new one serves, the failed one is out. -/
theorem State.Substituted.slots {t : State} (h : s.Substituted t L n) :
    (t.cluster (L / 12)).map = (s.cluster (L / 12)).map.set (L % 12) n ∧ (t.cluster (L / 12)).slotState n = 0 ∧
      ((s.cluster (L / 12)).map.getD (L % 12) 0xF ≠ n →
        (t.cluster (L / 12)).slotState ((s.cluster (L / 12)).map.getD (L % 12) 0xF) = 3) := by
  obtain ⟨row, -, -⟩ := h
  rw [row]
  refine ⟨rfl, SMap.getD_put_same _ _ _ _, fun other => ?_⟩
  exact (SMap.getD_put_other _ _ _ other).trans (SMap.getD_put_same _ _ _ _)

end

/-- Settles O11: a first status is recorded and the part waits; the same again holds the job, any other fails the core. -/
theorem failuresReplayThenEndOrSubstitute : Obligations.FailuresReplayThenEndOrSubstitute := by
  unfold Obligations.FailuresReplayThenEndOrSubstitute
  have marked : ∀ {s : State} {L : Nat} {pl : Stand} (f : Core → Core), s.standOf L = some pl → (s.modCore L f).standOf L = some pl :=
    fun f stand => (State.standOf_of_sched rfl _).trans stand
  refine ⟨fun s L st pl stand first undurable replays => ?_, fun s L pl stand first spared => ?_, fun s L st pl f stand first => ⟨fun again => ?_,
    fun n other reserve free served => ?_⟩⟩
  · dsimp only
    rw [State.raise_first stand first replays]
    obtain ⟨c, attempt, status, core⟩ := State.awaitRebuild_core (s.modCore L fun c => c.failedFirst st) L false
    rw [State.core_modCore] at attempt status
    obtain ⟨vec, mat, ferry0, ferry1, hold, last, kept⟩ := c.stop_leaves
    rw [core]
    exact ⟨kept.trans (congrArg Attempt.first attempt), rfl, c.stop_inTurn, last.trans status, vec, mat, ferry0, ferry1, hold,
      (s.modCore_onCoresAndMesh L fun c => c.failedFirst st).trans (State.awaitRebuild_onCoresAndMesh _ L false)⟩
  · obtain ⟨j, job⟩ := State.job_of_standOf stand
    rw [show (0x0503 : W16) = stOverrun from rfl, State.raise_overrun_spared stand first spared]
    exact (State.holdStatus_part (s := s.modCore L _) job stOverrun).2
  · obtain ⟨j, job⟩ := State.job_of_standOf stand
    rw [State.raise_again stand first again]
    exact State.holdStatus_part (s := s.modCore L _) job st
  · rw [State.raise_other stand first other]
    have substituted := State.Substituted.of_onCores (s.modCore_onCores L fun c => { c with lastStatus := st })
      (State.failCore_substitutes (s := s.modCore L _) reserve free served 6)
    obtain ⟨t, rebuilt⟩ := State.failCore_rebuilds (marked (fun c => { c with lastStatus := st }) stand) reserve free served 6
    obtain ⟨map, new, old⟩ := substituted.slots
    refine ⟨map, new, old, ?_⟩
    rw [rebuilt]
    exact ⟨(t.awaitRebuild_rebuilds L true).1, (t.awaitRebuild_rebuilds L true).2⟩

end Sys2Proof.Machine

/-! SUPPORT. Vector loads and stores (04 R125), and what vector instructions refuse (04 R125, R126, R477, 03 R87). -/

namespace Sys2Proof.Machine

/-! ### Fields of one width after each other (00 R13) -/

/-- Item `j` of field `i`, where every element of a list gives a field of `n` items. -/
theorem getD_flatMap_field {α β : Type} {n : Nat} (g : α → List β) (width : ∀ x, (g x).length = n) (l : List α) {i j : Nat} (hi : i < l.length)
    (hj : j < n) (d : β) : (l.flatMap g).getD (n * i + j) d = (g l[i]).getD j d := by
  induction l generalizing i with
  | nil => exact absurd hi (Nat.not_lt_zero i)
  | cons x l ih =>
    rw [List.flatMap_cons]
    cases i with
    | zero => rw [Nat.mul_zero, Nat.zero_add, List.getD_append _ _ _ _ (by rw [width]; exact hj)]; rfl
    | succ i =>
      rw [List.getD_append_right _ _ _ _ (by rw [width, Nat.mul_succ]; omega), width,
        show n * (i + 1) + j - n = n * i + j by rw [Nat.mul_succ]; omega, ih (Nat.lt_of_succ_lt_succ hi)]
      rfl

theorem length_flatMap_field {α β : Type} {n : Nat} (g : α → List β) (width : ∀ x, (g x).length = n) (l : List α) :
    (l.flatMap g).length = n * l.length := by
  rw [List.length_flatMap, List.map_congr_left fun x _ => width x, List.map_const', List.sum_replicate, smul_eq_mul, Nat.mul_comm]

/-- 32-bit words as bytes. -/
def wordBytes (ls : List W32) : List Byte := ls.flatMap fun x => leBytes 4 x.toNat

theorem wordBytes_length (ls : List W32) : (wordBytes ls).length = 4 * ls.length :=
  length_flatMap_field (n := 4) (fun x : W32 => leBytes 4 x.toNat) (fun _ => rfl) ls

/-- Each word of a run of 32-bit words that has been stored reads back. -/
theorem State.readNat_storeWords (s : State) (a : Nat) (ls : List W32) {i : Nat} (hi : i < ls.length) :
    (s.store a (wordBytes ls).length (SMap.ofList (wordBytes ls) 0 0)).readNat (a + 4 * i) 4 = ls[i].toNat := by
  refine s.readNat_storeList a (by rw [wordBytes_length]; omega) ?_ ls[i].isLt
  refine Eq.trans (List.map_congr_left fun j hj => ?_) (show ((List.range 4).map fun j => (leBytes 4 ls[i].toNat).getD j 0) = _ from rfl)
  exact getD_flatMap_field (n := 4) (fun x : W32 => leBytes 4 x.toNat) (fun _ => rfl) ls hi (List.mem_range.1 hj) 0

theorem Core.vreg_length (c : Core) (v : Nat) : (c.vreg v).length = 512 := by simp [Core.vreg, SMap.toList]

theorem Core.vreg_getElem (c : Core) (v : Nat) {i : Nat} (h : i < (c.vreg v).length) : (c.vreg v)[i] = c.lane v i := by
  simp [Core.vreg, SMap.toList, Core.lane]

/-! ### VLD and VST (04 R125) -/

theorem firstStatus_none : firstStatus false false false = none := rfl

section
variable {s : State} {f : VectorF} (takes : s.Takes f.core.val) (unreserved : f.rsv = 0) (room : (s.core f.core.val).vecQ < 16)
include takes unreserved room

section
variable {w : Nat} (addr : vectorAddr f (s.core f.core.val) = w) (aligned : w % 32 = 0) (inside : w + 256 ≤ 2 ^ 21)
include addr aligned inside

theorem vld_retires (drained : (s.core f.core.val).readBlocked w 256 = false) (sound : s.Sound (csBase f.core.val + w * 8) 2048) :
    exec (.vld f) s = .next (s.retireVector f.core.val fun c => c.setVreg f.vd.val ((List.range 512).map fun i =>
      BitVec.ofNat 32 (s.readNat (csBase f.core.val + w * 8 + 4 * i) 4))) := by
  refine congrArg Host.Outcome.next (vectorIssue_retires takes unreserved room ?_ fun _ => rfl)
  have past : ¬ 2 ^ 21 < w + 256 := Nat.not_lt.2 inside
  simp only [vldVerdict, addr, aligned, ne_eq, not_true_eq_false, past, decide_false, firstStatus_none, drained, Bool.false_eq_true, if_false,
    State.readRange_readable _ _ _ _ _ (State.readable_coreStore sound)]

theorem vst_retires (allowed : s.writeRefused f.core.val w 256 = false) (free : (s.core f.core.val).writeBlocked w 256 = false) :
    exec (.vst f) s = .next ((s.writeBytes (csBase f.core.val + w * 8) (wordBytes ((s.core f.core.val).vreg f.vs1.val))).retireVector
      f.core.val id) := by
  have past : ¬ 2 ^ 21 < w + 256 := Nat.not_lt.2 inside
  have runs : vstVerdict f s = .run (s.writeBytes (csBase f.core.val + w * 8) (wordBytes ((s.core f.core.val).vreg f.vs1.val))) := by
    simp only [vstVerdict, addr, aligned, ne_eq, not_true_eq_false, past, decide_false, firstStatus_none, allowed, free, Bool.false_eq_true,
      if_false]
    rfl
  refine congrArg Host.Outcome.next ?_
  unfold vectorIssue
  rw [if_neg (not_not.2 unreserved), if_neg (Nat.not_le.2 room), runs]
  exact State.issue_stored takes _ _ _ fun _ => rfl

/-- VST leaves the lanes at its address and every other byte as it was. -/
theorem completes_vst (allowed : s.writeRefused f.core.val w 256 = false) (free : (s.core f.core.val).writeBlocked w 256 = false) :
    Completes (.vst f) s fun t =>
      (∀ i < 512, t.readNat (csBase f.core.val + w * 8 + 4 * i) 4 = ((s.core f.core.val).lane f.vs1.val i).toNat) ∧
      (∀ k, ¬ (csBase f.core.val + w * 8 ≤ k ∧ k < csBase f.core.val + w * 8 + 2048) → t.readByte k = s.readByte k) ∧
      t.cores = (s.retireVector f.core.val id).cores ∧
      t = { s with mem := t.mem, wordErr := t.wordErr, writeBack := t.writeBack, cores := t.cores } := by
  have bytes : (wordBytes ((s.core f.core.val).vreg f.vs1.val)).length = 2048 := by rw [wordBytes_length, Core.vreg_length]
  refine ⟨_, vst_retires takes unreserved room addr aligned inside allowed free, fun i hi => ?_, fun k outside => ?_, rfl, rfl⟩
  · have hi' : i < ((s.core f.core.val).vreg f.vs1.val).length := by rwa [Core.vreg_length]
    exact (s.readNat_storeWords _ _ hi').trans (congrArg BitVec.toNat (Core.vreg_getElem _ _ hi'))
  · exact (s.readByte_store _ _ _ k).trans (if_neg (by rwa [bytes]))

end

/-! ### Refusals (04 R125, R126, R477, 03 R87) -/

theorem vectorIssue_raises {v : State → Verdict} {st : W16} (raises : v s = .raise st) : vectorIssue f s v = s.raise f.core.val st := by
  unfold vectorIssue
  rw [if_neg (not_not.2 unreserved), if_neg (Nat.not_le.2 room), raises]
  exact State.issue_raise takes st

end

section
variable {s : State} {f : VectorF}

/-- A conversion with its register pair at `v` that 04 R125 and R477 refuse: no format, no rounding mode, a pair at the last register, or no
ordinal left. -/
def ConversionRefused (f : VectorF) (s : State) (v : Nat) : Prop :=
  ∀ fmt, fmtOfCode f.fmt.toNat = some fmt →
    5 ≤ f.round.toNat ∨ fmt.isMx = true ∧ v = 31 ∨ f.round = 4 ∧ 2 ^ 23 ≤ (s.core f.core.val).vecOrd

theorem conversion_refused {fmt : Fmt} {v : Nat}
    (h : 5 ≤ f.round.toNat ∨ fmt.isMx = true ∧ v = 31 ∨ f.round = 4 ∧ 2 ^ 23 ≤ (s.core f.core.val).vecOrd) :
    (decide (5 ≤ f.round.toNat) || (fmt.isMx && v == 31) || (takesOrdinal f && ordinalsSpent s f)) = true := by
  simpa [takesOrdinal_iff, ordinalsSpent, or_assoc] using h

theorem fromVerdict_raises (h : ConversionRefused f s f.vs1.val) : fromVerdict f s = .raise stIllegal := by
  unfold fromVerdict
  split
  · rfl
  next fmt format => exact if_pos (conversion_refused (h fmt format))

theorem toVerdict_raises (h : ConversionRefused f s f.vd.val) : toVerdict f s = .raise stIllegal := by
  unfold toVerdict
  split
  · rfl
  next fmt format => exact if_pos (conversion_refused (h fmt format))

theorem vldVerdict_misaligned (h : vectorAddr f (s.core f.core.val) % 32 ≠ 0) : vldVerdict f s = .raise stMisaligned := by
  simp [vldVerdict, firstStatus, h]

theorem vldVerdict_pastEnd (aligned : vectorAddr f (s.core f.core.val) % 32 = 0) (past : 2 ^ 21 < vectorAddr f (s.core f.core.val) + 256) :
    vldVerdict f s = .raise stUnmapped := by
  simp only [vldVerdict, firstStatus, aligned, past, ne_eq, not_true_eq_false, decide_false, decide_true, Bool.false_eq_true, if_false, if_true]

end

/-- Settles O14: VLD and VST by the words of their range, the refusals by each instruction's own rule. -/
theorem vectorMemoryAndRefusals : Obligations.VectorMemoryAndRefusals := by
  unfold Obligations.VectorMemoryAndRefusals
  refine ⟨fun s f takes unreserved room aligned inside => ⟨vld_retires takes unreserved room rfl aligned inside,
    completes_vst takes unreserved room rfl aligned inside⟩, fun s f takes unreserved room => ?_⟩
  have raises := fun v st h => congrArg (Host.Outcome.next (φ := Fault) (ρ := Refusal))
    (vectorIssue_raises (v := v) (st := st) takes unreserved room h)
  have both : (∀ v, ConversionRefused f s v) → exec (.vcvtFrom f) s = .next (s.raise f.core.val stIllegal) ∧
      exec (.vcvtTo f) s = .next (s.raise f.core.val stIllegal) := fun h =>
    ⟨raises _ _ (fromVerdict_raises (h _)), raises _ _ (toVerdict_raises (h _))⟩
  refine ⟨fun bad => both fun v fmt format => .inl (bad.resolve_left (by simp [format])), fun ⟨mx, format, isMx⟩ => ?_,
    fun beyond => raises _ _ (if_neg (Nat.not_lt.2 beyond)), fun spent => ⟨?_, ?_, fun stochastic => both fun v fmt _ => .inr (.inr ⟨stochastic, spent⟩)⟩,
    fun misaligned => raises _ _ (vldVerdict_misaligned misaligned), fun aligned past => raises _ _ (vldVerdict_pastEnd aligned past)⟩
  · have pair : ∀ v, v = 31 → ConversionRefused f s v := fun v last fmt found =>
      .inr (.inl ⟨Option.some.inj (format.symm.trans found) ▸ isMx, last⟩)
    exact ⟨fun last => raises _ _ (fromVerdict_raises (pair _ last)), fun last => raises _ _ (toVerdict_raises (pair _ last))⟩
  · exact raises _ _ (if_pos (decide_eq_true spent))
  · exact raises _ _ (if_pos (decide_eq_true spent))

end Sys2Proof.Machine

/-! SUPPORT. Matrix instructions at issue (02 R47, R55, 04 R102, R108, R109, R126): a good one enters the matrix queue, a bad one is refused. -/

namespace Sys2Proof.Machine

/-! ### Into the queue (04 R101, R102) -/

section
variable {s : State} {h : MatrixHead} {fa fb : Fmt}

/-- The registers of a part as issue captures them. -/
def Core.capture (c : Core) (p : MatrixPart) : PartIssue := ⟨p, c.reg p.ra.val, c.reg p.rb.val, c.reg p.rd.val⟩

/-- Part `p` of quadrant `q` passes the rules of 04 R108 and R109, and drains to no pinned line (08 R222). -/
def PartGood (s : State) (L : Nat) (apart : Bool) (fa fb : Fmt) (q : Nat) (p : MatrixPart) : Prop :=
  partIllegal s L apart q fa fb p ((s.core L).reg p.rd.val) = false ∧ partMisaligned fa fb ((s.core L).capture p) = false ∧
    partPastEnd apart fa fb ((s.core L).capture p) = false ∧
    ∀ w ∈ partWrites apart ((s.core L).capture p), (s.core L).pinned w.1 w.2 = false

variable (formatA : fmtOfCode h.fmtA.toNat = some fa) (formatB : fmtOfCode h.fmtB.toNat = some fb) (takes : s.Takes h.core.val)
include formatA formatB takes

theorem matrixIssue_queues (unreserved : h.rsv = 0) (mode : h.round.toNat < 5) (pair : pairAllowed fa fb = true)
    (room : (s.core h.core.val).matQ.length < 16) (apart : Bool) {ps : List MatrixPart}
    (good : ∀ x ∈ (List.range ps.length).zip ps, PartGood s h.core.val apart fa fb x.1 x.2) (words : Nat) :
    matrixIssue apart h ps words s = s.retire h.core.val fun c => { c.advance words with
      matQ := c.matQ ++ [.work apart h (ps.map (s.core h.core.val).capture) c.matOrd c.drainOrd]
      matOrd := c.matOrd + 1, drainOrd := if ps.any (fun p => p.drain) then c.drainOrd + 1 else c.drainOrd
      stageTags := ((List.range ps.length).zip ps).foldl (fun t x => tagStages apart x.1 fa fb x.2 t) c.stageTags } := by
  have each : ∀ p ∈ ps, ∃ q, PartGood s h.core.val apart fa fb q p := fun p mem => by
    obtain ⟨i, inside, rfl⟩ := List.mem_iff_getElem.1 mem
    exact ⟨i, good (i, ps[i]) (List.mem_iff_getElem.2 ⟨i, by simpa using inside, by simp⟩)⟩
  have legal : (h.rsv != 0 || decide (5 ≤ h.round.toNat) || !pairAllowed fa fb || ((List.range ps.length).zip ps).any fun x =>
      partIllegal s h.core.val apart x.1 fa fb x.2 ((s.core h.core.val).reg x.2.rd.val)) = false := by
    simp only [unreserved, pair, Nat.not_le.2 mode, bne_self_eq_false, decide_false, Bool.not_true, Bool.or_self, Bool.false_or]
    exact List.any_eq_false.2 fun x mem => by simp [(good x mem).1]
  have aligned : (ps.map (s.core h.core.val).capture).any (partMisaligned fa fb) = false := by
    simp only [List.any_map]
    exact List.any_eq_false.2 fun p mem => by
      obtain ⟨q, -, aligned, -⟩ := each p mem
      simp [aligned]
  have inside : (ps.map (s.core h.core.val).capture).any (partPastEnd apart fa fb) = false := by
    simp only [List.any_map]
    exact List.any_eq_false.2 fun p mem => by
      obtain ⟨q, -, -, inside, -⟩ := each p mem
      simp [inside]
  have unpinned : ((ps.map (s.core h.core.val).capture).any fun p =>
      (partWrites apart p).any fun w => (s.core h.core.val).pinned w.1 w.2) = false := by
    simp only [List.any_map]
    exact List.any_eq_false.2 fun p mem => by
      obtain ⟨q, -, -, -, unpinned⟩ := each p mem
      simpa using unpinned
  have captured : (fun p : MatrixPart => (⟨p, (s.core h.core.val).reg p.ra.val, (s.core h.core.val).reg p.rb.val,
      (s.core h.core.val).reg p.rd.val⟩ : PartIssue)) = (s.core h.core.val).capture := rfl
  unfold matrixIssue
  simp only [formatA, formatB, captured, legal, aligned, inside, unpinned, firstStatus_none, Nat.not_le.2 room, decide_false, Bool.or_self,
    Bool.false_eq_true, if_false]
  exact s.issue_run _ _ (fun _ => rfl) takes

end

/-! ### Refusals (04 R109, R126, 02 R47, R55) -/

section
variable {s : State} {L : Nat} {fa fb : Fmt} {p : MatrixPart}

/-- A hold is refused where one of the four stages that it reads was last loaded under another format or width (02 R55). -/
theorem Core.holdAllowed_ganged {c : Core} {k side : Nat} {f : Fmt} {wider : Nat} (stage : k < 4)
    (other : SMap.get? c.stageTags (k * 2 + side) ≠ some (f.code, wider)) : c.holdAllowed false 0 side f wider = false := by
  unfold Core.holdAllowed
  rw [List.all_eq_false]
  exact ⟨k, by simp only [partQuadrants, Bool.false_eq_true, if_false, List.mem_cons, List.not_mem_nil, or_false]; omega, by simpa using other⟩

/-- An operand source that names nothing, or a hold that is refused. -/
def SourceRefused (c : Core) (fa fb : Fmt) (side : Nat) (f : Fmt) (src : BitVec 2) : Prop :=
  src = 3 ∨ src = 2 ∧ c.holdAllowed false 0 side f (widerOf fa fb) = false

theorem partIllegal_of_reserved (h : p.rsv ≠ 0) (d : W64) : partIllegal s L false 0 fa fb p d = true := by
  unfold partIllegal
  dsimp only
  rw [Bool.or_eq_true, Bool.or_eq_true, Bool.or_eq_true]
  exact .inl (.inl (.inl (bne_iff_ne.2 h)))

theorem partIllegal_of_source (h : SourceRefused (s.core L) fa fb 0 fa p.srcA ∨ SourceRefused (s.core L) fa fb 1 fb p.srcB) (d : W64) :
    partIllegal s L false 0 fa fb p d = true := by
  have refused : ∀ {side f src}, SourceRefused (s.core L) fa fb side f src →
      (src == 3 || (src == 2 && !(s.core L).holdAllowed false 0 side f (widerOf fa fb))) = true := fun {side f src} h => by
    simpa [SourceRefused] using h
  unfold partIllegal
  dsimp only
  rw [Bool.or_eq_true, Bool.or_eq_true, Bool.or_eq_true]
  rcases h with h | h
  · exact .inl (.inl (.inr (refused h)))
  · exact .inl (.inr (refused h))

/-- An integer pair drains to INT32 and FP32 alone. -/
theorem partIllegal_of_drain {fd : Fmt} (drain : p.drain = true) (ints : fa.isInt = true) (format : fmtOfCode p.drainFmt.toNat = some fd)
    (int32 : fd ≠ .int32) (fp32 : fd ≠ .fp32) (d : W64) : partIllegal s L false 0 fa fb p d = true := by
  simp [partIllegal, drain, ints, format, int32, fp32]

end

section
variable {s : State} {h : MatrixHead} (takes : s.Takes h.core.val)
include takes

theorem matrixGanged_formatless (none : fmtOfCode h.fmtA.toNat = none ∨ fmtOfCode h.fmtB.toNat = none) (p : MatrixPart) :
    exec (.matrixGanged h p) s = .next (s.raise h.core.val stIllegal) := by
  refine congrArg Host.Outcome.next ?_
  unfold matrixIssue
  dsimp only
  split
  next formatA formatB => simp [formatA, formatB] at none
  next => exact State.issue_raise takes stIllegal

theorem matrixGanged_illegal {fa fb : Fmt} (formatA : fmtOfCode h.fmtA.toNat = some fa) (formatB : fmtOfCode h.fmtB.toNat = some fb)
    {p : MatrixPart} (illegal : h.rsv ≠ 0 ∨ 5 ≤ h.round.toNat ∨ pairAllowed fa fb = false ∨
      partIllegal s h.core.val false 0 fa fb p ((s.core h.core.val).reg p.rd.val) = true) :
    exec (.matrixGanged h p) s = .next (s.raise h.core.val stIllegal) := by
  have refused : (h.rsv != 0 || decide (5 ≤ h.round.toNat) || !pairAllowed fa fb || ((List.range [p].length).zip [p]).any fun x =>
      partIllegal s h.core.val false x.1 fa fb x.2 ((s.core h.core.val).reg x.2.rd.val)) = true := by
    simpa [List.range_succ, or_assoc] using illegal
  refine congrArg Host.Outcome.next ?_
  unfold matrixIssue
  simp only [formatA, formatB, refused, firstStatus, if_true]
  exact State.issue_raise takes stIllegal

end

/-- Settles O15: every part good, the instruction queues with its registers captured; any check of 04 R109 failed, it is refused. -/
theorem matrixInstructionsQueueOrRaise : Obligations.MatrixInstructionsQueueOrRaise := by
  unfold Obligations.MatrixInstructionsQueueOrRaise
  refine ⟨fun s h fa fb takes unreserved mode formatA formatB pair room => ?_, fun s h p takes => ?_⟩
  · have queues := fun apart ps good words => congrArg (Host.Outcome.next (φ := Fault) (ρ := Refusal))
      (matrixIssue_queues formatA formatB takes unreserved mode pair room apart (ps := ps) good words)
    refine ⟨fun p good => queues false [p] ?_ 2, fun p0 p1 p2 p3 good0 good1 good2 good3 => queues true [p0, p1, p2, p3] ?_ 5⟩
    · exact List.forall_mem_singleton.2 good
    · exact List.forall_iff_forall_mem.1 ⟨good0, good1, good2, good3⟩
  · refine ⟨fun none => matrixGanged_formatless takes none p, fun fa fb formatA formatB => ?_⟩
    have refused := fun illegal => matrixGanged_illegal takes formatA formatB (p := p) illegal
    have badPart := fun illegal => refused (.inr (.inr (.inr illegal)))
    refine ⟨fun reserved => refused (.inl reserved), fun mode => refused (.inr (.inl mode)), fun pair => refused (.inr (.inr (.inl pair))),
      fun reserved => badPart (partIllegal_of_reserved reserved _), fun none => badPart (partIllegal_of_source (.inl (.inl none)) _),
      fun none => badPart (partIllegal_of_source (.inr (.inl none)) _), fun k stage hold other => ?_, fun k stage hold other => ?_,
      fun fd drain ints format int32 fp32 => badPart (partIllegal_of_drain drain ints format int32 fp32 _)⟩
    · exact badPart (partIllegal_of_source (.inl (.inr ⟨hold, Core.holdAllowed_ganged stage other⟩)) _)
    · exact badPart (partIllegal_of_source (.inr (.inr ⟨hold, Core.holdAllowed_ganged stage other⟩)) _)

end Sys2Proof.Machine

/-! SUPPORT. Ferry instructions at issue (04 R110 to R112): a good one joins its port, one in assured class beyond R112 is refused. -/

namespace Sys2Proof.Machine

/-! ### Effects that a doubles part absorbs (13 R380) -/

/-- What a doubles part absorbs leaves every core's attempt as it was. -/
theorem State.absorbEffect_attempt (s : State) (L dest len kind : Nat) (data : List Byte) (M : Nat) :
    ((s.absorbEffect L dest len kind data).core M).attempt = (s.core M).attempt := by
  unfold State.absorbEffect
  split
  · rfl
  · split
    · refine State.modCore_keeps Core.attempt (fun c => ?_) s L M
      rfl
    · rfl

theorem State.absorbFerry_attempt (s : State) (x : Xfer) (M : Nat) : ((s.absorbFerry x).core M).attempt = (s.core M).attempt := by
  unfold State.absorbFerry
  split
  · rfl
  · dsimp only
    split
    · refine (State.absorbEffect_attempt _ _ _ _ _ _ M).trans ?_
      exact foldl_keeps (fun t : State => (t.core M).attempt) (fun t i => t.absorbEffect_attempt _ _ _ _ _ M) _ s
    · exact foldl_keeps (fun t : State => (t.core M).attempt) (fun t i => t.absorbEffect_attempt _ _ _ _ _ M) _ s

/-- An instruction that changes the state besides its core, and its core's attempt not, retires on the state so changed. -/
theorem State.issue_run_after {s t : State} {L : Nat} (takes : s.Takes L) (same : (t.core L).attempt = (s.core L).attempt) {f : Core → Core}
    (attempt : ∀ c, (f c).attempt = c.attempt) : s.issue L (.run (t.modCore L f)) = t.retire L f := by
  refine (s.issue_of_takes L _ takes).trans (t.countIssue_of_counts L f attempt ?_)
  unfold State.Counts
  rw [same]
  exact takes.2.2

@[simp] theorem Core.setPort_attempt (c : Core) (port : Bool) (xs : List Xfer) : (c.setPort port xs).attempt = c.attempt := by
  unfold Core.setPort
  split <;> rfl

/-! ### Into the port (04 R101, R110) -/

/-- The transfer of a ferry instruction, with the registers captured at issue. -/
def ferryXfer (op : FerryOp) (f : FerryF) (c : Core) : Xfer :=
  { op := op, f := f, local0 := (c.reg f.rl.val).toNat % 2 ^ 21
    remote := if op = .relayPut then (c.reg f.rr.val).toNat % 1024 else (c.reg f.rr.val).toNat % 2 ^ 48
    rowBytes := (c.reg f.rn.val).toNat, strides := if f.rowsM1 = 0 then 0 else c.reg f.rs.val }

section
variable {s : State} {f : FerryF} {op : FerryOp} (takes : s.Takes f.core.val)
include takes

theorem ferryIssue_queues
    (legal : ferryIllegal s op f (ferryXfer op f (s.core f.core.val)) ((s.core f.core.val).reg f.rn.val).toNat = false)
    (aligned : ferryMisaligned op f (ferryXfer op f (s.core f.core.val)) = false)
    (inside : ferryPastEnd (ferryXfer op f (s.core f.core.val)) = false)
    (room : (((s.core f.core.val).port f.port).filter fun y => !y.started).length < 16)
    (unpinned : op = .get → ∀ w ∈ (ferryXfer op f (s.core f.core.val)).localWords, (s.core f.core.val).pinned w.1 w.2 = false) :
    ferryIssue op f s = (s.absorbFerry (ferryXfer op f (s.core f.core.val))).retire f.core.val fun c =>
      (c.setPort f.port (c.port f.port ++ [ferryXfer op f (s.core f.core.val)])).advance 2 := by
  have place : ¬ 16 ≤ (((s.core f.core.val).port f.port).filter fun y => !y.started).length := Nat.not_le.2 room
  refine (congrArg (s.issue f.core.val) ?_).trans (State.issue_run_after takes (s.absorbFerry_attempt _ _)
    (fun c => Core.setPort_attempt c f.port _))
  unfold ferryXfer at legal aligned inside unpinned
  simp only [legal, aligned, inside, firstStatus_none]
  cases op with
  | get =>
    have clear := List.any_eq_false.2 fun w h => Bool.eq_false_iff.1 (unpinned rfl w h)
    exact if_neg (Bool.eq_false_iff.1 (Bool.or_eq_false_iff.2 ⟨decide_eq_false place, clear⟩))
  | put | putReduce | relayPut => exact if_neg (Bool.eq_false_iff.1 (Bool.or_eq_false_iff.2 ⟨decide_eq_false place, rfl⟩))

/-- What 04 R112 excludes from assured class. -/
theorem ferryIssue_illegal
    (illegal : ferryIllegal s op f (ferryXfer op f (s.core f.core.val)) ((s.core f.core.val).reg f.rn.val).toNat = true) :
    ferryIssue op f s = s.raise f.core.val stIllegal := by
  unfold ferryIssue
  unfold ferryXfer at illegal
  simp only [illegal, firstStatus, if_true]
  exact State.issue_raise takes stIllegal

end

/-- Settles O18: nothing of 04 R110 to R112 refuses the instruction, so it joins its port. -/
theorem ferryInstructionsQueue : Obligations.FerryInstructionsQueue := by
  intro s f takes
  refine ⟨?_, ?_, ?_, ?_⟩
  · rintro ⟨legal, aligned, inside, room⟩ unpinned
    exact congrArg Host.Outcome.next (ferryIssue_queues takes legal aligned inside room fun _ => unpinned)
  · rintro ⟨legal, aligned, inside, room⟩
    exact congrArg Host.Outcome.next (ferryIssue_queues takes legal aligned inside room nofun)
  · rintro ⟨legal, aligned, inside, room⟩
    exact congrArg Host.Outcome.next (ferryIssue_queues takes legal aligned inside room nofun)
  · rintro ⟨legal, aligned, inside, room⟩
    exact congrArg Host.Outcome.next (ferryIssue_queues takes legal aligned inside room nofun)

/-- An assured transfer other than a GET or PUT of at most 4,096 bytes breaks a rule of 04 R112. -/
theorem ferryIllegal_of_assured (s : State) {op : FerryOp} {f : FerryF} (x : Xfer) {rn : Nat} (assured : f.svc = true)
    (beyond : op = .get ∨ op = .put → 4096 < x.rows * rn) : ferryIllegal s op f x rn = true := by
  unfold ferryIllegal
  cases op with
  | get => simp [assured, beyond (.inl rfl)]
  | put => simp [assured, beyond (.inr rfl)]
  | putReduce | relayPut => simp [assured]

/-- Settles O19, from `ferryIllegal_of_assured` for each of the four. -/
theorem assuredFerryLimit : Obligations.AssuredFerryLimit := by
  intro s f takes assured
  refine ⟨fun beyond => ⟨?_, ?_⟩, ?_, ?_⟩
  · exact congrArg Host.Outcome.next (ferryIssue_illegal takes (ferryIllegal_of_assured s _ assured fun _ => beyond))
  · exact congrArg Host.Outcome.next (ferryIssue_illegal takes (ferryIllegal_of_assured s _ assured fun _ => beyond))
  · exact congrArg Host.Outcome.next (ferryIssue_illegal takes (ferryIllegal_of_assured s _ assured nofun))
  · exact congrArg Host.Outcome.next (ferryIssue_illegal takes (ferryIllegal_of_assured s _ assured nofun))

end Sys2Proof.Machine

/-! SUPPORT. FENCE and the inbox instructions (04 R117): what each verdict comes to, at once and after holding the sequencer. -/

namespace Sys2Proof.Machine

theorem State.syncGate_room {s : State} {L : Nat} (room : (s.core L).syncQ < 16) (v : Verdict) : s.syncGate L v = v :=
  if_neg (Nat.not_le.2 room)

/-! ### FENCE (04 R117) -/

theorem Core.fenceClear_iff {c : Core} {units : BitVec 4} :
    c.fenceClear units = true ↔ (units.getLsbD 0 = true → c.matQ = [] ∧ c.matRun = []) ∧ (units.getLsbD 1 = true → c.vecQ = 0) ∧
      (units.getLsbD 2 = true → c.ferry0 = []) ∧ (units.getLsbD 3 = true → c.ferry1 = []) := by
  have implied : ∀ p q : Bool, (!p || q) = true ↔ (p = true → q = true) := by decide
  simp only [Core.fenceClear, Bool.and_eq_true, implied, List.isEmpty_iff, beq_iff_eq, and_assoc]

section
variable {s : State} {L : Nat} {units : BitVec 4}

theorem fenceVerdict_clear (clear : (s.core L).fenceClear units = true) :
    fenceVerdict s L units = .run (s.modCore L fun c => { c.advance 1 with hold := .none, syncQ := 0 }) := if_pos clear

theorem fenceVerdict_held (busy : ¬ (s.core L).fenceClear units = true) :
    fenceVerdict s L units = .stop (s.modCore L fun c => { c with hold := .fence units, syncQ := 0 }) := if_neg busy

end

theorem execFence_eq {s : State} {core : CoreId} (units : BitVec 4) (room : (s.core core.val).syncQ < 16) :
    exec (.fence core units 0) s = .next (s.issue core.val (fenceVerdict s core.val units)) :=
  congrArg (fun v => Host.Outcome.next (s.issue core.val v)) (State.syncGate_room room _)

/-- FENCE goes on at once, holds the sequencer, or goes on after it held. -/
theorem fence_passes_or_holds (s : State) (core : CoreId) (units : BitVec 4) :
    let clear := (s.core core.val).fenceClear units = true
    let passed := Host.Outcome.next (s.retire core.val fun c => { c.advance 1 with hold := .none, syncQ := 0 })
    (s.Takes core.val → (s.core core.val).syncQ < 16 → clear → exec (.fence core units 0) s = passed) ∧
      (s.Takes core.val → (s.core core.val).syncQ < 16 → ¬ clear →
        exec (.fence core units 0) s = .next (s.modCore core.val fun c => { c with hold := .fence units, syncQ := 0 })) ∧
      ((s.core core.val).hold = .fence units → s.Counts core.val → clear → exec (.fenceSatisfied core) s = passed) := by
  refine ⟨fun takes room clear => ?_, fun takes room busy => ?_, fun held counts clear => ?_⟩
  · rw [execFence_eq units room, fenceVerdict_clear clear]
    exact congrArg Host.Outcome.next (s.issue_run core.val _ (fun _ => rfl) takes)
  · rw [execFence_eq units room, fenceVerdict_held busy]
    exact congrArg Host.Outcome.next (State.issue_stop takes _)
  · refine congrArg Host.Outcome.next ?_
    unfold fenceSatisfied
    simp only [held, fenceVerdict_clear clear]
    exact s.countIssue_of_counts core.val _ (fun _ => rfl) counts

/-! ### INBOX_OPEN and INBOX_CLOSE (04 R117, 02 R66, R67) -/

/-- A state with other credits of one inbox. -/
def State.withCredits (s : State) (f : SMap Nat → SMap Nat) : State := { s with mesh := { s.mesh with credits := f s.mesh.credits } }

section
variable {s : State} {L i w slotsM1 sizeM1 : Nat} {im : Image} {rank : Nat}

/-- A ring of an inbox range within core store opens with its slots empty. -/
theorem inboxOpenVerdict_opens (room : (s.core L).syncQ < 16) (two : slotsM1 ≠ 0) (closed : ((s.core L).inbox i).isOpen = false)
    (image : s.imageOf L = some (im, rank)) (aligned : w % 512 = 0) (inside : w + (slotsM1 + 1) * ((sizeM1 + 1) * 512) ≤ 2 ^ 21)
    (range : im.holds rank 2 w ((slotsM1 + 1) * ((sizeM1 + 1) * 512)) = true) :
    inboxOpenVerdict s L i w slotsM1 sizeM1 0 =
      .run ((s.withCredits fun m => SMap.put m (L * 8 + i) (slotsM1 + 1)).modCore L fun c =>
        { (c.setInbox i ⟨true, w, (sizeM1 + 1) * 512, List.replicate (slotsM1 + 1) .empty, 0, 0⟩).advance 1 with syncQ := c.syncQ + 1 }) := by
  have legal : ((0 : W64) != 0 || slotsM1 == 0 || ((s.core L).inbox i).isOpen ||
      (!false && !im.holds rank 2 w ((slotsM1 + 1) * ((sizeM1 + 1) * 512)))) = false := by
    simp [two, closed, range]
  unfold inboxOpenVerdict
  simp only [image, aligned, ne_eq, not_true_eq_false, Nat.not_lt.2 inside, decide_false]
  rw [legal]
  exact State.syncGate_room room _

/-- What a close makes of the core: the slots freed in this turn are kept for its commit. -/
def closeInbox (i : Nat) (c : Core) : Core :=
  { (c.setInbox i {}).advance 1 with
    hold := .none, syncQ := 0, closedSlots := c.closedSlots ++ (c.inbox i).freedSlots.map fun f => (i, f) }

theorem closeVerdict_closes (clear : ((s.core L).inbox i).clearToClose = true) :
    closeVerdict s L i = .run ((s.withCredits fun m => SMap.erase m (L * 8 + i)).modCore L (closeInbox i)) := by
  unfold closeVerdict
  rw [if_pos clear]
  refine congrArg Verdict.run ?_
  unfold State.withCredits State.modCore
  congr 1

theorem closeVerdict_held (busy : ((s.core L).inbox i).clearToClose = false) :
    closeVerdict s L i = .stop (s.modCore L fun c => { c with hold := .close i, syncQ := 0 }) := if_neg (Bool.eq_false_iff.1 busy)

end

section
variable {s : State} {core : CoreId} (i : Fin 8)

theorem inboxOpen_opens {rs : Reg} {slotsM1 : BitVec 6} {sizeM1 : BitVec 10} {im : Image} {rank : Nat} (takes : s.Takes core.val)
    (room : (s.core core.val).syncQ < 16) (two : slotsM1 ≠ 0) (closed : ((s.core core.val).inbox i.val).isOpen = false)
    (image : s.imageOf core.val = some (im, rank)) (aligned : ((s.core core.val).reg rs.val).toNat % 2 ^ 21 % 512 = 0)
    (inside : ((s.core core.val).reg rs.val).toNat % 2 ^ 21 + (slotsM1.toNat + 1) * ((sizeM1.toNat + 1) * 512) ≤ 2 ^ 21)
    (range : im.holds rank 2 (((s.core core.val).reg rs.val).toNat % 2 ^ 21) ((slotsM1.toNat + 1) * ((sizeM1.toNat + 1) * 512)) = true) :
    exec (.inboxOpen core i rs slotsM1 sizeM1 0) s = .next
      ((s.withCredits fun m => SMap.put m (core.val * 8 + i.val) (slotsM1.toNat + 1)).retire core.val fun c =>
        { (c.setInbox i.val ⟨true, ((s.core core.val).reg rs.val).toNat % 2 ^ 21, (sizeM1.toNat + 1) * 512,
            List.replicate (slotsM1.toNat + 1) .empty, 0, 0⟩).advance 1 with syncQ := c.syncQ + 1 }) := by
  have counted : slotsM1.toNat ≠ 0 := fun h => two (BitVec.eq_of_toNat_eq h)
  refine congrArg Host.Outcome.next ?_
  rw [inboxOpenVerdict_opens room counted closed image aligned inside range]
  refine State.issue_run_after takes ?_ fun _ => ?_ <;> rfl

theorem inboxClose_closes (takes : s.Takes core.val) (room : (s.core core.val).syncQ < 16)
    (isOpen : ((s.core core.val).inbox i.val).isOpen = true) (clear : ((s.core core.val).inbox i.val).clearToClose = true) :
    exec (.inboxClose core i 0) s =
      .next ((s.withCredits fun m => SMap.erase m (core.val * 8 + i.val)).retire core.val (closeInbox i.val)) := by
  refine congrArg Host.Outcome.next ?_
  rw [if_neg (by simp [isOpen]), State.syncGate_room room, closeVerdict_closes clear]
  refine State.issue_run_after takes ?_ fun _ => ?_ <;> rfl

theorem inboxClose_closes_after (held : (s.core core.val).hold = .close i.val) (counts : s.Counts core.val)
    (clear : ((s.core core.val).inbox i.val).clearToClose = true) :
    exec (.inboxCloseSatisfied core) s =
      .next ((s.withCredits fun m => SMap.erase m (core.val * 8 + i.val)).retire core.val (closeInbox i.val)) := by
  refine congrArg Host.Outcome.next ?_
  unfold inboxCloseSatisfied
  simp only [held, closeVerdict_closes clear]
  exact (s.withCredits _).countIssue_of_counts core.val _ (fun _ => rfl) counts

theorem inboxClose_holds (takes : s.Takes core.val) (room : (s.core core.val).syncQ < 16)
    (isOpen : ((s.core core.val).inbox i.val).isOpen = true) (busy : ((s.core core.val).inbox i.val).clearToClose = false) :
    exec (.inboxClose core i 0) s = .next (s.modCore core.val fun c => { c with hold := .close i.val, syncQ := 0 }) := by
  refine congrArg Host.Outcome.next ?_
  rw [if_neg (by simp [isOpen]), State.syncGate_room room, closeVerdict_held busy]
  exact State.issue_stop takes _

end

/-! ### INBOX_TAKE and INBOX_FREE (04 R117) -/

/-- What a take of the full slot makes of the core: RD names the slot's word address and its sender. -/
def takeSlot (b : Inbox) (i rd snd src : Nat) (c : Core) : Core :=
  { ((c.setInbox i { b with
      slots := b.slots.set b.nextTake (.taken snd src), nextTake := (b.nextTake + 1) % b.slots.length }).setReg rd
    (BitVec.ofNat 64 (b.base + b.nextTake * b.slotWords + snd * 2 ^ 32))).advance 1 with hold := .none, syncQ := 0 }

theorem takeSlot_attempt (b : Inbox) (i rd snd src : Nat) (c : Core) : (takeSlot b i rd snd src c).attempt = c.attempt :=
  Core.setReg_attempt _ _ _

/-- What freeing the oldest taken slot makes of the core. -/
def freeSlot (b : Inbox) (i snd src : Nat) (c : Core) : Core :=
  { (c.setInbox i { b with
      slots := b.slots.set b.nextFree (.freed snd src), nextFree := (b.nextFree + 1) % b.slots.length }).advance 1 with
    syncQ := c.syncQ + 1 }

section
variable {s : State} {L i rd snd src : Nat}

theorem takeVerdict_takes (full : ((s.core L).inbox i).slots.getD ((s.core L).inbox i).nextTake .empty = .full snd src) :
    takeVerdict s L i rd = .run (s.modCore L (takeSlot ((s.core L).inbox i) i rd snd src)) := by
  unfold takeVerdict
  simp only [full]
  rfl

theorem takeVerdict_held (waits : ∀ n m, ((s.core L).inbox i).slots.getD ((s.core L).inbox i).nextTake .empty ≠ .full n m) :
    takeVerdict s L i rd = .stop (s.modCore L fun c => { c with hold := .take i rd, syncQ := 0 }) := by
  unfold takeVerdict
  dsimp only
  split
  next n m full => exact absurd full (waits n m)
  next => rfl

theorem inboxFreeVerdict_frees (room : (s.core L).syncQ < 16) (isOpen : ((s.core L).inbox i).isOpen = true)
    (oldest : ((s.core L).inbox i).slots.getD ((s.core L).inbox i).nextFree .empty = .taken snd src) :
    inboxFreeVerdict s L i 0 = .run ((s.absorbCredit L snd i ((s.core L).inbox i).nextFree).modCore L
      (freeSlot ((s.core L).inbox i) i snd src)) := by
  unfold inboxFreeVerdict
  rw [if_neg (by simp [isOpen])]
  simp only [oldest]
  exact State.syncGate_room room _

theorem inboxFreeVerdict_refuses (none : ∀ n m, ((s.core L).inbox i).slots.getD ((s.core L).inbox i).nextFree .empty ≠ .taken n m) :
    inboxFreeVerdict s L i 0 = .raise stIllegal := by
  unfold inboxFreeVerdict
  dsimp only
  split
  · rfl
  · split
    next n m taken => exact absurd taken (none n m)
    next => rfl

theorem State.absorbCredit_attempt (s : State) (L sender inbox slot M : Nat) :
    ((s.absorbCredit L sender inbox slot).core M).attempt = (s.core M).attempt := s.absorbEffect_attempt L _ 2 6 _ M

end

/-- Settles O22, from what each instruction's verdict comes to. -/
theorem fencesAndInboxes : Obligations.FencesAndInboxes := by
  refine ⟨fun s core units => ?_, fun s core i => ⟨?_, ?_, ?_⟩, fun s core i rd snd src => ⟨?_, ?_, ?_⟩⟩
  · simpa only [Core.fenceClear_iff] using fence_passes_or_holds s core units
  · intro rs slotsM1 sizeM1 im rank takes room w words two closed image aligned inside range
    exact inboxOpen_opens i takes room two closed image aligned inside range
  · exact fun clear => ⟨fun takes room isOpen => inboxClose_closes i takes room isOpen clear,
      fun held counts => inboxClose_closes_after i held counts clear⟩
  · exact fun busy isOpen takes room => inboxClose_holds i takes room isOpen busy
  · refine fun full => ⟨fun takes room isOpen => ?_, fun held counts => ?_⟩
    · refine congrArg Host.Outcome.next ?_
      rw [if_neg (by simp [isOpen]), State.syncGate_room room, takeVerdict_takes full]
      exact s.issue_run core.val _ (takeSlot_attempt _ _ _ _ _) takes
    · refine congrArg Host.Outcome.next ?_
      unfold inboxTakeSatisfied
      simp only [held, takeVerdict_takes full]
      exact s.countIssue_of_counts core.val _ (takeSlot_attempt _ _ _ _ _) counts
  · intro waits isOpen takes room
    refine congrArg Host.Outcome.next ?_
    rw [if_neg (by simp [isOpen]), State.syncGate_room room, takeVerdict_held waits]
    exact State.issue_stop takes _
  · refine fun takes isOpen => ⟨fun oldest room => ?_, fun none => ?_⟩
    · refine congrArg Host.Outcome.next ?_
      rw [inboxFreeVerdict_frees room isOpen oldest]
      exact State.issue_run_after takes (s.absorbCredit_attempt core.val snd i.val _ core.val) fun _ => rfl
    · refine congrArg Host.Outcome.next ?_
      rw [inboxFreeVerdict_refuses none]
      exact State.issue_raise takes stIllegal

end Sys2Proof.Machine

/-! SUPPORT. TURN_BEGIN and TURN_END (04 R119 to R121): the live banks in the carry area. -/

namespace Sys2Proof.Machine

/-! ### A bank's tile as bytes (04 R120) -/

/-- The bytes of a word at the place of its entry. -/
def wordEntry (at' : Nat) (v : W32) : SMap Byte := (SMap.ofList (leBytes 4 v.toNat) 0 0).map fun x => (at' + x.1, x.2)

theorem SMap.ofList_keys {α : Type} [DecidableEq α] (vs : List α) (k : Nat) (d : α) :
    ∀ p ∈ SMap.ofList vs k d, k ≤ p.1 ∧ p.1 < k + vs.length := by
  induction vs generalizing k with
  | nil => nofun
  | cons v vs ih =>
    have tail : ∀ p ∈ SMap.ofList vs (k + 1) d, k ≤ p.1 ∧ p.1 < k + (v :: vs).length := fun p hp => by
      obtain ⟨lo, hi⟩ := ih (k + 1) p hp
      exact ⟨by omega, by rw [List.length_cons]; omega⟩
    intro p hp
    rw [SMap.ofList] at hp
    split at hp
    · exact tail p hp
    · rcases List.mem_cons.1 hp with rfl | hp
      · exact ⟨Nat.le_refl _, by rw [List.length_cons]; omega⟩
      · exact tail p hp

theorem wordEntry_keys {at' : Nat} {v : W32} {p : Nat × Byte} (hp : p ∈ wordEntry at' v) : at' ≤ p.1 ∧ p.1 < at' + 4 := by
  obtain ⟨x, hx, rfl⟩ := List.mem_map.1 hp
  obtain ⟨lo, hi⟩ := SMap.ofList_keys _ _ _ x hx
  have : (leBytes 4 v.toNat).length = 4 := rfl
  exact ⟨by simp only; omega, by simp only; omega⟩

theorem getD_wordEntry (at' : Nat) (v : W32) (j : Nat) : SMap.getD (wordEntry at' v) (at' + j) 0 = (leBytes 4 v.toNat).getD j 0 := by
  have shifted := SMap.getD_shift (SMap.ofList (leBytes 4 v.toNat) 0 0) at' j 0
  have read := SMap.getD_ofList (leBytes 4 v.toNat) 0 j 0
  simp only [Nat.add_comm _ at'] at shifted
  exact shifted.trans ((congrArg (SMap.getD _ · 0) (Nat.zero_add j)).symm.trans read)

theorem getD_leBytes_zero {j : Nat} (hj : j < 4) : (leBytes 4 (0 : W32).toNat).getD j 0 = 0 := List.getD_replicate 0 hj

/-- Entries in rising order as bytes: the four bytes of the word that stands at a key. -/
theorem getD_wordEntries (lo : Nat) {m : SMap W32} {hi : Nat} (above : lo ≤ hi) (rising : SMap.risingFrom m hi = true) (i : Nat) {j : Nat}
    (hj : j < 4) : SMap.getD (m.flatMap fun v => wordEntry ((v.1 - lo) * 4) v.2) (i * 4 + j) 0 =
      (leBytes 4 (SMap.getD m (lo + i) 0).toNat).getD j 0 := by
  induction m generalizing hi with
  | nil => exact (getD_leBytes_zero hj).symm
  | cons q t ih =>
    obtain ⟨a, v⟩ := q
    obtain ⟨least, rest⟩ := SMap.risingFrom_cons.1 rising
    have tail := ih (Nat.le_succ_of_le (Nat.le_trans above least)) rest
    rw [List.flatMap_cons, SMap.getD_cons]
    by_cases here : a = lo + i
    · have none : SMap.getD t (lo + i) 0 = 0 := SMap.getD_of_lt rest (by omega) 0
      rw [none] at tail
      rw [if_pos here, SMap.getD_append_left _ _ _ _ (tail.trans (getD_leBytes_zero hj)), show (a - lo) * 4 = i * 4 by omega]
      exact getD_wordEntry _ _ _
    · rw [if_neg here, SMap.getD_append]
      · exact tail
      · intro p hp
        have := wordEntry_keys hp
        omega

/-- A bank's tile holds the four bytes of each of its cells in turn. -/
theorem Core.getD_bankTile (c : Core) (b : Nat) {i j : Nat} (hi : i < 16384) (hj : j < 4) :
    SMap.getD (c.bankTile b) (i * 4 + j) 0 = (leBytes 4 (SMap.getD c.banks (b * 16384 + i) 0).toNat).getD j 0 := by
  have tile : c.bankTile b = ((SMap.normal c.banks 0).filter fun p => decide (b * 16384 ≤ p.1) && decide (p.1 < b * 16384 + 16384)).flatMap
      fun v => wordEntry ((v.1 - b * 16384) * 4) v.2 := by
    rw [Core.bankTile, SMap.slice, ← List.flatMap_eq_foldl, List.flatMap_map]
    rfl
  have rising : SMap.risingFrom ((SMap.normal c.banks 0).filter fun p =>
      decide (b * 16384 ≤ p.1) && decide (p.1 < b * 16384 + 16384)) (b * 16384) = true := by
    refine SMap.risingFrom_of_le (SMap.risingFrom_filter _ (SMap.wf_iff.1 (SMap.wf_normal c.banks 0)).1) fun p hp => ?_
    simp only [List.mem_filter, Bool.and_eq_true, decide_eq_true_eq] at hp
    exact hp.2.1
  rw [tile, getD_wordEntries _ (Nat.le_refl _) rising i hj, SMap.getD_filter, SMap.getD_normal]
  intro q _ key
  simp only [Bool.and_eq_true, decide_eq_true_eq]
  omega

/-! ### TURN_END saves the live banks (04 R119, R120) -/

section
variable {s : State} {a len : Nat} {es : SMap Byte}

/-- A field of a stored range is the number whose bytes the range gives there. -/
theorem State.readNat_storeField {o n v : Nat} (inside : o + n ≤ len)
    (field : ((List.range n).map fun j => SMap.getD es (o + j) 0) = leBytes n v) (fits : v < 256 ^ n) :
    (s.store a len es).readNat (a + o) n = v := by
  have bytes : (s.store a len es).readBytes (a + o) n = leBytes n v := by
    rw [← field]
    refine List.map_congr_left fun j hj => ?_
    have := List.mem_range.1 hj
    refine (s.readByte_store a len es (a + o + j)).trans ?_
    rw [if_pos (by omega), Nat.add_assoc, Nat.add_sub_cancel_left]
  rw [State.readNat, bytes, leBytes_toNat, Nat.mod_eq_of_lt fits]

theorem State.readNat_store_outside {at' n : Nat} (outside : at' + n ≤ a ∨ a + len ≤ at') : (s.store a len es).readNat at' n = s.readNat at' n := by
  have bytes : (s.store a len es).readBytes at' n = s.readBytes at' n := List.map_congr_left fun j hj => by
    have := List.mem_range.1 hj
    exact s.readByte_store_outside a (by omega)
  rw [State.readNat, State.readNat, bytes]

end

theorem State.readNat_bankTile (s : State) (a : Nat) (c : Core) (b : Nat) {i : Nat} (hi : i < 16384) :
    (s.store a 65536 (c.bankTile b)).readNat (a + 4 * i) 4 = (SMap.getD c.banks (b * 16384 + i) 0).toNat := by
  refine State.readNat_storeField (by omega) ?_ (SMap.getD c.banks (b * 16384 + i) 0).isLt
  refine (List.map_congr_left fun j hj => ?_).trans
    (show ((List.range 4).map fun j => (leBytes 4 (SMap.getD c.banks (b * 16384 + i) 0).toNat).getD j 0) = _ from rfl)
  rw [Nat.mul_comm 4 i]
  exact c.getD_bankTile b hi (List.mem_range.1 hj)

section
variable (s : State) (L : Nat) (live : BitVec 2) (w : Nat)

theorem State.saveBanks_cores : (s.saveBanks L live w).cores = s.cores := by
  unfold State.saveBanks
  dsimp only
  split <;> split <;> rfl

/-- A save between two updates of the core changes memory and the core alone. -/
theorem State.saveBanks_frame (f g : Core → Core) : ((s.modCore L f).saveBanks L live w).modCore L g = { s with
    mem := (((s.modCore L f).saveBanks L live w).modCore L g).mem, wordErr := (((s.modCore L f).saveBanks L live w).modCore L g).wordErr
    writeBack := (((s.modCore L f).saveBanks L live w).modCore L g).writeBack
    cores := (((s.modCore L f).saveBanks L live w).modCore L g).cores } := by
  unfold State.saveBanks
  dsimp only
  split <;> split <;> rfl

theorem State.saveBanks_outside {k : Nat} (outside : k < csBase L + w * 8 ∨ csBase L + w * 8 + carryWords live * 8 ≤ k) :
    (s.saveBanks L live w).readByte k = s.readByte k := by
  unfold State.saveBanks
  unfold carryWords at outside
  dsimp only
  have bank0 : (if live.getLsbD 0 = true then s.store (csBase L + w * 8) 65536 ((s.core L).bankTile 0) else s).readByte k = s.readByte k := by
    split
    next on => exact s.readByte_store_outside _ (by rw [if_pos on] at outside; omega)
    next => rfl
  split
  next on =>
    refine (State.readByte_store_outside _ _ ?_).trans bank0
    rw [if_pos on] at outside
    cases zero : live.getLsbD 0 <;> simp only [zero, if_true, Bool.false_eq_true, if_false] at outside ⊢ <;> omega
  next => exact bank0

theorem State.saveBanks_bank0 (on : live.getLsbD 0 = true) {i : Nat} (hi : i < 16384) :
    (s.saveBanks L live w).readNat (csBase L + w * 8 + 4 * i) 4 = (SMap.getD (s.core L).banks i 0).toNat := by
  unfold State.saveBanks
  simp only [on, if_true]
  split
  · rw [State.readNat_store_outside (by omega), State.readNat_bankTile _ _ _ _ hi, Nat.zero_mul, Nat.zero_add]
  · rw [State.readNat_bankTile _ _ _ _ hi, Nat.zero_mul, Nat.zero_add]

theorem State.saveBanks_bank1 (on : live.getLsbD 1 = true) {i : Nat} (hi : i < 16384) :
    (s.saveBanks L live w).readNat ((if live.getLsbD 0 then csBase L + w * 8 + 65536 else csBase L + w * 8) + 4 * i) 4 =
      (SMap.getD (s.core L).banks (16384 + i) 0).toNat := by
  unfold State.saveBanks
  simp only [on, if_true]
  exact State.readNat_bankTile _ _ _ _ hi

end

/-- What the end of a part's turn makes of its core. -/
def endTurn (live : BitVec 2) (w next : Nat) (c : Core) : Core :=
  { c with
    hold := .none, seq := .heldBoundary, inTurn := false, live := live, carry := w, nextEntry := next
    attempt := { c.attempt with ended := true } }

section
variable {s : State} {L : Nat} {live : BitVec 2} {w next : Nat} (held : (s.core L).hold = .turnEnd live w next)
include held

theorem State.settleTurnEnd_ends (quiet : (s.core L).quiet = true) :
    s.settleTurnEnd L = (s.saveBanks L live w).modCore L (endTurn live w next) := by
  unfold State.settleTurnEnd
  simp only [held, quiet, if_true]
  rfl

theorem State.settleTurnEnd_waits (busy : ¬ (s.core L).quiet = true) : s.settleTurnEnd L = s := by
  unfold State.settleTurnEnd
  simp only [held]
  exact if_neg busy

end

theorem Core.quiet_iff {c : Core} :
    c.quiet = true ↔ c.matQ = [] ∧ c.matRun = [] ∧ c.vecQ = 0 ∧ c.syncQ = 0 ∧ c.ferry0 = [] ∧ c.ferry1 = [] := by
  simp only [Core.quiet, Bool.and_eq_true, List.isEmpty_iff, beq_iff_eq, and_assoc]

/-- TURN_END is accepted and holds the sequencer. -/
theorem turnEndVerdict_holds {s : State} {L : Nat} {live : BitVec 2} {rc re : Nat}
    (area : live ≠ 0 → carryIllegal s L (((s.core L).reg rc).toNat % 2 ^ 21) live = false ∧ ((s.core L).reg rc).toNat % 2 ^ 21 % 512 = 0)
    (room : (s.core L).syncQ < 16) : turnEndVerdict s L live rc re 0 = .run (s.modCore L fun c => { c with
      hold := .turnEnd live (((s.core L).reg rc).toNat % 2 ^ 21) (if re = 0 then (s.core L).entry else ((s.core L).reg re).toNat % 2 ^ 21)
      syncQ := 0 }) := by
  have legal : ((0 : W64) != 0 || (live != 0 && carryIllegal s L (((s.core L).reg rc).toNat % 2 ^ 21) live)) = false := by
    by_cases none : live = 0
    · simp [none]
    · rw [(area none).1, Bool.and_false]; rfl
  have aligned : (live != 0 && ((s.core L).reg rc).toNat % 2 ^ 21 % 512 != 0) = false := by
    by_cases none : live = 0
    · simp [none]
    · rw [(area none).2]; exact Bool.and_false _
  unfold turnEndVerdict
  dsimp only
  rw [legal, aligned]
  exact State.syncGate_room room _

/-- The core that TURN_END holds, one more instruction counted. -/
def holdTurnEnd (live : BitVec 2) (w next : Nat) (c : Core) : Core :=
  { c with hold := .turnEnd live w next, syncQ := 0, attempt := { c.attempt with issued := c.attempt.issued + 1 } }

/-- The sequencer is held, and the turn ends at once where the units are quiet. -/
theorem turnEnd_holds {s : State} {core : CoreId} {live : BitVec 2} {rc re : Reg} (takes : s.Takes core.val)
    (area : live ≠ 0 → carryIllegal s core.val (((s.core core.val).reg rc.val).toNat % 2 ^ 21) live = false ∧
      ((s.core core.val).reg rc.val).toNat % 2 ^ 21 % 512 = 0) (room : (s.core core.val).syncQ < 16) :
    exec (.turnEnd core live rc re 0) s = .next ((s.modCore core.val (holdTurnEnd live (((s.core core.val).reg rc.val).toNat % 2 ^ 21)
      (if re = 0 then (s.core core.val).entry else ((s.core core.val).reg re.val).toNat % 2 ^ 21))).settleTurnEnd core.val) := by
  refine congrArg (fun t : State => Host.Outcome.next (t.settleTurnEnd core.val)) ?_
  rw [turnEndVerdict_holds area room]
  simp only [Fin.val_eq_zero_iff]
  exact s.issue_run core.val _ (fun _ => rfl) takes

section
variable (s : State) (L : Nat) (live : BitVec 2) (w next : Nat)

theorem State.held_quiet_iff : ((s.modCore L (holdTurnEnd live w next)).core L).quiet = true ↔
    (s.core L).matQ = [] ∧ (s.core L).matRun = [] ∧ (s.core L).vecQ = 0 ∧ (s.core L).ferry0 = [] ∧ (s.core L).ferry1 = [] := by
  rw [State.core_modCore, Core.quiet_iff]
  simp only [holdTurnEnd, true_and]

theorem State.held_stays (busy : ¬ ((s.modCore L (holdTurnEnd live w next)).core L).quiet = true) :
    (s.modCore L (holdTurnEnd live w next)).settleTurnEnd L = s.modCore L (holdTurnEnd live w next) :=
  State.settleTurnEnd_waits (congrArg Core.hold (s.core_modCore L _)) busy

theorem State.held_ends (quiet : ((s.modCore L (holdTurnEnd live w next)).core L).quiet = true) :
    (s.modCore L (holdTurnEnd live w next)).settleTurnEnd L =
      ((s.modCore L (holdTurnEnd live w next)).saveBanks L live w).modCore L (endTurn live w next) :=
  State.settleTurnEnd_ends (congrArg Core.hold (s.core_modCore L _)) quiet

theorem State.held_banks : ((s.modCore L (holdTurnEnd live w next)).core L).banks = (s.core L).banks := by
  rw [State.core_modCore]
  rfl

end

/-! ### TURN_BEGIN restores the live banks (04 R114, R119, R120) -/

theorem State.counting_of_coreReady {s : State} {L : Nat} (ready : s.coreReady L = true) : s.counting L = true := by
  simp only [State.coreReady, Bool.and_eq_true, decide_eq_true_eq] at ready
  simp only [State.counting, Bool.and_eq_true, bne_iff_ne]
  exact ⟨ready.1.2, ready.2⟩

/-- A bank's reload with its FEED count. -/
def Core.feedBank (b : Nat) (tile : List W32) (c : Core) : Core :=
  { c.reload b tile with counters := { c.counters with feed := c.counters.feed + 64 } }

/-- The live banks' reload from their tiles. -/
def Core.feedLive (live : BitVec 2) (tile0 tile1 : List W32) (c : Core) : Core :=
  let c0 := if live.getLsbD 0 then c.feedBank 0 tile0 else c
  if live.getLsbD 1 then c0.feedBank 1 tile1 else c0

theorem State.reloadBank_counting {s : State} {L : Nat} (counts : s.counting L = true) (b : Nat) (tile : List W32) :
    s.reloadBank L b tile = s.modCore L (Core.feedBank b tile) :=
  (State.countCore_of_counting (s := s.modCore L fun c => c.reload b tile) counts _).trans (s.modCore_modCore L _ _)

theorem State.modCore_after_if (s : State) (L : Nat) (b : Bool) (f g : Core → Core) :
    (if b then s.modCore L g else s).modCore L f = s.modCore L fun c => f (if b then g c else c) := by
  cases b with
  | false => rfl
  | true => exact s.modCore_modCore L g f

/-- TURN_BEGIN's reload joins the next update of the core, and meets no word in error. -/
theorem State.reloadBanks_then {s : State} {L : Nat} (counts : s.counting L = true)
    (sound : s.Sound (csBase L + (s.core L).carry * 8) (carryWords (s.core L).live * 8)) (f : Core → Core) :
    let a := csBase L + (s.core L).carry * 8
    (s.reloadBanks L).1.modCore L f = s.modCore L (f ∘ Core.feedLive (s.core L).live (s.tileAt a)
      (s.tileAt (if (s.core L).live.getLsbD 0 then a + 65536 else a))) ∧ (s.reloadBanks L).2 = [] := by
  intro a
  have read := s.readRange_readable a _ 0 L (State.readable_coreStore sound)
  have counts0 : (if (s.core L).live.getLsbD 0 then s.modCore L (Core.feedBank 0 (s.tileAt a)) else s).counting L = true := by
    split <;> exact counts
  refine ⟨?_, congrArg Prod.snd read⟩
  unfold State.reloadBanks
  dsimp only
  rw [read, State.reloadBank_counting counts, State.reloadBank_counting counts0, State.modCore_after_if, State.modCore_after_if]
  rfl

/-! ### What the reload gives -/

section
variable (live : BitVec 2) (tile0 tile1 : List W32) (c : Core)

/-- Only the banks and the FEED count change: 64 quadrant-beats for each live bank. -/
theorem Core.feedLive_eq : c.feedLive live tile0 tile1 = { c with
    banks := (c.feedLive live tile0 tile1).banks
    counters := { c.counters with feed := c.counters.feed + BitVec.ofNat 64 (64 * (live.getLsbD 0).toNat + 64 * (live.getLsbD 1).toNat) } } := by
  have twice : c.counters.feed + 64 + 64 = c.counters.feed + 128 := BitVec.add_assoc ..
  have none : c.counters.feed = c.counters.feed + 0 := (BitVec.add_zero _).symm
  unfold Core.feedLive Core.feedBank
  cases live.getLsbD 0 <;> cases live.getLsbD 1
  case false.false => exact congrArg (fun n => { c with counters := { c.counters with feed := n } }) none
  case true.true => exact congrArg (fun n => { c with
      banks := (Core.reload (c.reload 0 tile0) 1 tile1).banks, counters := { c.counters with feed := n } }) twice
  all_goals rfl

theorem Core.feedLive_attempt : (c.feedLive live tile0 tile1).attempt = c.attempt := by
  rw [Core.feedLive_eq]

theorem Core.feedBank_banks (b : Nat) (tile : List W32) (k : Nat) : SMap.getD (c.feedBank b tile).banks k 0 =
    if b * 16384 ≤ k ∧ k < b * 16384 + 16384 then tile.getD (k - b * 16384) 0 else SMap.getD c.banks k 0 := by
  refine (SMap.getD_splice _ _ _ _ _ _).trans ?_
  rw [← SMap.getD_ofList tile 0 (k - b * 16384) 0, Nat.zero_add]

theorem Core.feedLive_bank0 {i : Nat} (hi : i < 16384) : SMap.getD (c.feedLive live tile0 tile1).banks i 0 =
    if live.getLsbD 0 then tile0.getD i 0 else SMap.getD c.banks i 0 := by
  have bank0 : SMap.getD (if live.getLsbD 0 then c.feedBank 0 tile0 else c).banks i 0 =
      if live.getLsbD 0 then tile0.getD i 0 else SMap.getD c.banks i 0 := by
    split
    · rw [Core.feedBank_banks, if_pos (by omega), Nat.zero_mul, Nat.sub_zero]
    · rfl
  unfold Core.feedLive
  dsimp only
  split
  · rw [Core.feedBank_banks, if_neg (by omega)]
    exact bank0
  · exact bank0

theorem Core.feedLive_bank1 {i : Nat} (hi : i < 16384) : SMap.getD (c.feedLive live tile0 tile1).banks (16384 + i) 0 =
    if live.getLsbD 1 then tile1.getD i 0 else SMap.getD c.banks (16384 + i) 0 := by
  unfold Core.feedLive
  dsimp only
  split
  · rw [Core.feedBank_banks, if_pos (by omega), show 16384 + i - 1 * 16384 = i by omega]
  · split
    · rw [Core.feedBank_banks, if_neg (by omega)]
    · rfl

end

theorem State.core_retire (s : State) (L : Nat) (f : Core → Core) : (s.retire L f).core L =
    { f (s.core L) with attempt := { (s.core L).attempt with issued := (s.core L).attempt.issued + 1 } } := s.core_setCore L _

theorem State.tileAt_getD (s : State) (a : Nat) {i : Nat} (hi : i < 16384) :
    (s.tileAt a).getD i 0 = BitVec.ofNat 32 (s.readNat (a + 4 * i) 4) := by
  unfold State.tileAt
  rw [List.getD_eq_getElem _ _ (by rw [List.length_map, List.length_range]; exact hi), List.getElem_map, List.getElem_range]

/-- TURN_BEGIN of 04 R119, R120: the turn opens with the live banks restored. -/
theorem turnBegin_opens {s : State} {core : CoreId} {op : BitVec 4} (ready : s.coreReady core.val = true)
    (outside : (s.core core.val).inTurn = false) (counts : s.Counts core.val) (point : op.toNat ≤ 8) (due : s.tokensDue core.val = [])
    (sound : s.Sound (csBase core.val + (s.core core.val).carry * 8) (carryWords (s.core core.val).live * 8)) :
    let a := csBase core.val + (s.core core.val).carry * 8
    exec (.turnBegin core op 0) s = .next (s.retire core.val fun c =>
      { (c.feedLive (s.core core.val).live (s.tileAt a) (s.tileAt (if (s.core core.val).live.getLsbD 0 then a + 65536 else a))).advance 1
        with inTurn := true, opPoint := op }) := by
  intro a
  obtain ⟨reloaded, clean⟩ := State.reloadBanks_then (State.counting_of_coreReady ready) sound
    fun c => { c.advance 1 with inTurn := true, opPoint := op }
  refine congrArg Host.Outcome.next ?_
  unfold turnBegin
  rw [if_pos ready, if_neg (by simp only [outside]; simp [Nat.not_lt.2 point]), if_neg (by rw [due]; exact Bool.false_ne_true)]
  dsimp only
  rw [clean]
  dsimp only
  rw [reloaded]
  refine s.countIssue_of_counts core.val _ (fun c => ?_) counts
  exact Core.feedLive_attempt ..

/-- Settles O23: the banks of `turnBegin_opens`, and those of `turnEnd_holds`, which ends the turn where the units are quiet. -/
theorem turnsBeginAndEnd : Obligations.TurnsBeginAndEnd := by
  refine ⟨fun s core op ready outside counts point due => ?begins, fun s core live rc re takes => ?ends⟩
  case begins =>
    intro c a a1 sound
    refine ⟨_, turnBegin_opens ready outside counts point due sound, fun i hi => ?_, fun i hi => ?_, ?_⟩
    · rw [State.core_retire]
      refine (Core.feedLive_bank0 _ _ _ _ hi).trans ?_
      rw [State.tileAt_getD _ _ hi]
    · rw [State.core_retire]
      refine (Core.feedLive_bank1 _ _ _ _ hi).trans ?_
      rw [State.tileAt_getD _ _ hi]
    · rw [State.core_retire]
      refine State.retire_congr ?_
      rw [Core.feedLive_eq]
      rfl
  case ends =>
    intro c w a a1 next area room quiet
    have accepted := turnEnd_holds (re := re) takes area room
    refine ⟨fun busy => ?_, fun idle => ?_⟩
    · rw [accepted, State.held_stays _ _ _ _ _ ((State.held_quiet_iff ..).not.2 busy)]
      rfl
    · rw [State.held_ends _ _ _ _ _ ((State.held_quiet_iff ..).2 idle)] at accepted
      refine ⟨_, accepted, fun i hi on => ?_, fun i hi on => ?_, fun k outside => ?_, ?_, ?_⟩
      · exact (State.saveBanks_bank0 _ core.val live w on hi).trans (by rw [State.held_banks])
      · exact (State.saveBanks_bank1 _ core.val live w on hi).trans (by rw [State.held_banks])
      · exact State.saveBanks_outside _ core.val live w outside
      · refine (State.modCore_cores_congr (State.saveBanks_cores _ core.val live w) core.val fun _ => rfl).trans ?_
        exact congrArg State.cores (s.modCore_modCore core.val (holdTurnEnd live w next) (endTurn live w next))
      · exact s.saveBanks_frame core.val live w (holdTurnEnd live w next) (endTurn live w next)

end Sys2Proof.Machine

/-! SUPPORT. Queue places, the array's ramp and phase hints (04 R101, R119, R122, 02 R58 to R60, 12 R357). -/

namespace Sys2Proof.Machine

/-! ### Updates of two cores -/

theorem SMap.put_comm {α : Type} (m : SMap α) {i j : Nat} (v w : α) (ne : i ≠ j) :
    SMap.put (SMap.put m i v) j w = SMap.put (SMap.put m j w) i v := by
  induction m with
  | nil => grind [SMap.put]
  | cons q t ih => grind [SMap.put]

/-- Updates of two cores commute, and so do two of one core that commute there. -/
theorem State.modCore_comm (s : State) {L K : Nat} {f g : Core → Core} (same : K = L → ∀ c, g (f c) = f (g c)) :
    (s.modCore L f).modCore K g = (s.modCore K g).modCore L f := by
  by_cases h : K = L
  · subst h
    rw [State.modCore_modCore, State.modCore_modCore]
    exact congrArg (s.modCore K) (funext (same rfl))
  · unfold State.modCore
    rw [State.core_setCore_other _ _ h, State.core_setCore_other _ _ (Ne.symm h)]
    exact congrArg (fun m => { s with cores := m }) (SMap.put_comm s.cores _ _ (Ne.symm h))

/-! ### The array's ramp (02 R58, R60) -/

section
variable {s : State} {L : Nat} (n : Nat)

theorem State.arrayBeats_of_counting (counts : s.counting L = true) : s.arrayBeats L = true := (Bool.and_eq_true_iff.1 counts).1

/-- The core with `n` more quadrant-beats of class DUMMY. -/
def Core.countDummy (n : Nat) (c : Core) : Core :=
  { c with counters := { c.counters with dummy := c.counters.dummy + BitVec.ofNat 64 n } }

theorem State.addDummy_then (counts : s.counting L = true) (f : Core → Core) :
    (s.addDummy L n).modCore L f = s.modCore L (f ∘ Core.countDummy n) := by
  rw [State.addDummy, State.countCore_of_counting counts, State.modCore_modCore]
  rfl

theorem dummyGapExpiry_ramps (counts : s.counting L = true) (matched : (s.core L).arrayState = 2) :
    dummyGapExpiry L n s = s.modCore L ((fun c => { c with arrayState := 3, ramp := 20 }) ∘ Core.countDummy n) := by
  rw [dummyGapExpiry, State.arrayBeats_of_counting counts, matched]
  exact (if_pos rfl).trans (State.addDummy_then n counts _)

theorem rampStep_steps (counts : s.counting L = true) (ramping : (s.core L).arrayState = 3) :
    rampStep L n s = s.modCore L
      ((fun c => { c with ramp := c.ramp - 1, arrayState := if c.ramp ≤ 1 then 0 else 3 }) ∘ Core.countDummy n) := by
  rw [rampStep, State.arrayBeats_of_counting counts, ramping]
  exact (if_pos rfl).trans (State.addDummy_then n counts _)

end

/-! ### Phase hints (04 R119, R122, 12 R357) -/

/-- A region that has acted on a hint. -/
def Cluster.honour (x : Cluster) : Cluster := { x with counters := { x.counters with honoured := x.counters.honoured + 1 } }

/-- A region without a hint. -/
def Cluster.dropHint (x : Cluster) : Cluster := { x with hint := none }

/-- The core past its PHASE_HINT, which takes a place of the synchronisation queue. -/
def Core.passHint (c : Core) : Core := { c.advance 1 with syncQ := c.syncQ + 1 }

section
variable {s : State} {c : Nat} {h : Hint}

theorem State.takeHint_ignored (restarts : s.power.safeFloor = true) : s.takeHint c h =
    s.modCluster c fun x => { x with counters := { x.counters with ignored := x.counters.ignored + 1 } } := by
  unfold State.takeHint
  exact if_pos (.inl restarts)

/-- A hint that the power-management core acts on is honoured: it stands, or ends the one that stands. -/
theorem State.takeHint_honoured (answers : s.power.safeFloor = false) (runs : (s.cluster c).region = .running) : s.takeHint c h =
    if h.load = 0 then (s.modCluster c Cluster.honour).endHint c
    else (s.modCluster c Cluster.honour).modCluster c fun x => { x with hint := some h } := by
  unfold State.takeHint
  exact if_neg (by simp [answers, runs])

theorem State.modCluster_modCluster (s : State) (c : Nat) (f g : Cluster → Cluster) :
    (s.modCluster c f).modCluster c g = s.modCluster c (g ∘ f) := by
  simp [State.modCluster, State.setCluster, State.cluster]

theorem State.endHint_none (none : (s.cluster c).hint = none) : s.endHint c = s := by
  simp only [State.endHint, none]

theorem State.endHint_core {K : Nat} (stands : (s.cluster c).hint = some h) (core : h.core = some K) :
    s.endHint c = (s.modCore K Core.rampDown).modCluster c Cluster.dropHint := by
  simp only [State.endHint, stands, State.hintCores, core, List.foldl_cons, List.foldl_nil]
  rfl

end

theorem Core.rampDown_attempt (c : Core) : c.rampDown.attempt = c.attempt := by
  unfold Core.rampDown
  split <;> rfl

/-- Retiring touches no field that an array's ramp reads or sets. -/
theorem Core.rampDown_retired (c : Core) (f : Attempt → Attempt) :
    Core.rampDown { c.passHint with attempt := f c.attempt } = { c.rampDown.passHint with attempt := f c.rampDown.attempt } := by
  unfold Core.rampDown
  by_cases matched : c.arrayState = 2
  · rw [if_pos matched]
    exact if_pos matched
  · rw [if_neg matched]
    exact if_neg matched

theorem toNat_eq_zero_iff {w : Nat} (x : BitVec w) : x.toNat = 0 ↔ x = 0 := by
  rw [BitVec.toNat_eq, BitVec.ofNat_eq_ofNat, BitVec.toNat_ofNat, Nat.zero_mod]

section
variable {s : State} {core : CoreId} {lead : Byte} {dur : W16} {load : BitVec 4}

theorem State.region_of_takes (takes : s.Takes core.val) : (s.cluster (core.val / 12)).region = .running := by
  have counts := State.counting_of_coreReady takes.1
  simp only [State.counting, Bool.and_eq_true, beq_iff_eq] at counts
  exact counts.1

/-- A good hint passes to its region's cluster control core. -/
theorem execPhaseHint_passes (room : (s.core core.val).syncQ < 16) (good : load = 0 ↔ dur = 0) :
    exec (.phaseHintInstr core lead dur load 0) s = .next (s.issue core.val (.run
      ((s.modCore core.val Core.passHint).takeHint (core.val / 12) ⟨load.toNat, lead.toNat, dur.toNat, some core.val, false⟩))) := by
  have legal : ¬ ((0 : W64) ≠ 0 ∨ (load.toNat = 0 ∧ dur.toNat ≠ 0) ∨ (load.toNat ≠ 0 ∧ dur.toNat = 0)) := by
    simp only [ne_eq, toNat_eq_zero_iff]
    tauto
  refine congrArg (fun v => Host.Outcome.next (s.issue core.val v)) ?_
  rw [phaseHintVerdict, if_neg legal]
  exact State.syncGate_room room _

variable (takes : s.Takes core.val)
include takes

theorem execPhaseHint_refused (bad : load = 0 ∧ dur ≠ 0 ∨ load ≠ 0 ∧ dur = 0) :
    exec (.phaseHintInstr core lead dur load 0) s = .next (s.raise core.val stIllegal) := by
  have illegal : (0 : W64) ≠ 0 ∨ (load.toNat = 0 ∧ dur.toNat ≠ 0) ∨ (load.toNat ≠ 0 ∧ dur.toNat = 0) := by
    simp only [ne_eq, toNat_eq_zero_iff]
    exact .inr bad
  refine congrArg Host.Outcome.next ?_
  rw [phaseHintVerdict, if_pos illegal]
  exact State.issue_raise takes stIllegal

/-- What the hint makes of its cluster joins the instruction's retirement. -/
theorem State.issue_hint (c : Nat) (g : Cluster → Cluster) :
    s.issue core.val (.run ((s.modCore core.val Core.passHint).modCluster c g)) = (s.retire core.val Core.passHint).modCluster c g :=
  State.issue_run_after (t := s.modCluster c g) takes rfl fun _ => rfl

/-- So does the ramp of the core whose hint ends. -/
theorem State.issue_hint_ends (c K : Nat) :
    s.issue core.val (.run ((((s.modCore core.val Core.passHint).modCluster c Cluster.honour).modCore K Core.rampDown).modCluster c
      Cluster.dropHint)) =
    ((s.retire core.val Core.passHint).modCore K Core.rampDown).modCluster c (Cluster.dropHint ∘ Cluster.honour) := by
  have ramped : ((s.modCore K Core.rampDown).core core.val).attempt = (s.core core.val).attempt :=
    State.modCore_keeps Core.attempt Core.rampDown_attempt s K core.val
  have first : ((s.modCore core.val Core.passHint).modCore K Core.rampDown) = (s.modCore K Core.rampDown).modCore core.val Core.passHint :=
    s.modCore_comm fun _ c => c.rampDown_retired id
  have retired : (s.retire core.val Core.passHint).modCore K Core.rampDown = (s.modCore K Core.rampDown).retire core.val Core.passHint :=
    s.modCore_comm fun _ c => c.rampDown_retired fun a => { a with issued := a.issued + 1 }
  have swap : ∀ t : State, (t.modCluster c Cluster.honour).modCore K Core.rampDown = (t.modCore K Core.rampDown).modCluster c Cluster.honour :=
    fun _ => rfl
  rw [swap, State.modCluster_modCluster, first, retired]
  exact State.issue_run_after (t := (s.modCore K Core.rampDown).modCluster c (Cluster.dropHint ∘ Cluster.honour)) takes ramped fun _ => rfl

/-- The region runs that takes the hint. -/
theorem State.passHint_honoured (answers : s.power.safeFloor = false) (h : Hint) :
    (s.modCore core.val Core.passHint).takeHint (core.val / 12) h =
      if h.load = 0 then ((s.modCore core.val Core.passHint).modCluster (core.val / 12) Cluster.honour).endHint (core.val / 12)
      else ((s.modCore core.val Core.passHint).modCluster (core.val / 12) Cluster.honour).modCluster (core.val / 12) fun x =>
        { x with hint := some h } := by
  have runs : (s.cluster (core.val / 12)).region = .running := State.region_of_takes takes
  exact State.takeHint_honoured (s := s.modCore core.val Core.passHint) answers runs

theorem phaseHint_stands (room : (s.core core.val).syncQ < 16) (loaded : load ≠ 0) (timed : dur ≠ 0) (answers : s.power.safeFloor = false) :
    exec (.phaseHintInstr core lead dur load 0) s = .next ((s.retire core.val Core.passHint).modCluster (core.val / 12)
      ((fun x => { x with hint := some ⟨load.toNat, lead.toNat, dur.toNat, some core.val, false⟩ }) ∘ Cluster.honour)) := by
  rw [execPhaseHint_passes room (by tauto), State.passHint_honoured takes answers,
    if_neg ((toNat_eq_zero_iff load).not.2 loaded), State.modCluster_modCluster, State.issue_hint takes]

theorem phaseHint_none (room : (s.core core.val).syncQ < 16) (off : load = 0) (ended : dur = 0) (answers : s.power.safeFloor = false)
    (none : (s.cluster (core.val / 12)).hint = none) : exec (.phaseHintInstr core lead dur load 0) s =
      .next ((s.retire core.val Core.passHint).modCluster (core.val / 12) Cluster.honour) := by
  rw [execPhaseHint_passes room (by tauto), State.passHint_honoured takes answers,
    if_pos ((toNat_eq_zero_iff load).2 off), State.endHint_none (by rw [State.cluster_modCluster]; exact none), State.issue_hint takes]

theorem phaseHint_ends {h : Hint} {K : Nat} (room : (s.core core.val).syncQ < 16) (off : load = 0) (ended : dur = 0)
    (answers : s.power.safeFloor = false) (stands : (s.cluster (core.val / 12)).hint = some h) (named : h.core = some K) :
    exec (.phaseHintInstr core lead dur load 0) s = .next (((s.retire core.val Core.passHint).modCore K Core.rampDown).modCluster
      (core.val / 12) (Cluster.dropHint ∘ Cluster.honour)) := by
  rw [execPhaseHint_passes room (by tauto), State.passHint_honoured takes answers,
    if_pos ((toNat_eq_zero_iff load).2 off), State.endHint_core (by rw [State.cluster_modCluster]; exact stands) named,
    State.issue_hint_ends takes]

theorem phaseHint_ignored (room : (s.core core.val).syncQ < 16) (good : load = 0 ↔ dur = 0) (restarts : s.power.safeFloor = true) :
    exec (.phaseHintInstr core lead dur load 0) s = .next ((s.retire core.val Core.passHint).modCluster (core.val / 12) fun x =>
      { x with counters := { x.counters with ignored := x.counters.ignored + 1 } }) := by
  rw [execPhaseHint_passes room good, State.takeHint_ignored (s := s.modCore core.val Core.passHint) restarts, State.issue_hint takes]

end

/-! ### Queue places (04 R101, 02 R68) -/

section
variable {s : State} {L : Nat}

theorem State.settleTurnEnd_free (free : (s.core L).hold = .none) : s.settleTurnEnd L = s := by
  unfold State.settleTurnEnd
  simp only [free]

theorem State.settleUnit_free (busy : (s.core L).matRun ≠ []) (free : (s.core L).hold = .none) : s.settleUnit L = s := by
  rw [State.settleUnit, State.settleLedgers_stays (.inl busy), State.settleTurnEnd_free free]

theorem Core.acceptMatrix_work {c : Core} {a : Bool} {h : MatrixHead} {ps : List PartIssue} {o d : Nat} {rest : List MatItem}
    (head : c.matQ = .work a h ps o d :: rest) : c.acceptMatrix =
      { c with matQ := rest, matRun := c.matRun ++ [⟨a, h, ps, o, d, false, []⟩], arrayState := 1, apart := a, ramp := 0 } := by
  simp only [Core.acceptMatrix, head]

theorem queuePlaceFreed_matrix {a : Bool} {h : MatrixHead} {ps : List PartIssue} {o d : Nat} {rest : List MatItem}
    (free : (s.core L).hold = .none) (head : (s.core L).matQ = .work a h ps o d :: rest) :
    queuePlaceFreed L .matrix s = s.modCore L fun c =>
      { c with matQ := rest, matRun := c.matRun ++ [⟨a, h, ps, o, d, false, []⟩], arrayState := 1, apart := a, ramp := 0 } := by
  have accepted : s.modCore L Core.acceptMatrix = s.modCore L fun c =>
      { c with matQ := rest, matRun := c.matRun ++ [⟨a, h, ps, o, d, false, []⟩], arrayState := 1, apart := a, ramp := 0 } :=
    congrArg (s.setCore L) (Core.acceptMatrix_work head)
  refine (congrArg (State.settleUnit · L) accepted).trans (State.settleUnit_free ?_ ?_)
  · rw [State.core_modCore]
    exact List.append_ne_nil_of_right_ne_nil _ (List.cons_ne_nil _ _)
  · rw [State.core_modCore]
    exact free

end

/-! ### A transfer starts (04 R101, R113) -/

theorem State.readSource_sound {s : State} {x : Xfer} (sound : ∀ i < x.rows, s.Sound (x.localAt i) x.rowBytes) : s.readSource x = (s, []) := by
  have rows : ∀ l : List Nat, (∀ i ∈ l, i < x.rows) → l.foldl (fun acc i =>
      let r := acc.1.readRange (x.localAt i) x.rowBytes 0 x.f.core.val
      (r.1, acc.2 ++ r.2)) (s, ([] : List Nat)) = (s, []) := by
    intro l
    induction l with
    | nil => exact fun _ => rfl
    | cons i l ih =>
      intro within
      have read := s.readRange_readable (x.localAt i) x.rowBytes 0 x.f.core.val (State.readable_coreStore (sound i (within i List.mem_cons_self)))
      rw [List.foldl_cons, read]
      exact ih fun j hj => within j (List.mem_cons_of_mem i hj)
  unfold State.readSource
  split
  · rfl
  · exact rows _ fun i hi => List.mem_range.1 hi

/-- One chunk after another leaves: the pieces in the state's order of chunks. -/
def State.sendPieces (s : State) (x : Xfer) (cs : List (Nat × Nat × Nat)) (ps : List Piece) : State × List Piece :=
  cs.foldl (fun acc c =>
    let q := acc.1.sendPiece x c.1 c.2
    (q.1, acc.2 ++ [q.2])) (s, ps)

theorem State.sendPiece_onMesh {s t : State} (h : s.OnMesh t) (x : Xfer) (i : Nat) (ch : Nat × Nat) : s.OnMesh (t.sendPiece x i ch).1 := by
  unfold State.sendPiece
  generalize (if x.op = .relayPut then 0 else t.remoteRow x i + ch.1) = a
  dsimp only
  split
  · exact h
  · exact h.sendPacket _

theorem State.sendPiece_chunk (s : State) (x : Xfer) (i : Nat) (ch : Nat × Nat) :
    ((s.sendPiece x i ch).2.row, (s.sendPiece x i ch).2.off, (s.sendPiece x i ch).2.n) = (i, ch) := by
  unfold State.sendPiece
  generalize (if x.op = .relayPut then 0 else s.remoteRow x i + ch.1) = a
  dsimp only
  split <;> rfl

theorem State.sendPieces_onMesh {s t : State} (h : s.OnMesh t) (x : Xfer) (cs : List (Nat × Nat × Nat)) (ps : List Piece) :
    s.OnMesh (t.sendPieces x cs ps).1 := State.OnMesh.foldl_fst (fun _ c k => State.sendPiece_onMesh k x c.1 c.2) cs h

/-- The pieces are the chunks, in their order. -/
theorem State.sendPieces_chunks (s : State) (x : Xfer) (cs : List (Nat × Nat × Nat)) (ps : List Piece) :
    (s.sendPieces x cs ps).2.map (fun q => (q.row, q.off, q.n)) = ps.map (fun q => (q.row, q.off, q.n)) ++ cs := by
  induction cs generalizing s ps with
  | nil => exact (List.append_nil _).symm
  | cons c cs ih =>
    refine (ih _ _).trans ?_
    rw [List.map_append, List.append_assoc, List.map_singleton, State.sendPiece_chunk]
    rfl

/-- A transfer with sound source rows sends its pieces, or is discarded (13 R379). -/
theorem State.sendXfer_sends {s : State} {L k : Nat} {port : Bool} {x : Xfer} (at' : ((s.core L).port port)[k]? = some x)
    (credited : ¬ (x.op = .relayPut ∧ x.slot.isNone)) (sound : ∀ i < x.rows, s.Sound (x.localAt i) x.rowBytes) :
    s.sendXfer L port k = if s.discards x then s else (s.sendPieces x x.chunks []).1.modCore L fun c =>
      c.setPort port ((c.port port).set k { x with pieces := (s.sendPieces x x.chunks []).2 }) := by
  unfold State.sendXfer
  simp only [at', if_neg credited, State.readSource_sound sound]
  rfl

@[simp] theorem Core.port_setPort (c : Core) (port : Bool) (xs : List Xfer) : (c.setPort port xs).port port = xs := by
  cases port <;> rfl

@[simp] theorem Core.setPort_setPort (c : Core) (port : Bool) (xs ys : List Xfer) : (c.setPort port xs).setPort port ys = c.setPort port ys := by
  cases port <;> rfl

/-- The first transfer of a port, not a RELAY_PUT, starts and sends its data. -/
theorem State.startFerry_first {s : State} {L : Nat} {port : Bool} {x : Xfer} {rest : List Xfer}
    (queue : (s.core L).port port = x :: rest) (queued : x.started = false) (plain : x.op ≠ .relayPut) :
    s.startFerry L port = (s.modCore L fun c => c.setPort port ({ x with started := true, peer := 0 } :: rest)).sendXfer L port 0 := by
  have first : (x :: rest).findIdx? (fun y => !y.started) = some 0 := by
    rw [List.findIdx?_cons, queued]
    rfl
  unfold State.startFerry
  simp only [queue, first, List.getElem?_cons_zero, plain, false_and, if_false]
  refine congrArg (fun c : Core => (s.setCore L c).sendXfer L port 0) (congrArg ((s.core L).setPort port) ?_)
  rw [queue]
  rfl

/-- An update of the core, what leaves on the mesh, and another update of the core. -/
theorem State.OnMesh.modCore_frame {s t : State} {L : Nat} {f : Core → Core} (h : (s.modCore L f).OnMesh t) (g : Core → Core) :
    t.modCore L g = { s with
      cores := (t.modCore L g).cores, mesh := (t.modCore L g).mesh, links := (t.modCore L g).links, out := (t.modCore L g).out
      freeCtr := (t.modCore L g).freeCtr } := by
  unfold State.OnMesh at h
  rw [h]
  rfl

theorem State.OnMesh.modCore_cores {s t : State} {L : Nat} {f : Core → Core} (h : (s.modCore L f).OnMesh t) (g : Core → Core) :
    (t.modCore L g).cores = (s.modCore L (g ∘ f)).cores := by
  rw [State.modCore_cores_congr h.cores L (g := g) fun _ => rfl, State.modCore_modCore]

/-- What a start leaves: the transfer with its pieces at the head of its port, the rest on the mesh. -/
theorem queuePlaceFreed_ferry {s : State} {L : Nat} {port : Bool} {x : Xfer} {rest : List Xfer}
    (queue : (s.core L).port port = x :: rest) (queued : x.started = false) (plain : x.op ≠ .relayPut)
    (sound : ∀ i < x.rows, s.Sound (x.localAt i) x.rowBytes) :
    let t := s.startFerry L port
    (∃ ps, t.cores = (s.modCore L fun c => c.setPort port ({ x with started := true, peer := 0, pieces := ps } :: rest)).cores ∧
      (s.discards x = false → ps.map (fun q => (q.row, q.off, q.n)) = x.chunks)) ∧
    t = { s with cores := t.cores, mesh := t.mesh, links := t.links, out := t.out, freeCtr := t.freeCtr } := by
  intro t
  let y : Xfer := { x with started := true, peer := 0 }
  let u := s.modCore L fun c => c.setPort port (y :: rest)
  have head : ((u.core L).port port)[0]? = some y := by
    rw [State.core_modCore, Core.port_setPort]
    rfl
  have same : u.discards y = s.discards x := by
    unfold State.discards
    rfl
  have sent : t = if u.discards y then u else (u.sendPieces y y.chunks []).1.modCore L fun c =>
      c.setPort port ((c.port port).set 0 { y with pieces := (u.sendPieces y y.chunks []).2 }) :=
    (State.startFerry_first queue queued plain).trans (State.sendXfer_sends head (fun h => plain h.1) sound)
  rw [same] at sent
  have mesh := State.sendPieces_onMesh (State.OnMesh.refl u) y y.chunks []
  cases discarded : s.discards x with
  | true =>
    rw [discarded, if_pos rfl] at sent
    refine ⟨⟨x.pieces, congrArg State.cores sent, nofun⟩, ?_⟩
    rw [sent]
    rfl
  | false =>
    rw [discarded, if_neg Bool.false_ne_true] at sent
    refine ⟨⟨(u.sendPieces y y.chunks []).2, ?_, fun _ => u.sendPieces_chunks y y.chunks []⟩, ?_⟩
    · rw [sent, mesh.modCore_cores]
      refine State.modCore_cores_congr rfl L fun c => ?_
      rw [Function.comp_apply, Core.port_setPort, Core.setPort_setPort, List.set_cons_zero]
    · rw [sent]
      exact mesh.modCore_frame _

/-- Settles O24: queue places, the array's ramp and phase hints. -/
theorem queuesArrayAndHints : Obligations.QueuesArrayAndHints := by
  refine ⟨fun s core free => ⟨?_, ?_, ?_, ?_⟩, fun s core n counts => ⟨?_, ?_⟩, fun s core lead dur load takes room => ⟨?_, ?_, ?_, ?_, ?_⟩⟩
  · exact congrArg Host.Outcome.next (State.settleTurnEnd_free (by rw [State.core_modCore]; exact free))
  · exact congrArg Host.Outcome.next (State.settleTurnEnd_free (by rw [State.core_modCore]; exact free))
  · exact fun a h ps o d rest head => congrArg Host.Outcome.next (queuePlaceFreed_matrix free head)
  · intro port x rest queue queued plain sound
    refine ⟨_, ?_, queuePlaceFreed_ferry queue queued plain sound⟩
    cases port <;> rfl
  · exact fun matched => congrArg Host.Outcome.next (dummyGapExpiry_ramps n counts matched)
  · exact fun ramping => congrArg Host.Outcome.next (rampStep_steps n counts ramping)
  · exact fun loaded timed answers => phaseHint_stands takes room loaded timed answers
  · exact fun off ended answers none => phaseHint_none takes room off ended answers none
  · exact fun h K off ended answers stands named => phaseHint_ends takes room off ended answers stands named
  · exact fun good restarts => phaseHint_ignored takes room good restarts
  · exact execPhaseHint_refused takes

end Sys2Proof.Machine

/-! SUPPORT. Ferry transfers on their way (04 R113 to R115, 02 R66, 05 R136): a completion, a credit that comes, a contribution admitted. -/

namespace Sys2Proof.Machine

/-! ### What leaves on the mesh keeps (07 R189, R195) -/

/-- A packet that enters the mesh adds to what flies there, and keeps every other field of the mesh. -/
theorem State.inject_mesh {γ : Type} (g : Mesh → γ) (flies : ∀ m fs, g { m with flights := fs } = g m) (s : State) (p : MeshPkt) :
    g (s.inject p).mesh = g s.mesh := by
  have counted : ∀ (t : State) (b : Bool) (n : Nat) (way : List (Nat × Nat × Bool × Nat)), (t.countWay b n way).mesh = t.mesh :=
    fun t b n way => by
      refine foldl_keeps State.mesh (fun u l => ?_) way t
      rfl
  have kept : ∀ (t : State) (q : MeshPkt) (way : List (Nat × Nat × Bool × Nat)), (t.keepTransfers q way).mesh = t.mesh :=
    fun t q way => by
      refine foldl_keeps State.mesh (fun u l => ?_) way t
      rfl
  have launched : ∀ (t : State) (q : MeshPkt) (h : Bool) (way : Option (List (Nat × Nat × Bool × Nat))),
      g (t.launch q h way).mesh = g t.mesh := fun t q h way => by
    unfold State.launch
    split
    · rfl
    · refine (flies _ _).trans ?_
      rw [kept, counted]
      rfl
  have halved : ∀ (t : State) (a b : Nat), (t.bulkHalf a b).1.mesh = t.mesh := fun t a b => by
    unfold State.bulkHalf
    split
    · rfl
    · dsimp only
      split
      · rfl
      · split <;> rfl
  unfold State.inject
  dsimp only
  split
  · rw [launched, launched]
  · rw [launched, halved]

theorem State.answer_mesh {γ : Type} (g : Mesh → γ) (flies : ∀ m fs, g { m with flights := fs } = g m) (s : State) (p : MeshPkt) (typ : Nat)
    (st : W16) : g (s.answer p typ st).mesh = g s.mesh := s.inject_mesh g flies _

theorem State.sendPacket_credits (s : State) (p : MeshPkt) : (s.sendPacket p).mesh.credits = s.mesh.credits := by
  unfold State.sendPacket
  dsimp only
  split
  · exact State.inject_mesh Mesh.credits (fun _ _ => rfl) _ _
  · rfl

theorem State.sendPiece_credits (s : State) (x : Xfer) (i : Nat) (ch : Nat × Nat) : (s.sendPiece x i ch).1.mesh.credits = s.mesh.credits := by
  unfold State.sendPiece
  generalize (if x.op = .relayPut then 0 else s.remoteRow x i + ch.1) = a
  dsimp only
  split
  · rfl
  · exact s.sendPacket_credits _

theorem State.sendPieces_credits (s : State) (x : Xfer) (cs : List (Nat × Nat × Nat)) (ps : List Piece) :
    (s.sendPieces x cs ps).1.mesh.credits = s.mesh.credits :=
  foldl_keeps (fun a : State × List Piece => a.1.mesh.credits) (fun a c => a.1.sendPiece_credits x c.1 c.2) cs (s, ps)

/-! ### A contribution is admitted (04 R115) -/

theorem reduceHoldAdmit_admits {s : State} {site : Nat} {c : Contribution} (one : (s.mesh.waiting.filter fun x => x.site == site) = [c])
    (admits : s.holdAdmits c = true) : s.OnMesh (reduceHoldAdmit site s) ∧ (reduceHoldAdmit site s).mesh.holds = s.mesh.holds ++ [c] ∧
      (reduceHoldAdmit site s).mesh.waiting = s.mesh.waiting.filter fun x => x.site != site := by
  have entered : State.addContribution { s with mesh := { s.mesh with waiting := s.mesh.waiting.filter fun x => x.site != site } } c =
      { s with mesh := { s.mesh with waiting := s.mesh.waiting.filter (fun x => x.site != site), holds := s.mesh.holds ++ [c] } } :=
    if_pos admits
  unfold reduceHoldAdmit
  simp only [one, List.foldl_cons, List.foldl_nil, entered]
  split
  · exact ⟨rfl, rfl, rfl⟩
  · exact ⟨((State.OnMesh.refl s).setMesh _).answer _ _ _, State.answer_mesh Mesh.holds (fun _ _ => rfl) _ _ _ _,
      State.answer_mesh Mesh.waiting (fun _ _ => rfl) _ _ _ _⟩

/-! ### A credit comes (02 R66) -/

section
variable {s : State} {x : Xfer} {k : Nat}

/-- A transfer that waits for a credit of an open inbox with an empty slot takes both. -/
theorem State.takeCredit_takes (isOpen : ((s.core x.peer).inbox x.f.inbox.toNat).isOpen = true)
    (empty : ((s.core x.peer).inbox x.f.inbox.toNat).fillSlot = some k)
    (credit : 0 < SMap.getD s.mesh.credits (x.peer * 8 + x.f.inbox.toNat) 0)
    (fits : x.total ≤ ((s.core x.peer).inbox x.f.inbox.toNat).slotWords * 8) :
    s.takeCredit x = ((s.withCredits fun m => SMap.put m (x.peer * 8 + x.f.inbox.toNat)
        (SMap.getD s.mesh.credits (x.peer * 8 + x.f.inbox.toNat) 0 - 1)).modCore x.peer (fun c =>
          c.setInbox x.f.inbox.toNat { (s.core x.peer).inbox x.f.inbox.toNat with
            slots := ((s.core x.peer).inbox x.f.inbox.toNat).slots.set k (.written x.f.core.val x.local0) }),
      { x with slot := some k }) := by
  unfold State.takeCredit
  simp only [empty]
  exact if_pos ⟨isOpen, credit, fits⟩

end

/-- Only a RELAY_PUT takes a credit. -/
theorem State.tryCredit_other {s : State} {L i : Nat} {port : Bool} (other : ∀ y, ((s.core L).port port)[i]? = some y → y.op ≠ .relayPut) :
    s.tryCredit L port i = s := by
  unfold State.tryCredit
  split
  · rfl
  next y at' =>
    have plain : y.wants y.peer y.f.inbox.toNat = false := by
      simp [Xfer.wants, beq_eq_false_iff_ne.2 (other y at')]
    rw [plain]
    rfl

/-- Behind a RELAY_PUT at the head of its port, transfers of other kinds wait for no credit. -/
theorem relayCreditArrival_first {s : State} {L : Nat} {port : Bool} {x z : Xfer} {rest : List Xfer} (queue : (s.core L).port port = x :: rest)
    (after : ((s.tryCredit L port 0).core L).port port = z :: rest) (others : ∀ y ∈ rest, y.op ≠ .relayPut) :
    relayCreditArrival L port s = s.tryCredit L port 0 := by
  have stays : ∀ l : List Nat, (∀ i ∈ l, 0 < i) → l.foldl (fun t i => t.tryCredit L port i) (s.tryCredit L port 0) = s.tryCredit L port 0 := by
    intro l
    induction l with
    | nil => exact fun _ => rfl
    | cons i l ih =>
      intro positive
      rw [List.foldl_cons, State.tryCredit_other]
      · exact ih fun j hj => positive j (List.mem_cons_of_mem i hj)
      · intro y at'
        obtain ⟨j, rfl⟩ := Nat.exists_eq_succ_of_ne_zero (Nat.ne_of_gt (positive i List.mem_cons_self))
        rw [after, List.getElem?_cons_succ] at at'
        exact others y (List.mem_of_getElem? at')
  unfold relayCreditArrival
  rw [queue, List.length_cons, List.range_succ_eq_map, List.foldl_cons]
  refine stays _ fun i hi => ?_
  obtain ⟨j, _, rfl⟩ := List.mem_map.1 hi
  exact Nat.succ_pos j

/-- No RELAY_PUT is discarded: copy B's goes to copy B (13 R379). -/
theorem State.discards_relay (s : State) {x : Xfer} (relay : x.op = .relayPut) : s.discards x = false := by
  unfold State.discards
  rw [relay]
  split
  · rfl
  · exact Bool.and_false _

section
variable {s : State} {L k : Nat} {port : Bool} {x : Xfer} {rest : List Xfer}

/-- The state in which the head of a port has taken its credit. -/
def State.credited (s : State) (L : Nat) (port : Bool) (x : Xfer) (rest : List Xfer) (k : Nat) : State :=
  (s.takeCredit x).1.modCore L fun c => c.setPort port ({ x with slot := some k } :: rest)

/-- The head of a port takes the credit that has come, and its rows leave. -/
theorem State.tryCredit_sends (queue : (s.core L).port port = x :: rest) (relay : x.op = .relayPut) (started : x.started = true)
    (waits : x.slot = none) (status : x.status = 0) (sound : ∀ i < x.rows, (s.takeCredit x).1.Sound (x.localAt i) x.rowBytes)
    (own : ((s.takeCredit x).1.core L).port port = x :: rest) (taken : (s.takeCredit x).2 = { x with slot := some k }) :
    s.tryCredit L port 0 = ((s.credited L port x rest k).sendPieces { x with slot := some k } x.chunks []).1.modCore L fun c =>
      c.setPort port ((c.port port).set 0
        { x with slot := some k, pieces := ((s.credited L port x rest k).sendPieces { x with slot := some k } x.chunks []).2 }) := by
  have wants : x.wants x.peer x.f.inbox.toNat = true := by simp [Xfer.wants, relay, started, waits, status, stOk]
  have placed : ((s.takeCredit x).1.modCore L fun c => c.setPort port ((c.port port).set 0 { x with slot := some k })) =
      s.credited L port x rest k := by
    refine congrArg (fun c : Core => (s.takeCredit x).1.setCore L c) (congrArg (((s.takeCredit x).1.core L).setPort port) ?_)
    rw [own]
    rfl
  have head : (((s.credited L port x rest k).core L).port port)[0]? = some { x with slot := some k } := by
    rw [State.credited, State.core_modCore, Core.port_setPort]
    rfl
  unfold State.tryCredit
  simp only [queue, List.getElem?_cons_zero, wants, if_true, taken, Option.isSome_some, placed]
  refine (State.sendXfer_sends head (fun h => Bool.false_ne_true h.2) sound).trans ?_
  exact if_neg (Bool.eq_false_iff.1 (State.discards_relay _ relay))

/-- The pieces with which a credited RELAY_PUT stands at the head of its port. -/
def State.creditedPieces (s : State) (L : Nat) (port : Bool) (x : Xfer) (rest : List Xfer) (k : Nat) : List Piece :=
  ((s.credited L port x rest k).sendPieces { x with slot := some k } x.chunks []).2

/-- The reader's first empty slot is written for this sender, the pool holds one credit less, and the rows leave. -/
theorem relayCreditArrival_sends (queue : (s.core L).port port = x :: rest) (relay : x.op = .relayPut) (started : x.started = true)
    (waits : x.slot = none) (status : x.status = 0) (sound : ∀ i < x.rows, s.Sound (x.localAt i) x.rowBytes)
    (others : ∀ y ∈ rest, y.op ≠ .relayPut) (peer : x.peer ≠ L)
    (isOpen : ((s.core x.peer).inbox x.f.inbox.toNat).isOpen = true)
    (empty : ((s.core x.peer).inbox x.f.inbox.toNat).fillSlot = some k)
    (credit : 0 < SMap.getD s.mesh.credits (x.peer * 8 + x.f.inbox.toNat) 0)
    (fits : x.total ≤ ((s.core x.peer).inbox x.f.inbox.toNat).slotWords * 8) :
    let t := relayCreditArrival L port s
    (t.core L).port port = { x with slot := some k, pieces := s.creditedPieces L port x rest k } :: rest ∧
      (t.core x.peer).inbox x.f.inbox.toNat = { (s.core x.peer).inbox x.f.inbox.toNat with
        slots := ((s.core x.peer).inbox x.f.inbox.toNat).slots.set k (.written x.f.core.val x.local0) } ∧
      SMap.getD t.mesh.credits (x.peer * 8 + x.f.inbox.toNat) 0 + 1 = SMap.getD s.mesh.credits (x.peer * 8 + x.f.inbox.toNat) 0 ∧
      t.mem = s.mem := by
  have takes := State.takeCredit_takes isOpen empty credit fits
  have own : (s.takeCredit x).1.core L = s.core L := by
    rw [takes]
    exact State.core_modCore_other _ _ (Ne.symm peer)
  have sends := State.tryCredit_sends queue relay started waits status (by rw [takes]; exact sound)
    (by rw [own]; exact queue) (congrArg Prod.snd takes)
  have mesh := State.sendPieces_onMesh (State.OnMesh.refl (s.credited L port x rest k)) { x with slot := some k } x.chunks []
  have credits := (s.credited L port x rest k).sendPieces_credits { x with slot := some k } x.chunks []
  have cores : ∀ M, ((s.credited L port x rest k).sendPieces { x with slot := some k } x.chunks []).1.core M =
      (s.credited L port x rest k).core M := fun M => by unfold State.core; rw [mesh.cores]
  have head : ((s.tryCredit L port 0).core L).port port = { x with slot := some k, pieces := s.creditedPieces L port x rest k } :: rest := by
    rw [sends, State.core_modCore, cores, State.credited, State.core_modCore, Core.port_setPort, Core.port_setPort]
    rfl
  intro t
  have first : t = s.tryCredit L port 0 := relayCreditArrival_first queue head others
  rw [first]
  refine ⟨head, ?_, ?_, ?_⟩
  · rw [sends, State.core_modCore_other _ _ peer, cores, State.credited, State.core_modCore_other _ _ peer, takes]
    dsimp only
    rw [State.core_modCore]
    exact Core.inbox_setInbox _ _ _
  · rw [sends, State.modCore_mesh, credits, State.credited, State.modCore_mesh, takes]
    exact (congrArg (· + 1) (SMap.getD_put_same _ _ _ _)).trans (Nat.sub_add_cancel credit)
  · rw [sends]
    refine (mesh.mem).trans ?_
    rw [State.credited, takes]
    rfl

end

/-! ### A transfer completes (04 R113, R114, 08 R222) -/

/-- What a completed transfer without an error makes of its core: it leaves its port, its tokens are signalled, its rows pinned. -/
def Core.finish (port : Bool) (rest : List Xfer) (x : Xfer) (c : Core) : Core :=
  let c1 := c.setPort port rest
  let c2 := if x.f.sigEn then c1.signal x.f.sigToken.val 1 else c1
  let c3 := if x.f.rsigEn then { c2 with signals := c2.signals ++ [(x.rsigCore, x.f.rsigToken.val, 1)] } else c2
  if x.op = .relayPut then { c3 with pins := c3.pins ++ x.localWords.map fun w => ⟨w.1, w.2, x.peer, x.f.inbox.toNat, x.slot.getD 0⟩ }
  else c3

theorem Core.finish_hold (port : Bool) (rest : List Xfer) (x : Xfer) (c : Core) : (c.finish port rest x).hold = c.hold := by
  have moved : (c.setPort port rest).hold = c.hold := by cases port <;> rfl
  unfold Core.finish
  dsimp only
  split <;> split <;> split <;> exact moved

section
variable {s : State} {L : Nat} {port : Bool} {x : Xfer} {rest : List Xfer}

theorem State.finishXfer_clean (queue : (s.core L).port port = x :: rest) (free : (s.core L).hold = .none) :
    s.finishXfer L port x 0 = s.modCore L (Core.finish port rest x) := by
  have updated : s.finishXfer L port x 0 = (s.modCore L (Core.finish port rest x)).settleTurnEnd L := by
    unfold State.finishXfer
    refine congrArg (fun c : Core => (s.setCore L c).settleTurnEnd L) ?_
    have clean : (0 : W16) = stOk := rfl
    dsimp only
    rw [queue, List.tail_cons]
    simp only [clean, if_true, beq_self_eq_true, Bool.and_true, and_true]
    rfl
  rw [updated]
  exact State.settleTurnEnd_free (by rw [State.core_modCore, Core.finish_hold]; exact free)

/-- A transfer that has no piece left, now that those which can have moved: deltas settle and it is reported. -/
theorem ferryComplete_reports {t : State} {y : Xfer} (queue : (s.core L).port port = x :: rest) (started : x.started = true)
    (status : x.status = 0) (credited : x.op = .relayPut → x.slot.isSome = true)
    (moves : x.pieces.foldl (fun u q => u.movePiece L port q) s = t) (left : (t.core L).port port = y :: rest) (still : y.started = true)
    (clean : y.status = 0) (moved : y.pieces = []) (free : (t.core L).hold = .none) :
    ferryComplete L port s = t.settleDeltas.modCore L (Core.finish port rest y) := by
  have ready : ¬ (x.op = .relayPut ∧ x.slot.isNone ∧ (0 : W16) = stOk) := fun ⟨relay, waits, _⟩ => by
    have := credited relay
    rw [Option.isNone_iff_eq_none.1 waits] at this
    exact Bool.false_ne_true this
  have core : t.settleDeltas.core L = t.core L := by
    unfold State.core
    rw [t.settleDeltas_onMesh.cores]
  unfold ferryComplete
  simp only [queue, started, Bool.not_true, Bool.false_eq_true, if_false, moves, left, still, clean, moved, List.isEmpty_nil, Bool.or_true,
    Bool.and_true, if_true, status]
  refine (if_neg ready).trans (State.finishXfer_clean ?_ ?_)
  · rw [core]
    exact left
  · rw [core]
    exact free

end

/-- What is left once a transfer has completed: its core, and nothing of clusters, islands or the scheduler. -/
theorem State.settled_frame (s : State) (L : Nat) (f : Core → Core) :
    (s.settleDeltas.modCore L f).cores = (s.modCore L f).cores ∧ (s.settleDeltas.modCore L f).clusters = s.clusters ∧
      (s.settleDeltas.modCore L f).islands = s.islands ∧ (s.settleDeltas.modCore L f).sched = s.sched ∧
      (s.settleDeltas.modCore L f).mem = s.mem := by
  have mesh := s.settleDeltas_onMesh
  exact ⟨State.modCore_cores_congr mesh.cores L fun _ => rfl, mesh.clusters, mesh.islands, mesh.sched, mesh.mem⟩

/-! ### The last piece of a GET from the own island's lagoon (04 R113, 05 R136) -/

theorem Core.modHead_cons {c : Core} {port : Bool} {x : Xfer} {rest : List Xfer} (queue : c.port port = x :: rest) (f : Xfer → Xfer) :
    c.modHead port f = c.setPort port (f x :: rest) := by
  simp only [Core.modHead, queue]

/-- A transfer whose one piece has moved has none left. -/
theorem Xfer.without_only {x : Xfer} {q : Piece} (one : x.pieces = [q]) : x.without q = { x with pieces := [] } := by
  simp [Xfer.without, one]

section
variable {s : State} {L : Nat} {port : Bool} {x : Xfer} {rest : List Xfer} {q : Piece}

/-- A piece that crosses the slot port takes its bytes where nothing refuses it and nothing makes it wait. -/
theorem State.movePiece_get (queue : (s.core L).port port = x :: rest) (status : x.status = 0) (one : x.pieces = [q])
    (get : x.op = .get) (direct : q.via = none)
    (allowed : s.accessStatus (((s.standOf L).map Stand.part).getD 0xFFFF) q.addr q.n false = 0)
    (free : s.accessWaits q.addr q.n false = false) (unpinned : s.pinnedAt (x.pieceLocal q).1 (x.pieceLocal q).2 = false)
    (readable : s.Readable q.addr q.n) :
    s.movePiece L port q = (s.landPiece x q (s.readBytes q.addr q.n)).modCore L fun c =>
      c.modHead port fun y => y.without q := by
  have listed : ¬ (x.status ≠ stOk ∨ !x.pieces.contains q) := by simp [status, one, stOk]
  have moves : s.moveDirect L port x q = (s.landPiece x q (s.readBytes q.addr q.n)).modCore L fun c => c.modHead port fun y => y.without q := by
    unfold State.moveDirect
    simp only [get, beq_self_eq_true, Bool.not_true, allowed, free, unpinned, s.readRange_readable _ _ 0 L readable]
    rfl
  unfold State.movePiece
  simp only [queue, List.head?_cons, direct]
  exact (if_neg listed).trans moves

/-- The bytes that a piece of a GET without conversion lands. -/
theorem State.readByte_landPiece (plain : x.f.conv = 0) (k : Nat) : (s.landPiece x q (s.readBytes q.addr q.n)).readByte k =
    if x.localAt q.row + q.off ≤ k ∧ k < x.localAt q.row + q.off + q.n then s.readByte (q.addr + (k - (x.localAt q.row + q.off)))
    else s.readByte k := by
  have length : (s.readBytes q.addr q.n).length = q.n := by simp [State.readBytes, SMap.toList]
  have lands : s.landPiece x q (s.readBytes q.addr q.n) = s.store (x.localAt q.row + q.off) q.n (SMap.ofList (s.readBytes q.addr q.n) 0 0) := by
    simp [State.landPiece, State.writeBytes, Xfer.pieceLocal, Xfer.localCount, plain, length]
  rw [lands, State.readByte_store]
  split
  next inside =>
    have within : k - (x.localAt q.row + q.off) < q.n := by omega
    rw [← Nat.zero_add (k - (x.localAt q.row + q.off)), SMap.getD_ofList, Nat.zero_add]
    simp [State.readBytes, SMap.toList, within, State.readByte]
  next => rfl

theorem Core.finish_moved (c : Core) : (c.setPort port ({ x with pieces := [] } :: rest)).finish port rest { x with pieces := [] } =
    c.finish port rest x := by
  unfold Core.finish
  rw [Core.setPort_setPort]
  rfl

theorem Core.finish_landed {c : Core} (queue : c.port port = x :: rest) (one : x.pieces = [q]) :
    (c.modHead port fun y => y.without q).finish port rest { x with pieces := [] } = c.finish port rest x := by
  rw [Core.modHead_cons queue, Xfer.without_only one, Core.finish_moved]

/-- A GET whose last piece still has to cross takes its bytes and completes. -/
theorem ferryComplete_get (queue : (s.core L).port port = x :: rest) (started : x.started = true) (status : x.status = 0)
    (idle : (s.core L).hold = .none) (get : x.op = .get) (plain : x.f.conv = 0) (one : x.pieces = [q]) (direct : q.via = none)
    (allowed : s.accessStatus (((s.standOf L).map Stand.part).getD 0xFFFF) q.addr q.n false = 0)
    (free : s.accessWaits q.addr q.n false = false) (unpinned : s.pinnedAt (x.localAt q.row + q.off) q.n = false)
    (readable : s.Readable q.addr q.n) :
    ferryComplete L port s = ((s.landPiece x q (s.readBytes q.addr q.n)).modCore L fun c =>
      c.modHead port fun y => y.without q).settleDeltas.modCore L (Core.finish port rest { x with pieces := [] }) := by
  have place : x.pieceLocal q = (x.localAt q.row + q.off, q.n) := by simp [Xfer.pieceLocal, Xfer.localCount, plain]
  have moves := State.movePiece_get queue status one get direct allowed free (by rw [place]; exact unpinned) readable
  have core : ((s.movePiece L port q).core L) = (s.core L).setPort port ({ x with pieces := [] } :: rest) := by
    rw [moves, State.core_modCore]
    refine (Core.modHead_cons (c := s.core L) queue _).trans ?_
    rw [Xfer.without_only one]
  rw [← moves]
  refine ferryComplete_reports queue started status (fun relay => ?_) (by rw [one]; rfl) (by rw [core]; exact Core.port_setPort _ _ _) started
    status rfl ?_
  · rw [get] at relay
    exact absurd relay (by decide)
  · rw [core]
    refine Eq.trans ?_ idle
    cases port <;> rfl

end

/-- Settles O20: completions, a credit that comes, a contribution admitted. -/
theorem ferryTransfersMove : Obligations.FerryTransfersMove := by
  refine ⟨fun s core port x rest queue started status idle => ⟨?_, ?_⟩, ?_, ?_⟩
  · intro moved credited
    have reports := ferryComplete_reports queue started status credited (by rw [moved]; rfl) queue started status moved idle
    obtain ⟨cores, clusters, islands, sched, mem⟩ := s.settled_frame core.val (Core.finish port rest x)
    exact ⟨_, congrArg Host.Outcome.next reports, ⟨cores, clusters, islands, sched⟩, mem⟩
  · intro q get own plain one direct far p at' allowed free unpinned sound
    subst own
    have reports := ferryComplete_get queue started status idle get plain one direct allowed free unpinned ⟨sound, fun near => by omega⟩
    obtain ⟨cores, clusters, islands, sched, mem⟩ := State.settled_frame
      ((s.landPiece x q (s.readBytes q.addr q.n)).modCore x.f.core.val fun c => c.modHead port fun y => y.without q) x.f.core.val
      (Core.finish port rest { x with pieces := [] })
    refine ⟨_, congrArg Host.Outcome.next reports, ⟨cores.trans ?_, clusters, islands, sched⟩, fun k => ?_⟩
    · rw [State.modCore_modCore]
      exact congrArg (fun c => (s.setCore x.f.core.val c).cores) (Core.finish_landed queue one)
    · exact (congrArg (SMap.getD · k 0) mem).trans (State.readByte_landPiece plain k)
  · intro s core port x rest k queue relay started waits status own others sound d b key peer isOpen empty credit fits
    subst own
    obtain ⟨head, slot, pool, mem⟩ :=
      relayCreditArrival_sends queue relay started waits status sound others peer isOpen empty credit fits
    refine ⟨_, rfl, ⟨_, head, ?_⟩, slot, pool, mem⟩
    exact State.sendPieces_chunks _ _ _ _
  · exact fun s site c one admits => ⟨_, rfl, reduceHoldAdmit_admits one admits⟩

end Sys2Proof.Machine

/-! SUPPORT. Scrubbers, write-backs of corrected words and reloads of backed granules (05 R142, R144, R145, R152). -/

namespace Sys2Proof.Machine

/-! ### A scrubber's pointer (05 R144, R145) -/

/-- The pointer of one bank of one slot moves to its next line. -/
def State.linePassed (s : State) (c key : Nat) : State :=
  s.modCluster c fun x => { x with scrub := SMap.set x.scrub key ((SMap.getD (s.cluster c).scrub key 0 + 1) % 2048) 0 }

/-- The same for the bank of word w of core L, in the slot that serves it: after its last line the core counts a pass. -/
def State.bankPassed (s : State) (L w : Nat) : State :=
  let key := (s.cluster (L / 12)).map.getD (L % 12) 0xF * 128 + bankOf w
  if SMap.getD (s.cluster (L / 12)).scrub key 0 = 2047 then
    (s.linePassed (L / 12) key).countCore L fun k => { k with scrubPasses := k.scrubPasses + 1 }
  else s.linePassed (L / 12) key

/-- The pointer of one slice of island i moves to its next line: after the last one the island counts a pass. -/
def State.slicePassed (s : State) (i key : Nat) : State :=
  let line := SMap.getD (s.island i).scrub key 0
  s.modIsland i fun x => { x with
    scrub := SMap.set x.scrub key ((line + 1) % 65536) 0
    scrubPasses := if line = 65535 then x.scrubPasses + 1 else x.scrubPasses }

/-! ### Scrubs (05 R144, R145) -/

theorem State.scrubWords_clean {s : State} (sound : s.wordErr = []) (w0 n : Nat) : s.scrubWords w0 n = s := by
  unfold State.scrubWords
  rw [sound]
  rfl

theorem State.OnCores.wordErr {s t : State} (h : s.OnCores t) : t.wordErr = s.wordErr := by rw [h]

theorem State.bankPassed_wordErr (s : State) (L w : Nat) : (s.bankPassed L w).wordErr = s.wordErr := by
  unfold State.bankPassed
  dsimp only
  split
  · exact (State.countCore_onCores _ _ _).wordErr
  · rfl

/-- Nothing counts in a core whose region does not run. -/
theorem State.countCore_of_stopped {s : State} {L : Nat} (stopped : (s.cluster (L / 12)).region ≠ .running)
    (f : CoreCounters → CoreCounters) : s.countCore L f = s :=
  if_neg (by simp [State.counting, stopped])

section
variable {s : State} {a L w : Nat} (place : placeOf a = .coreStore L w)
include place

theorem State.scrub_bank (runs : (s.cluster (L / 12)).region = .running) (sound : s.wordErr = []) :
    s.scrub a [] none = s.bankPassed L w := by
  unfold State.scrub
  rw [place]
  exact (if_neg (not_not.2 runs)).trans (State.scrubWords_clean ((s.bankPassed_wordErr L w).trans sound) _ _)

theorem State.scrub_reserve {k : Nat} (runs : (s.cluster (L / 12)).region = .running) (reserve : (s.cluster (L / 12)).slotState k = 1)
    (us : List Upset) : s.scrub a us (some k) = s.linePassed (L / 12) (k * 128 + bankOf w) := by
  unfold State.scrub
  rw [place]
  exact (if_neg (not_not.2 runs)).trans (if_pos reserve)

theorem State.scrub_stopped (stopped : (s.cluster (L / 12)).region ≠ .running) (us : List Upset) (reserve : Option Nat) :
    s.scrub a us reserve = s := by
  unfold State.scrub
  rw [place]
  exact if_pos stopped

theorem forcedScrub_bank (us : List Upset) : forcedScrub a us true s =
    (s.scrub a us none).countCore L fun k => { k with bankConflict := k.bankConflict + 1 } := by
  unfold forcedScrub
  rw [place]
  rfl

end

section
variable {s : State} {a i q : Nat} (place : placeOf a = .lagoon i q)
include place

theorem State.scrub_slice (on : (s.island i).lagoon = 0) (sound : s.wordErr = []) :
    s.scrub a [] none = s.slicePassed i (q * 8 + sliceOf (a % 2 ^ 26)) := by
  unfold State.scrub
  rw [place]
  exact (if_neg (not_not.2 on)).trans (State.scrubWords_clean (s := s.slicePassed i _) sound _ _)

theorem State.scrub_suspended (off : (s.island i).lagoon ≠ 0) (us : List Upset) (reserve : Option Nat) : s.scrub a us reserve = s := by
  unfold State.scrub
  rw [place]
  exact if_pos off

theorem forcedScrub_slice (us : List Upset) (loser : Bool) : forcedScrub a us loser s = s.scrub a us none := by
  unfold forcedScrub
  rw [place]

end

/-! ### A corrected word is written back (05 R142) -/

theorem correctedWriteBack_queued {s : State} {a : Nat} (queued : a / 8 ∈ s.writeBack) : correctedWriteBack a s = { s with
    wordErr := SMap.erase s.wordErr (a / 8), writeBack := s.writeBack.filter fun x => x != a / 8 } :=
  if_pos (List.contains_iff_mem.2 queued)

/-! ### A granule reloads from its master (05 R152) -/

theorem SMap.getD_slice {α : Type} (m : SMap α) {lo len k : Nat} (inside : k < len) (d : α) :
    SMap.getD (SMap.slice m lo len) k d = SMap.getD m (lo + k) d := by
  have back : (SMap.slice m lo len).map (fun p => (p.1 + lo, p.2)) =
      m.filter fun p => decide (lo ≤ p.1) && decide (p.1 < lo + len) := by
    unfold SMap.slice
    rw [List.map_map]
    refine (List.map_congr_left fun p kept => ?_).trans (List.map_id _)
    have above : lo ≤ p.1 := of_decide_eq_true (Bool.and_eq_true_iff.1 (List.mem_filter.1 kept).2).1
    exact Prod.ext (Nat.sub_add_cancel above) rfl
  rw [← SMap.getD_shift _ lo, back, Nat.add_comm k lo]
  exact SMap.getD_filter _ _ _ _ fun p _ at' => by simp only [at', Bool.and_eq_true, decide_eq_true_eq]; omega

theorem State.readByte_copy (s : State) (src dst n k : Nat) :
    (s.copy src dst n).readByte k = if dst ≤ k ∧ k < dst + n then s.readByte (src + (k - dst)) else s.readByte k := by
  refine (s.readByte_store dst n _ k).trans ?_
  split
  · exact SMap.getD_slice s.mem (by omega) 0
  · rfl

theorem State.Notifies.readByte {s t : State} (h : s.Notifies t) (k : Nat) : t.readByte k = s.readByte k := by rw [h]; rfl
theorem State.Notifies.island {s t : State} (h : s.Notifies t) (i : Nat) : t.island i = s.island i := by rw [h]; rfl
theorem State.Notifies.cores {s t : State} (h : s.Notifies t) : t.cores = s.cores := by rw [h]
theorem State.OnMesh.readByte {s t : State} (h : s.OnMesh t) (k : Nat) : t.readByte k = s.readByte k := h.notifies.readByte k
theorem State.OnMesh.island {s t : State} (h : s.OnMesh t) (i : Nat) : t.island i = s.island i := h.notifies.island i

/-- A range that reads as it stands is met without a change, and gives all of its data. -/
theorem State.meetRange_readable {s : State} {a n : Nat} (h : s.Readable a n) : s.meetRange a n = (s, false) := by
  have clean : (s.wordErr.filter fun q =>
      decide (a / 8 ≤ q.1) && decide (q.1 < (a + n) / 8) && !s.granuleAbsent (q.1 / 32 * 256)) = [] := by
    refine List.filter_eq_nil_iff.2 fun q hq met => h.1 q hq ?_
    simp only [Bool.and_eq_true, decide_eq_true_eq] at met
    omega
  unfold State.meetRange
  rw [clean, s.serveAbsent_readable a n h.2]
  rfl

section
variable (s : State) (src g n : Nat)

theorem State.refill_readByte (k : Nat) : (s.refill src g n).readByte k =
    if g ≤ k ∧ k < g + n then s.readByte (src + (k - g)) else s.readByte k :=
  (((State.OnMesh.refl _).traffic _ _ _ _).readByte k).trans (s.readByte_copy src g n k)

/-- The island of the granule counts the reload, and the granule waits no longer. -/
theorem State.refill_island : (s.refill src g n).island ((g - 0x040000000000) / 2 ^ 28) =
    { s.island ((g - 0x040000000000) / 2 ^ 28) with
      reloads := (s.island ((g - 0x040000000000) / 2 ^ 28)).reloads + 1
      reloading := (s.island ((g - 0x040000000000) / 2 ^ 28)).reloading.filter fun y => y != g } := by
  have kept := fun i => ((State.OnMesh.refl (s.copy src g n)).traffic false (nodeAt (s.ownerOf src)) (nodeAt (s.ownerOf g)) n).island i
  unfold State.refill
  rw [State.island_modIsland, kept]
  rfl

theorem State.refill_cores : (s.refill src g n).cores = s.cores :=
  ((State.OnMesh.refl (s.copy src g n)).traffic _ _ _ _).cores

end

section
variable {s : State} {a g src p : Nat} {b : Backed} (backed : s.backedAt a = some (p, b)) (granule : a / 65536 * 65536 = g)
  (master : (s.part p).base + b.master + (g - b.addr) = src) (readable : s.Readable src 65536)
include backed granule master readable

/-- A granule whose master reads as it stands takes the master's bytes, with its event. -/
theorem State.reloadGranule_readable (found core : Nat) :
    s.reloadGranule a found core = ((s.refill src g 65536).wordEvent a 0 found core (some p), true) := by
  subst granule master
  unfold State.reloadGranule
  rw [backed]
  dsimp only
  rw [State.meetRange_readable readable]
  rfl

/-- Once the granule has its master's bytes, the requests held at memory go on. -/
theorem lagoonGranuleReload_readable :
    ∃ found, lagoonGranuleReload a s = ((s.refill src g 65536).wordEvent a 0 found 0xFFFF (some p)).releaseHeld := by
  unfold lagoonGranuleReload
  rw [backed]
  dsimp only
  rw [State.reloadGranule_readable backed granule master readable]
  exact ⟨_, rfl⟩

end

/-- Settles O29: each scrub comes to its pointer's move or to nothing, a write-back to one word's end, a reload to the master's bytes. -/
theorem scrubbingAndReloads : Obligations.ScrubbingAndReloads := by
  have next : ∀ {s t : State}, s = t → Host.Outcome.next (φ := Fault) (ρ := Refusal) s = .next t := congrArg _
  refine ⟨fun s addr sound => ⟨fun L w place => ⟨fun runs => ⟨?_, ?_, fun k reserve => ?_⟩, fun stopped => ⟨fun k => ?_, ?_⟩⟩,
    fun i q place => ⟨fun on => ⟨?_, ?_⟩, fun off => ?_⟩⟩, fun s addr queued => ?_, fun s addr p b backed => ?_⟩
  · exact next (State.scrub_bank place runs sound)
  · exact next ((forcedScrub_bank place []).trans (by rw [State.scrub_bank place runs sound]; rfl))
  · exact next (State.scrub_reserve place runs reserve [])
  · exact next (State.scrub_stopped place stopped [] _)
  · exact next ((forcedScrub_bank place []).trans (by rw [State.scrub_stopped place stopped, State.countCore_of_stopped stopped]))
  · exact next (State.scrub_slice place on sound)
  · exact next ((forcedScrub_slice place [] false).trans (State.scrub_slice place on sound))
  · exact next (State.scrub_suspended place off [] none)
  · exact next (correctedWriteBack_queued queued)
  · intro g src i readable
    obtain ⟨found, reloads⟩ := lagoonGranuleReload_readable backed rfl rfl readable
    have event := State.event_notifies (s.refill src g 65536) evWordUncorrectable (some p)
    exact ⟨_, next reloads, fun a => ((event _).readByte a).trans (s.refill_readByte src g 65536 a),
      ((event _).island i).trans (s.refill_island src g 65536), (event _).cores.trans (s.refill_cores src g 65536)⟩

end Sys2Proof.Machine

/-! SUPPORT. Channels of HBM that retrain or retire, and stacks that are lost (06 R166, R167, R172). -/

namespace Sys2Proof.Machine

/-! ### The mesh holds what it held while the journal is written (07 R193, 09 R243, 10 R291) -/

section
variable (s : State)

@[simp] theorem State.countWay_mesh (assured : Bool) (n : Nat) (way : List (Nat × Nat × Bool × Nat)) :
    (s.countWay assured n way).mesh = s.mesh := by
  refine foldl_keeps State.mesh (fun t l => ?_) way s
  rfl

@[simp] theorem State.bulkHalf_mesh (src dst : Nat) : (s.bulkHalf src dst).1.mesh = s.mesh := by
  unfold State.bulkHalf
  split
  · rfl
  · dsimp only
    split
    · rfl
    · split <;> rfl

theorem State.traffic_mesh (assured : Bool) (src dst bytes : Nat) : (s.traffic assured src dst bytes).mesh = s.mesh := by
  unfold State.traffic
  dsimp only
  split
  · rfl
  · split <;> simp

theorem State.leaveEngine_mesh (src e : Nat) (p : StraitPkt) : (s.leaveEngine src e p).mesh = s.mesh := by
  unfold State.leaveEngine
  dsimp only
  split <;> exact s.traffic_mesh _ _ _ _

theorem State.leaveAny_mesh (src : Nat) (es : List Nat) (p : StraitPkt) : (s.leaveAny src es p).mesh = s.mesh := by
  unfold State.leaveAny
  split
  · rfl
  · exact s.leaveEngine_mesh _ _ _
  · exact State.leaveEngine_mesh _ _ _ _

theorem State.leaveStrait_mesh (src : Nat) (p : StraitPkt) : (s.leaveStrait src p).mesh = s.mesh := by
  unfold State.leaveStrait
  dsimp only
  split
  · rw [State.leaveAny_mesh, State.leaveAny_mesh]
  · exact s.leaveAny_mesh _ _ _

theorem State.mirrorOut_mesh (e : JEntry) : (s.mirrorOut e).mesh = s.mesh := by
  unfold State.mirrorOut
  split
  · rfl
  · exact State.leaveStrait_mesh _ _ _

theorem State.countTx_mesh (sid : W64) (bytes : Nat) : (s.countTx sid bytes).mesh = s.mesh := by
  unfold State.countTx
  split
  · rfl
  · dsimp only
    split <;> rfl

theorem State.journalPut_mesh (e : JEntry) : (s.journalPut e).mesh = s.mesh := by
  have entered : ∀ (j : Journal) (b : Bool) (e : JEntry),
      (if b then ({ s with journal := j } : State).mirrorOut e else { s with journal := j }).mesh = s.mesh := by
    intro j b e
    split
    · exact State.mirrorOut_mesh _ _
    · rfl
  unfold State.journalPut
  dsimp only
  split
  · exact (State.countTx_mesh _ _ _).trans (entered _ _ _)
  · exact entered _ _ _

theorem State.event_mesh (code : W16) (p : Option Nat) (detail : List Byte) : (s.event code p detail).mesh = s.mesh := by
  unfold State.event State.journalWrite
  dsimp only
  split
  · exact State.journalPut_mesh _ _
  · rfl

end

/-! ### A stack's status after a change, an append and a notice -/

theorem State.stack_modStack_ite (s : State) (k i : Nat) (f : Stack → Stack) :
    (s.modStack k f).stack i = if i = k then f (s.stack k) else s.stack i := SMap.getD_put _ _ _ _ _

theorem State.stack_of_hbmStacks {s t : State} (h : t.hbmStacks = s.hbmStacks) (i : Nat) : t.stack i = s.stack i := by
  rw [State.stack, h, State.stack]

theorem State.Notifies.hbmStacks {s t : State} (h : s.Notifies t) : t.hbmStacks = s.hbmStacks := by rw [h]
theorem State.Notifies.hbm {s t : State} (h : s.Notifies t) : t.hbm = s.hbm := by rw [h]

@[simp] theorem State.event_stack (s : State) (code : W16) (p : Option Nat) (detail : List Byte) (i : Nat) :
    (s.event code p detail).stack i = s.stack i := State.stack_of_hbmStacks (s.event_notifies _ _ _).hbmStacks i

/-- An append that is asked for changes the log alone. -/
theorem State.logRequest_onLog (s : State) (u : W64) (source : Byte) (ev : W16) :
    s.logRequest u source ev = { s with log := (s.logRequest u source ev).log } := by
  unfold State.logRequest
  dsimp only
  split
  · rfl
  · split <;> rfl

@[simp] theorem State.logRequest_stack (s : State) (u : W64) (source : Byte) (ev : W16) (i : Nat) :
    (s.logRequest u source ev).stack i = s.stack i := by
  rw [State.logRequest_onLog]
  rfl

/-! ### What a lost stack or a retired channel leaves as it is -/

/-- `t` differs from `s` in the stacks, the first one lost, the log and notices alone, and the mesh holds what it held. -/
structure State.OnStacks (s t : State) : Prop where
  notifies : ({ s with hbmStacks := t.hbmStacks, hbm := { s.hbm with lost := t.hbm.lost }, log := t.log } : State).Notifies t
  mesh : t.mesh = s.mesh

section
variable {s t u : State}

theorem State.OnStacks.refl (s : State) : s.OnStacks s := ⟨rfl, rfl⟩

theorem State.OnStacks.trans (h : s.OnStacks t) (k : t.OnStacks u) : s.OnStacks u := by
  obtain ⟨changed, held⟩ := h
  obtain ⟨changed', held'⟩ := k
  refine ⟨?_, held'.trans held⟩
  unfold State.Notifies at *
  rw [changed', changed]

theorem State.OnStacks.mem (h : s.OnStacks t) : t.mem = s.mem := by rw [h.notifies]
theorem State.OnStacks.cores (h : s.OnStacks t) : t.cores = s.cores := by rw [h.notifies]
theorem State.OnStacks.power (h : s.OnStacks t) : t.power = s.power := by rw [h.notifies]
theorem State.OnStacks.start (h : s.OnStacks t) : t.start = { s.start with deferred := t.start.deferred } := by rw [h.notifies]
theorem State.OnStacks.hbm (h : s.OnStacks t) : t.hbm = { s.hbm with lost := t.hbm.lost } := by rw [h.notifies]

theorem State.modStack_onStacks (s : State) (k : Nat) (f : Stack → Stack) : s.OnStacks (s.modStack k f) := ⟨rfl, rfl⟩

theorem State.event_onStacks (s : State) (code : W16) (p : Option Nat) (detail : List Byte) : s.OnStacks (s.event code p detail) := by
  refine ⟨?_, s.event_mesh _ _ _⟩
  have told := s.event_notifies code p detail
  unfold State.Notifies at *
  rw [told]

theorem State.logRequest_onStacks (s : State) (w : W64) (source : Byte) (ev : W16) : s.OnStacks (s.logRequest w source ev) := by
  rw [State.logRequest_onLog]
  exact ⟨rfl, rfl⟩

end

/-- `t` came from `s` as stack k took the status y. -/
structure State.Restacks (s : State) (k : Nat) (y : Stack) (t : State) : Prop extends State.OnStacks s t where
  stack : ∀ i, t.stack i = if i = k then y else s.stack i

section
variable {s t u : State} {k : Nat} {y z : Stack}

theorem State.Restacks.own (h : s.Restacks k y t) : t.stack k = y := (h.stack k).trans (if_pos rfl)

theorem State.Restacks.other (h : s.Restacks k y t) {i : Nat} (other : i ≠ k) : t.stack i = s.stack i := (h.stack i).trans (if_neg other)

/-- A second status of the same stack takes the place of the first. -/
theorem State.Restacks.trans (h : s.Restacks k y t) (h' : t.Restacks k z u) : s.Restacks k z u := by
  refine ⟨h.toOnStacks.trans h'.toOnStacks, fun i => ?_⟩
  rw [h'.stack, h.stack]
  split <;> rfl

theorem State.Restacks.event (h : s.Restacks k y t) (code : W16) (p : Option Nat) (detail : List Byte) :
    s.Restacks k y (t.event code p detail) :=
  ⟨h.toOnStacks.trans (t.event_onStacks _ _ _), fun i => (t.event_stack _ _ _ i).trans (h.stack i)⟩

theorem State.Restacks.channelEvent (h : s.Restacks k y t) (i ch outcome trigger attempts us : Nat) :
    s.Restacks k y (t.channelEvent i ch outcome trigger attempts us) := h.event _ _ _

theorem State.Restacks.logRequest (h : s.Restacks k y t) (w : W64) (source : Byte) (ev : W16) :
    s.Restacks k y (t.logRequest w source ev) :=
  ⟨h.toOnStacks.trans (t.logRequest_onStacks _ _ _), fun i => (t.logRequest_stack _ _ _ i).trans (h.stack i)⟩

theorem State.Restacks.firstLost (h : s.Restacks k y t) (l : Option Nat) :
    s.Restacks k y { t with hbm := { t.hbm with lost := l } } := ⟨h.toOnStacks.trans ⟨rfl, rfl⟩, h.stack⟩

theorem State.modStack_restacks {f : Stack → Stack} (sets : f (s.stack k) = y) : s.Restacks k y (s.modStack k f) :=
  ⟨s.modStack_onStacks k f, fun i => sets ▸ s.stack_modStack_ite k i f⟩

end

/-! ### A stack is lost (06 R167) -/

/-- The status of a stack that is lost. -/
def Stack.lose (x : Stack) : Stack := { x with state := .lost, retraining := false }

section
variable {s : State} {k : Nat} (answers : (s.stack k).state ≠ .lost) (cause : Nat)
include answers

theorem State.loseStack_restacks : s.Restacks k (s.stack k).lose (s.loseStack k cause) := by
  unfold State.loseStack
  rw [if_neg answers]
  dsimp only
  exact State.Restacks.event (State.Restacks.logRequest (State.Restacks.firstLost (State.modStack_restacks (by rfl)) _) _ _ _) _ _ _

theorem State.loseStack_first (none : s.hbm.lost = none) : (s.loseStack k cause).hbm.lost = some k := by
  unfold State.loseStack
  rw [if_neg answers]
  dsimp only
  rw [(State.event_notifies _ _ _ _).hbm, State.logRequest_onLog]
  simp [none]

end

/-! ### A channel retires (06 R166) -/

/-- A stack whose retired channels are counted: five of them take the stack (06 R167). -/
def Stack.counted (y : Stack) : Stack := if 5 ≤ bitCount y.retired then y.lose else y

theorem Stack.counted_state (y : Stack) : y.counted.state = if 5 ≤ bitCount y.retired then .lost else y.state := by
  unfold Stack.counted
  split <;> rfl

theorem Stack.counted_few {y : Stack} (few : bitCount y.retired < 5) : y.counted = y := if_neg (Nat.not_le.2 few)

theorem Stack.counted_fifth {y : Stack} (fifth : 5 ≤ bitCount y.retired) : y.counted = y.lose := if_pos fifth

@[simp] theorem Stack.counted_retired (y : Stack) : y.counted.retired = y.retired := by
  unfold Stack.counted
  split <;> rfl

theorem Stack.counted_released {y : Stack} (released : y.retraining = false) : y.counted.retraining = false := by
  unfold Stack.counted
  split
  · rfl
  · exact released

/-- A stack without channel ch, whose retraining ends. -/
def Stack.retire (x : Stack) (ch : Nat) : Stack := { x with
  retired := x.retired ||| BitVec.ofNat 32 (2 ^ ch), retraining := if x.retrainCh = ch then false else x.retraining }

/-- The fifth retired channel of a stack loses it in the state as in its status. -/
theorem State.Restacks.counted {s t : State} {k : Nat} {y : Stack} (h : s.Restacks k y t) (answers : y.state ≠ .lost) :
    s.Restacks k y.counted (if 5 ≤ bitCount y.retired then t.loseStack k 0 else t) := by
  split
  · next fifth =>
    have lost := State.loseStack_restacks (by rwa [h.own]) 0
    rw [h.own] at lost
    rw [Stack.counted_fifth fifth]
    exact h.trans lost
  · next few => rwa [Stack.counted_few (Nat.not_le.1 few)]

theorem State.retireChannel_restacks {s : State} {k ch : Nat} (answers : (s.stack k).state ≠ .lost)
    (serves : (s.stack k).retired.getLsbD ch = false) (trigger attempts us : Nat) :
    s.Restacks k ((s.stack k).retire ch).counted (s.retireChannel k ch trigger attempts us) := by
  unfold State.retireChannel
  rw [if_neg (not_or.2 ⟨ne_true_of_eq_false serves, answers⟩)]
  dsimp only
  exact State.Restacks.counted (y := (s.stack k).retire ch)
    (State.Restacks.logRequest (State.Restacks.channelEvent (State.modStack_restacks (by rfl)) _ _ _ _ _ _) _ _ _) answers

/-! ### The commands -/

theorem hbmRetrainComplete_retraining {s : State} {k : StackId} (inService : (s.stack k.val).state = .inService)
    (retrains : (s.stack k.val).retraining = true) (ok : Bool) (us : W32) :
    let x := s.stack k.val
    exec (.hbmRetrainComplete k ok us) s = .next (if ok then
      ((s.modStack k.val fun y => { y with retraining := false }).channelEvent k.val x.retrainCh 0 x.trigger x.attempts us.toNat).hbmResumes
    else if x.attempts < 2 then s.modStack k.val fun y => { y with attempts := 2, retrains := y.retrains + 1 }
    else (s.retireChannel k.val x.retrainCh x.trigger x.attempts us.toNat).hbmResumes) :=
  congrArg _ (if_neg (by simp [inService, retrains]))

/-- Settles O34: each command gives one stack its new status, `Stack.retire` or `Stack.lose`, and the mesh holds what it held. -/
theorem hbmChannelsRetrainAndRetire : Obligations.HbmChannelsRetrainAndRetire := by
  unfold Obligations.HbmChannelsRetrainAndRetire
  intro s k ch trig us x others bits few retires resumes
  have elsewhere : ∀ {y t}, s.Restacks k.val y t → others t := fun h => ⟨h.mem, h.cores, fun _ other => h.other other⟩
  have held : ∀ {y t}, s.Restacks k.val y t → t.mesh.held = s.mesh.held := fun h => congrArg Mesh.held h.mesh
  have retired : ∀ {t}, s.Restacks k.val (x.retire ch.val).counted t → retires t := fun h => by
    refine ⟨elsewhere h, ?_⟩
    rw [h.own]
    exact ⟨Stack.counted_retired _, fun fewer => (Stack.counted_state _).trans (if_neg (Nat.not_le.2 fewer)),
      fun many => (Stack.counted_state _).trans (if_pos (Nat.not_lt.1 many))⟩
  refine ⟨fun inService serves free => ?_, fun inService retrains => ?_, fun answers serves => ?_, fun cause answers => ?_⟩
  · exact congrArg _ (if_neg (not_or.2 ⟨not_not.2 inService, not_or.2 ⟨ne_true_of_eq_false serves, ne_true_of_eq_false free⟩⟩))
  · have answers : x.state ≠ .lost := fun lost => nomatch inService.symm.trans lost
    have completes := hbmRetrainComplete_retraining inService retrains
    refine ⟨?_, fun first => ?_, fun second channel serves => ?_⟩
    · have released : s.Restacks k.val { x with retraining := false } ((s.modStack k.val fun y => { y with
          retraining := false }).channelEvent k.val x.retrainCh 0 x.trigger x.attempts us.toNat) :=
        State.Restacks.channelEvent (State.modStack_restacks (by rfl)) _ _ _ _ _ _
      exact ⟨_, completes true us, ⟨elsewhere released, released.own⟩, held released⟩
    · exact (completes false us).trans (congrArg _ (if_pos first))
    · have h := State.retireChannel_restacks answers (channel ▸ serves) x.trigger x.attempts us.toNat
      refine ⟨_, (completes false us).trans (congrArg _ (if_neg (Nat.not_lt.2 second))), ?_⟩
      rw [channel] at h ⊢
      exact ⟨⟨retired h, by rw [h.own]; exact Stack.counted_released (if_pos channel)⟩, held h⟩
  · have h := State.retireChannel_restacks answers serves 4 0 0
    exact ⟨_, rfl, retired h, held h⟩
  · have h := State.loseStack_restacks answers cause.val
    exact ⟨_, rfl, ⟨elsewhere h, h.own, fun none => State.loseStack_first answers cause.val none⟩, held h⟩

end Sys2Proof.Machine

/-! SUPPORT. Stage 4 of a start (06 R155, R170, 11 R301, R329, R330, 12 R351): what the log and the training leave out, the cooling check,
and the end of both works. -/

namespace Sys2Proof.Machine

/-! ### Stacks that are left out (06 R166, R167, R170) -/

/-- A stack that is lost stays lost, and its retired channels stay retired. -/
structure Stack.Worsens (x y : Stack) : Prop where
  lost : x.state = .lost → y.state = .lost
  retired : ∀ c, x.retired.getLsbD c = true → y.retired.getLsbD c = true

theorem Stack.Worsens.refl (x : Stack) : x.Worsens x := ⟨id, fun _ => id⟩

theorem Stack.Worsens.trans {x y z : Stack} (h : x.Worsens y) (k : y.Worsens z) : x.Worsens z :=
  ⟨k.lost ∘ h.lost, fun c => k.retired c ∘ h.retired c⟩

theorem Stack.lose_worsens (x : Stack) : x.Worsens x.lose := ⟨fun _ => rfl, fun _ => id⟩

theorem Stack.counted_worsens (x : Stack) : x.Worsens x.counted := by
  unfold Stack.counted
  split
  · exact x.lose_worsens
  · exact .refl x

theorem getLsbD_or_of_left {n c : Nat} {x : BitVec n} (set : x.getLsbD c = true) (y : BitVec n) : (x ||| y).getLsbD c = true := by
  rw [BitVec.getLsbD_or, set, Bool.true_or]

/-- `t` came from `s` as stacks of the list lost channels, or were lost. -/
structure State.LeavesOut (ks : List Nat) (s t : State) : Prop extends State.OnStacks s t where
  worsens : ∀ i, (s.stack i).Worsens (t.stack i)
  others : ∀ i, i ∉ ks → t.stack i = s.stack i

section
variable {ks : List Nat} {s t u : State} {k : Nat}

theorem State.LeavesOut.refl (ks : List Nat) (s : State) : s.LeavesOut ks s := ⟨.refl s, fun _ => .refl _, fun _ _ => rfl⟩

theorem State.LeavesOut.trans (h : s.LeavesOut ks t) (h' : t.LeavesOut ks u) : s.LeavesOut ks u :=
  ⟨h.toOnStacks.trans h'.toOnStacks, fun i => (h.worsens i).trans (h'.worsens i), fun i out => (h'.others i out).trans (h.others i out)⟩

theorem State.LeavesOut.foldl {β : Type} {f : State → β → State} {l : List β} (hf : ∀ x ∈ l, ∀ t : State, t.LeavesOut ks (f t x))
    (s : State) : s.LeavesOut ks (l.foldl f s) := foldl_related (.refl ks) (fun h k => h.trans k) hf s

theorem State.Restacks.leavesOut {y : Stack} (h : s.Restacks k y t) (listed : k ∈ ks) (worse : (s.stack k).Worsens y) : s.LeavesOut ks t := by
  refine ⟨h.toOnStacks, fun i => ?_, fun i out => h.other fun e => out (e ▸ listed)⟩
  by_cases e : i = k
  · rw [e, h.own]
    exact worse
  · rw [h.other e]
    exact .refl _

theorem State.logRequest_leavesOut (ks : List Nat) (s : State) (u : W64) (source : Byte) (ev : W16) :
    s.LeavesOut ks (s.logRequest u source ev) :=
  ⟨s.logRequest_onStacks _ _ _, fun i => by rw [State.logRequest_stack]; exact .refl _, fun i _ => s.logRequest_stack _ _ _ i⟩

theorem State.loseStack_leavesOut (listed : k ∈ ks) (s : State) (cause : Nat) : s.LeavesOut ks (s.loseStack k cause) := by
  by_cases gone : (s.stack k).state = .lost
  · rw [State.loseStack, if_pos gone]
    exact .refl ks s
  · exact (State.loseStack_restacks gone cause).leavesOut listed (Stack.lose_worsens _)

theorem State.loseStack_lost (s : State) (k cause : Nat) : ((s.loseStack k cause).stack k).state = .lost := by
  by_cases gone : (s.stack k).state = .lost
  · rwa [State.loseStack, if_pos gone]
  · rw [(State.loseStack_restacks gone cause).own]
    rfl

end

/-! ### What does not train (11 R301) -/

section
variable {ks : List Nat} {k ch : Nat}

/-- A stack without channel ch, which did not train. -/
def Stack.without (x : Stack) (ch : Nat) : Stack := { x with retired := x.retired ||| BitVec.ofNat 32 (2 ^ ch) }

theorem State.untrained_out {s : State} (out : (s.stack k).state = .lost ∨ (s.stack k).retired.getLsbD ch = true) : s.untrained k ch = s :=
  if_pos out

theorem State.untrained_restacks {s : State} (serves : ¬ ((s.stack k).state = .lost ∨ (s.stack k).retired.getLsbD ch = true)) :
    s.Restacks k ((s.stack k).without ch).counted (s.untrained k ch) := by
  unfold State.untrained
  rw [if_neg serves]
  dsimp only
  exact State.Restacks.counted (y := (s.stack k).without ch)
    (State.Restacks.logRequest (State.modStack_restacks (by rfl)) _ _ _) fun lost => serves (.inl lost)

theorem Stack.without_worsens (x : Stack) (ch : Nat) : x.Worsens (x.without ch) := ⟨id, fun _ set => getLsbD_or_of_left set _⟩

theorem State.untrained_leavesOut (listed : k ∈ ks) (ch : Nat) (s : State) : s.LeavesOut ks (s.untrained k ch) := by
  by_cases out : (s.stack k).state = .lost ∨ (s.stack k).retired.getLsbD ch = true
  · rw [State.untrained_out out]
    exact .refl ks s
  · exact (State.untrained_restacks out).leavesOut listed ((Stack.without_worsens _ ch).trans (Stack.counted_worsens _))

theorem State.untrained_leaves (inside : ch < 32) (s : State) :
    ((s.untrained k ch).stack k).state = .lost ∨ ((s.untrained k ch).stack k).retired.getLsbD ch = true := by
  by_cases out : (s.stack k).state = .lost ∨ (s.stack k).retired.getLsbD ch = true
  · rwa [State.untrained_out out]
  · rw [(State.untrained_restacks out).own, Stack.counted_retired]
    exact .inr (getLsbD_or_bit inside _)

/-- The channels and stacks that did not train, taken one by one. -/
def State.failuresTaken (s : State) (chans : List (Nat × Nat)) (lost : List Nat) : State :=
  lost.foldl (fun t k => (t.logRequest (unitCode 0x09 k 0 0) 0 evStackLost).loseStack k 1) (chans.foldl (fun t c => t.untrained c.1 c.2) s)

variable (s : State) (chans : List (Nat × Nat)) (lost : List Nat)

theorem State.stackFailure_leavesOut (listed : k ∈ ks) (t : State) :
    t.LeavesOut ks ((t.logRequest (unitCode 0x09 k 0 0) 0 evStackLost).loseStack k 1) :=
  (t.logRequest_leavesOut ks _ _ _).trans (State.loseStack_leavesOut listed _ _)

theorem State.failuresTaken_leavesOut : s.LeavesOut (chans.map Prod.fst ++ lost) (s.failuresTaken chans lost) :=
  (State.LeavesOut.foldl (fun c hc t => t.untrained_leavesOut (List.mem_append_left _ (List.mem_map_of_mem hc)) c.2) s).trans
    (State.LeavesOut.foldl (fun _ hk t => t.stackFailure_leavesOut (List.mem_append_right _ hk)) _)

theorem State.failuresTaken_lost {lost : List Nat} (failed : k ∈ lost) : ((s.failuresTaken chans lost).stack k).state = .lost :=
  foldl_establishes (P := fun t : State => (t.stack k).state = .lost) failed (fun _ => State.loseStack_lost _ k 1)
    (fun _ _ _ (t : State) gone => ((t.stackFailure_leavesOut (List.mem_singleton_self _)).worsens k).lost gone) _

theorem State.failuresTaken_retired {chans : List (Nat × Nat)} {c : Nat × Nat} (failed : c ∈ chans) (inside : c.2 < 32) :
    ((s.failuresTaken chans lost).stack c.1).state = .lost ∨ ((s.failuresTaken chans lost).stack c.1).retired.getLsbD c.2 = true := by
  have kept : ∀ {t u : State}, (t.stack c.1).Worsens (u.stack c.1) → (t.stack c.1).state = .lost ∨ (t.stack c.1).retired.getLsbD c.2 = true →
      (u.stack c.1).state = .lost ∨ (u.stack c.1).retired.getLsbD c.2 = true := fun h => Or.imp h.lost (h.retired c.2)
  have first := foldl_establishes (f := fun (t : State) (c : Nat × Nat) => t.untrained c.1 c.2)
    (P := fun t => (t.stack c.1).state = .lost ∨ (t.stack c.1).retired.getLsbD c.2 = true) failed (fun t => t.untrained_leaves inside)
    (fun d _ _ t => kept ((t.untrained_leavesOut (List.mem_singleton_self _) d.2).worsens c.1)) s
  exact kept ((State.LeavesOut.foldl (fun _ hk t => t.stackFailure_leavesOut hk) _).worsens c.1) first

end

/-! ### What the log leaves out (06 R170) -/

/-- Each stack of a list changes once, by its own number. -/
theorem State.stack_foldl_modStack {l : List Nat} (once : l.Nodup) (f : Nat → Stack → Stack) (s : State) (i : Nat) :
    (l.foldl (fun t k => t.modStack k (f k)) s).stack i = if i ∈ l then f i (s.stack i) else s.stack i := by
  induction l generalizing s with
  | nil => rfl
  | cons k l ih =>
    obtain ⟨new, once⟩ := List.nodup_cons.1 once
    rw [List.foldl_cons, ih once, State.stack_modStack_ite]
    by_cases e : i = k
    · subst e
      simp [new]
    · simp [e]

section
variable (s : State)

/-- Channels of stack k that the log lists, beside those already retired. -/
def State.loggedRetired (k : Nat) (m : W32) : W32 :=
  s.loggedChannels.foldl (fun m c => if c.1 = k then m ||| BitVec.ofNat 32 (2 ^ c.2) else m) m

/-- A status of stack k as the log leaves it. -/
def State.loggedStack (k : Nat) (x : Stack) : Stack :=
  if x.state = .lost then x
  else { x with state := if s.loggedStacks.contains k then .lost else .inService, retired := s.loggedRetired k x.retired }

theorem State.firstLost_onStacks (l : Option Nat) : s.OnStacks { s with hbm := { s.hbm with lost := l } } := ⟨rfl, rfl⟩

/-- Every stack as the log leaves it. -/
def State.stacksLogged : State := (List.range 16).foldl (fun t k => t.modStack k (s.loggedStack k)) s

theorem State.loggedHbm_eq : s.loggedHbm = { s.stacksLogged with
    hbm := { s.stacksLogged.hbm with lost := s.stacksLogged.hbm.lost.or s.loggedStacks.head? } } := rfl

theorem State.loggedHbm_hbmStacks : s.loggedHbm.hbmStacks = s.stacksLogged.hbmStacks := by rw [State.loggedHbm_eq]

theorem State.loggedHbm_stack {k : Nat} (inside : k < 16) : s.loggedHbm.stack k = s.loggedStack k (s.stack k) := by
  rw [State.stack_of_hbmStacks s.loggedHbm_hbmStacks]
  exact (State.stack_foldl_modStack List.nodup_range s.loggedStack s k).trans (if_pos (List.mem_range.2 inside))

theorem State.loggedHbm_onStacks : s.OnStacks s.loggedHbm := by
  have each : s.OnStacks s.stacksLogged := foldl_related State.OnStacks.refl (fun h k => h.trans k) (fun k _ t => t.modStack_onStacks k _) s
  rw [State.loggedHbm_eq]
  exact each.trans (State.firstLost_onStacks _ _)

variable {s} {k : Nat} {x : Stack}

theorem State.loggedStack_lost (listed : s.loggedStacks.contains k = true) : (s.loggedStack k x).state = .lost := by
  unfold State.loggedStack
  by_cases gone : x.state = .lost
  · rwa [if_pos gone]
  · rw [if_neg gone]
    exact if_pos listed

theorem State.loggedStack_retired {ch : Nat} (answers : x.state ≠ .lost) (listed : (k, ch) ∈ s.loggedChannels) (inside : ch < 32) :
    (s.loggedStack k x).retired.getLsbD ch = true := by
  unfold State.loggedStack
  rw [if_neg answers]
  refine foldl_establishes (P := fun m : W32 => m.getLsbD ch = true) listed (fun m => ?_) (fun d _ _ m set => ?_) _
  · rw [if_pos rfl]
    exact getLsbD_or_bit inside m
  · split
    · exact getLsbD_or_of_left set _
    · exact set

theorem State.loggedStack_inService (answers : x.state ≠ .lost) (unlisted : s.loggedStacks.contains k = false) :
    (s.loggedStack k x).state = .inService := by
  unfold State.loggedStack
  rw [if_neg answers]
  exact if_neg (ne_true_of_eq_false unlisted)

theorem State.loggedStack_keeps_retired (none : ∀ c ∈ s.loggedChannels, c.1 ≠ k) : (s.loggedStack k x).retired = x.retired := by
  have kept : s.loggedRetired k x.retired = x.retired :=
    foldl_related (R := fun m n : W32 => n = m) (fun _ => rfl) (fun h h' => h'.trans h) (fun c hc m => if_neg (none c hc)) _
  unfold State.loggedStack
  split
  · rfl
  · exact kept

end

/-! ### Both works are done (11 R330, 06 R176, 12 R351) -/

/-- The mode and the cap that the end of stage 4 latches. -/
def State.latched (s : State) : State :=
  { s with hbm := { s.hbm with prevMode := s.hbm.mode }, power := { s.power with capW := s.latchedCap } }

/-- `t` differs from `s` by what the end of a stage reports and latches: what its works gave stands. -/
structure State.KeepsWorks (s t : State) : Prop where
  stack : ∀ i, t.stack i = s.stack i
  mode : t.hbm.mode = s.hbm.mode
  override : t.hbm.override = s.hbm.override
  trained : t.start.trained = s.start.trained
  cooled : t.start.cooled = s.start.cooled
  response : t.start.response = s.start.response
  force : t.start.coolingInForce = s.start.coolingInForce

section
variable {s : State}

theorem State.OnlyStart.hbmStacks {t : State} (h : s.OnlyStart t) : t.hbmStacks = s.hbmStacks := by rw [h]
theorem State.OnlyStart.hbm {t : State} (h : s.OnlyStart t) : t.hbm = s.hbm := by rw [h]

theorem State.endStage_keepsWorks (s : State) (e : StageEnd) : s.KeepsWorks (s.endStage e) := by
  have only := s.endStage_onlyStart e
  have start : (s.endStage e).start.trained = s.start.trained ∧ (s.endStage e).start.cooled = s.start.cooled ∧
      (s.endStage e).start.response = s.start.response ∧ (s.endStage e).start.coolingInForce = s.start.coolingInForce := by
    unfold State.endStage
    dsimp only
    split <;> exact ⟨rfl, rfl, rfl, rfl⟩
  obtain ⟨trained, cooled, response, force⟩ := start
  exact ⟨State.stack_of_hbmStacks only.hbmStacks, congrArg Hbm.mode only.hbm, congrArg Hbm.override only.hbm, trained, cooled, response, force⟩

/-- Without a failure the end of a stage raises no alert, and leaves power as it is. -/
theorem State.endStage_quiet {e : StageEnd} (passed : e.outcome ≠ 3) : (s.endStage e).chassis = s.chassis ∧
    (s.endStage e).power = s.power ∧ (s.endStage e).hbm = s.hbm := by
  unfold State.endStage
  dsimp only
  rw [if_neg passed]
  exact ⟨rfl, rfl, rfl⟩

theorem State.endStage4_waits (waits : s.start.trained = false ∨ s.start.cooled = false) : s.endStage4 = s :=
  if_pos (by rcases waits with h | h <;> simp [h])

theorem State.endStage4_ends (trained : s.start.trained = true) (cooled : s.start.cooled = true) :
    ∃ e, e.outcome ≠ 3 ∧ s.endStage4 = s.latched.endStage e := by
  unfold State.endStage4
  rw [if_neg (by simp [trained, cooled])]
  refine ⟨_, ?_, rfl⟩
  dsimp only
  split <;> decide

/-- Either both works are done and the stage ends, or the other one goes on. -/
theorem State.endStage4_cases (s : State) : s.endStage4 = s ∨ ∃ e, e.outcome ≠ 3 ∧ s.endStage4 = s.latched.endStage e := by
  by_cases both : s.start.trained = true ∧ s.start.cooled = true
  · exact .inr (State.endStage4_ends both.1 both.2)
  · exact .inl (State.endStage4_waits (by simpa [Decidable.or_iff_not_imp_left] using both))

theorem State.endStage4_keepsWorks (s : State) : s.KeepsWorks s.endStage4 := by
  rcases s.endStage4_cases with same | ⟨e, -, ends⟩
  · rw [same]
    exact ⟨fun _ => rfl, rfl, rfl, rfl, rfl, rfl, rfl⟩
  · rw [ends]
    obtain ⟨stack, mode, override, trained, cooled, response, force⟩ := s.latched.endStage_keepsWorks e
    exact ⟨stack, mode, override, trained, cooled, response, force⟩

theorem State.endStage4_chassis (s : State) : s.endStage4.chassis = s.chassis := by
  rcases s.endStage4_cases with same | ⟨e, passed, ends⟩
  · rw [same]
  · rw [ends]
    exact (State.endStage_quiet (s := s.latched) passed).1

theorem State.endStage4_both (trained : s.start.trained = true) (cooled : s.start.cooled = true) :
    s.endStage4.start.stage = s.start.stage + 1 ∧ s.endStage4.power.capW = s.latchedCap ∧ s.endStage4.hbm.prevMode = s.endStage4.hbm.mode := by
  obtain ⟨e, passed, ends⟩ := State.endStage4_ends trained cooled
  obtain ⟨-, power, hbm⟩ := State.endStage_quiet (s := s.latched) passed
  rw [ends, power, hbm]
  exact ⟨(State.endStage_passed (s := s.latched) passed).2, rfl, rfl⟩

end

/-- The cap of a class under an image (12 R351). -/
def capUnder (m : MorrikImage) (cls : Nat) : Nat :=
  if m.operatorCapW.toNat = 0 then classCap cls else min m.operatorCapW.toNat (classCap cls)

theorem State.latchedCap_under {s : State} {m : MorrikImage} (image : s.start.image = some m) :
    s.latchedCap = capUnder m s.start.coolingInForce := by
  unfold State.latchedCap
  rw [image]
  rfl

/-! ### Training ends (06 R155, R170) -/

section
variable (s : State)

/-- The log lists a stack or a channel in the image's unprotected mode, which protects the memory instead (06 R170). -/
def State.protectedByLog : Bool := s.hbm.imageMode && !(s.loggedStacks.isEmpty && s.loggedChannels.isEmpty)

/-- The memory as the log leaves it, its mode in force, with n channels on their second attempt. -/
def State.trainedAs (n : Nat) : State := { s.loggedHbm with
  hbm := { s.loggedHbm.hbm with mode := s.hbm.imageMode && !s.protectedByLog, override := s.protectedByLog }
  start := { s.start with trained := true, again := s.start.again + n } }

theorem State.trainedAs_stack (n : Nat) {k : Nat} (inside : k < 16) : (s.trainedAs n).stack k = s.loggedStack k (s.stack k) :=
  (State.stack_of_hbmStacks (by simp only [State.trainedAs]) k).trans (s.loggedHbm_stack inside)

theorem State.trainedAs_power (n : Nat) : (s.trainedAs n).power = s.power := by
  simp only [State.trainedAs, s.loggedHbm_onStacks.power]

theorem State.protectedByLog_iff : s.protectedByLog = true ↔ s.hbm.imageMode = true ∧ (s.loggedStacks ≠ [] ∨ s.loggedChannels ≠ []) := by
  simp only [State.protectedByLog, Bool.and_eq_true, Bool.not_eq_true', Bool.and_eq_false_iff, List.isEmpty_eq_false_iff]

theorem State.imageModeStays_iff : (s.hbm.imageMode && !s.protectedByLog) = true ↔
    s.hbm.imageMode = true ∧ ¬ (s.loggedStacks ≠ [] ∨ s.loggedChannels ≠ []) := by
  rw [Bool.and_eq_true, Bool.not_eq_true', Bool.eq_false_iff, Ne, State.protectedByLog_iff]
  tauto

variable {s} (stage : s.inStage 4 = true) (untrained : s.start.trained = false) (chans : List (Nat × Nat)) (lost : List Nat)
include stage untrained

theorem hbmTrainingDone_broken (broken : unreconstructable s.loggedStacks s.loggedChannels = true) :
    ∃ e, e.outcome = 3 ∧ hbmTrainingDone chans lost s = (s.trainedAs chans.length).endStage e := by
  unfold hbmTrainingDone
  rw [if_neg (by simp [stage, untrained])]
  dsimp only
  rw [if_pos broken]
  exact ⟨_, rfl, rfl⟩

theorem hbmTrainingDone_sound (sound : ¬ unreconstructable s.loggedStacks s.loggedChannels = true) :
    hbmTrainingDone chans lost s = ((s.trainedAs chans.length).failuresTaken chans lost).endStage4 := by
  unfold hbmTrainingDone
  rw [if_neg (by simp [stage, untrained])]
  dsimp only
  rw [if_neg sound]
  rfl

end

/-! ### The cooling check (11 R329, R330) -/

/-- ALERT_COOLING where the class in force is not the configured one. -/
def State.coolingAlerted (s : State) : State := if s.coolingFell then s.alert 2 else s

/-- The cooling check concluded: its response, the class in force and the alert. -/
def State.cooledAs (s : State) (r force : Nat) : State :=
  State.coolingAlerted { s with start := { s.start with
    cooled := true, response := r, coolingInForce := force, noClassFits := decide (coolingLimit 0 < r) } }

/-- The class that a response puts in force. -/
def classFor (cls r : Nat) : Nat := if r ≤ coolingLimit cls then cls else 0

section
variable (s : State)

theorem State.coolingAlerted_start : s.coolingAlerted.start = s.start := by
  unfold State.coolingAlerted
  split <;> rfl

theorem State.coolingAlerted_alerts {m : MorrikImage} (image : s.start.image = some m) : s.coolingAlerted.chassis.alerts =
    if s.start.coolingInForce = m.coolingClass.toNat then s.chassis.alerts else s.chassis.alerts ||| 4 := by
  have fell : s.coolingFell = true ↔ ¬ s.start.coolingInForce = m.coolingClass.toNat := by
    rw [State.coolingFell, image]
    exact bne_iff_ne
  unfold State.coolingAlerted
  by_cases same : s.start.coolingInForce = m.coolingClass.toNat
  · rw [if_neg (fun h => fell.1 h same), if_pos same]
  · rw [if_pos (fell.2 same), if_neg same]
    rfl

variable {s} {m : MorrikImage} (stage : s.inStage 4 = true) (image : s.start.image = some m) (uncooled : s.start.cooled = false)
include stage uncooled

theorem coolingCheck_repeats (base pulse : Nat) (first : s.start.drifted = false) : coolingCheck base pulse true s =
    { s with start := { s.start with drifted := true, again := s.start.again + 1 } } := by
  unfold coolingCheck
  rw [if_neg (by simp [stage, uncooled]), if_pos (by simp [first])]

include image

theorem coolingCheck_judges (base pulse : Nat) : coolingCheck base pulse false s =
    (s.cooledAs (5 * (pulse - base)) (classFor m.coolingClass.toNat (5 * (pulse - base)))).endStage4 := by
  unfold coolingCheck
  rw [if_neg (by simp [stage, uncooled]), if_neg (by simp), image]
  simp only [classFor, State.cooledAs, State.coolingAlerted, Option.map_some, Option.getD_some, Bool.not_false, Bool.true_and,
    decide_eq_true_eq, Bool.false_eq_true, if_false]
  rfl

omit image in
theorem coolingCheck_drifts (base pulse : Nat) (second : s.start.drifted = true) : coolingCheck base pulse true s =
    (s.cooledAs 0 0).endStage4 := by
  unfold coolingCheck
  rw [if_neg (by simp [stage, uncooled]), if_neg (by simp [second])]
  rfl

omit uncooled in
/-- What a check that concludes leaves: its findings, the alert, and stage 5 under the cap where training is done. -/
theorem State.cooledAs_ends (r force : Nat) : let t := (s.cooledAs r force).endStage4
    t.start.cooled = true ∧ t.start.response = r ∧ t.start.coolingInForce = force ∧
      t.chassis.alerts = (if force = m.coolingClass.toNat then s.chassis.alerts else s.chassis.alerts ||| 4) ∧
      (s.start.trained = true → t.start.stage = 5 ∧ t.power.capW = capUnder m force) ∧ (s.start.trained = false → t.start.stage = 4) := by
  obtain ⟨u, found⟩ : ∃ u : State, u = { s with start := { s.start with
    cooled := true, response := r, coolingInForce := force, noClassFits := decide (coolingLimit 0 < r) } } := ⟨_, rfl⟩
  have start : (s.cooledAs r force).start = u.start := by rw [found]; exact State.coolingAlerted_start _
  have stage4 : u.start.stage = 4 := by rw [found]; exact (State.inStage_start stage).2
  have kept := (s.cooledAs r force).endStage4_keepsWorks
  refine ⟨?_, ?_, ?_, ?_, fun trained => ?_, fun untrained => ?_⟩
  · rw [kept.cooled, start, found]
  · rw [kept.response, start, found]
  · rw [kept.force, start, found]
  · rw [State.endStage4_chassis]
    exact State.coolingAlerted_alerts _ image
  · obtain ⟨next, cap, -⟩ := State.endStage4_both (s := s.cooledAs r force) (by rw [start, found]; exact trained) (by rw [start, found])
    rw [next, cap, start, stage4, State.latchedCap_under (m := m) (by rw [start, found]; exact image), start, found]
    exact ⟨rfl, rfl⟩
  · rw [State.endStage4_waits (.inl (by rw [start, found]; exact untrained)), start, stage4]

end

/-! ### The commands -/

section
variable {s t u : State} {ks : List Nat} {n : Nat}

/-- What the log leaves of the memory stands however the training ends. -/
theorem State.trainedAs_stands (h : (s.trainedAs n).LeavesOut ks u) (kept : u.KeepsWorks t) :
    let named := s.loggedStacks ≠ [] ∨ s.loggedChannels ≠ []
    (t.hbm.override = true ↔ s.hbm.imageMode = true ∧ named) ∧ (t.hbm.mode = true ↔ s.hbm.imageMode = true ∧ ¬ named) ∧
      (∀ k < 16, s.loggedStacks.contains k → (t.stack k).state = .lost) ∧
      (∀ c ∈ s.loggedChannels, c.1 < 16 → c.2 < 32 → (s.stack c.1).state ≠ .lost → (t.stack c.1).retired.getLsbD c.2 = true) ∧
      ∀ k : StackId, (s.stack k.val).state ≠ .lost → s.loggedStacks.contains k.val = false → k.val ∉ ks →
        (t.stack k.val).state = .inService ∧
          ((∀ c ∈ s.loggedChannels, c.1 ≠ k.val) → (t.stack k.val).retired = (s.stack k.val).retired) := by
  have worse : ∀ {k}, k < 16 → (s.loggedStack k (s.stack k)).Worsens (t.stack k) := fun {k} inside => by
    rw [kept.stack, ← s.trainedAs_stack n inside]
    exact h.worsens k
  refine ⟨?_, ?_, fun k inside listed => (worse inside).lost (State.loggedStack_lost listed),
    fun c listed inside channel answers => (worse inside).retired c.2 (State.loggedStack_retired answers listed channel),
    fun k answers unlisted out => ?_⟩
  · rw [kept.override, h.hbm]
    exact s.protectedByLog_iff
  · rw [kept.mode, h.hbm]
    exact s.imageModeStays_iff
  · rw [kept.stack, h.others k.val out, s.trainedAs_stack n k.isLt]
    exact ⟨State.loggedStack_inService answers unlisted, State.loggedStack_keeps_retired⟩

end

/-- How a training that nothing breaks leaves the start: in stage 5 under the cap where the cooling check is done. -/
theorem State.trainedAs_ends {s u : State} {ks : List Nat} {n : Nat} {m : MorrikImage} (stage : s.inStage 4 = true)
    (image : s.start.image = some m) (left : (s.trainedAs n).LeavesOut ks u) : let t := u.endStage4
    t.start.trained = true ∧
      (s.start.cooled = true → t.start.stage = 5 ∧ t.power.capW = capUnder m s.start.coolingInForce ∧ t.hbm.prevMode = t.hbm.mode) ∧
      (s.start.cooled = false → t.start.stage = 4 ∧ t.power = s.power) := by
  have stage4 := (State.inStage_start stage).2
  obtain ⟨d, start⟩ : ∃ d, u.start = { (s.trainedAs n).start with deferred := d } := ⟨_, left.start⟩
  have trained : u.start.trained = true := by rw [start]; rfl
  refine ⟨u.endStage4_keepsWorks.trained.trans trained, fun cooled => ?_, fun uncooled => ?_⟩
  · obtain ⟨next, cap, prev⟩ := State.endStage4_both trained (by rw [start]; exact cooled)
    rw [next, cap, prev, State.latchedCap_under (m := m) (by rw [start]; exact image), start]
    exact ⟨congrArg (· + 1) stage4, rfl, rfl⟩
  · rw [State.endStage4_waits (.inr (by rw [start]; exact uncooled)), start, left.power, s.trainedAs_power]
    exact ⟨stage4, rfl⟩

/-- Settles O51: training leaves out what the log or a failure names, the check concludes with a class, and the later of both ends stage 4. -/
theorem memoryTrainsAndCoolingFits : Obligations.MemoryTrainsAndCoolingFits := by
  unfold Obligations.MemoryTrainsAndCoolingFits
  intro s m stage image capOf named broken
  refine ⟨fun untrained chans lost => ⟨_, rfl, ?_⟩, fun uncooled base pulse => ⟨?_, fun first => ?_, fun second => ?_⟩⟩
  · obtain ⟨cs, hcs⟩ : ∃ cs, chans.map (fun c => (c.1.val, c.2.val)) = cs := ⟨_, rfl⟩
    obtain ⟨ls, hls⟩ : ∃ ls, lost.map Fin.val = ls := ⟨_, rfl⟩
    rw [hcs, hls]
    by_cases out : broken
    · obtain ⟨e, failed, ends⟩ := hbmTrainingDone_broken stage untrained cs ls out
      rw [ends]
      obtain ⟨override, mode, listed, channels, others⟩ :=
        State.trainedAs_stands (State.LeavesOut.refl [] (s.trainedAs cs.length)) (State.endStage_keepsWorks _ e)
      obtain ⟨inactive, stopped, last⟩ := State.endStage_failed (s := s.trainedAs cs.length) failed
      exact ⟨override, mode, listed, channels, fun sound => absurd out sound,
        fun k answers unlisted _ _ => others k answers unlisted List.not_mem_nil,
        fun _ => ⟨inactive, stopped, last.trans (State.inStage_start stage).2⟩, fun sound => absurd out sound⟩
    · rw [hbmTrainingDone_sound stage untrained cs ls out]
      have left := (s.trainedAs cs.length).failuresTaken_leavesOut cs ls
      have kept := ((s.trainedAs cs.length).failuresTaken cs ls).endStage4_keepsWorks
      obtain ⟨override, mode, listed, channels, others⟩ := State.trainedAs_stands left kept
      refine ⟨override, mode, listed, channels, fun _ => ⟨fun k failed => ?_, fun c failed => ?_⟩,
        fun k answers unlisted trains untouched => others k answers unlisted ?_, fun broken => absurd broken out,
        fun _ => State.trainedAs_ends stage image left⟩
      · rw [kept.stack]
        exact State.failuresTaken_lost _ cs (hls ▸ List.mem_map_of_mem failed)
      · rw [kept.stack]
        exact State.failuresTaken_retired _ ls (c := (c.1.val, c.2.val)) (hcs ▸ List.mem_map_of_mem failed) c.2.isLt
      · rw [← hcs, ← hls, List.mem_append, List.map_map, List.mem_map, List.mem_map]
        rintro (⟨c, failed, same⟩ | ⟨j, failed, same⟩)
        · exact untouched c failed (Fin.ext same)
        · exact trains (Fin.ext same ▸ failed)
  · exact ⟨_, congrArg Host.Outcome.next (coolingCheck_judges stage image uncooled base pulse), State.cooledAs_ends stage image _ _⟩
  · exact congrArg Host.Outcome.next (coolingCheck_repeats stage uncooled base pulse first)
  · obtain ⟨cooled, -, force, -, ends, -⟩ := State.cooledAs_ends (r := 0) (force := 0) stage image
    exact ⟨_, congrArg Host.Outcome.next (coolingCheck_drifts stage uncooled base pulse second), cooled, force, ends⟩

end Sys2Proof.Machine

/-! SUPPORT. The heat of HBM, its patrol, self-refresh and clears (06 R171, R173 to R175, R179, 15 R434). -/

namespace Sys2Proof.Machine

/-! ### Heat (06 R173) -/

theorem thermalStep_le_one {t : Nat} (below : t < 95) : thermalStep t ≤ 1 := by
  unfold thermalStep
  split_ifs <;> decide

/-- One step down, where the temperature allows it. -/
def stepDown (t k : Nat) : Nat := if thermalStep t < k ∧ t + 3 ≤ thermalThreshold k then k - 1 else k

theorem thermalNext_rises {now t : Nat} (rises : now ≤ thermalStep t) : thermalNext now t = thermalStep t := if_pos rises

theorem thermalNext_falls {now t : Nat} (falls : thermalStep t < now) : thermalNext now t = stepDown t (stepDown t (stepDown t now)) :=
  if_neg (Nat.not_le.2 falls)

theorem thermalStep_lt (t : Nat) : thermalStep t < 4 := by
  unfold thermalStep
  split_ifs <;> decide

theorem stepDown_between {t k : Nat} (above : thermalStep t ≤ k) : thermalStep t ≤ stepDown t k ∧ stepDown t k ≤ k := by
  unfold stepDown
  split <;> omega

/-- A step is left only 3 C below its threshold. -/
theorem stepDown_stays {t k : Nat} (near : thermalThreshold k < t + 3) : stepDown t k = k := if_neg fun down => by omega

/-- What is at least 3 C below every threshold goes down one step at a time. -/
theorem stepDown_cold {t k : Nat} (cold : t ≤ 82) (inside : k < 4) : stepDown t k = k - 1 := by
  have step : thermalStep t = 0 := if_pos (by omega)
  have threshold : k = 0 ∨ 85 ≤ thermalThreshold k := by
    interval_cases k <;> decide
  unfold stepDown
  split <;> omega

theorem thermalNext_between {now t : Nat} (above : thermalStep t ≤ now) : thermalStep t ≤ thermalNext now t ∧ thermalNext now t ≤ now := by
  by_cases falls : thermalStep t < now
  · rw [thermalNext_falls falls]
    have first := stepDown_between above
    have second := stepDown_between first.1
    have third := stepDown_between second.1
    omega
  · rw [thermalNext_rises (Nat.not_lt.1 falls)]
    omega

theorem thermalStep_le_next (now t : Nat) : thermalStep t ≤ thermalNext now t := by
  by_cases above : thermalStep t ≤ now
  · exact (thermalNext_between above).1
  · exact (thermalNext_rises (Nat.le_of_not_le above)).ge

theorem thermalNext_stays {now t : Nat} (above : thermalStep t ≤ now) (near : thermalThreshold now < t + 3) : thermalNext now t = now := by
  by_cases falls : thermalStep t < now
  · simp only [thermalNext_falls falls, stepDown_stays near]
  · rw [thermalNext_rises (Nat.not_lt.1 falls)]
    omega

theorem thermalNext_cold {now t : Nat} (cold : t ≤ 82) (inside : now < 4) : thermalNext now t = 0 := by
  have step : thermalStep t = 0 := if_pos (by omega)
  by_cases falls : thermalStep t < now
  · have first := stepDown_cold cold inside
    have second := stepDown_cold (k := now - 1) cold (by omega)
    have third := stepDown_cold (k := now - 1 - 1) cold (by omega)
    rw [thermalNext_falls falls, first, second, third]
    omega
  · rw [thermalNext_rises (Nat.not_lt.1 falls), step]

theorem thermalNext_lt {now t : Nat} (inside : now < 4) : thermalNext now t < 4 := by
  by_cases above : thermalStep t ≤ now
  · exact (thermalNext_between above).2.trans_lt inside
  · rw [thermalNext_rises (by omega)]
    exact thermalStep_lt t

/-- The step that a temperature sets in a stack's status. -/
def Stack.heated (x : Stack) (temp : Byte) : BitVec 2 := BitVec.ofNat 2 (thermalNext x.thermal.toNat temp.toNat)

theorem Stack.heated_toNat (x : Stack) (temp : Byte) : (x.heated temp).toNat = thermalNext x.thermal.toNat temp.toNat := by
  rw [Stack.heated, BitVec.toNat_ofNat, Nat.mod_eq_of_lt (thermalNext_lt x.thermal.isLt)]

theorem Stack.heated_stays {x : Stack} {temp : Byte} {n : BitVec 2} (now : x.thermal = n) (above : thermalStep temp.toNat ≤ n.toNat)
    (near : thermalThreshold n.toNat < temp.toNat + 3) : x.heated temp = n := by
  subst now
  exact BitVec.eq_of_toNat_eq ((x.heated_toNat temp).trans (thermalNext_stays above near))

theorem State.modStack_congr {s : State} {k : Nat} {f g : Stack → Stack} (same : f (s.stack k) = g (s.stack k)) :
    s.modStack k f = s.modStack k g := by
  unfold State.modStack
  rw [same]

theorem hbmTempRead_sets (s : State) (k : Nat) (temp : Byte) :
    let t := s.modStack k fun y => { y with temp := temp, thermal := (s.stack k).heated temp }
    hbmTempRead k temp s = if (s.stack k).thermal = 3 ∧ (s.stack k).heated temp ≠ 3 then t.hbmResumes else t := by
  unfold hbmTempRead
  dsimp only
  rw [State.stack_modStack, State.modStack_congr (g := fun y => { y with temp := temp, thermal := (s.stack k).heated temp }) rfl]
  rfl

/-! ### Patrol of data words (06 R174) -/

/-- The words of a stripe that patrol of stack k finds in error once `s1` holds what it found. -/
def State.patrolledWords (s s1 : State) (k stripe : Nat) : List Nat :=
  ((List.range (if s.hbm.mode then 512 else 480)).map fun n => s1.stripeWord stripe n).filter fun w =>
    (SMap.get? s1.wordErr w).isSome && !s1.granuleAbsent (w / 32 * 256) && (!s.hbm.mode || (s.granulePlace (w * 8)).stack == k)

/-- Without a word in error, patrol meets none. -/
theorem State.patrolWords_sound {s1 : State} (sound : s1.wordErr = []) (s : State) (k stripe : Nat) :
    (s.patrolledWords s1 k stripe).foldl State.patrolWord s1 = s1 := by
  have none : s.patrolledWords s1 k stripe = [] := by
    unfold State.patrolledWords
    rw [List.filter_eq_nil_iff, sound]
    intro w _
    simp [SMap.get?]
  rw [none]
  rfl

section
variable {s : State} {k stripe : Nat} (inService : (s.stack k).state = .inService) (settled : (s.stack k).retraining = false)
  (cool : (s.stack k).thermal ≠ 3) (written : s.shareWritten k stripe = true)
include inService settled cool written

theorem hbmPatrol_reads {us : List Upset} {s1 s2 : State} (found : us.foldl (fun t u => t.patrolUpset k stripe u) s = s1)
    (met : (s.patrolledWords s1 k stripe).foldl State.patrolWord s1 = s2) : hbmPatrol k stripe us s =
      if s.patrolsParity stripe then (List.range 32).foldl (fun t n => t.patrolParity stripe n) s2 else s2 := by
  subst found met
  exact if_neg (not_or.2 ⟨not_not.2 inService, not_or.2 ⟨ne_true_of_eq_false settled, not_or.2 ⟨cool, by simp [written]⟩⟩⟩)

end

section
variable {s : State} {stripe n : Nat} (unprotected : s.hbm.mode = true)
include unprotected

theorem State.stripeWord_unprotected : s.stripeWord stripe n = stripe * 512 + n := by
  unfold State.stripeWord State.granuleAddr
  rw [if_pos unprotected]
  omega

/-- A word of a stripe, and the granule that it stands in, lie in the stripe and in its channel. -/
theorem State.granulePlace_stripeWord (inside : n < 512) : (s.granulePlace (s.stripeWord stripe n * 8)).stripe = stripe ∧
    (s.granulePlace (s.stripeWord stripe n * 8)).ch = channelOf stripe ∧
    s.granulePlace (s.stripeWord stripe n / 32 * 256) = s.granulePlace (s.stripeWord stripe n * 8) := by
  have place : (s.stripeOf (s.stripeWord stripe n * 8)).1 = stripe := by
    unfold State.stripeOf
    simp only [unprotected, if_true, s.stripeWord_unprotected unprotected]
    omega
  have granule : s.stripeWord stripe n / 32 * 256 / 256 = s.stripeWord stripe n * 8 / 256 := by omega
  refine ⟨place, congrArg channelOf place, ?_⟩
  unfold State.granulePlace State.stripeOf
  rw [granule]

theorem State.patrolsParity_unprotected (stripe : Nat) : s.patrolsParity stripe = false := by simp [State.patrolsParity, unprotected]

end

/-- A word whose code corrects it is met as corrected. -/
theorem State.meetWord_corrects {s : State} {w b : Nat} (written : s.freshWord w = false) (err : SMap.getD s.wordErr w {} = ⟨b, false⟩)
    (pos : 0 < b) (few : b ≤ 2) : s.meetWord w = (s.correctWord w, .delivered) := by
  have fold : s.foldMismatch w = false := by simp [State.foldMismatch, State.storedFold, err]
  unfold State.meetWord
  simp only [written, fold, err, Bool.false_and, Bool.false_eq_true, if_false, if_neg (Nat.ne_of_gt pos), if_pos few]

theorem State.correctWord_hbm {s : State} {w : Nat} (inside : w * 8 < 2 ^ 41) : s.correctWord w =
    ({ s with wordErr := SMap.erase s.wordErr w }).modStack (s.granulePlace (w * 8)).stack fun x => { x with corrected := x.corrected + 1 } := by
  unfold State.correctWord placeOf
  rw [if_pos inside]

/-- A filter that only one member of a list without repetition passes leaves that one. -/
theorem filter_eq_singleton {α : Type} {l : List α} (once : l.Nodup) {x : α} (listed : x ∈ l) {p : α → Bool}
    (only : ∀ y ∈ l, p y = true ↔ y = x) : l.filter p = [x] := by
  classical
  have same : l.filter p = l.filter (· == x) := List.filter_congr fun y hy => by
    rw [Bool.eq_iff_iff, only y hy, beq_iff_eq]
  rw [same, List.filter_beq, List.count_eq_one_of_mem once listed]
  rfl

section
variable {s : State} {k stripe : Nat} {u : Upset} (inService : (s.stack k).state = .inService) (settled : (s.stack k).retraining = false)
  (cool : (s.stack k).thermal ≠ 3) (written : s.shareWritten k stripe = true) (sound : s.wordErr = []) (unprotected : s.hbm.mode = true)
  (plain : u.fold = false) (pos : 0 < u.bits) (few : u.bits ≤ 2) (inside : u.word < 512)
  (own : (s.granulePlace (s.stripeWord stripe u.word * 8)).stack = k)

/-- The word of an upset that patrol finds in error. -/
def State.upsetWord (s : State) (stripe : Nat) (u : Upset) : State :=
  { s with wordErr := [(s.stripeWord stripe u.word, ⟨u.bits, false⟩)] }

include sound unprotected plain pos inside own in
theorem State.patrolUpset_word : s.patrolUpset k stripe u = s.upsetWord stripe u := by
  unfold State.patrolUpset
  rw [if_neg (by omega)]
  simp [State.upsetWord, unprotected, own, sound, plain, SMap.put]

include inService settled cool written unprotected inside own in
/-- The granule of the word is read, and its share is written. -/
theorem State.patrolledWord_reached (serves : (s.stack k).retired.getLsbD (channelOf stripe) = false) :
    s.granuleAbsent (s.stripeWord stripe u.word / 32 * 256) = false ∧ s.freshWord (s.stripeWord stripe u.word) = false := by
  obtain ⟨home, channel, granule⟩ := State.granulePlace_stripeWord (s := s) (stripe := stripe) unprotected inside
  have gone : s.gone k (channelOf stripe) = false := by
    rw [State.gone, inService, serves]
    rfl
  have busy : s.busy k (channelOf stripe) = false := by
    unfold State.busy
    simp only [settled, beq_eq_false_iff_ne.2 cool, Bool.false_and, Bool.or_false, Bool.and_false]
  have fresh : s.granuleFresh (s.stripeWord stripe u.word * 8) = false := by
    rw [State.granuleFresh, own, home, State.shareFresh, Bool.not_eq_false']
    exact written
  refine ⟨?_, by rw [State.freshWord, fresh, Bool.and_false]⟩
  unfold State.granuleAbsent
  simp only [granule, own, channel, gone, busy, Bool.or_false, Bool.and_false]

include unprotected inside own in
/-- Patrol of an unprotected stripe meets that word and no other. -/
theorem State.patrolledWords_upset (present : s.granuleAbsent (s.stripeWord stripe u.word / 32 * 256) = false) :
    s.patrolledWords (s.upsetWord stripe u) k stripe = [s.stripeWord stripe u.word] := by
  unfold State.patrolledWords
  rw [if_pos unprotected]
  refine filter_eq_singleton (x := s.stripeWord stripe u.word) (List.nodup_range.map fun a b same => ?_)
    (List.mem_map.2 ⟨u.word, List.mem_range.2 inside, rfl⟩) fun v _ => ⟨fun found => ?_, ?_⟩
  · have same : s.stripeWord stripe a = s.stripeWord stripe b := same
    rw [State.stripeWord_unprotected unprotected, State.stripeWord_unprotected unprotected] at same
    omega
  · by_contra other
    simp [State.upsetWord, SMap.get?, Ne.symm other] at found
  · intro same
    rw [same]
    have reached : (s.upsetWord stripe u).granuleAbsent (s.stripeWord stripe u.word / 32 * 256) = false := present
    have listed : SMap.get? (s.upsetWord stripe u).wordErr (s.stripeWord stripe u.word) = some ⟨u.bits, false⟩ := if_pos rfl
    rw [listed, reached, own, beq_self_eq_true, Bool.or_true]
    rfl

include sound pos few own in
/-- That word is corrected, and counted in its stack. -/
theorem State.patrolWord_upset (low : s.stripeWord stripe u.word * 8 < 2 ^ 41) (fresh : s.freshWord (s.stripeWord stripe u.word) = false) :
    (s.upsetWord stripe u).patrolWord (s.stripeWord stripe u.word) = s.modStack k fun y => { y with corrected := y.corrected + 1 } := by
  obtain ⟨w, hw⟩ : ∃ w, s.stripeWord stripe u.word = w := ⟨_, rfl⟩
  have corrects : (s.upsetWord stripe u).meetWord w = ((s.upsetWord stripe u).correctWord w, .delivered) :=
    State.meetWord_corrects (hw ▸ fresh) (by simp [State.upsetWord, SMap.getD, hw]) pos few
  have cleared : ({ s.upsetWord stripe u with wordErr := SMap.erase (s.upsetWord stripe u).wordErr w } : State) = s := by
    have none : SMap.erase (s.upsetWord stripe u).wordErr w = s.wordErr := by simp [State.upsetWord, SMap.erase, hw, sound]
    rw [none]
    rfl
  rw [hw]
  unfold State.patrolWord
  rw [corrects]
  dsimp only
  rw [State.correctWord_hbm (hw ▸ low), cleared]
  exact congrArg (fun i => s.modStack i _) (hw ▸ own)

include inService settled cool written sound unprotected plain pos few inside own in
/-- Patrol corrects the one word of an unprotected stripe that it finds in error. -/
theorem hbmPatrol_corrects (low : s.stripeWord stripe u.word * 8 < 2 ^ 41)
    (serves : (s.stack k).retired.getLsbD (channelOf stripe) = false) :
    hbmPatrol k stripe [u] s = s.modStack k fun y => { y with corrected := y.corrected + 1 } := by
  obtain ⟨present, fresh⟩ := State.patrolledWord_reached inService settled cool written unprotected inside own serves
  have one := State.patrolledWords_upset unprotected inside own present
  have met := State.patrolWord_upset sound pos few own low fresh
  rw [hbmPatrol_reads (us := [u]) inService settled cool written (State.patrolUpset_word sound unprotected plain pos inside own)
    ((congrArg (List.foldl State.patrolWord _) one).trans met), State.patrolsParity_unprotected unprotected]
  rfl

end

/-! ### Patrol of parity words (06 R174) -/

/-- The memory, its status and its parity stand as they were. -/
structure State.SameHbm (s t : State) : Prop where
  mem : t.mem = s.mem
  hbm : t.hbm = s.hbm
  stack : ∀ i, t.stack i = s.stack i

theorem State.SameHbm.trans {s t u : State} (h : s.SameHbm t) (k : t.SameHbm u) : s.SameHbm u :=
  ⟨k.mem.trans h.mem, k.hbm.trans h.hbm, fun i => (k.stack i).trans (h.stack i)⟩

/-- A stripe's word n agrees with its parity: the XOR of the 15 data words is the parity word (06 R163). -/
def State.ParityAgrees (s : State) (stripe n : Nat) : Prop :=
  (List.range 15).foldl (fun acc j => acc ^^^ s.readWord (s.granuleAddr stripe j + 8 * n)) 0 = s.parityWord stripe n

section
variable {s t : State} {stripe n : Nat}

/-- Agreement depends on the memory, the mode, the parity and the deltas on their way. -/
theorem State.ParityAgrees.of_same (h : s.ParityAgrees stripe n) (mem : t.mem = s.mem) (mode : t.hbm.mode = s.hbm.mode)
    (parity : t.hbm.parity = s.hbm.parity) (deltas : t.hbm.deltas = s.hbm.deltas) : t.ParityAgrees stripe n := by
  unfold State.ParityAgrees State.parityWord State.granuleAddr State.readWord at *
  rw [mem, mode, parity, deltas]
  exact h

/-- A parity word that agrees is not rewritten; where one or two of its bits are in error, they are corrected, and counted in its stack. -/
theorem State.patrolParity_agreeing {b : Nat} (found : SMap.getD s.hbm.parityErr (stripe * 32 + n) {} = ⟨b, false⟩) (few : b ≤ 2)
    (agrees : s.ParityAgrees stripe n) : s.patrolParity stripe n =
      ({ s with hbm := { s.hbm with
        parityErr := if 0 < b then SMap.erase s.hbm.parityErr (stripe * 32 + n) else s.hbm.parityErr } } : State).modStack
        (parityStackOf stripe) fun x => { x with corrected := if 0 < b then x.corrected + 1 else x.corrected } := by
  have fold : s.parityFoldMismatch stripe n = false := by simp [State.parityFoldMismatch, found]
  have many : decide (3 ≤ b) = false := decide_eq_false (by omega)
  unfold State.ParityAgrees at agrees
  unfold State.patrolParity
  simp only [found, fold, agrees, many, few, bne_self_eq_false, Bool.or_false, Bool.and_false, Bool.false_eq_true, if_false, and_true,
    Bool.not_false, Bool.true_and, Bool.and_true, decide_eq_true_eq]

/-- One without error is passed over. -/
theorem State.patrolParity_sound (clean : SMap.getD s.hbm.parityErr (stripe * 32 + n) {} = {}) (agrees : s.ParityAgrees stripe n) :
    s.SameHbm (s.patrolParity stripe n) := by
  rw [State.patrolParity_agreeing clean (by decide) agrees]
  refine ⟨rfl, rfl, fun i => ?_⟩
  rw [State.stack_modStack_ite]
  split
  · next same => rw [same]; rfl
  · rfl

/-- One with at most two bits in error is corrected. -/
theorem State.patrolParity_corrects {b : Nat} (err : s.hbm.parityErr = [(stripe * 32 + n, ⟨b, false⟩)]) (pos : 0 < b) (few : b ≤ 2)
    (agrees : s.ParityAgrees stripe n) : (s.patrolParity stripe n).mem = s.mem ∧
      (s.patrolParity stripe n).hbm = { s.hbm with parityErr := [] } ∧
      ∀ i, (s.patrolParity stripe n).stack i =
        if i = parityStackOf stripe then { s.stack i with corrected := (s.stack i).corrected + 1 } else s.stack i := by
  have erased : SMap.erase s.hbm.parityErr (stripe * 32 + n) = [] := by rw [err]; simp [SMap.erase]
  rw [State.patrolParity_agreeing (by rw [err]; exact if_pos rfl) few agrees]
  simp only [if_pos pos, erased]
  refine ⟨rfl, rfl, fun i => ?_⟩
  rw [State.stack_modStack_ite]
  split
  · next same => rw [same]; rfl
  · rfl

/-- Parity words without error that agree are passed over, one after the other. -/
theorem State.patrolParities_sound {l : List Nat} (clean : ∀ n ∈ l, SMap.getD s.hbm.parityErr (stripe * 32 + n) {} = {})
    (agrees : ∀ n ∈ l, s.ParityAgrees stripe n) : s.SameHbm (l.foldl (fun t n => t.patrolParity stripe n) s) := by
  induction l generalizing s with
  | nil => exact ⟨rfl, rfl, fun _ => rfl⟩
  | cons n l ih =>
    have same := State.patrolParity_sound (clean n (by simp)) (agrees n (by simp))
    refine same.trans (ih (fun m hm => by rw [same.hbm]; exact clean m (by simp [hm])) fun m hm => ?_)
    exact (agrees m (by simp [hm])).of_same same.mem (by rw [same.hbm]) (by rw [same.hbm]) (by rw [same.hbm])

/-- Of 32 parity words that agree, patrol corrects the one in error. -/
theorem State.patrolParities_correct {b m : Nat} (inside : m < 32) (err : s.hbm.parityErr = [(stripe * 32 + m, ⟨b, false⟩)]) (pos : 0 < b)
    (few : b ≤ 2) (agrees : ∀ n < 32, s.ParityAgrees stripe n) : let t := (List.range 32).foldl (fun t n => t.patrolParity stripe n) s
    t.mem = s.mem ∧ t.hbm = { s.hbm with parityErr := [] } ∧
      ∀ i, t.stack i = if i = parityStackOf stripe then { s.stack i with corrected := (s.stack i).corrected + 1 } else s.stack i := by
  obtain ⟨before, after, split⟩ := List.append_of_mem (List.mem_range.2 inside)
  have listed : ∀ n, n ∈ before ∨ n ∈ after → n < 32 := fun n hn => List.mem_range.1 <| by
    rw [split, List.mem_append, List.mem_cons]
    tauto
  have once : m ∉ before ++ after := (List.nodup_cons.1 (List.nodup_middle.1 (split ▸ List.nodup_range))).1
  have first : s.SameHbm (before.foldl (fun t n => t.patrolParity stripe n) s) := by
    refine State.patrolParities_sound (fun n hn => ?_) fun n hn => agrees n (listed n (.inl hn))
    have other : m ≠ n := fun same => once (List.mem_append_left _ (same ▸ hn))
    rw [err, SMap.getD_cons, if_neg (by omega), SMap.getD_nil]
  have later : ∀ {t : State}, t.mem = s.mem → t.hbm = { s.hbm with parityErr := t.hbm.parityErr } → ∀ n < 32, t.ParityAgrees stripe n :=
    fun mem hbm n hn => (agrees n hn).of_same mem (by rw [hbm]) (by rw [hbm]) (by rw [hbm])
  rw [split, List.foldl_append, List.foldl_cons]
  obtain ⟨u, hu⟩ : ∃ u, before.foldl (fun t n => t.patrolParity stripe n) s = u := ⟨_, rfl⟩
  rw [hu] at first ⊢
  obtain ⟨mem, hbm, stack⟩ := State.patrolParity_corrects (first.hbm ▸ err) pos few (later first.mem (by rw [first.hbm]) m inside)
  rw [first.hbm] at hbm
  have last : (u.patrolParity stripe m).SameHbm (after.foldl (fun t n => t.patrolParity stripe n) (u.patrolParity stripe m)) :=
    State.patrolParities_sound (fun n _ => by rw [hbm]; rfl)
      fun n hn => later (mem.trans first.mem) (by rw [hbm]) n (listed n (.inr hn))
  refine ⟨last.mem.trans (mem.trans first.mem), last.hbm.trans hbm, fun i => ?_⟩
  rw [last.stack, stack, first.stack]

end

section
variable {s : State} {k stripe : Nat} {u : Upset} (inService : (s.stack k).state = .inService) (settled : (s.stack k).retraining = false)
  (cool : (s.stack k).thermal ≠ 3) (written : s.shareWritten k stripe = true) (sound : s.wordErr = []) (whole : s.hbm.parityErr = [])
  (agrees : ∀ n < 32, s.ParityAgrees stripe n)

/-- The parity word of an upset that patrol finds in error. -/
def State.upsetParity (s : State) (stripe : Nat) (u : Upset) : State :=
  { s with hbm := { s.hbm with parityErr := [(stripe * 32 + (u.word - 480), ⟨u.bits, false⟩)] } }

theorem State.patrolUpset_parity (protectedMode : s.hbm.mode = false) (whole : s.hbm.parityErr = []) (plain : u.fold = false) (pos : 0 < u.bits)
    (parity : 480 ≤ u.word) (inside : u.word < 512) (k : Nat) : s.patrolUpset k stripe u = s.upsetParity stripe u := by
  unfold State.patrolUpset
  rw [if_neg (by omega), if_pos (by simp [protectedMode, parity]), whole, plain]
  rfl

include inService settled cool written sound

theorem hbmPatrol_unprotected_sound (unprotected : s.hbm.mode = true) : hbmPatrol k stripe [] s = s := by
  rw [hbmPatrol_reads (us := []) inService settled cool written rfl (State.patrolWords_sound sound s k stripe),
    State.patrolsParity_unprotected unprotected]
  rfl

include whole agrees

theorem hbmPatrol_protected_sound : s.SameHbm (hbmPatrol k stripe [] s) := by
  rw [hbmPatrol_reads (us := []) inService settled cool written rfl (State.patrolWords_sound sound s k stripe)]
  split
  · exact State.patrolParities_sound (fun n _ => by rw [whole]; rfl) fun n hn => agrees n (List.mem_range.1 hn)
  · exact ⟨rfl, rfl, fun _ => rfl⟩

theorem hbmPatrol_protected_corrects (protectedMode : s.hbm.mode = false) (plain : u.fold = false) (pos : 0 < u.bits) (few : u.bits ≤ 2)
    (parity : 480 ≤ u.word) (inside : u.word < 512) (reached : s.patrolsParity stripe = true) : let t := hbmPatrol k stripe [u] s
    t.mem = s.mem ∧ t.hbm = s.hbm ∧ ∀ i, t.stack i =
      if i = parityStackOf stripe then { s.stack i with corrected := (s.stack i).corrected + 1 } else s.stack i := by
  have reads := hbmPatrol_reads (us := [u]) inService settled cool written
    (State.patrolUpset_parity protectedMode whole plain pos parity inside k)
    (State.patrolWords_sound (s1 := s.upsetParity stripe u) sound s k stripe)
  rw [if_pos reached] at reads
  have corrected := State.patrolParities_correct (s := s.upsetParity stripe u) (m := u.word - 480) (by omega) rfl pos few
    fun n hn => (agrees n hn).of_same rfl rfl rfl rfl
  rw [← reads] at corrected
  obtain ⟨mem, hbm, stack⟩ := corrected
  refine ⟨mem, hbm.trans ?_, stack⟩
  unfold State.upsetParity
  rw [← whole]

end

/-! ### Clears (06 R171, R179, 15 R428) -/

section
variable (s : State)

theorem State.firmwareWrite_frame (a n : Nat) (es : SMap Byte) :
    ∃ h, s.firmwareWrite a n es = { s.store a n es with hbm := h } := by
  unfold State.firmwareWrite
  split
  · dsimp only
    split <;> exact ⟨_, rfl⟩
  · exact ⟨_, rfl⟩

/-- The two ends of a cleared range, or any other runs, as zeros are written to them one after the other. -/
theorem State.zeroRuns (l : List (Nat × Nat)) :
    let t := l.foldl (fun t e => if e.2 = 0 then t else t.firmwareWrite e.1 e.2 []) s
    (∀ a, t.readByte a = if l.any (fun e => decide (e.1 ≤ a) && decide (a < e.1 + e.2)) then 0 else s.readByte a) ∧
      t.sched = s.sched ∧ t.cores = s.cores := by
  induction l generalizing s with
  | nil => exact ⟨fun _ => rfl, rfl, rfl⟩
  | cons e l ih =>
    have one : ∀ t, t = (if e.2 = 0 then s else s.firmwareWrite e.1 e.2 []) →
        (∀ a, t.readByte a = if e.1 ≤ a ∧ a < e.1 + e.2 then 0 else s.readByte a) ∧ t.sched = s.sched ∧ t.cores = s.cores := by
      rintro t rfl
      split
      · next empty => exact ⟨fun a => (if_neg (by omega)).symm, rfl, rfl⟩
      · obtain ⟨h, frame⟩ := s.firmwareWrite_frame e.1 e.2 []
        rw [frame]
        exact ⟨fun a => s.readByte_store e.1 e.2 [] a, rfl, rfl⟩
    obtain ⟨byte, sched, cores⟩ := one _ rfl
    obtain ⟨bytes, scheds, coreses⟩ := ih (if e.2 = 0 then s else s.firmwareWrite e.1 e.2 [])
    refine ⟨fun a => ?_, scheds.trans sched, coreses.trans cores⟩
    rw [List.foldl_cons, bytes, byte, List.any_cons]
    by_cases inside : e.1 ≤ a ∧ a < e.1 + e.2
    · simp [inside]
    · simp only [if_neg inside, ← Bool.decide_and, decide_eq_false inside, Bool.false_or]

theorem State.readByte_modPart (p : Nat) (f : Part → Part) (a : Nat) : (s.modPart p f).readByte a = s.readByte a := rfl

variable {s} {p : Nat}

theorem hbmClearDone_waits (waits : ∃ e ∈ s.rangeEnds (s.part p).base (s.part p).bytes, s.hbmWaits e.1 e.2 true = true) :
    hbmClearDone p s = s := if_pos (List.any_eq_true.2 waits)

theorem hbmClearDone_clears (clearing : (s.part p).hbmClearing = true)
    (ready : ∀ e ∈ s.rangeEnds (s.part p).base (s.part p).bytes, s.hbmWaits e.1 e.2 true = false) : hbmClearDone p s =
      (s.clearEnds (s.part p).base (s.part p).bytes).modPart p fun y => { y with hbmClearing := false, image := none } :=
  (if_neg (by simpa using ready)).trans (if_pos clearing)

/-- A clear that waits for no channel ends with zeros at the two ends of its range, and no image. -/
theorem hbmClearDone_zeros (clearing : (s.part p).hbmClearing = true)
    (ready : ∀ e ∈ s.rangeEnds (s.part p).base (s.part p).bytes, s.hbmWaits e.1 e.2 true = false) : let t := hbmClearDone p s
    (∀ a, t.readByte a = if (s.rangeEnds (s.part p).base (s.part p).bytes).any fun e => decide (e.1 ≤ a) && decide (a < e.1 + e.2)
      then 0 else s.readByte a) ∧
      t.part p = { s.part p with hbmClearing := false, image := none } ∧ t.cores = s.cores := by
  obtain ⟨bytes, sched, cores⟩ := s.zeroRuns (s.rangeEnds (s.part p).base (s.part p).bytes)
  rw [hbmClearDone_clears clearing ready, State.clearEnds]
  refine ⟨fun a => (State.readByte_modPart _ _ _ a).trans (bytes a), ?_, (State.modPart_cores _ _ _).trans cores⟩
  rw [State.part_modPart, State.part_of_sched sched]

end

/-! ### The commands -/

/-- Settles O35: each temperature by `thermalNext`, each patrol by what it meets, each clear by the zeros at its ends. -/
theorem hbmHeatPatrolRefreshAndClear : Obligations.HbmHeatPatrolRefreshAndClear := by
  unfold Obligations.HbmHeatPatrolRefreshAndClear
  intro s k x
  have next : ∀ {t u : State}, t = u → Host.Outcome.next (φ := Fault) (ρ := Refusal) t = .next u := congrArg _
  refine ⟨fun c => ?_,
    fun stripe u inService settled cool written sound plain pos few =>
      ⟨fun unprotected => ⟨next ?_, fun inside low own serves => next ?_⟩, fun protectedMode whole agrees =>
        ⟨⟨_, rfl, ?_⟩, fun parity inside reached => ⟨_, rfl, ?_⟩⟩⟩,
    fun inService => ?_, fun asleep => ?_, fun p clearing => ?_⟩
  · have number := x.heated_toNat c
    refine ⟨x.heated c, next (hbmTempRead_sets s k.val c), fun rises => number.trans (thermalNext_rises rises),
      number ▸ thermalStep_le_next _ _, fun falls => number ▸ (thermalNext_between falls).2, fun one above below => ?_, fun cold => ?_,
      fun two above below => ?_, fun three above below => ?_⟩
    · exact Stack.heated_stays one ((if_pos below).trans_le (by decide)) (Nat.add_lt_add_right above 3)
    · exact BitVec.eq_of_toNat_eq (number.trans (thermalNext_cold cold x.thermal.isLt))
    · exact Stack.heated_stays two ((thermalStep_le_one below).trans (by decide)) (Nat.add_lt_add_right above 3)
    · exact Stack.heated_stays three (Nat.le_of_lt_succ (thermalStep_lt _)) (Nat.add_lt_add_right above 3)
  · exact hbmPatrol_unprotected_sound inService settled cool written sound unprotected
  · exact hbmPatrol_corrects inService settled cool written sound unprotected plain pos few inside own low serves
  · obtain ⟨mem, hbm, stack⟩ := hbmPatrol_protected_sound inService settled cool written sound whole agrees
    exact ⟨mem, hbm, stack⟩
  · exact hbmPatrol_protected_corrects inService settled cool written sound whole agrees protectedMode plain pos few parity inside reached
  · have enters : selfRefreshEntry k.val s = s.modStack k.val fun y => { y with state := .selfRefresh } :=
      State.modStack_congr (if_pos inService)
    exact ⟨next enters, fun harbour => next ((if_pos harbour).trans enters)⟩
  · exact next (congrArg State.releaseHeld (State.modStack_congr (if_pos asleep)))
  · exact ⟨fun ready => ⟨_, rfl, hbmClearDone_zeros clearing ready⟩, fun waits => next (hbmClearDone_waits waits)⟩

end Sys2Proof.Machine

/-! SUPPORT. Packets without an answer go again (07 R189, R194, R195, R200, R201). -/

namespace Sys2Proof

/-- The packet marked as sent again (07 R185). -/
def MeshPkt.again (q : MeshPkt) : MeshPkt := { q with flags := q.flags ||| 8 }

theorem MeshPkt.again_assuredClass (q : MeshPkt) : q.again.assuredClass = q.assuredClass := by
  simp [MeshPkt.assuredClass, MeshPkt.again]

end Sys2Proof

namespace Sys2Proof.Machine

section
variable {s : State} {src dest : W16} {seq : W32} {q : MeshPkt}

/-! ### How a packet enters the mesh (07 R187, R189, R195) -/

theorem State.inject_bulk {p : MeshPkt} (bulk : p.assuredClass = false) : s.inject p =
    (s.bulkHalf (nodeAt p.src) (nodeAt p.dest)).1.launch p (s.bulkHalf (nodeAt p.src) (nodeAt p.dest)).2
      (s.bulkWay (nodeAt p.src) (nodeAt p.dest) (s.bulkHalf (nodeAt p.src) (nodeAt p.dest)).2) :=
  if_neg (ne_true_of_eq_false bulk)

theorem State.inject_assured {p : MeshPkt} (assured : p.assuredClass = true) : s.inject p =
    (s.launch p false (s.copyWay (nodeAt p.src) (nodeAt p.dest) false)).launch { p with flags := p.flags ||| 2 } true
      (s.copyWay (nodeAt p.src) (nodeAt p.dest) true) :=
  if_pos assured

/-! ### A packet that its sender keeps (07 R194, R195) -/

/-- A packet is kept under its own source, destination and class. -/
theorem State.sentPacket_names {cls : Bool} {n : Nat} (kept : s.sentPacket src dest cls n = some q) :
    q.src = src ∧ q.dest = dest ∧ q.assuredClass = cls := by
  have found := List.find?_some kept
  simp only [Bool.and_eq_true, beq_iff_eq] at found
  obtain ⟨⟨⟨source, destination⟩, cls⟩, _⟩ := found
  exact ⟨source, destination, cls⟩

theorem State.resend_none {cls : Bool} (gone : s.sentPacket src dest cls seq.toNat = none) : s.resend src dest cls seq = s := by
  unfold State.resend
  rw [gone]

theorem State.resend_some {cls : Bool} (kept : s.sentPacket src dest cls seq.toNat = some q) :
    s.resend src dest cls seq = s.inject q.again := by
  unfold State.resend
  rw [kept]
  rfl

theorem State.resend_bulk (kept : s.sentPacket src dest false seq.toNat = some q) : s.resend src dest false seq =
    (s.bulkHalf (nodeAt src) (nodeAt dest)).1.launch q.again (s.bulkHalf (nodeAt src) (nodeAt dest)).2
      (s.bulkWay (nodeAt src) (nodeAt dest) (s.bulkHalf (nodeAt src) (nodeAt dest)).2) := by
  obtain ⟨source, destination, cls⟩ := State.sentPacket_names kept
  subst source destination
  exact (State.resend_some kept).trans (State.inject_bulk (q.again_assuredClass.trans cls))

theorem State.resend_assured (kept : s.sentPacket src dest true seq.toNat = some q) : s.resend src dest true seq =
    (s.launch q.again false (s.copyWay (nodeAt src) (nodeAt dest) false)).launch
      { q.again with flags := q.again.flags ||| 2 } true (s.copyWay (nodeAt src) (nodeAt dest) true) := by
  obtain ⟨source, destination, cls⟩ := State.sentPacket_names kept
  subst source destination
  exact (State.resend_some kept).trans (State.inject_assured (q.again_assuredClass.trans cls))

theorem State.resend_onMesh (s : State) (src dest : W16) (cls : Bool) (seq : W32) : s.OnMesh (s.resend src dest cls seq) := by
  unfold State.resend
  split
  · exact State.OnMesh.refl s
  · exact (State.OnMesh.refl s).inject _

theorem State.resend_busy (s : State) (src dest : W16) (cls : Bool) (seq : W32) :
    (s.resend src dest cls seq).mesh.busy = s.mesh.busy := by
  unfold State.resend
  split
  · rfl
  · exact State.inject_mesh Mesh.busy (fun _ _ => rfl) _ _

/-! ### Packets that met a busy or a resetting destination (07 R200, R201) -/

/-- A packet that met a busy destination is listed no longer. -/
def State.unlisted (s : State) (k : W16 × W16 × W32 × Bool) : State :=
  { s with mesh := { s.mesh with busy := s.mesh.busy.filter fun x => x != k } }

/-- One class of a resend after a busy answer. -/
def State.busyResendIn (s : State) (src dest : W16) (seq : W32) (cls : Bool) : State :=
  if s.mesh.busy.contains (src, dest, seq, cls) then (s.unlisted (src, dest, seq, cls)).resend src dest cls seq else s

theorem busyResend_classes (src dest : W16) (seq : W32) (s : State) :
    busyResend src dest seq s = (s.busyResendIn src dest seq false).busyResendIn src dest seq true := rfl

theorem State.busyResendIn_listed {cls : Bool} (listed : (src, dest, seq, cls) ∈ s.mesh.busy) :
    s.busyResendIn src dest seq cls = (s.unlisted (src, dest, seq, cls)).resend src dest cls seq :=
  if_pos (List.contains_iff_mem.2 listed)

theorem State.busyResendIn_unlisted {cls : Bool} (unlisted : (src, dest, seq, cls) ∉ s.mesh.busy) :
    s.busyResendIn src dest seq cls = s :=
  if_neg fun listed => unlisted (List.contains_iff_mem.1 listed)

/-- A packet listed in one class alone goes again in that class. -/
theorem busyResend_listed {cls : Bool} (listed : (src, dest, seq, cls) ∈ s.mesh.busy) (alone : (src, dest, seq, !cls) ∉ s.mesh.busy) :
    busyResend src dest seq s = (s.unlisted (src, dest, seq, cls)).resend src dest cls seq := by
  rw [busyResend_classes]
  cases cls with
  | true => rw [State.busyResendIn_unlisted (cls := false) alone, State.busyResendIn_listed listed]
  | false =>
    rw [State.busyResendIn_listed listed, State.busyResendIn_unlisted]
    rw [State.resend_busy]
    exact fun stays => alone (List.mem_of_mem_filter stays)

theorem State.unlisted_onMesh (s : State) (k : W16 × W16 × W32 × Bool) : s.OnMesh (s.unlisted k) := rfl

/-- A packet that met a resetting destination is listed no longer. -/
def State.unretried (s : State) (k : W16 × W16 × W32) : State :=
  { s with mesh := { s.mesh with retry := s.mesh.retry.filter fun x => x != k } }

theorem resettingRetry_listed (listed : (src, dest, seq) ∈ s.mesh.retry) :
    resettingRetry src dest seq s = (s.unretried (src, dest, seq)).resend src dest true seq :=
  if_pos (List.contains_iff_mem.2 listed)

theorem State.unretried_onMesh (s : State) (k : W16 × W16 × W32) : s.OnMesh (s.unretried k) := rfl

end

/-- Settles O32: each command is one `State.resend`, from a state that lists the packet no longer. -/
theorem unansweredPacketsGoAgain : Obligations.UnansweredPacketsGoAgain := by
  intro s src dest seq q again a b bulk both unlisted unretried
  refine ⟨fun kept => ⟨?_, fun listed alone => ?_⟩, fun kept => ⟨?_, fun listed alone => ?_, fun listed => ?_⟩,
    fun gone => ?_, fun gone => ?_⟩
  · exact ⟨_, rfl, s.resend_onMesh _ _ _ _, State.resend_bulk kept⟩
  · exact ⟨_, congrArg Host.Outcome.next (busyResend_listed listed alone), (s.unlisted_onMesh _).trans (State.resend_onMesh _ _ _ _ _),
      State.resend_bulk (s := s.unlisted _) kept⟩
  · exact ⟨_, rfl, s.resend_onMesh _ _ _ _, State.resend_assured kept⟩
  · exact ⟨_, congrArg Host.Outcome.next (busyResend_listed listed alone), (s.unlisted_onMesh _).trans (State.resend_onMesh _ _ _ _ _),
      State.resend_assured (s := s.unlisted _) kept⟩
  · exact ⟨_, congrArg Host.Outcome.next (resettingRetry_listed listed), (s.unretried_onMesh _).trans (State.resend_onMesh _ _ _ _ _),
      State.resend_assured (s := s.unretried _) kept⟩
  · exact congrArg Host.Outcome.next (State.resend_none gone)
  · exact congrArg Host.Outcome.next (State.resend_none gone)

end Sys2Proof.Machine

/-! SUPPORT. A packet reaches its endpoint (07 R194, R195): what the arrival leaves as it was, and what the endpoint makes of it. -/

namespace Sys2Proof.Machine

/-! ### What an arrival leaves as it was (07 R194) -/

/-- `t` differs from `s` in the packets under way and the receive windows alone. -/
def State.Arrives (s t : State) : Prop := ∃ fs ws, t = { s with mesh := { s.mesh with flights := fs, windows := ws } }

/-- The state in which an endpoint has received a packet that reached it. -/
def State.taken (s : State) (p : MeshPkt) : State := ((s.arrived p).receive p).1

section
variable {s t : State} {p : MeshPkt}

theorem State.arrived_flights (s : State) (p : MeshPkt) : ∃ fs, s.arrived p = { s with mesh := { s.mesh with flights := fs } } := by
  unfold State.arrived
  split
  · exact ⟨_, rfl⟩
  · exact ⟨s.mesh.flights, rfl⟩

theorem State.arrived_arrives (s : State) (p : MeshPkt) : s.Arrives (s.arrived p) := by
  obtain ⟨fs, moved⟩ := s.arrived_flights p
  exact ⟨fs, s.mesh.windows, moved⟩

theorem State.taken_arrives (s : State) (p : MeshPkt) : s.Arrives (s.taken p) := by
  obtain ⟨fs, moved⟩ := s.arrived_flights p
  unfold State.taken State.receive
  rw [moved]
  dsimp only
  split
  · exact ⟨fs, s.mesh.windows, rfl⟩
  · exact ⟨fs, _, rfl⟩

/-- What looks at neither the packets under way nor the windows reads the same. -/
theorem State.Arrives.reads (h : s.Arrives t) {γ : Type} (g : State → γ)
    (blind : ∀ fs ws, g { s with mesh := { s.mesh with flights := fs, windows := ws } } = g s) : g t = g s := by
  obtain ⟨fs, ws, rfl⟩ := h
  exact blind fs ws

theorem State.Arrives.onMesh (h : s.Arrives t) : s.OnMesh t := by
  obtain ⟨fs, ws, rfl⟩ := h
  rfl

theorem State.arrived_stale (s : State) (p : MeshPkt) : (s.arrived p).stale p = s.stale p := by
  obtain ⟨fs, moved⟩ := s.arrived_flights p
  rw [moved]
  rfl

theorem State.arrived_hadBefore (s : State) (p : MeshPkt) : (s.arrived p).hadBefore p = s.hadBefore p := by
  obtain ⟨fs, moved⟩ := s.arrived_flights p
  rw [moved]
  rfl

section
variable (h : s.Arrives t)
include h

theorem State.Arrives.carried : t.carried p = s.carried p := h.reads (State.carried · p) fun _ _ => rfl
theorem State.Arrives.reach : t.reach p = s.reach p := h.reads (State.reach · p) fun _ _ => rfl
theorem State.Arrives.orphan : t.orphan p = s.orphan p := h.reads (State.orphan · p) fun _ _ => rfl
theorem State.Arrives.requestStatus : t.requestStatus p = s.requestStatus p := h.reads (State.requestStatus · p) fun _ _ => rfl
theorem State.Arrives.targetSleeps (a : Nat) : t.targetSleeps a = s.targetSleeps a := h.reads (State.targetSleeps · a) fun _ _ => rfl
theorem State.Arrives.requestWaits : t.requestWaits p = s.requestWaits p := h.reads (State.requestWaits · p) fun _ _ => rfl
theorem State.Arrives.pendingAt : t.pendingAt p = s.pendingAt p := h.reads (State.pendingAt · p) fun _ _ => rfl
theorem State.Arrives.pinnedAt (a n : Nat) : t.pinnedAt a n = s.pinnedAt a n := h.reads (State.pinnedAt · a n) fun _ _ => rfl
theorem State.Arrives.awaiting : t.awaiting p = s.awaiting p := h.reads (State.awaiting · p) fun _ _ => rfl
theorem State.Arrives.readable (a n : Nat) : t.Readable a n = s.Readable a n := h.reads (State.Readable · a n) fun _ _ => rfl
theorem State.Arrives.viewBytes (a n : Nat) : t.viewBytes a n = s.viewBytes a n := h.reads (State.viewBytes · a n) fun _ _ => rfl
theorem State.Arrives.bySite (a : Nat) (data : List Byte) : t.bySite a data = s.bySite a data := h.reads (State.bySite · a data) fun _ _ => rfl

end
end
end Sys2Proof.Machine

/-! SUPPORT. Requests at their endpoint (04 R115, R116, 02 R66, 07 R194, R195, R200, R201). -/

namespace Sys2Proof.Machine

/-! ### What an endpoint makes of a request (04 R116, 07 R194, R195, R200, R201) -/

section
variable {s : State} {p : MeshPkt}

theorem State.accept_orphan (orphan : s.orphan p = true) : s.accept p = (s.arrived p, none) := by
  unfold State.accept
  dsimp only
  rw [(s.arrived_arrives p).orphan, orphan]
  rfl

theorem State.accept_stale (known : s.orphan p = false) (stale : s.stale p = true) : s.accept p =
    (s.arrived p, if p.resent && s.hadBefore p && !s.pendingAt p then some (0x06, stOk) else none) := by
  unfold State.accept
  dsimp only
  rw [(s.arrived_arrives p).orphan, known, s.arrived_stale, stale, s.arrived_hadBefore, (s.arrived_arrives p).pendingAt]
  rfl

/-- A request that is new to its endpoint meets the status that its place gives it. -/
theorem State.accept_new (known : s.orphan p = false) (new : s.stale p = false) {a n : Nat} {wr : Bool}
    (reach : s.reach p = some (a, n, wr)) : s.accept p =
      if s.requestStatus p = stResetting then (s.arrived p, some (0x07, s.requestStatus p))
      else if s.requestStatus p ≠ stOk then (s.taken p, some (0x07, s.requestStatus p))
      else if s.targetSleeps a then (s.arrived p).eject p a else (s.taken p).serve p := by
  have h := s.arrived_arrives p
  unfold State.accept
  dsimp only
  rw [h.orphan, known, s.arrived_stale, new, h.requestStatus, h.reach, reach, ← h.targetSleeps a]
  rfl

/-- An endpoint knows where a request of a transfer under way goes. -/
theorem State.reach_of_known (known : s.orphan p = false) : ∃ a n wr, s.reach p = some (a, n, wr) := by
  cases reach : s.reach p with
  | none => simp [State.orphan, reach] at known
  | some r => exact ⟨r.1, r.2.1, r.2.2, rfl⟩

theorem State.accept_resetting (known : s.orphan p = false) (new : s.stale p = false) (resetting : s.requestStatus p = stResetting) :
    s.accept p = (s.arrived p, some (0x07, stResetting)) := by
  obtain ⟨a, n, wr, reach⟩ := State.reach_of_known known
  rw [State.accept_new known new reach, if_pos resetting, resetting]

theorem State.accept_refused (known : s.orphan p = false) (new : s.stale p = false) (refused : s.requestStatus p ≠ stOk)
    (stands : s.requestStatus p ≠ stResetting) : s.accept p = (s.taken p, some (0x07, s.requestStatus p)) := by
  obtain ⟨a, n, wr, reach⟩ := State.reach_of_known known
  rw [State.accept_new known new reach, if_neg stands, if_pos refused]

variable {a n : Nat} {wr : Bool} (reach : s.reach p = some (a, n, wr)) (known : s.orphan p = false) (new : s.stale p = false)
  (ok : s.requestStatus p = stOk)
include reach known new ok

theorem State.accept_ok : s.accept p = if s.targetSleeps a then (s.arrived p).eject p a else (s.taken p).serve p := by
  have stands : s.requestStatus p ≠ stResetting := by
    rw [ok]
    decide
  rw [State.accept_new known new reach, if_neg stands, if_neg (not_not.2 ok)]

theorem State.accept_awake (awake : s.targetSleeps a = false) : s.accept p = (s.taken p).serve p :=
  (State.accept_ok reach known new ok).trans (if_neg (ne_true_of_eq_false awake))

/-- A request whose memory makes it wait is held there (05 R152, R153, 06 R172, 08 R222). -/
theorem State.accept_waits (awake : s.targetSleeps a = false) (waits : s.requestWaits p = true) : s.accept p =
    ({ s.taken p with mesh := { (s.taken p).mesh with held := (s.taken p).mesh.held ++ [p] } }, none) := by
  have h := s.taken_arrives p
  rw [State.accept_awake reach known new ok awake]
  unfold State.serve
  rw [h.reach, reach]
  exact if_pos (h.requestWaits.trans waits)

/-- A request for a region that neither runs nor dozes waits in the node stop's 64 KiB; past them it is answered busy (07 R201). -/
theorem State.accept_asleep {L w : Nat} (place : placeOf a = .coreStore L w) (stopped : (s.cluster (L / 12)).region ≠ .running)
    (gated : (s.cluster (L / 12)).doze = false) :
    let k := (a - 0x050000000000) / 2 ^ 24 / 12
    let ps := SMap.getD s.mesh.ejection k [] ++ [p]
    s.accept p = if ejectedBytes ps ≤ 65536 then
        ({ s.taken p with mesh := { (s.taken p).mesh with ejection := SMap.put (s.taken p).mesh.ejection k ps } }, none)
      else (s.arrived p, some (0x07, stOk)) := by
  have h := s.arrived_arrives p
  have sleeps : s.targetSleeps a = true := by
    unfold State.targetSleeps
    rw [place]
    exact bne_iff_ne.2 stopped
  have unwoken : (s.arrived p).wakeFor a = s.arrived p := by
    unfold State.wakeFor
    rw [place]
    exact if_neg (ne_true_of_eq_false ((h.reads (fun t => (t.cluster (L / 12)).doze) fun _ _ => rfl).trans gated))
  intro k ps
  rw [State.accept_ok reach known new ok, sleeps]
  unfold State.eject
  dsimp only
  rw [unwoken, h.reads (fun t => t.mesh.ejection) fun _ _ => rfl]
  rfl

end

/-! ### The four requests (07 R185) -/

/-- The commands by which requests arrive, with their TYPE. -/
def requestCommands (p : MeshPkt) : List (Instr × Nat) :=
  [(.meshReadReq p, 0x01), (.meshWrite p, 0x03), (.meshReduce p, 0x04), (.meshRelay p, 0x05)]

theorem State.whenType_same {s : State} {p : MeshPkt} {typ : Nat} (same : p.typ.toNat = typ) (f : State → State) : s.whenType p typ f = f s :=
  if_pos same

theorem State.whenType_other {s : State} {p : MeshPkt} {typ : Nat} (other : p.typ.toNat ≠ typ) (f : State → State) :
    s.whenType p typ f = s.arrived p := if_neg other

section
variable {s : State} {p : MeshPkt} {c : Instr × Nat} (request : c ∈ requestCommands p)
include request

theorem exec_request (s : State) : exec c.1 s = .next (s.whenType p c.2 fun t => reply p (t.accept p)) := by
  simp only [requestCommands, List.mem_cons, List.not_mem_nil, or_false] at request
  obtain rfl | rfl | rfl | rfl := request
  · rfl
  · rfl
  · rfl
  · rfl

theorem exec_request_other (other : p.typ.toNat ≠ c.2) : exec c.1 s = .next (s.arrived p) := by
  rw [exec_request request, State.whenType_other other]

/-- A request of its command's TYPE is accepted, and answered where the endpoint answers now. -/
theorem exec_request_accepts {r : State × Option (Nat × W16)} (same : p.typ.toNat = c.2) (accepts : s.accept p = r) :
    exec c.1 s = .next (reply p r) := by
  rw [exec_request request, State.whenType_same same, accepts]

end

/-! ### Memory after a write (06 R163, R164, 13 R390) -/

/-- `t` holds the bytes and the cores of `s`. -/
def State.SameData (s t : State) : Prop := t.mem = s.mem ∧ t.cores = s.cores

section
variable {s t u : State}

theorem State.SameData.refl (s : State) : s.SameData s := ⟨rfl, rfl⟩

theorem State.SameData.trans (h : s.SameData t) (k : t.SameData u) : s.SameData u := ⟨k.1.trans h.1, k.2.trans h.2⟩

theorem State.SameData.foldl {β : Type} {f : State → β → State} (hf : ∀ (t : State) x, t.SameData (f t x)) (l : List β) (s : State) :
    s.SameData (l.foldl f s) :=
  ⟨foldl_keeps State.mem (fun t x => (hf t x).1) l s, foldl_keeps State.cores (fun t x => (hf t x).2) l s⟩

theorem State.OnMesh.sameData (h : s.OnMesh t) : s.SameData t := ⟨h.mem, h.cores⟩

theorem State.Notifies.sameData (h : s.Notifies t) : s.SameData t := ⟨by rw [h], h.cores⟩

/-- A granule's delta leaves on the mesh, or changes HBM's parity alone. -/
theorem State.sendDelta_sameData (s : State) (g : Nat) (ds : List (Nat × W64)) : s.SameData (s.sendDelta g ds) := by
  unfold State.sendDelta
  dsimp only
  split
  · exact State.SameData.refl s
  · split
    · exact ⟨rfl, rfl⟩
    · have sent := fun u : State => ((State.OnMesh.refl u).sendPacket (s.deltaPacket g ds)).sameData
      exact ⟨(sent _).1, (sent _).2⟩

/-- A copy of a page changes its snapshot, with a journal entry where a kept one is dropped. -/
theorem State.cowPage_sameData (s : State) (p page : Nat) : s.SameData (s.cowPage p page) := by
  unfold State.cowPage
  split
  · exact State.SameData.refl s
  · split
    · exact State.SameData.refl s
    · split
      · exact ⟨rfl, rfl⟩
      · split
        · exact State.SameData.trans ⟨rfl, rfl⟩ (State.journalWrite_notifies _ _ _ _ _ _).sameData
        · exact ⟨rfl, rfl⟩

end

/-- `t` holds the bytes `bs` from address a on, and everywhere else, and in its cores, what `s` holds. -/
def State.Lands (s : State) (a : Nat) (bs : List Byte) (t : State) : Prop :=
  t.cores = s.cores ∧ ∀ k, t.readByte k = if a ≤ k ∧ k < a + bs.length then bs.getD (k - a) 0 else s.readByte k

section
variable {s t u : State} {a : Nat} {bs : List Byte}

theorem State.SameData.lands (h : s.SameData t) (l : t.Lands a bs u) : s.Lands a bs u :=
  ⟨l.1.trans h.2, fun k => by rw [l.2 k, State.readByte, h.1, State.readByte]⟩

theorem State.Lands.sameData (l : s.Lands a bs t) (h : t.SameData u) : s.Lands a bs u :=
  ⟨h.2.trans l.1, fun k => by rw [← l.2 k, State.readByte, h.1, State.readByte]⟩

theorem State.writeBytes_lands (s : State) (a : Nat) (bs : List Byte) : s.Lands a bs (s.writeBytes a bs) := by
  refine ⟨rfl, fun k => (s.readByte_store a bs.length _ k).trans ?_⟩
  have listed := SMap.getD_ofList bs 0 (k - a) 0
  rw [Nat.zero_add] at listed
  rw [listed]

/-- A write by device address stores its bytes: all else that it does concerns HBM's metadata and parity. -/
theorem State.rowWrite_lands (s : State) (a : Nat) (bs : List Byte) (row : Nat × Nat) :
    s.Lands a bs (s.rowWrite a bs.length (SMap.ofList bs 0 0) row) := by
  have marked : s.Lands a bs (((s.markWritten a bs.length).bufferWrite a bs.length).writeBytes a bs) :=
    State.SameData.lands (t := (s.markWritten a bs.length).bufferWrite a bs.length) ⟨rfl, rfl⟩ (State.writeBytes_lands _ a bs)
  unfold State.rowWrite
  dsimp only
  split
  · split
    · exact marked
    · exact State.Lands.sameData (marked.sameData ⟨rfl, rfl⟩) (State.SameData.foldl (fun t g => t.sendDelta_sameData g _) _ _)
  · exact s.writeBytes_lands a bs

theorem State.partWriteRow_lands (s : State) (p a : Nat) (bs : List Byte) (row : Nat × Nat) :
    s.Lands a bs (s.partWriteRow p a bs.length (SMap.ofList bs 0 0) row) :=
  (State.SameData.foldl (fun t g => t.cowPage_sameData p g) _ s).lands (State.rowWrite_lands _ a bs row)

theorem State.serveWrite_lands (s : State) (p : MeshPkt) (a : Nat) : s.Lands a p.payload (s.serveWrite p a p.payload.length) := by
  unfold State.serveWrite
  dsimp only
  split
  · exact s.rowWrite_lands a p.payload _
  · exact s.partWriteRow_lands p.job a p.payload _

end

/-! ### A request is served (04 R110, R115, 02 R66) -/

/-- What one reduction site takes of a packet of a PUT_REDUCE (04 R115). -/
def Xfer.contribution (x : Xfer) (p : MeshPkt) (seat : Nat) (e : Nat × List (Nat × List Byte)) : Contribution :=
  ⟨e.1, x.f.core.val, seat, p.job, p.turn.toNat, x.f.redOp.toNat, e.2, p.dest, p.seq⟩

/-- The contributions enter one after another, under the module's own seat. -/
theorem State.serveReduce_carried {t : State} {p : MeshPkt} {x : Xfer} {q : Piece} (carried : t.carried p = some (x, q)) (a : Nat) :
    t.serveReduce p a = ((t.bySite a p.payload).map (x.contribution p t.arch.seat)).foldl State.addContribution t := by
  have seats : ∀ (l : List (Nat × List (Nat × List Byte))) {u : State}, t.OnMesh u →
      l.foldl (fun v e => v.addContribution (x.contribution p v.arch.seat e)) u =
        (l.map (x.contribution p t.arch.seat)).foldl State.addContribution u := by
    intro l
    induction l with
    | nil => exact fun _ => rfl
    | cons e l ih =>
      intro u h
      have seat : u.arch.seat = t.arch.seat := by rw [h]
      rw [List.foldl_cons, List.map_cons, List.foldl_cons, seat]
      exact ih (h.addContribution _)
  unfold State.serveReduce
  rw [carried]
  exact seats _ (State.OnMesh.refl t)

section
variable {t : State} {p : MeshPkt} {a n : Nat} {wr : Bool} (reach : t.reach p = some (a, n, wr)) (free : t.requestWaits p = false)
include reach free

theorem State.serve_read (typ : p.typ.toNat = 0x01) (readable : t.Readable a n) : t.serve p =
    (t.sendPacket (meshPkt 0x02 p.assuredClass a p.src p.dest p.part 0 (t.viewBytes a n)), some (0x06, stOk)) := by
  have sends : t.serveRead p a n = t.sendPacket (meshPkt 0x02 p.assuredClass a p.src p.dest p.part 0 (t.viewBytes a n)) := by
    unfold State.serveRead
    simp only [State.readRange_readable t a n 0 _ readable]
  unfold State.serve
  simp only [reach, free, typ, sends]
  rfl

theorem State.serve_write (typ : p.typ.toNat = 0x03) : t.serve p = (t.serveWrite p a n, some (0x06, stOk)) := by
  unfold State.serve
  simp only [reach, free, typ]
  rfl

theorem State.serve_relay (typ : p.typ.toNat = 0x05) : t.serve p = (t.writeBytes a p.payload, some (0x06, stOk)) := by
  unfold State.serve
  simp only [reach, free, typ]
  rfl

theorem State.serve_reduce (typ : p.typ.toNat = 0x04) : t.serve p =
    (t.serveReduce p a, if (t.serveReduce p a).pendingAt p then none else some (0x06, stOk)) := by
  unfold State.serve
  simp only [reach, free, typ]
  rfl

end

/-- The length that a WRITE reaches is its payload's. -/
theorem State.reach_write {s : State} {p : MeshPkt} {a n : Nat} {wr : Bool} (reach : s.reach p = some (a, n, wr))
    (typ : p.typ.toNat = 0x03) : n = p.payload.length := by
  unfold State.reach at reach
  rw [typ] at reach
  obtain ⟨rfl, rfl, rfl⟩ := reach
  rfl

section
variable {s : State} {p : MeshPkt} {a n : Nat} {wr : Bool} (reach : s.reach p = some (a, n, wr)) (known : s.orphan p = false)
  (new : s.stale p = false) (ok : s.requestStatus p = stOk) (awake : s.targetSleeps a = false) (free : s.requestWaits p = false)
include reach known new ok awake free

theorem exec_meshReadReq_serves (typ : p.typ.toNat = 0x01) (readable : s.Readable a n) : exec (.meshReadReq p) s =
    .next (((s.taken p).sendPacket (meshPkt 0x02 p.assuredClass a p.src p.dest p.part 0 (s.viewBytes a n))).answer p 0x06 stOk) := by
  have h := s.taken_arrives p
  have served := State.serve_read (h.reach.trans reach) (h.requestWaits.trans free) typ (h.readable a n ▸ readable)
  rw [h.viewBytes] at served
  exact exec_request_accepts (c := (.meshReadReq p, 0x01)) (by simp [requestCommands]) typ
    ((State.accept_awake reach known new ok awake).trans served)

theorem exec_meshWrite_serves (typ : p.typ.toNat = 0x03) :
    exec (.meshWrite p) s = .next (((s.taken p).serveWrite p a n).answer p 0x06 stOk) := by
  have h := s.taken_arrives p
  exact exec_request_accepts (c := (.meshWrite p, 0x03)) (by simp [requestCommands]) typ ((State.accept_awake reach known new ok awake).trans
    (State.serve_write (h.reach.trans reach) (h.requestWaits.trans free) typ))

theorem exec_meshRelay_serves (typ : p.typ.toNat = 0x05) :
    exec (.meshRelay p) s = .next (((s.taken p).writeBytes a p.payload).answer p 0x06 stOk) := by
  have h := s.taken_arrives p
  exact exec_request_accepts (c := (.meshRelay p, 0x05)) (by simp [requestCommands]) typ ((State.accept_awake reach known new ok awake).trans
    (State.serve_relay (h.reach.trans reach) (h.requestWaits.trans free) typ))

theorem exec_meshReduce_serves (typ : p.typ.toNat = 0x04) {x : Xfer} {q : Piece} (carried : s.carried p = some (x, q)) :
    let t := ((s.bySite a p.payload).map (x.contribution p s.arch.seat)).foldl State.addContribution (s.taken p)
    exec (.meshReduce p) s = .next (if t.pendingAt p then t else t.answer p 0x06 stOk) := by
  have h := s.taken_arrives p
  have entered := State.serveReduce_carried (h.carried.trans carried) a
  rw [h.bySite, h.reads (fun t => t.arch.seat) fun _ _ => rfl] at entered
  have served := State.serve_reduce (h.reach.trans reach) (h.requestWaits.trans free) typ
  rw [entered] at served
  intro t
  refine (exec_request_accepts (c := (.meshReduce p, 0x04)) (by simp [requestCommands]) typ
    ((State.accept_awake reach known new ok awake).trans served)).trans (congrArg Host.Outcome.next ?_)
  change reply p (t, if t.pendingAt p then none else some (0x06, stOk)) = _
  split
  · rfl
  · rfl

end

/-- Settles O30: what each request meets by `State.accept`, and the four services by what `State.serve` makes of the received packet. -/
theorem meshRequestsAreServedOnce : Obligations.MeshRequestsAreServedOnce := by
  intro s p here taken acked
  have data : s.SameData taken := (s.taken_arrives p).onMesh.sameData
  have answered : ∀ t : State, t.SameData (acked t) := fun t => ((State.OnMesh.refl t).answer p 0x06 stOk).sameData
  refine ⟨fun c request => ⟨exec_request_other request, fun typ orphan => ?_,
    fun typ known stale => ⟨fun first => ?_, fun again had done => ?_⟩, fun typ known new => ⟨fun resetting => ?_, fun refused stands => ?_, fun a n wr reach ok => ⟨fun awake waits => ?_, ?_⟩⟩⟩, ?_⟩
  · exact exec_request_accepts request typ (State.accept_orphan orphan)
  · refine (exec_request_accepts request typ (State.accept_stale known stale)).trans ?_
    rw [first]
    rfl
  · refine (exec_request_accepts request typ (State.accept_stale known stale)).trans ?_
    rw [again, had, done]
    rfl
  · exact exec_request_accepts request typ (State.accept_resetting known new resetting)
  · exact exec_request_accepts request typ (State.accept_refused known new refused stands)
  · exact exec_request_accepts request typ (State.accept_waits reach known new ok awake waits)
  · intro L w place stopped gated k ps
    have accepts := State.accept_asleep reach known new ok place stopped gated
    exact ⟨fun room => exec_request_accepts request typ (accepts.trans (if_pos room)),
      fun full => exec_request_accepts request typ (accepts.trans (if_neg (Nat.not_le.2 full)))⟩
  · intro a n wr reach known new ok awake free lands
    have relays := exec_meshRelay_serves reach known new ok awake free
    refine ⟨fun typ readable => ?_, fun typ => ?_, fun typ => ⟨relays typ, ?_⟩, fun x q typ carried => ?_⟩
    · exact ⟨_, exec_meshReadReq_serves reach known new ok awake free typ readable,
        ((s.taken_arrives p).onMesh.sendPacket _).answer _ _ _, rfl⟩
    · refine ⟨_, exec_meshWrite_serves reach known new ok awake free typ, ?_⟩
      obtain rfl := State.reach_write reach typ
      exact (data.lands (taken.serveWrite_lands p a)).sameData (answered _)
    · exact ⟨_, relays typ, (data.lands (taken.writeBytes_lands a p.payload)).sameData (answered _)⟩
    · exact ⟨State.OnMesh.foldl (fun _ c h => h.addContribution c) _ (s.taken_arrives p).onMesh,
        exec_meshReduce_serves reach known new ok awake free typ carried⟩

end Sys2Proof.Machine

/-! SUPPORT. Answers and notices at their endpoint (04 R110, R113, R114, R116, 02 R66, 06 R164, 07 R194 to R201). -/

namespace Sys2Proof.Machine

/-! ### READ_DATA (04 R110, R113) -/

/-- The bytes that a piece of a GET brings into the core store. -/
def Xfer.pieceData (x : Xfer) (q : Piece) (data : List Byte) : List Byte :=
  if x.f.conv = 2 then unpackSix ((x.pieceLocal q).2 / 4) data else data

section
variable {s : State} {p : MeshPkt} {L : Nat} {x : Xfer} {q : Piece}

/-- The piece lands, and the GET has it no longer under way. -/
theorem State.serveData_lands (awaits : s.awaiting p = some (L, x, q)) (free : s.pinnedAt (x.pieceLocal q).1 (x.pieceLocal q).2 = false) :
    s.serveData p = ((s.writeBytes (x.pieceLocal q).1 (x.pieceData q p.payload)).modCore L fun c => c.mapXfers fun y =>
      if y.op = .get ∧ y.f.svc = p.assuredClass then y.without q else y, some (0x06, stOk)) := by
  unfold State.serveData
  simp only [awaits, free, Bool.false_eq_true, if_false]
  rfl

theorem exec_meshReadData_lands (typ : p.typ.toNat = 0x02) (new : s.stale p = false) (awaits : s.awaiting p = some (L, x, q))
    (free : s.pinnedAt (x.pieceLocal q).1 (x.pieceLocal q).2 = false) : exec (.meshReadData p) s =
      .next ((((s.taken p).writeBytes (x.pieceLocal q).1 (x.pieceData q p.payload)).modCore L fun c => c.mapXfers fun y =>
        if y.op = .get ∧ y.f.svc = p.assuredClass then y.without q else y).answer p 0x06 stOk) := by
  have h := s.taken_arrives p
  have accepts : s.acceptData p = (s.taken p).serveData p := by
    unfold State.acceptData
    dsimp only
    rw [s.arrived_stale, new]
    rfl
  refine congrArg Host.Outcome.next ((State.whenType_same typ _).trans ?_)
  rw [accepts, State.serveData_lands (h.awaiting.trans awaits) ((h.pinnedAt _ _).trans free)]
  rfl

end

/-! ### ACK and STATUS at the sender (04 R113, R116, 07 R194, R195, R200, R201) -/

section
variable {s : State} {p q : MeshPkt}

/-- One packet that waited leaves, where the replay space reaches (07 R194). -/
def State.leaveQueue (src : W16) (t : State) (q : MeshPkt) : State :=
  if t.replayRoom q && (t.mesh.queued.find? fun w => w.src == src) == some q then
    ({ t with mesh := { t.mesh with queued := t.mesh.queued.filter fun w => !w.same q, sent := t.mesh.sent ++ [q] } } : State).inject q
  else t

theorem State.sendQueued_steps (s : State) (src : W16) :
    s.sendQueued src = (s.mesh.queued.filter fun w => w.src == src).foldl (State.leaveQueue src) s := rfl

theorem State.leaveQueue_sent {src : W16} {t : State} {r : MeshPkt} (sent : r ∈ (t.leaveQueue src q).mesh.sent) :
    r ∈ t.mesh.sent ∨ r = q := by
  unfold State.leaveQueue at sent
  split at sent
  · rw [State.inject_mesh Mesh.sent (fun _ _ => rfl)] at sent
    exact (List.mem_append.1 sent).imp_right List.mem_singleton.1
  · exact .inl sent

/-- What waited for the sender's replay space leaves: each packet sent was sent before or waited. -/
theorem State.sendQueued_sent (s : State) (src : W16) : ∀ r ∈ (s.sendQueued src).mesh.sent, r ∈ s.mesh.sent ∨ r ∈ s.mesh.queued := by
  have steps : ∀ (l : List MeshPkt) (t : State), ∀ r ∈ (l.foldl (State.leaveQueue src) t).mesh.sent, r ∈ t.mesh.sent ∨ r ∈ l := by
    intro l
    induction l with
    | nil => exact fun _ _ sent => .inl sent
    | cons q l ih =>
      intro t r sent
      obtain before | later := ih _ r sent
      · exact (State.leaveQueue_sent before).imp_right fun same => List.mem_cons.2 (.inl same)
      · exact .inr (List.mem_cons_of_mem q later)
  rw [s.sendQueued_steps]
  exact fun r sent => (steps _ s r sent).imp_right List.mem_of_mem_filter

/-- A packet that does not wait is gone from its sender's store once it is acknowledged. -/
theorem State.acknowledged_ends (s : State) (kept : q ∉ s.mesh.queued) :
    q ∉ (s.acknowledged q.src q.dest q.assuredClass q.seq.toNat).mesh.sent := by
  intro sent
  obtain still | waited := State.sendQueued_sent _ _ q sent
  · simp at still
  · exact kept waited

/-- An acknowledgement ends the packet that it names, and the piece that the packet carried. -/
theorem State.settleAck_ends (kept : q ∉ s.mesh.queued) {L : Nat} (sender : coreOfEndpoint q.src = some L) :
    let t := s.settleAck q
    q ∉ t.mesh.sent ∧ t.mem = s.mem ∧ t.cores = (s.modCore L fun c => c.mapXfers fun x =>
      if x.op ≠ .get ∧ x.f.svc = q.assuredClass then
        { x with pieces := x.pieces.filter fun r => r.via != some (q.dest, q.seq) } else x).cores := by
  have mesh := (State.OnMesh.refl s).acknowledged q.src q.dest q.assuredClass q.seq.toNat
  have ends := s.acknowledged_ends kept
  unfold State.settleAck
  rw [sender]
  exact ⟨ends, mesh.mem, State.modCore_cores_congr mesh.cores L fun _ => rfl⟩

/-- A transfer that meets an error takes the status and has no piece left. -/
theorem State.failXfer_ends {L : Nat} {x : Xfer} {k : Piece} (sender : coreOfEndpoint q.src = some L) (carried : s.carried q = some (x, k))
    (st : W16) : (s.failXfer q st).mem = s.mem ∧ (s.failXfer q st).cores = (s.modCore L fun c => c.mapXfers fun y =>
      if (y.pieceOf q).isSome then { y with pieces := [], status := st } else y).cores := by
  have mesh := fun f => ((State.OnMesh.refl s).acknowledged q.src q.dest q.assuredClass q.seq.toNat).dropPackets f
  have queued := fun u : State => (State.OnMesh.refl u).sendQueued q.src
  unfold State.failXfer
  rw [sender, carried]
  exact ⟨(queued _).mem.trans ((State.modCore_mem _ _ _).trans (mesh _).mem),
    (queued _).cores.trans (State.modCore_cores_congr (mesh _).cores L fun _ => rfl)⟩

theorem exec_meshAck_names (typ : p.typ.toNat = 0x06) (names : s.answered p = some q) :
    exec (.meshAck p) s = .next ((s.arrived p).settleAck q) := by
  refine congrArg Host.Outcome.next ((State.whenType_same typ _).trans ?_)
  rw [names]

theorem exec_meshAck_unknown (typ : p.typ.toNat = 0x06) (unknown : s.answered p = none) : exec (.meshAck p) s = .next (s.arrived p) := by
  refine congrArg Host.Outcome.next ((State.whenType_same typ _).trans ?_)
  rw [unknown]

theorem exec_meshStatus_names (typ : p.typ.toNat = 0x07) (names : s.answered p = some q) :
    exec (.meshStatus p) s = .next ((s.arrived p).settleStatus q p.status) := by
  refine congrArg Host.Outcome.next ((State.whenType_same typ _).trans ?_)
  rw [names]

theorem exec_meshStatus_unknown (typ : p.typ.toNat = 0x07) (unknown : s.answered p = none) :
    exec (.meshStatus p) s = .next (s.arrived p) := by
  refine congrArg Host.Outcome.next ((State.whenType_same typ _).trans ?_)
  rw [unknown]

/-- Busy: the packet is listed, to go again after 1 us (07 R201). -/
theorem State.settleStatus_busy (s : State) (q : MeshPkt) : s.settleStatus q stOk = { s with mesh := { s.mesh with
    busy := s.mesh.busy.filter (· != (q.src, q.dest, q.seq, q.assuredClass)) ++ [(q.src, q.dest, q.seq, q.assuredClass)] } } := by
  unfold State.settleStatus
  exact if_pos rfl

/-- A resetting destination: an assured packet is listed, to go again after 5 us (07 R200). -/
theorem State.settleStatus_resetting (assured : q.assuredClass = true) : s.settleStatus q stResetting = { s with mesh := { s.mesh with
    retry := s.mesh.retry.filter (· != (q.src, q.dest, q.seq)) ++ [(q.src, q.dest, q.seq)] } } := by
  have other : stResetting ≠ stOk := by decide
  unfold State.settleStatus
  exact (if_neg other).trans (if_pos ⟨rfl, assured⟩)

theorem State.settleStatus_fails {st : W16} (refused : st ≠ stOk) (bulk : st = stResetting → q.assuredClass = false) :
    s.settleStatus q st = s.failXfer q st :=
  (if_neg refused).trans (if_neg fun ⟨resetting, assured⟩ => Bool.false_ne_true ((bulk resetting).symm.trans assured))

end

/-! ### Notices that are taken once (04 R114, 02 R66, 06 R164, 07 R194, R195) -/

section
variable {s : State} {p : MeshPkt} {f : State → State}

/-- A notice that is new is taken, and acknowledged. -/
theorem State.takeOnce_new (new : s.stale p = false) : s.takeOnce p f = (f (s.taken p)).answer p 0x06 stOk := by
  unfold State.takeOnce
  dsimp only
  rw [s.arrived_stale, new]
  rfl

theorem State.takeOnce_stale (stale : s.stale p = true) :
    s.takeOnce p f = if p.resent && s.hadBefore p then (s.arrived p).answer p 0x06 stOk else s.arrived p := by
  unfold State.takeOnce
  dsimp only
  rw [s.arrived_stale, stale, s.arrived_hadBefore]
  rfl

end

/-- The commands by which notices arrive, with their TYPE. -/
def noticeCommands (p : MeshPkt) : List (Instr × Nat) :=
  [(.meshToken p, 0x08), (.meshCredit p, 0x09), (.parityDelta p, 0x0A), (.meshControl p, 0x0B)]

/-- Each notice has an effect that its endpoint lets happen once. -/
theorem exec_notice {p : MeshPkt} {c : Instr × Nat} (notice : c ∈ noticeCommands p) :
    ∃ f : State → State, ∀ s, exec c.1 s = .next (s.whenType p c.2 fun t => t.takeOnce p f) := by
  simp only [noticeCommands, List.mem_cons, List.not_mem_nil, or_false] at notice
  obtain rfl | rfl | rfl | rfl := notice
  · exact ⟨_, fun _ => rfl⟩
  · exact ⟨_, fun _ => rfl⟩
  · exact ⟨_, fun _ => rfl⟩
  · exact ⟨_, fun _ => rfl⟩

/-- What a TOKEN does at its core (04 R114). -/
def State.takeToken (s : State) (p : MeshPkt) (L : Nat) : State :=
  if (s.sentPacket p.src p.dest true p.seq.toNat).isSome then
    s.modCore L fun c => c.startSignal (p.payloadNat 0 1 % 32) (p.payloadNat 2 2)
  else s

theorem State.takeToken_mem (s : State) (p : MeshPkt) (L : Nat) : (s.takeToken p L).mem = s.mem := by
  unfold State.takeToken
  split
  · rfl
  · rfl

/-- A TOKEN that its sender still keeps signals; one that was settled with its turn's begin does not (log 102). -/
theorem State.takeToken_under {s : State} {p : MeshPkt} (under : (s.sentPacket p.src p.dest true p.seq.toNat).isSome = true) (L : Nat) :
    s.takeToken p L = s.modCore L fun c => c.startSignal (p.payloadNat 0 1 % 32) (p.payloadNat 2 2) := if_pos under

theorem State.takeToken_settled {s : State} {p : MeshPkt} (settled : s.sentPacket p.src p.dest true p.seq.toNat = none) (L : Nat) :
    s.takeToken p L = s := if_neg (by simp [settled])

/-- What a CREDIT from core d's inbox does: kind 0 returns a credit, any other kind none (02 R66, R67). -/
def State.takeCreditOf (s : State) (p : MeshPkt) (d : Nat) : State :=
  if p.payloadNat 0 1 = 0 then s.returnCredit d (p.payloadNat 1 1 % 8) else s

section
variable {s : State} {p : MeshPkt}

theorem exec_meshToken_new (typ : p.typ.toNat = 0x08) (new : s.stale p = false) {L : Nat} (reader : coreOfEndpoint p.dest = some L) :
    exec (.meshToken p) s = .next (((s.taken p).takeToken p L).answer p 0x06 stOk) := by
  refine congrArg Host.Outcome.next ((State.whenType_same typ _).trans ((State.takeOnce_new new).trans ?_))
  rw [reader]
  rfl

theorem exec_meshCredit_new (typ : p.typ.toNat = 0x09) (new : s.stale p = false) {d : Nat} (sender : coreOfEndpoint p.src = some d) :
    exec (.meshCredit p) s = .next (((s.taken p).takeCreditOf p d).answer p 0x06 stOk) := by
  refine congrArg Host.Outcome.next ((State.whenType_same typ _).trans ((State.takeOnce_new new).trans ?_))
  rw [sender]
  rfl

theorem exec_parityDelta_new (typ : p.typ.toNat = 0x0A) (new : s.stale p = false) :
    exec (.parityDelta p) s = .next (((s.taken p).applyDelta p).answer p 0x06 stOk) :=
  congrArg Host.Outcome.next ((State.whenType_same typ _).trans (State.takeOnce_new new))

theorem exec_meshControl_new (typ : p.typ.toNat = 0x0B) (new : s.stale p = false) :
    exec (.meshControl p) s = .next ((s.taken p).answer p 0x06 stOk) :=
  congrArg Host.Outcome.next ((State.whenType_same typ _).trans (State.takeOnce_new new))

end

/-! ### A credit comes back (02 R66, R67) -/

section
variable {s : State} {d i : Nat}

theorem State.returnCredit_open (isOpen : ((s.core d).inbox i).isOpen = true)
    (room : SMap.getD s.mesh.credits (d * 8 + i) 0 + ((s.core d).inbox i).occupied < ((s.core d).inbox i).slots.length) :
    s.returnCredit d i =
      { s with mesh := { s.mesh with credits := SMap.put s.mesh.credits (d * 8 + i) (SMap.getD s.mesh.credits (d * 8 + i) 0 + 1) } } :=
  if_pos (by rw [isOpen, decide_eq_true room]; rfl)

theorem State.returnCredit_none (none : ((s.core d).inbox i).isOpen = false ∨
    ((s.core d).inbox i).slots.length ≤ SMap.getD s.mesh.credits (d * 8 + i) 0 + ((s.core d).inbox i).occupied) :
    s.returnCredit d i = s := by
  refine if_neg fun returns => ?_
  obtain ⟨isOpen, room⟩ := Bool.and_eq_true_iff.1 returns
  obtain closed | full := none
  · exact Bool.false_ne_true (closed.symm.trans isOpen)
  · exact Nat.not_lt.2 full (of_decide_eq_true room)

theorem State.returnCredit_onMesh (s : State) (d i : Nat) : s.OnMesh (s.returnCredit d i) := by
  unfold State.returnCredit
  dsimp only
  split
  · rfl
  · exact State.OnMesh.refl s

variable {p : MeshPkt}

theorem State.takeCreditOf_onMesh (s : State) (p : MeshPkt) (d : Nat) : s.OnMesh (s.takeCreditOf p d) := by
  unfold State.takeCreditOf
  split
  · exact s.returnCredit_onMesh d _
  · exact State.OnMesh.refl s

/-- A credit comes back to an open inbox with a slot for it. -/
theorem State.takeCreditOf_returns (index : p.payloadNat 1 1 % 8 = i) (returns : p.payloadNat 0 1 = 0)
    (isOpen : ((s.core d).inbox i).isOpen = true)
    (room : SMap.getD s.mesh.credits (d * 8 + i) 0 + ((s.core d).inbox i).occupied < ((s.core d).inbox i).slots.length) :
    (s.takeCreditOf p d).mesh.credits = SMap.put s.mesh.credits (d * 8 + i) (SMap.getD s.mesh.credits (d * 8 + i) 0 + 1) := by
  unfold State.takeCreditOf
  rw [if_pos returns, index, State.returnCredit_open isOpen room]

theorem State.takeCreditOf_none (index : p.payloadNat 1 1 % 8 = i) (none : p.payloadNat 0 1 ≠ 0 ∨ ((s.core d).inbox i).isOpen = false ∨
    ((s.core d).inbox i).slots.length ≤ SMap.getD s.mesh.credits (d * 8 + i) 0 + ((s.core d).inbox i).occupied) :
    s.takeCreditOf p d = s := by
  unfold State.takeCreditOf
  split
  next returns =>
    rw [index]
    exact State.returnCredit_none (none.resolve_left (not_not.2 returns))
  next => rfl

end

/-! ### A granule's delta (06 R164) -/

/-- The delta of one parity word that a granule's payload brings. -/
def deltaWord (p : MeshPkt) (stripe k : Nat) : Nat × W64 := (stripe * 32 + k, leWord ((p.payload.drop (8 * k)).take 8))

/-- One delta is applied: it travels no longer, and where its parity is in reach its word takes it. -/
def State.applyWord (gone : Bool) (s : State) (d : Nat × W64) : State :=
  { s with hbm := { s.hbm with
    deltas := eraseDelta s.hbm.deltas d
    parity := if gone then s.hbm.parity else SMap.set s.hbm.parity d.1 (SMap.getD s.hbm.parity d.1 0 ^^^ d.2) 0 } }

theorem State.applyDelta_words (s : State) (p : MeshPkt) :
    let pl := s.granulePlace (p.address / 256 * 256)
    s.applyDelta p = (((List.range 32).map (deltaWord p pl.stripe)).filter fun d => d.2 != 0).foldl
      (State.applyWord (s.gone pl.parityStack pl.ch)) s := rfl

theorem State.applyWord_sameData (gone : Bool) (s : State) (d : Nat × W64) : s.SameData (s.applyWord gone d) := ⟨rfl, rfl⟩

theorem State.applyDelta_sameData (s : State) (p : MeshPkt) : s.SameData (s.applyDelta p) := by
  rw [s.applyDelta_words]
  exact State.SameData.foldl (State.applyWord_sameData _) _ s

/-- Parity that is out of reach takes no delta (06 R166, R167). -/
theorem State.applyDelta_gone {s : State} {p : MeshPkt}
    (gone : s.gone (s.granulePlace (p.address / 256 * 256)).parityStack (s.granulePlace (p.address / 256 * 256)).ch = true) :
    (s.applyDelta p).hbm.parity = s.hbm.parity := by
  have word : ∀ (t : State) d, (t.applyWord true d).hbm.parity = t.hbm.parity := fun _ _ => rfl
  rw [s.applyDelta_words, gone]
  exact foldl_keeps (fun t : State => t.hbm.parity) word _ s

/-- A parity word takes a delta that names it. -/
def takeDelta (key : Nat) (w : W64) (d : Nat × W64) : W64 := if d.1 = key then w ^^^ d.2 else w

theorem State.applyWords_parity (ds : List (Nat × W64)) (s : State) (key : Nat) :
    SMap.getD (ds.foldl (State.applyWord false) s).hbm.parity key 0 = ds.foldl (takeDelta key) (SMap.getD s.hbm.parity key 0) := by
  induction ds generalizing s with
  | nil => rfl
  | cons d ds ih =>
    have word : SMap.getD (s.applyWord false d).hbm.parity key 0 =
        if key = d.1 then SMap.getD s.hbm.parity d.1 0 ^^^ d.2 else SMap.getD s.hbm.parity key 0 := SMap.getD_set _ _ _ _ _
    rw [List.foldl_cons, List.foldl_cons, ih, word, takeDelta]
    by_cases named : d.1 = key
    · rw [if_pos named, if_pos named.symm, named]
    · rw [if_neg named, if_neg (Ne.symm named)]

/-- A delta of zero changes no word. -/
theorem takeDelta_nonzero (ds : List (Nat × W64)) (key : Nat) (w : W64) :
    (ds.filter fun d => d.2 != 0).foldl (takeDelta key) w = ds.foldl (takeDelta key) w := by
  have step : ∀ w d, (if (d.2 != 0) = true then takeDelta key w d else w) = takeDelta key w d := by
    intro w d
    by_cases zero : d.2 = 0
    · simp [takeDelta, zero]
    · rw [if_pos (bne_iff_ne.2 zero)]
  simp only [List.foldl_filter, step]

/-- Of a granule's deltas, a parity word takes the one at its place in the stripe. -/
theorem takeDelta_granule (p : MeshPkt) (stripe key : Nat) (w : W64) (n : Nat) :
    ((List.range n).map (deltaWord p stripe)).foldl (takeDelta key) w =
      w ^^^ (if stripe * 32 ≤ key ∧ key < stripe * 32 + n then leWord ((p.payload.drop (8 * (key - stripe * 32))).take 8) else 0) := by
  induction n with
  | zero => simp [show ¬ (stripe * 32 ≤ key ∧ key < stripe * 32) by omega]
  | succ n ih =>
    rw [List.range_succ, List.map_append, List.foldl_append, ih]
    change takeDelta key _ (deltaWord p stripe n) = _
    unfold takeDelta deltaWord
    by_cases last : stripe * 32 + n = key
    · subst last
      simp
    · have inside : (stripe * 32 ≤ key ∧ key < stripe * 32 + (n + 1)) ↔ (stripe * 32 ≤ key ∧ key < stripe * 32 + n) := by omega
      simp only [last, inside, if_false]

theorem State.applyDelta_parity {s : State} {p : MeshPkt}
    (there : s.gone (s.granulePlace (p.address / 256 * 256)).parityStack (s.granulePlace (p.address / 256 * 256)).ch = false) (key : Nat) :
    let stripe := (s.granulePlace (p.address / 256 * 256)).stripe
    SMap.getD (s.applyDelta p).hbm.parity key 0 = SMap.getD s.hbm.parity key 0 ^^^
      (if stripe * 32 ≤ key ∧ key < stripe * 32 + 32 then leWord ((p.payload.drop (8 * (key - stripe * 32))).take 8) else 0) := by
  rw [s.applyDelta_words, there]
  exact (State.applyWords_parity _ s key).trans ((takeDelta_nonzero _ _ _).trans (takeDelta_granule _ _ _ _ _))

/-- Settles O31: answers by what settles the packet that they name, each notice by what its endpoint takes once. -/
theorem meshAnswersAct : Obligations.MeshAnswersAct := by
  intro s p here taken
  have arrived := s.arrived_arrives p
  have received := s.taken_arrives p
  have data : s.SameData (s.taken p) := received.onMesh.sameData
  have answered : ∀ t : State, t.OnMesh (t.answer p 0x06 stOk) := fun t => (State.OnMesh.refl t).answer p 0x06 stOk
  refine ⟨?_, fun typ => ⟨exec_meshAck_unknown typ, ?_⟩, fun typ => ⟨exec_meshStatus_unknown typ, ?_⟩,
    fun new => ⟨?_, ?_, ?_, ?_⟩, ?_⟩
  · intro typ new L x q awaits free bytes a
    have lands := data.lands ((s.taken p).writeBytes_lands a bytes)
    exact ⟨_, exec_meshReadData_lands typ new awaits free, fun k => ((answered _).readByte k).trans (lands.2 k),
      (answered _).cores.trans (State.modCore_cores_congr lands.1 L fun _ => rfl)⟩
  · intro q L names kept sender
    have waits : here.mesh.queued = s.mesh.queued := arrived.reads (fun t => t.mesh.queued) fun _ _ => rfl
    obtain ⟨ends, mem, cores⟩ := State.settleAck_ends (s := here) (waits ▸ kept) sender
    exact ⟨_, exec_meshAck_names typ names, ends, mem.trans arrived.onMesh.mem,
      cores.trans (State.modCore_cores_congr arrived.onMesh.cores L fun _ => rfl)⟩
  · intro q names busy key
    have settles := exec_meshStatus_names typ names
    refine ⟨fun status => ?_, fun status assured => ?_, fun L x k refused bulk sender carried => ?_⟩
    · rw [settles, status, State.settleStatus_busy, arrived.reads (fun t => t.mesh.busy) fun _ _ => rfl]
    · rw [settles, status, State.settleStatus_resetting assured, arrived.reads (fun t => t.mesh.retry) fun _ _ => rfl]
    · obtain ⟨mem, cores⟩ := State.failXfer_ends (s := here) sender (arrived.carried.trans carried) p.status
      rw [State.settleStatus_fails refused bulk] at settles
      exact ⟨_, settles, mem.trans arrived.onMesh.mem, cores.trans (State.modCore_cores_congr arrived.onMesh.cores L fun _ => rfl)⟩
  · intro typ L reader
    have sent := received.reads (State.sentPacket · p.src p.dest true p.seq.toNat) fun _ _ => rfl
    refine ⟨_, exec_meshToken_new typ new reader, (answered _).mem.trans (((s.taken p).takeToken_mem p L).trans data.1),
      fun under => (answered _).cores.trans ?_, fun settled => (answered _).cores.trans ?_⟩
    · rw [State.takeToken_under (by rw [sent]; exact under)]
      exact State.modCore_cores_congr data.2 L fun _ => rfl
    · rw [State.takeToken_settled (sent.trans settled)]
      exact data.2
  · intro typ d sender i key n b
    have credits : (s.taken p).mesh.credits = s.mesh.credits := received.reads (fun t => t.mesh.credits) fun _ _ => rfl
    have inbox : ((s.taken p).core d).inbox i = b := congrArg (Core.inbox · i) (received.reads (State.core · d) fun _ _ => rfl)
    have kept : ∀ t : State, (t.answer p 0x06 stOk).mesh.credits = t.mesh.credits :=
      fun t => State.answer_mesh Mesh.credits (fun _ _ => rfl) t p 0x06 stOk
    refine ⟨_, exec_meshCredit_new typ new sender, (received.onMesh.trans (State.takeCreditOf_onMesh _ _ _)).trans (answered _),
      fun returns isOpen room => ?_, fun none => ?_⟩
    · rw [kept, State.takeCreditOf_returns rfl returns (by rw [inbox]; exact isOpen) (by rw [inbox, credits]; exact room), credits]
    · rw [kept, State.takeCreditOf_none rfl (by rw [inbox, credits]; exact none), credits]
  · intro typ pl
    obtain ⟨mem, cores⟩ := (s.taken p).applyDelta_sameData p
    have place : (s.taken p).granulePlace (p.address / 256 * 256) = pl := received.reads (State.granulePlace · _) fun _ _ => rfl
    have reach : (s.taken p).gone pl.parityStack pl.ch = s.gone pl.parityStack pl.ch := received.reads (State.gone · _ _) fun _ _ => rfl
    have parity : (s.taken p).hbm.parity = s.hbm.parity := congrArg Hbm.parity received.onMesh.hbm
    refine ⟨_, exec_parityDelta_new typ new, (answered _).mem.trans (mem.trans data.1), (answered _).cores.trans (cores.trans data.2),
      fun gone => ?_, fun there key => ?_⟩
    · rw [(answered _).hbm, State.applyDelta_gone (by rw [place, reach, gone]), parity]
    · rw [(answered _).hbm, State.applyDelta_parity (by rw [place, reach, there]), parity, place]
  · exact fun typ => ⟨_, exec_meshControl_new typ new, received.onMesh.trans (answered _), rfl⟩
  · intro c notice
    obtain ⟨f, takes⟩ := exec_notice notice
    rw [takes]
    refine ⟨fun other => congrArg _ (State.whenType_other other _), fun same stale => ?_⟩
    rw [State.whenType_same same, State.takeOnce_stale stale]
    refine ⟨fun first => ?_, fun again had => ?_⟩
    · rw [first]
      rfl
    · rw [again, had]
      rfl

end Sys2Proof.Machine

/-! SUPPORT. Links and router halves (07 R184, R190, R196, R197): replays, wire tests, halves that leave service, detours. -/

namespace Sys2Proof.Machine

/-! ### A port set after an update of another (07 R203) -/

theorem State.portSet_modPort_key (s : State) (n d m e : Nat) (f : PortSet → PortSet) :
    (s.modPort n d f).portSet m e = if m * 8 + e = n * 8 + d then f (s.portSet n d) else s.portSet m e := SMap.getD_put _ _ _ _ _

section
variable {P : PortSet → Prop} {f : PortSet → PortSet}

theorem State.modPort_holds (keeps : ∀ x, P x → P (f x)) {s : State} {m e : Nat} (holds : P (s.portSet m e)) (n d : Nat) :
    P ((s.modPort n d f).portSet m e) := by
  rw [State.portSet_modPort_key]
  split
  next same =>
    have one : s.portSet m e = s.portSet n d := by rw [State.portSet, same, State.portSet]
    exact keeps _ (one ▸ holds)
  next => exact holds

theorem State.modLink_holds (keeps : ∀ x, P x → P (f x)) {s : State} {m e : Nat} (holds : P (s.portSet m e)) (n d : Nat) :
    P ((s.modLink n d f).portSet m e) := by
  unfold State.modLink
  dsimp only
  split
  · exact State.modPort_holds keeps (State.modPort_holds keeps holds n d) _ _
  · exact State.modPort_holds keeps holds n d

/-- An update of a link sets both of its ends (R203). -/
theorem State.modLink_sets (sets : ∀ x, P (f x)) (s : State) (n d : Nat) : P ((s.modLink n d f).portSet n d) ∧
    ∀ m, peerNode n d = some m → P ((s.modLink n d f).portSet m (farPort d)) := by
  have near : P ((s.modPort n d f).portSet n d) := by
    rw [State.portSet_modPort]
    exact sets _
  unfold State.modLink
  dsimp only
  split
  next m far =>
    refine ⟨State.modPort_holds (fun x _ => sets x) near _ _, fun k peer => ?_⟩
    obtain rfl : m = k := Option.some.inj (far.symm.trans peer)
    rw [State.portSet_modPort]
    exact sets _
  next none => exact ⟨near, fun m peer => nomatch none.symm.trans peer⟩

end

theorem State.portSet_modLink {f : PortSet → PortSet} (once : ∀ x, f (f x) = f x) (s : State) (n d : Nat) :
    (s.modLink n d f).portSet n d = f (s.portSet n d) := by
  have near := s.portSet_modPort n d f
  unfold State.modLink
  dsimp only
  split
  · exact State.modPort_holds (P := fun x => x = f (s.portSet n d)) (fun x same => by rw [same, once]) near _ _
  · exact near

theorem State.OnMesh.modLink {s t : State} (h : s.OnMesh t) (n d : Nat) (f : PortSet → PortSet) : s.OnMesh (t.modLink n d f) := by
  unfold State.modLink
  dsimp only
  split
  · exact (h.modPort _ _ _).modPort _ _ _
  · exact h.modPort _ _ _

theorem State.modLink_mesh (s : State) (n d : Nat) (f : PortSet → PortSet) : (s.modLink n d f).mesh = s.mesh := by
  unfold State.modLink
  dsimp only
  split
  · rfl
  · rfl

/-! ### The two halves of a port set (07 R203, R204) -/

section
variable (x : PortSet) (h : Bool) (v : BitVec 2) (l : List Nat) (c : Option Nat) (g w : Nat)

@[simp] theorem PortSet.half_setHalf : (x.setHalf h v).half h = v := by cases h <;> rfl
@[simp] theorem PortSet.setHalf_setHalf : (x.setHalf h v).setHalf h v = x.setHalf h v := by cases h <;> rfl
@[simp] theorem PortSet.half_setReplays : (x.setReplays h l).half h = x.half h := by cases h <;> rfl
@[simp] theorem PortSet.half_setClean : (x.setClean h c).half h = x.half h := by cases h <;> rfl
@[simp] theorem PortSet.half_spare : (x.spare h g w).half h = x.half h := by cases h <;> rfl
@[simp] theorem PortSet.half_useSpare : (x.useSpare h g).half h = x.half h := by cases h <;> rfl
@[simp] theorem PortSet.half_failGroup : (x.failGroup h g).half h = x.half h := by cases h <;> rfl
@[simp] theorem PortSet.spared_setHalf : (x.setHalf h v).spared h = x.spared h := by cases h <;> rfl
@[simp] theorem PortSet.spared_setReplays : (x.setReplays h l).spared h = x.spared h := by cases h <;> rfl
@[simp] theorem PortSet.spared_setClean : (x.setClean h c).spared h = x.spared h := by cases h <;> rfl
@[simp] theorem PortSet.spared_spare : (x.spare h g w).spared h = x.spared h ||| BitVec.ofNat 32 (2 ^ g) := by cases h <;> rfl
@[simp] theorem PortSet.usedSpare_setHalf : (x.setHalf h v).usedSpare h = x.usedSpare h := by cases h <;> rfl
@[simp] theorem PortSet.usedSpare_setReplays : (x.setReplays h l).usedSpare h = x.usedSpare h := by cases h <;> rfl
@[simp] theorem PortSet.usedSpare_setClean : (x.setClean h c).usedSpare h = x.usedSpare h := by cases h <;> rfl
@[simp] theorem PortSet.usedSpare_useSpare : (x.useSpare h g).usedSpare h = x.usedSpare h ||| BitVec.ofNat 32 (2 ^ g) := by cases h <;> rfl
@[simp] theorem PortSet.steered_setHalf : (x.setHalf h v).steered h = x.steered h := by cases h <;> rfl
@[simp] theorem PortSet.steered_setReplays : (x.setReplays h l).steered h = x.steered h := by cases h <;> rfl
@[simp] theorem PortSet.steered_setClean : (x.setClean h c).steered h = x.steered h := by cases h <;> rfl
@[simp] theorem PortSet.steered_spare : (x.spare h g w).steered h = x.steered h ++ [g * 256 + w] := by cases h <;> rfl

end

/-! ### What an event leaves of the ports (07 R205, 10 R293) -/

/-- A port set without its counters of traffic. -/
def PortSet.wiring (x : PortSet) : PortSet := { x with bulk := 0, assured := 0 }

/-- The port sets of the state, without their counters of traffic. -/
def State.wiring (s : State) (n d : Nat) : PortSet := (s.portSet n d).wiring

theorem PortSet.half_wiring (x : PortSet) (h : Bool) : x.wiring.half h = x.half h := by cases h <;> rfl
theorem PortSet.spared_wiring (x : PortSet) (h : Bool) : x.wiring.spared h = x.spared h := by cases h <;> rfl
theorem PortSet.steered_wiring (x : PortSet) (h : Bool) : x.wiring.steered h = x.steered h := by cases h <;> rfl

section
variable (s : State)

theorem State.modPort_wiring {f : PortSet → PortSet} (counts : ∀ x, (f x).wiring = x.wiring) (n d : Nat) :
    (s.modPort n d f).wiring = s.wiring :=
  funext fun m => funext fun e => State.modPort_holds (P := fun x => x.wiring = s.wiring m e) (fun x same => (counts x).trans same) rfl n d

theorem State.countWay_wiring (assured : Bool) (n : Nat) (way : List (Nat × Nat × Bool × Nat)) :
    (s.countWay assured n way).wiring = s.wiring := by
  refine foldl_keeps State.wiring (fun t l => t.modPort_wiring (fun x => ?_) _ _) way s
  cases assured <;> rfl

theorem State.bulkHalf_links (src dst : Nat) : (s.bulkHalf src dst).1.links = s.links := by
  unfold State.bulkHalf
  split
  · rfl
  · dsimp only
    split
    · rfl
    · split <;> rfl

/-- Port sets are read from the links alone. -/
theorem State.wiring_of_links {t : State} (same : t.links = s.links) : t.wiring = s.wiring := by
  unfold State.wiring State.portSet
  rw [same]

theorem State.traffic_wiring (assured : Bool) (src dst bytes : Nat) : (s.traffic assured src dst bytes).wiring = s.wiring := by
  unfold State.traffic
  dsimp only
  split
  · rfl
  · split
    · rw [State.countWay_wiring, State.countWay_wiring]
    · rw [State.countWay_wiring]
      exact s.wiring_of_links (s.bulkHalf_links src dst)

theorem State.leaveEngine_wiring (src e : Nat) (p : StraitPkt) : (s.leaveEngine src e p).wiring = s.wiring := by
  unfold State.leaveEngine
  dsimp only
  split <;> exact s.traffic_wiring _ _ _ _

theorem State.leaveAny_wiring (src : Nat) (es : List Nat) (p : StraitPkt) : (s.leaveAny src es p).wiring = s.wiring := by
  unfold State.leaveAny
  split
  · rfl
  · exact s.leaveEngine_wiring _ _ _
  · exact State.leaveEngine_wiring _ _ _ _

theorem State.leaveStrait_wiring (src : Nat) (p : StraitPkt) : (s.leaveStrait src p).wiring = s.wiring := by
  unfold State.leaveStrait
  dsimp only
  split
  · rw [State.leaveAny_wiring, State.leaveAny_wiring]
  · exact s.leaveAny_wiring _ _ _

theorem State.mirrorOut_wiring (e : JEntry) : (s.mirrorOut e).wiring = s.wiring := by
  unfold State.mirrorOut
  split
  · rfl
  · exact State.leaveStrait_wiring _ _ _

theorem State.countTx_links (sid : W64) (bytes : Nat) : (s.countTx sid bytes).links = s.links := by
  unfold State.countTx
  split
  · rfl
  · dsimp only
    split <;> rfl

theorem State.journalPut_wiring (e : JEntry) : (s.journalPut e).wiring = s.wiring := by
  have entered : ∀ (j : Journal) (b : Bool) (e : JEntry),
      (if b then ({ s with journal := j } : State).mirrorOut e else { s with journal := j }).wiring = s.wiring := by
    intro j b e
    split
    · exact State.mirrorOut_wiring _ _
    · rfl
  unfold State.journalPut
  dsimp only
  split
  · exact (State.wiring_of_links _ (State.countTx_links _ _ _)).trans (entered _ _ _)
  · exact entered _ _ _

/-- An event counts traffic at the ports, where its entry is mirrored, and changes no more of them. -/
theorem State.event_wiring (code : W16) (p : Option Nat) (detail : List Byte) : (s.event code p detail).wiring = s.wiring := by
  unfold State.event State.journalWrite
  dsimp only
  split
  · exact State.journalPut_wiring _ _
  · rfl

theorem State.logRequest_wiring (u : W64) (source : Byte) (ev : W16) : (s.logRequest u source ev).wiring = s.wiring := by
  rw [State.logRequest_onLog]
  rfl

end

section
variable {s t : State} (same : t.wiring = s.wiring) (n d : Nat) (h : Bool)
include same

theorem State.half_of_wiring : (t.portSet n d).half h = (s.portSet n d).half h := by
  rw [← PortSet.half_wiring, ← PortSet.half_wiring (s.portSet n d)]
  exact congrArg (fun w => (w n d).half h) same

theorem State.spared_of_wiring : (t.portSet n d).spared h = (s.portSet n d).spared h := by
  rw [← PortSet.spared_wiring, ← PortSet.spared_wiring (s.portSet n d)]
  exact congrArg (fun w => (w n d).spared h) same

theorem State.steered_of_wiring : (t.portSet n d).steered h = (s.portSet n d).steered h := by
  rw [← PortSet.steered_wiring, ← PortSet.steered_wiring (s.portSet n d)]
  exact congrArg (fun w => (w n d).steered h) same

end

theorem State.event_sameData (s : State) (code : W16) (p : Option Nat) (detail : List Byte) : s.SameData (s.event code p detail) :=
  (s.event_notifies _ _ _).sameData

theorem State.logRequest_sameData (s : State) (u : W64) (source : Byte) (ev : W16) : s.SameData (s.logRequest u source ev) := by
  rw [State.logRequest_onLog]
  exact ⟨rfl, rfl⟩

/-! ### A half leaves service (07 R197) -/

/-- Both ends of a link show one of its halves out of service. -/
def State.LinkLost (t : State) (n d : Nat) (h : Bool) : Prop :=
  (t.portSet n d).half h = 2 ∧ ∀ m, peerNode n d = some m → (t.portSet m (farPort d)).half h = 2

theorem State.LinkLost.of_wiring {s t : State} {n d : Nat} {h : Bool} (lost : s.LinkLost n d h) (same : t.wiring = s.wiring) :
    t.LinkLost n d h :=
  ⟨(State.half_of_wiring same n d h).trans lost.1, fun m peer => (State.half_of_wiring same m (farPort d) h).trans (lost.2 m peer)⟩

/-- Both ends of a link take the loss of a half, before what is borrowed is judged. -/
def State.halfMarked (s : State) (n d : Nat) (h : Bool) : State := s.modLink n d fun x => { (x.setHalf h 2) with
  borrowed := x.borrowed || (x.half (!h) != 2 && !s.detoured h (n, d)) }

/-- What is borrowed is given back where the other half is lost too. -/
def State.borrowJudged (s : State) (n d : Nat) (h : Bool) : State :=
  if (s.portSet n d).half (!h) = 2 then s.modLink n d fun x => { x with borrowed := false } else s

theorem State.markHalfLost_steps (s : State) (n d : Nat) (h : Bool) : ∃ fs, s.markHalfLost n d h =
    { (s.halfMarked n d h).borrowJudged n d h with mesh := { ((s.halfMarked n d h).borrowJudged n d h).mesh with flights := fs } } :=
  ⟨_, rfl⟩

section
variable (s : State) (n d : Nat) (h : Bool)

theorem State.borrowJudged_onMesh : s.OnMesh (s.borrowJudged n d h) := by
  unfold State.borrowJudged
  split
  · exact (State.OnMesh.refl s).modLink _ _ _
  · exact State.OnMesh.refl s

theorem State.borrowJudged_mesh : (s.borrowJudged n d h).mesh = s.mesh := by
  unfold State.borrowJudged
  split
  · exact s.modLink_mesh _ _ _
  · rfl

theorem State.borrowJudged_half {m e : Nat} {k : Bool} {v : BitVec 2} (shows : (s.portSet m e).half k = v) :
    ((s.borrowJudged n d h).portSet m e).half k = v := by
  unfold State.borrowJudged
  split
  · refine State.modLink_holds (P := fun x => x.half k = v) (fun x same => ?_) shows n d
    cases k <;> exact same
  · exact shows

theorem State.markHalfLost_onMesh : s.OnMesh (s.markHalfLost n d h) := by
  obtain ⟨fs, steps⟩ := s.markHalfLost_steps n d h
  rw [steps]
  exact (((State.OnMesh.refl s).modLink _ _ _).trans (State.borrowJudged_onMesh _ n d h)).setMesh _

theorem State.markHalfLost_routersOut : (s.markHalfLost n d h).mesh.routersOut = s.mesh.routersOut := by
  obtain ⟨fs, steps⟩ := s.markHalfLost_steps n d h
  have kept : ((s.halfMarked n d h).borrowJudged n d h).mesh = s.mesh := (State.borrowJudged_mesh _ n d h).trans (s.modLink_mesh _ _ _)
  rw [steps, kept]

theorem State.markHalfLost_lost : (s.markHalfLost n d h).LinkLost n d h := by
  obtain ⟨fs, steps⟩ := s.markHalfLost_steps n d h
  have marked : (s.halfMarked n d h).LinkLost n d h :=
    State.modLink_sets (P := fun x => x.half h = 2) (fun x => by cases h <;> rfl) s n d
  rw [steps]
  exact ⟨State.borrowJudged_half _ n d h marked.1, fun m peer => State.borrowJudged_half _ n d h (marked.2 m peer)⟩

/-- A half that is out of service stays out. -/
theorem State.markHalfLost_keeps {m e : Nat} (lost : (s.portSet m e).half h = 2) : ((s.markHalfLost n d h).portSet m e).half h = 2 := by
  obtain ⟨fs, steps⟩ := s.markHalfLost_steps n d h
  rw [steps]
  refine State.borrowJudged_half _ n d h (State.modLink_holds (P := fun x => x.half h = 2) (fun x _ => ?_) lost n d)
  cases h <;> rfl

end

/-- The loss of a half that serves: both ends show it, and memory and cores stand. -/
theorem State.loseLinkHalf_lost {s : State} {n d : Nat} {h : Bool} (serves : (s.portSet n d).half h ≠ 2) (cause group : Nat) :
    s.SameData (s.loseLinkHalf n d h cause group) ∧ (s.loseLinkHalf n d h cause group).LinkLost n d h := by
  unfold State.loseLinkHalf
  rw [if_neg serves]
  exact ⟨((s.markHalfLost_onMesh n d h).sameData.trans (State.logRequest_sameData _ _ _ _)).trans (State.event_sameData _ _ _ _),
    ((s.markHalfLost_lost n d h).of_wiring (State.logRequest_wiring _ _ _ _)).of_wiring (State.event_wiring _ _ _ _)⟩

/-! ### Replays (07 R184, R196) -/

/-- The replays of the last 100 ms on a half's receive side, with one more now. -/
def State.replayTimes (s : State) (n d : Nat) (h : Bool) : List Nat :=
  (((s.portSet n d).replays h).filter fun t => decide (s.timeBase.toNat - t < 100000000)) ++ [s.timeBase.toNat]

/-- A replay is counted, and the far end sends again from its store. -/
def State.replayCounted (s : State) (n d : Nat) (h : Bool) (back : Nat) : State :=
  (s.modPort n d fun x => { (x.setReplays h (s.replayTimes n d h)) with retries := x.retries + 1 }).emit
    (.transferReplay (unitCode 0x05 n d (if h then 1 else 0)) (s.replayed n d h back))

/-- A test of the half's wires that found nothing lies less than 100 ms back, with sixteen replays since (R196). -/
def State.CleanTestFails (s : State) (n d : Nat) (h : Bool) : Prop :=
  ∃ t, (s.portSet n d).clean h = some t ∧ s.timeBase.toNat - t < 100000000 ∧ 16 ≤ (s.replayTimes n d h).length

section
variable {s : State} {n d : Nat} {h : Bool}

theorem State.replayCounted_port (back : Nat) : (s.replayCounted n d h back).portSet n d =
    { ((s.portSet n d).setReplays h (s.replayTimes n d h)) with retries := (s.portSet n d).retries + 1 } :=
  s.portSet_modPort n d fun x => { (x.setReplays h (s.replayTimes n d h)) with retries := x.retries + 1 }

theorem State.replayCounted_half (back : Nat) : ((s.replayCounted n d h back).portSet n d).half h = (s.portSet n d).half h := by
  rw [State.replayCounted_port]
  cases h <;> rfl

theorem State.replayCounted_recent (back now ns : Nat) : ((s.replayCounted n d h back).portSet n d).recent h now ns =
    ((s.replayTimes n d h).filter fun t => decide (now - t < ns)).length := by
  rw [State.replayCounted_port]
  cases h <;> rfl

theorem State.replayCounted_lost (serves : (s.portSet n d).half h ≠ 2) (back cause group : Nat) :
    s.SameData ((s.replayCounted n d h back).loseLinkHalf n d h cause group) ∧
    ((s.replayCounted n d h back).loseLinkHalf n d h cause group).LinkLost n d h := by
  obtain ⟨data, lost⟩ := State.loseLinkHalf_lost (s := s.replayCounted n d h back) (by rwa [State.replayCounted_half]) cause group
  exact ⟨State.SameData.trans ⟨rfl, rfl⟩ data, lost⟩

variable (back : Nat) (linked : peerNode n d ≠ none) (serves : (s.portSet n d).half h ≠ 2)
include linked serves

theorem linkCrcError_serves : linkCrcError n d h back s =
    if isSeam n d then
      match (s.portSet n d).clean h with
      | some t => if s.timeBase.toNat - t < 100000000 ∧ 16 ≤ (s.replayTimes n d h).length then
          (s.replayCounted n d h back).loseLinkHalf n d h 2 0xFF else s.replayCounted n d h back
      | none => s.replayCounted n d h back
    else if 64 ≤ ((s.replayCounted n d h back).portSet n d).recent h s.timeBase.toNat 1000000 then
      (s.replayCounted n d h back).loseLinkHalf n d h 3 0xFF
    else s.replayCounted n d h back := by
  have goes : ¬ ((peerNode n d).isNone ∨ (s.portSet n d).half h = 2) := not_or.2 ⟨by simp [linked], serves⟩
  exact (if_neg goes).trans rfl

theorem linkCrcError_seam_found (seam : isSeam n d = true) (found : s.CleanTestFails n d h) :
    linkCrcError n d h back s = (s.replayCounted n d h back).loseLinkHalf n d h 2 0xFF := by
  obtain ⟨t, clean, recent⟩ := found
  rw [linkCrcError_serves back linked serves, if_pos seam, clean]
  exact if_pos recent

theorem linkCrcError_seam_replays (seam : isSeam n d = true) (sound : ¬ s.CleanTestFails n d h) :
    linkCrcError n d h back s = s.replayCounted n d h back := by
  rw [linkCrcError_serves back linked serves, if_pos seam]
  split
  next t clean => exact if_neg fun recent => sound ⟨t, clean, recent⟩
  next => rfl

theorem linkCrcError_inner (inner : isSeam n d = false) : linkCrcError n d h back s =
    if 64 ≤ ((s.replayTimes n d h).filter fun t => decide (s.timeBase.toNat - t < 1000000)).length then
      (s.replayCounted n d h back).loseLinkHalf n d h 3 0xFF
    else s.replayCounted n d h back := by
  rw [linkCrcError_serves back linked serves, if_neg (ne_true_of_eq_false inner), State.replayCounted_recent]

end

/-! ### Wire tests (07 R196) -/

/-- A fold over a list in which one element alone does anything. -/
theorem foldl_only {σ β : Type} {f : σ → β → σ} {l : List β} {x : β} (hx : x ∈ l) (once : l.Nodup)
    (others : ∀ y ≠ x, ∀ t, f t y = t) (s : σ) : l.foldl f s = f s x := by
  obtain ⟨a, b, rfl⟩ := List.append_of_mem hx
  have apart := List.nodup_middle.1 once
  have stays : ∀ c : List β, (∀ y ∈ c, y ≠ x) → ∀ t, c.foldl f t = t := fun c differ t =>
    foldl_related (R := fun t u => u = t) (fun _ => rfl) (fun h k => k.trans h) (fun y hy t => others y (differ y hy) t) t
  have differ : ∀ y ∈ a ++ b, y ≠ x := fun y hy same => (List.nodup_cons.1 apart).1 (same ▸ hy)
  rw [List.foldl_append, List.foldl_cons, stays a fun y hy => differ y (List.mem_append_left b hy),
    stays b fun y hy => differ y (List.mem_append_right a hy)]

section
variable (x : PortSet) (h : Bool)

/-- A group without a failing wire. -/
theorem PortSet.finding_none {fs : List (Fin 32 × Fin 130)} {g : Nat} (none : ∀ f ∈ fs, f.1.val ≠ g) :
    x.finding h fs g = ([], false) := by
  have nothing : (fs.filter fun f => f.1.val == g) = [] :=
    List.filter_eq_nil_iff.2 fun f hf found => none f hf (beq_iff_eq.1 found)
  unfold PortSet.finding
  rw [nothing]
  rfl

theorem PortSet.finding_wire {g : Fin 32} {w : Fin 130} (wire : w.val < 129) (unsteered : g.val * 256 + w.val ∉ x.steered h) :
    x.finding h [(g, w)] g.val = ([w.val], false) := by
  simp [PortSet.finding, unsteered, Nat.ne_of_lt wire, Ne.symm (Nat.ne_of_lt wire)]

theorem PortSet.finding_spare (g : Fin 32) : x.finding h [(g, 129)] g.val = ([], true) := by
  simp [PortSet.finding]

theorem PortSet.finding_wires {g : Fin 32} {w v : Fin 130} (wire : w.val < 129) (wire' : v.val < 129)
    (unsteered : g.val * 256 + w.val ∉ x.steered h) (unsteered' : g.val * 256 + v.val ∉ x.steered h) :
    x.finding h [(g, w), (g, v)] g.val = ([w.val, v.val], false) := by
  simp [PortSet.finding, unsteered, unsteered', Nat.ne_of_lt wire, Nat.ne_of_lt wire', Ne.symm (Nat.ne_of_lt wire), Ne.symm (Nat.ne_of_lt wire')]

end

/-- A group that could not be repaired: the log takes its failing wires. -/
def State.groupFailed (s : State) (n d : Nat) (h : Bool) (g : Nat) (ws : List Nat) : State :=
  (ws.foldl (fun t w => t.logRequest (wireUnit n d h g w) 2 evHalfLost) s).modPort n d fun y => y.failGroup h g

/-- A group whose one failing wire its spare carries from now on, with the log's entry and the event. -/
def State.wireSpared (s : State) (n d : Nat) (h : Bool) (g w pause replays : Nat) : State :=
  ((s.modPort n d fun y => y.spare h g w).logRequest (wireUnit n d h g w) 2 evWireSpared).event evWireSpared none
    (unitBytes (wireUnit n d h g w) ++ leBytes 4 pause ++ leBytes 2 replays)

section
variable {s : State} {n d : Nat} {h : Bool} {g : Nat} {fs : List (Fin 32 × Fin 130)} (pause replays : Nat)

theorem State.testGroup_sound (finding : (s.portSet n d).finding h fs g = ([], false)) :
    s.testGroup n d h g fs pause replays = (s, none) := by
  unfold State.testGroup
  simp only [finding]
  split <;> rfl

theorem State.testGroup_spares {w : Nat} (finding : (s.portSet n d).finding h fs g = ([w], false))
    (unspared : ((s.portSet n d).spared h).getLsbD g = false) (unused : ((s.portSet n d).usedSpare h).getLsbD g = false) :
    s.testGroup n d h g fs pause replays = (s.wireSpared n d h g w pause replays, none) := by
  unfold State.testGroup
  simp only [finding, unspared, unused]
  rfl

theorem State.testGroup_useSpare (finding : (s.portSet n d).finding h fs g = ([], true))
    (unspared : ((s.portSet n d).spared h).getLsbD g = false) :
    s.testGroup n d h g fs pause replays = (s.modPort n d fun y => y.useSpare h g, none) := by
  unfold State.testGroup
  simp only [finding, unspared]
  rfl

/-- A second failing wire, the spare in use among the group's wires, ends the half's service with cause 0. -/
theorem State.testGroup_fails_spared {ws : List Nat} {b : Bool} (finding : (s.portSet n d).finding h fs g = (ws, b))
    (fails : (ws.isEmpty && !b) = false) (spared : ((s.portSet n d).spared h).getLsbD g = true) :
    s.testGroup n d h g fs pause replays = (s.groupFailed n d h g ws, some 0) := by
  unfold State.testGroup
  simp only [finding, spared, fails]
  rfl

theorem State.testGroup_fails_two {w v : Nat} {b : Bool} (finding : (s.portSet n d).finding h fs g = ([w, v], b)) :
    s.testGroup n d h g fs pause replays = (s.groupFailed n d h g [w, v], some 0) := by
  cases spared : ((s.portSet n d).spared h).getLsbD g with
  | true => exact State.testGroup_fails_spared pause replays finding rfl spared
  | false =>
    unfold State.testGroup
    simp only [finding, spared]
    rfl

theorem State.groupFailed_sameData (s : State) (n d : Nat) (h : Bool) (g : Nat) (ws : List Nat) : s.SameData (s.groupFailed n d h g ws) :=
  (State.SameData.foldl (fun t w => t.logRequest_sameData (wireUnit n d h g w) 2 evHalfLost) ws s).trans ⟨rfl, rfl⟩

theorem State.groupFailed_half (s : State) (n d : Nat) (h : Bool) (g : Nat) (ws : List Nat) :
    ((s.groupFailed n d h g ws).portSet n d).half h = (s.portSet n d).half h := by
  have logged : (ws.foldl (fun t w => t.logRequest (wireUnit n d h g w) 2 evHalfLost) s).wiring = s.wiring :=
    foldl_keeps State.wiring (fun t w => t.logRequest_wiring _ _ _) ws s
  rw [State.groupFailed, State.portSet_modPort, PortSet.half_failGroup]
  exact State.half_of_wiring logged n d h

end

/-- A test is over: both ends of the link show the half in service, and its replays count from here. -/
def State.testEnded (s : State) (n d : Nat) (h : Bool) (clean : Option Nat) : State :=
  (s.modLink n d fun y => y.setHalf h 0).modPort n d fun y => (y.setReplays h []).setClean h clean

theorem State.testEnded_sameData (s : State) (n d : Nat) (h : Bool) (clean : Option Nat) : s.SameData (s.testEnded n d h clean) :=
  (((State.OnMesh.refl s).modLink _ _ _).modPort _ _ _).sameData

theorem State.testEnded_port (s : State) (n d : Nat) (h : Bool) (clean : Option Nat) :
    (s.testEnded n d h clean).portSet n d = (((s.portSet n d).setHalf h 0).setReplays h []).setClean h clean := by
  rw [State.testEnded, State.portSet_modPort, State.portSet_modLink fun x => x.setHalf_setHalf h 0]

/-- One group after another is judged: the first that cannot be repaired gives the cause. -/
def State.testStep (n d : Nat) (h : Bool) (fs : List (Fin 32 × Fin 130)) (pause replays : Nat) (acc : State × Option (Nat × Nat)) (g : Nat) :
    State × Option (Nat × Nat) :=
  let t := acc.1.testGroup n d h g fs pause replays
  (t.1, acc.2.or (t.2.map fun c => (c, g)))

section
variable {s t : State} {n d : Nat} {h : Bool} {fs : List (Fin 32 × Fin 130)} {pause : Nat} (paused : (s.portSet n d).half h = 1)
include paused

theorem wireTestDone_steps {c : Option (Nat × Nat)} (judged : (List.range 32).foldl
      (State.testStep n d h fs pause ((s.portSet n d).recent h s.timeBase.toNat 1002000))
      (s.testEnded n d h (if fs.isEmpty then some s.timeBase.toNat else none), none) = (t, c)) :
    wireTestDone n d h fs pause s = c.elim t fun c => t.loseLinkHalf n d h c.1 c.2 := by
  unfold wireTestDone
  dsimp only
  rw [if_neg (not_not.2 paused)]
  generalize folded : List.foldl _ _ (List.range 32) = r
  obtain rfl : r = (t, c) := folded.symm.trans judged
  cases c <;> rfl

/-- A test whose findings lie in one group comes to what that group comes to. -/
theorem wireTestDone_group {g : Nat} (inside : g < 32) (only : ∀ f ∈ fs, f.1.val = g) {c : Option Nat}
    (tested : (s.testEnded n d h (if fs.isEmpty then some s.timeBase.toNat else none)).testGroup n d h g fs pause
      ((s.portSet n d).recent h s.timeBase.toNat 1002000) = (t, c)) :
    wireTestDone n d h fs pause s = c.elim t fun cause => t.loseLinkHalf n d h cause g := by
  have others : ∀ k ≠ g, ∀ u, State.testStep n d h fs pause ((s.portSet n d).recent h s.timeBase.toNat 1002000) u k = u := by
    intro k other u
    unfold State.testStep
    rw [State.testGroup_sound _ _ (PortSet.finding_none _ h fun f hf same => other (same.symm.trans (only f hf)))]
    exact Prod.ext rfl Option.or_none
  have judged := foldl_only (List.mem_range.2 inside) List.nodup_range others
    (s.testEnded n d h (if fs.isEmpty then some s.timeBase.toNat else none), none)
  rw [State.testStep, tested] at judged
  rw [wireTestDone_steps paused judged]
  cases c <;> rfl

/-- A test that finds nothing (R196). -/
theorem wireTestDone_clean : wireTestDone n d h [] pause s = s.testEnded n d h (some s.timeBase.toNat) :=
  wireTestDone_group paused (g := 0) (by decide) (by simp) (State.testGroup_sound _ _ (PortSet.finding_none _ h (by simp)))

variable {g : Fin 32} {w v : Fin 130}

/-- One failing wire of a group whose spare is unused is spared. -/
theorem wireTestDone_spares (wire : w.val < 129) (unspared : ((s.portSet n d).spared h).getLsbD g.val = false)
    (unused : ((s.portSet n d).usedSpare h).getLsbD g.val = false) (unsteered : g.val * 256 + w.val ∉ (s.portSet n d).steered h) :
    wireTestDone n d h [(g, w)] pause s = (s.testEnded n d h none).wireSpared n d h g.val w.val pause
      ((s.portSet n d).recent h s.timeBase.toNat 1002000) := by
  have port := s.testEnded_port n d h none
  exact wireTestDone_group paused g.isLt (by simp) (State.testGroup_spares _ _ (PortSet.finding_wire _ h wire (by simpa [port] using unsteered))
    (by simpa [port] using unspared) (by simpa [port] using unused))

/-- A failing spare that carries nothing counts as used. -/
theorem wireTestDone_usesSpare (unspared : ((s.portSet n d).spared h).getLsbD g.val = false) :
    wireTestDone n d h [(g, 129)] pause s = (s.testEnded n d h none).modPort n d fun y => y.useSpare h g.val := by
  have port := s.testEnded_port n d h none
  exact wireTestDone_group paused g.isLt (by simp) (State.testGroup_useSpare _ _ (PortSet.finding_spare _ h g) (by simpa [port] using unspared))

/-- A spare that fails while it carries a wire's signal ends the half's service. -/
theorem wireTestDone_spare_fails (spared : ((s.portSet n d).spared h).getLsbD g.val = true) : wireTestDone n d h [(g, 129)] pause s =
    ((s.testEnded n d h none).groupFailed n d h g.val []).loseLinkHalf n d h 0 g.val := by
  have port := s.testEnded_port n d h none
  exact wireTestDone_group paused g.isLt (by simp) (State.testGroup_fails_spared _ _ (PortSet.finding_spare _ h g) rfl
    (by simpa [port] using spared))

/-- Two failing wires of a group end it too. -/
theorem wireTestDone_two_fail (wire : w.val < 129) (wire' : v.val < 129) (unsteered : g.val * 256 + w.val ∉ (s.portSet n d).steered h)
    (unsteered' : g.val * 256 + v.val ∉ (s.portSet n d).steered h) : wireTestDone n d h [(g, w), (g, v)] pause s =
      ((s.testEnded n d h none).groupFailed n d h g.val [w.val, v.val]).loseLinkHalf n d h 0 g.val := by
  have port := s.testEnded_port n d h none
  exact wireTestDone_group paused g.isLt (by simp) (State.testGroup_fails_two _ _ (PortSet.finding_wires _ h wire wire'
    (by simpa [port] using unsteered) (by simpa [port] using unsteered')))

end

/-- A group that could not be repaired takes its half out of service. -/
theorem State.groupFailed_lost (s : State) (n d : Nat) (h : Bool) (clean : Option Nat) (g cause : Nat) (ws : List Nat) :
    let t := ((s.testEnded n d h clean).groupFailed n d h g ws).loseLinkHalf n d h cause g
    s.SameData t ∧ t.LinkLost n d h := by
  have serves : (((s.testEnded n d h clean).groupFailed n d h g ws).portSet n d).half h ≠ 2 := by
    rw [State.groupFailed_half, State.testEnded_port]
    simp
  obtain ⟨data, lost⟩ := State.loseLinkHalf_lost serves cause g
  exact ⟨((s.testEnded_sameData n d h clean).trans (State.groupFailed_sameData _ n d h g ws)).trans data, lost⟩

/-- A spared wire: the half serves, the group's spare is taken, and the group steers around the wire. -/
theorem State.wireSpared_port (s : State) (n d : Nat) (h : Bool) (g w pause replays : Nat) :
    let t := (s.wireSpared n d h g w pause replays).portSet n d
    t.half h = (s.portSet n d).half h ∧ t.spared h = (s.portSet n d).spared h ||| BitVec.ofNat 32 (2 ^ g) ∧
      t.steered h = (s.portSet n d).steered h ++ [g * 256 + w] := by
  have wiring : (s.wireSpared n d h g w pause replays).wiring = (s.modPort n d fun y => y.spare h g w).wiring :=
    (State.event_wiring _ _ _ _).trans (State.logRequest_wiring _ _ _ _)
  have port := s.portSet_modPort n d fun y => y.spare h g w
  refine ⟨(State.half_of_wiring wiring n d h).trans ?_, (State.spared_of_wiring wiring n d h).trans ?_,
    (State.steered_of_wiring wiring n d h).trans ?_⟩
  · rw [port, PortSet.half_spare]
  · rw [port, PortSet.spared_spare]
  · rw [port, PortSet.steered_spare]

theorem State.wireSpared_sameData (s : State) (n d : Nat) (h : Bool) (g w pause replays : Nat) :
    s.SameData (s.wireSpared n d h g w pause replays) :=
  have told := fun u : State => ((u.logRequest_sameData (wireUnit n d h g w) 2 evWireSpared).trans (State.event_sameData _ evWireSpared none
    (unitBytes (wireUnit n d h g w) ++ leBytes 4 pause ++ leBytes 2 replays)))
  State.SameData.trans (t := s.modPort n d fun y => y.spare h g w) ⟨rfl, rfl⟩ (told _)

theorem wireTest_pauses {s : State} {n d : Nat} {h : Bool} (linked : peerNode n d ≠ none) (seam : isSeam n d = true)
    (serves : (s.portSet n d).half h = 0) (errs : 16 ≤ (s.portSet n d).recent h s.timeBase.toNat 1000000) : wireTest n d h s =
      (s.modLink n d fun x => x.setHalf h 1).modPort n d fun x => { x with wireTests := x.wireTests + 1 } :=
  if_neg (by simp [linked, seam, serves, errs])

/-! ### A router half in error (07 R197) -/

/-- Each port of the node that has a link leaves service on the half. -/
theorem routerHalfError_lost {s : State} {n : Nat} {h : Bool} (serves : (n, h) ∉ s.mesh.routersOut) :
    (∀ k < 8, peerNode n k ≠ none → ((routerHalfError n h s).portSet n k).half h = 2) ∧
      (routerHalfError n h s).mesh.routersOut = s.mesh.routersOut ++ [(n, h)] := by
  let marked := ((List.range 8).filter fun d => (peerNode n d).isSome).foldl (fun t d => t.markHalfLost n d h) s
  have listed : marked.mesh.routersOut = s.mesh.routersOut :=
    foldl_keeps (fun t : State => t.mesh.routersOut) (fun t d => t.markHalfLost_routersOut n d h) _ s
  let left : State := { marked with mesh := { marked.mesh with routersOut := marked.mesh.routersOut ++ [(n, h)] } }
  obtain ⟨u, src, ev, code, p, detail, out⟩ : ∃ u src ev code p detail,
      routerHalfError n h s = (left.logRequest u src ev).event code p detail :=
    ⟨_, _, _, _, _, _, if_neg fun contained => serves (List.contains_iff_mem.1 contained)⟩
  have wiring : (routerHalfError n h s).wiring = marked.wiring := by
    rw [out, State.event_wiring, State.logRequest_wiring]
    rfl
  refine ⟨fun k inside linked => (State.half_of_wiring wiring n k h).trans ?_, ?_⟩
  · have port : k ∈ (List.range 8).filter fun d => (peerNode n d).isSome :=
      List.mem_filter.2 ⟨List.mem_range.2 inside, Option.isSome_iff_ne_none.2 linked⟩
    exact foldl_establishes (P := fun t : State => (t.portSet n k).half h = 2) port (fun t => (t.markHalfLost_lost n k h).1)
      (fun d _ _ t lost => t.markHalfLost_keeps n d h lost) s
  · rw [out, State.event_mesh, State.logRequest_onLog, ← listed]

/-! ### A detour (07 R190, R197) -/

theorem detourInstall_judged {s : State} {n d m : Nat} {h : Bool} (linked : peerNode n d = some m) (lost : (s.portSet n d).half h = 2)
    (new : (n, d, h) ∉ s.mesh.detours) :
    let u := { s with mesh := { s.mesh with detours := s.mesh.detours ++ [(n, d, h)] } }
    detourInstall n d h s = if noCycle 800 u.channelDeps then u.modLink n d fun x => { x with borrowed := false } else s :=
  if_neg (not_or.2 ⟨by simp [linked], not_or.2 ⟨not_not.2 lost, fun stands => new (List.contains_iff_mem.1 stands)⟩⟩)

/-- Settles O33: replays by what they count to, a test by what its one group comes to, losses by `State.loseLinkHalf_lost`. -/
theorem linksAreSparedAndLost : Obligations.LinksAreSparedAndLost := by
  intro s node port h n d x now lost
  have loses : ∀ {c t}, exec c s = .next t → s.SameData t ∧ t.LinkLost n d h → Completes c s lost :=
    fun {_ t} goes ⟨⟨mem, cores⟩, near, far⟩ => ⟨t, goes, mem, cores, near, far⟩
  refine ⟨fun back linked serves => ?_, fun linked seam serves errs => ?_, fun pause paused => ⟨?_, ?_, ?_, ?_, ?_⟩,
    fun serves => ?_, ?_⟩
  · intro times few found
    refine ⟨?_, ?_⟩
    · rintro (⟨seam, sound⟩ | ⟨inner, fewer⟩)
      · exact congrArg Host.Outcome.next (linkCrcError_seam_replays back.val linked serves seam sound)
      · exact congrArg Host.Outcome.next ((linkCrcError_inner back.val linked serves inner).trans (if_neg (Nat.not_le.2 fewer)))
    · have leaves := fun cause => State.replayCounted_lost serves back.val cause 0xFF
      rintro (⟨seam, fails⟩ | ⟨inner, many⟩)
      · exact loses (congrArg Host.Outcome.next (linkCrcError_seam_found back.val linked serves seam fails)) (leaves 2)
      · have ends := (linkCrcError_inner back.val linked serves inner).trans (if_pos (Nat.not_lt.1 many))
        exact loses (congrArg Host.Outcome.next ends) (leaves 3)
  · exact congrArg Host.Outcome.next (wireTest_pauses linked seam serves errs)
  · exact congrArg Host.Outcome.next (wireTestDone_clean paused)
  · intro g w wire unspared unused unsteered
    obtain ⟨half, spared, steered⟩ := (s.testEnded n d h none).wireSpared_port n d h g.val w.val pause.toNat (x.recent h now 1002000)
    obtain ⟨mem, cores⟩ := (s.testEnded_sameData n d h none).trans
      (State.wireSpared_sameData _ n d h g.val w.val pause.toNat (x.recent h now 1002000))
    rw [State.testEnded_port] at half spared steered
    exact ⟨_, congrArg Host.Outcome.next (wireTestDone_spares paused wire unspared unused unsteered), half.trans (by simp),
      spared.trans (by simp [x]), steered.trans (by simp [x]), mem, cores⟩
  · intro g unspared
    have set := (s.testEnded n d h none).portSet_modPort n d fun y => y.useSpare h g.val
    refine ⟨_, congrArg Host.Outcome.next (wireTestDone_usesSpare paused unspared), ?_, ?_⟩
    · rw [set, State.testEnded_port]
      simp
    · rw [set, State.testEnded_port]
      simp [x]
  · exact fun g spared _ => loses (congrArg Host.Outcome.next (wireTestDone_spare_fails paused spared))
      (s.groupFailed_lost n d h none g.val 0 [])
  · exact fun g w v wire wire' _ _ unsteered unsteered' =>
      loses (congrArg Host.Outcome.next (wireTestDone_two_fail paused wire wire' unsteered unsteered'))
        (s.groupFailed_lost n d h none g.val 0 [w.val, v.val])
  · exact ⟨_, rfl, routerHalfError_lost serves⟩
  · exact fun m linked lost new => congrArg Host.Outcome.next (detourInstall_judged linked lost new)

end Sys2Proof.Machine

/-! SUPPORT. What the scheduler core does with a job outside memory (08 R210, R227 to R229): it keeps memory, the regions and the sessions. -/

namespace Sys2Proof.Machine

/-- `t` differs from `s` by what the scheduler core sets when it handles a job: cores, partitions, wakes and groups, with the notices and
journal entries of `State.Notifies`. -/
def State.Manages (s t : State) : Prop := t = { s with
  cores := t.cores, sched := t.sched, islands := t.islands, mesh := t.mesh, links := t.links, out := t.out, freeCtr := t.freeCtr
  eventCounts := t.eventCounts, journal := t.journal, start := { s.start with deferred := t.start.deferred }
  host := { s.host with ports := t.host.ports }
  arch := { s.arch with
    engines := t.arch.engines, seqs := t.arch.seqs, sent := t.arch.sent, mirrorWait := t.arch.mirrorWait, groups := t.arch.groups } }

section
variable {s t u : State}

theorem State.Manages.refl (s : State) : s.Manages s := rfl

theorem State.Manages.trans (h : s.Manages t) (k : t.Manages u) : s.Manages u := by
  unfold State.Manages at *
  rw [k, h]

theorem State.Manages.foldl {β : Type} {f : State → β → State} (hf : ∀ (t : State) x, t.Manages (f t x)) (l : List β) (s : State) :
    s.Manages (l.foldl f s) := foldl_related State.Manages.refl State.Manages.trans (fun x _ t => hf t x) s

theorem State.Notifies.manages (h : s.Notifies t) : s.Manages t := by
  unfold State.Notifies at h
  unfold State.Manages
  rw [h]

theorem State.OnCoresAndMesh.manages (h : s.OnCoresAndMesh t) : s.Manages t := by
  unfold State.OnCoresAndMesh at h
  unfold State.Manages
  rw [h]

theorem State.Manages.ite {b : Prop} [Decidable b] (h : s.Manages t) (k : s.Manages u) : s.Manages (if b then t else u) := by
  split
  · exact h
  · exact k

theorem State.Manages.mem (h : s.Manages t) : t.mem = s.mem := by rw [h]
theorem State.Manages.clusters (h : s.Manages t) : t.clusters = s.clusters := by rw [h]
theorem State.Manages.readByte (h : s.Manages t) (a : Nat) : t.readByte a = s.readByte a := by rw [h]; rfl
theorem State.Manages.session? (h : s.Manages t) (sid : W64) : t.session? sid = s.session? sid := by rw [h]; rfl

theorem State.modCore_manages (s : State) (L : Nat) (f : Core → Core) : s.Manages (s.modCore L f) := rfl
theorem State.setPart_manages (s : State) (p : Nat) (x : Part) : s.Manages (s.setPart p x) := rfl
theorem State.modPart_manages (s : State) (p : Nat) (f : Part → Part) : s.Manages (s.modPart p f) := rfl
theorem State.modJob_manages (s : State) (p : Nat) (f : Job → Job) : s.Manages (s.modJob p f) := rfl
theorem State.setGroup_manages (s : State) (g : W32) (x : Group) : s.Manages (s.setGroup g x) := rfl

theorem State.modCores_manages (s : State) (l : List Nat) (f : Core → Core) : s.Manages (l.foldl (fun t L => t.modCore L f) s) :=
  State.Manages.foldl (fun t L => t.modCore_manages L f) l s

theorem State.queueWake_manages (s : State) (c : Nat) : s.Manages (s.queueWake c) := by
  unfold State.queueWake
  dsimp only
  split <;> rfl

theorem State.wakeHosts_manages (s : State) (j : Job) : s.Manages (s.wakeHosts j) :=
  State.Manages.foldl (fun t L => by
    split
    · exact t.queueWake_manages _
    · exact .refl t) _ s

end

/-! ### Holds, groups and snapshots (08 R228, 09 R253, R256, 13 R394) -/

section
variable (s : State)

theorem State.abandonParts_manages (p : Nat) : s.Manages (s.abandonParts p) := by
  unfold State.abandonParts
  split
  · rfl
  next j _ =>
    have withdrawn : s.Manages (j.cores.foldl (fun t L => t.withdrawPart p L) s) :=
      State.Manages.foldl (fun t L => (t.withdrawPart_onCoresAndMesh p L).manages) _ s
    exact (withdrawn.trans (State.modCores_manages _ _ _)).trans rfl

theorem State.tellGroup_notifies (p : Nat) (ended : Bool) : s.Notifies (s.tellGroup p ended) := by
  unfold State.tellGroup
  split
  · rfl
  · split
    · exact foldl_related State.Notifies.refl State.Notifies.trans (fun k _ t => t.sendMember_notifies k _) s
    · rfl

theorem State.tellGroup_manages (p : Nat) (ended : Bool) : s.Manages (s.tellGroup p ended) := (s.tellGroup_notifies p ended).manages

theorem State.enterHold_manages (p : Nat) : s.Manages (s.enterHold p) := by
  unfold State.enterHold
  split
  · rfl
  · dsimp only
    split
    · rfl
    · exact ((s.modJob_manages p _).trans (State.journalWrite_notifies _ _ _ _ _ _).manages).trans (State.tellGroup_manages _ p false)

theorem State.tryAdmit_manages (g : W32) : s.Manages (s.tryAdmit g) := by
  unfold State.tryAdmit
  exact .ite (.refl s) ((s.setGroup_manages g _).trans (State.Manages.foldl (fun t k => (t.sendMember_notifies k _).manages) _ _))

theorem State.reportGroup_manages (p : Nat) : s.Manages (s.reportGroup p) := by
  unfold State.reportGroup
  split
  · rfl
  · split
    · rfl
    · dsimp only
      split
      · exact ((s.setGroup_manages _ _).trans (State.setGroup_manages _ _ _)).trans (State.tryAdmit_manages _ _)
      · split
        · exact (s.setGroup_manages _ _).trans (State.sendMember_notifies _ _ _).manages
        · exact s.setGroup_manages _ _

theorem State.endSnapshot_manages (p : Nat) (code : W16) (turn : Nat) : s.Manages (s.endSnapshot p code turn) := by
  unfold State.endSnapshot
  split
  · rfl
  · exact (s.modPart_manages p _).trans (State.journalWrite_notifies _ _ _ _ _ _).manages

theorem State.dropRequested_manages (p : Nat) : s.Manages (s.dropRequested p) := by
  unfold State.dropRequested
  split
  · split
    · exact s.endSnapshot_manages p _ _
    · rfl
  · rfl

/-! ### Jobs that load and end (08 R210, R227) -/

theorem State.loadNext_manages (p : Nat) : s.Manages (s.loadNext p) := by
  unfold State.loadNext
  dsimp only
  split
  · rfl
  · exact .ite ((s.setPart_manages p _).trans (State.enterHold_manages _ p))
      ((((s.setPart_manages p _).trans (State.reportGroup_manages _ p)).trans (State.wakeHosts_manages _ _)).trans
        (State.modCores_manages _ _ _))

theorem State.nextJob_manages (p : Nat) : s.Manages (s.nextJob p) := (s.dropRequested_manages p).trans (State.loadNext_manages _ p)

theorem State.discardJob_manages (p cause : Nat) : s.Manages (s.discardJob p cause) := by
  unfold State.discardJob
  split
  · rfl
  · split
    · rfl
    · dsimp only
      refine State.Manages.trans ?_ (State.tellGroup_manages _ p true)
      refine State.Manages.trans ?_ (State.journalWrite_notifies _ _ _ _ _ _).manages
      refine State.Manages.trans (State.Manages.trans ?_ (State.modCores_manages _ _ _)) (State.countEvent_notifies _ _).manages
      exact ((s.abandonParts_manages p).trans (State.modJob_manages _ p _)).trans rfl

theorem State.discardQueue_manages (p cause : Nat) : s.Manages (s.discardQueue p cause) := by
  unfold State.discardQueue
  refine State.Manages.trans ?_ (State.modPart_manages _ p _)
  exact State.Manages.foldl (fun t _ => ((t.countEvent_notifies _).trans (State.journalWrite_notifies _ _ _ _ _ _)).manages) _ s

end

end Sys2Proof.Machine

/-! SUPPORT. A host command that is served (10 R276 to R278): the state that its own rules meet, and the answer that its session keeps. -/

namespace Sys2Proof.Machine

/-! ### What a session's own bookkeeping changes (10 R271, R277, R283) -/

/-- `t` differs from `s` by the host side and by what leaves the block alone. -/
def State.OnHost (s t : State) : Prop := t = { s with host := t.host, out := t.out }

section
variable {s t u : State}

theorem State.OnHost.refl (s : State) : s.OnHost s := rfl

theorem State.OnHost.trans (h : s.OnHost t) (k : t.OnHost u) : s.OnHost u := by
  unfold State.OnHost at *
  rw [k, h]

theorem State.OnHost.mem (h : s.OnHost t) : t.mem = s.mem := by rw [h]
theorem State.OnHost.cores (h : s.OnHost t) : t.cores = s.cores := by rw [h]
theorem State.OnHost.clusters (h : s.OnHost t) : t.clusters = s.clusters := by rw [h]
theorem State.OnHost.sched (h : s.OnHost t) : t.sched = s.sched := by rw [h]
theorem State.OnHost.readByte (h : s.OnHost t) (a : Nat) : t.readByte a = s.readByte a := by rw [State.readByte, h.mem, State.readByte]
theorem State.OnHost.part (h : s.OnHost t) (p : Nat) : t.part p = s.part p := State.part_of_sched h.sched p

theorem State.Notifies.session? (h : s.Notifies t) (sid : W64) : t.session? sid = s.session? sid := by rw [h]; rfl
theorem State.Notifies.part (h : s.Notifies t) (p : Nat) : t.part p = s.part p := State.part_of_sched h.sched p

end

/-- The state with other sessions. -/
def State.withSessions (s : State) (m : SMap Session) : State := { s with host := { s.host with sessions := m } }

/-- What the rules of a command meet once its datagram has renewed the lease and, on two paths, its arrival is noted. -/
def State.heard (s : State) (r : HostReq) : State := (s.renewLease r.sid).noteArrival r.sid r.seq.toNat

theorem State.modSession_known {s : State} {sid : W64} {x : Session} (known : s.session? sid = some x) (f : Session → Session) :
    s.modSession sid f = s.setSession sid (f x) := by
  rw [State.modSession, known]

theorem State.heard_sessions {s : State} {r : HostReq} {x : Session} (known : s.session? r.sid = some x) : ∃ m y,
    s.heard r = s.withSessions m ∧ (s.withSessions m).session? r.sid = some y ∧ y.lastCmd = x.lastCmd := by
  unfold State.heard State.renewLease State.noteArrival
  rw [State.modSession_known known, State.modSession_known (State.session_setSession _ _ _)]
  refine ⟨_, _, rfl, State.session_setSession _ _ _, ?_⟩
  split <;> split <;> rfl

/-! ### An answer (10 R277) -/

theorem SMap.get?_filter {α : Type} (m : SMap α) (k : Nat) {p : Nat × α → Bool} (kept : ∀ q ∈ m, q.1 = k → p q = true) :
    SMap.get? (m.filter p) k = SMap.get? m k := by
  induction m with
  | nil => rfl
  | cons q m ih =>
    have rest := ih fun e he => kept e (by simp [he])
    rw [List.filter_cons]
    split
    · rw [SMap.get?_cons, SMap.get?_cons, rest]
    next out => rw [rest, SMap.get?_cons, if_neg fun at' => out (kept q (by simp) at')]

section
variable (s : State) (sid : W64)

theorem State.setSession_onHost (x : Session) : s.OnHost (s.setSession sid x) := rfl

theorem State.modSession_onHost (f : Session → Session) : s.OnHost (s.modSession sid f) := by
  unfold State.modSession
  split
  · rfl
  · exact s.setSession_onHost sid _

theorem State.countTx_onHost (bytes : Nat) : s.OnHost (s.countTx sid bytes) := by
  unfold State.countTx
  split
  · rfl
  · dsimp only
    split <;> rfl

theorem State.sendResponse_onHost (a : Response) : s.OnHost (s.sendResponse sid a) := by
  unfold State.sendResponse
  split
  · rfl
  · exact State.OnHost.trans (t := s.emit (.response sid a)) rfl (State.countTx_onHost _ _ _)

theorem State.sendResponse_session? (a : Response) (sid' : W64) : (s.sendResponse sid a).session? sid' = s.session? sid' := by
  unfold State.sendResponse
  split
  · rfl
  · exact (State.countTx_notifies _ _ _).session? sid'

theorem State.respond_onHost (opcode : Nat) (seq : W64) (a : Answer) : s.OnHost (s.respond sid opcode seq a) :=
  (s.modSession_onHost sid _).trans (State.sendResponse_onHost _ _ _)

end

/-- A session keeps the answer to a command that is at most 63 commands behind its last one. -/
theorem State.respond_answers {s : State} {r : HostReq} {x : Session} (known : s.session? r.sid = some x)
    (recent : x.lastCmd ≤ r.seq.toNat + 63) (opcode : Nat) (a : Answer) :
    (s.respond r.sid opcode r.seq a).Answered r (BitVec.ofNat 16 opcode) a.status a.detail a.body := by
  unfold State.respond State.Answered
  dsimp only
  rw [State.modSession_known known]
  refine ⟨_, BitVec.ofNat 64 a.jseq, (State.sendResponse_session? _ _ _ _).trans (State.session_setSession _ _ _), ?_⟩
  rw [SMap.get?_filter _ _ fun e _ at' => decide_eq_true (by omega), SMap.get?_put_same]

/-! ### The checks of a command (10 R278) -/

theorem State.whenAnswering_answers {s : State} (answers : s.answers = true) (i : Instr) (f : State → State) : s.whenAnswering i f = f s := by
  have runs : s.sched.restarting = false := by simpa using (Bool.and_eq_true_iff.1 answers).2
  rw [State.whenAnswering, runs]
  rfl

/-- A command that is new to its session comes to its own rules, and to their answer where they give one at once. -/
theorem State.command_served {s : State} {r : HostReq} {x : Session} {features : List Nat} {operator : Bool}
    (serves : s.Serves r x features operator) (opcode : Nat) (f : Session → State → State × Option Answer) :
    s.command r opcode features operator f =
      (f x (s.heard r)).2.elim (f x (s.heard r)).1 fun a => (f x (s.heard r)).1.respond r.sid opcode r.seq a := by
  obtain ⟨answers, known, nonzero, above, below, free, new, once, granted, role, formed⟩ := serves
  have inWindow : ¬ (r.seq.toNat = 0 ∨ r.seq.toNat + 63 < x.lastCmd ∨ x.lastCmd + 64 < r.seq.toNat) := by omega
  have missing : (features.any fun b => !x.has b) = false := by simpa using granted
  have allowed : (operator && !x.operator) = false := by
    cases operator
    · rfl
    · simp [role rfl]
  unfold State.command
  simp only [answers, known, if_neg inWindow, once, free, new, missing, allowed, formed]
  show (match (f x (s.heard r)).2 with
    | some a => (f x (s.heard r)).1.respond r.sid opcode r.seq a
    | none => (f x (s.heard r)).1) = _
  cases (f x (s.heard r)).2 <;> rfl

/-- What the own rules of a command give, met in a state with the sessions of `s`: with an answer `P` holds of each state that differs from
theirs by the host side alone, and in which the session keeps that answer where they left the session as it was; without one it holds of
their own. -/
def Gives (r : HostReq) (opcode : Nat) (s : State) (P : State → Prop) : State × Option Answer → Prop
  | (t, some a) => ∀ u, t.OnHost u →
      (t.session? r.sid = s.session? r.sid → u.Answered r (BitVec.ofNat 16 opcode) a.status a.detail a.body) → P u
  | (t, none) => P t

section
variable {s : State} {r : HostReq} {x : Session} {features : List Nat} {operator : Bool} {opcode : Nat} {P : State → Prop}

/-- A command whose every refusal is ruled out comes to its last step. -/
theorem checked_gives {s' : State} {l : List (Bool × Answer)} {g : State → State × Option Answer} (passes : ∀ e ∈ l, e.1 = false)
    (does : Gives r opcode s P (g s')) : Gives r opcode s P (checked s' l g) := by
  have none' : l.find? (fun e => e.1) = none := List.find?_eq_none.2 fun e he => by simp [passes e he]
  rw [checked, firstRefusal, none']
  exact does

/-- A command that is served completes with what its own rules give. -/
theorem completes_served {f : Session → State → State × Option Answer} {c i : Instr} (serves : s.Serves r x features operator)
    (runs : exec c s = .next (s.whenAnswering i fun t => t.command r opcode features operator f))
    (does : ∀ m, Gives r opcode (s.withSessions m) P (f x (s.withSessions m))) : Completes c s P := by
  obtain ⟨m, y, heard, known, last⟩ := State.heard_sessions serves.2.1
  refine ⟨_, runs, ?_⟩
  rw [State.whenAnswering_answers serves.1, State.command_served serves, heard]
  have given := does m
  cases rules : f x (s.withSessions m) with
  | mk t o =>
    rw [rules] at given
    cases o with
    | none => exact given
    | some a =>
      refine given _ (t.respond_onHost _ _ _ _) fun same => State.respond_answers (same.trans known) ?_ opcode a
      have := serves.2.2.2.1
      omega

end

/-- The ACCEPTED entry of a command is a journal entry (10 R293). -/
theorem State.accepted_notifies (s : State) (x : Session) (r : HostReq) (opcode : Nat) (job : W64) (part : Option Nat) (body : List Byte) :
    s.Notifies (s.accepted x r opcode job part body).1 := s.journalWrite_notifies _ _ _ _ _

/-- A session owns a partition that is bound to it (10 R282). -/
theorem State.owns_bound {s : State} {sid : W64} {p : Nat} (inside : p < 48) (bound : (s.part p).session = some sid) :
    (!s.owns sid p) = false := by
  simp [State.owns, inside, bound]

end Sys2Proof.Machine

/-! SUPPORT. Partitions (08 R208, R209, 15 R428): bindings, layouts, and the reset of a partition's clusters and lagoon quarters. -/

namespace Sys2Proof.Machine

/-! ### A cluster that changes hands is reset (15 R428 steps 4, 5 and 7) -/

/-- `t` differs from `s` by memory, cores, regions and islands alone. -/
def State.OnRegions (s t : State) : Prop := t = { s with
  mem := t.mem, wordErr := t.wordErr, writeBack := t.writeBack, cores := t.cores, clusters := t.clusters, islands := t.islands }

/-- A region as its reset begins: dark, or gated while it is shed. -/
def Cluster.beginReset (x : Cluster) : Cluster :=
  { x with resetting := true, region := if x.shed then .gated else .dark, op := 0, bOver := 0, bDip := 0, dipping := false, hint := none }

section
variable {s t u : State}

theorem State.OnRegions.refl (s : State) : s.OnRegions s := rfl

theorem State.OnRegions.trans (h : s.OnRegions t) (k : t.OnRegions u) : s.OnRegions u := by
  unfold State.OnRegions at *
  rw [k, h]

theorem State.OnRegions.foldl {β : Type} {f : State → β → State} (hf : ∀ (t : State) x, t.OnRegions (f t x)) (l : List β) (s : State) :
    s.OnRegions (l.foldl f s) := foldl_related State.OnRegions.refl State.OnRegions.trans (fun x _ t => hf t x) s

theorem State.OnRegions.sched (h : s.OnRegions t) : t.sched = s.sched := by rw [h]
theorem State.OnRegions.session? (h : s.OnRegions t) (sid : W64) : t.session? sid = s.session? sid := by rw [h]; rfl

theorem State.modCore_onRegions (s : State) (L : Nat) (f : Core → Core) : s.OnRegions (s.modCore L f) := rfl

theorem State.modCores_onRegions (l : List Nat) (k : Nat → Nat) (f : Nat → Core → Core) (s : State) :
    s.OnRegions (l.foldl (fun t i => t.modCore (k i) (f i)) s) := State.OnRegions.foldl (fun t i => t.modCore_onRegions (k i) (f i)) l s

end

section
variable (s : State) (c : Nat)

/-- Without a replay a cluster reset stops the cores of a region that goes dark, and queues its wake. -/
theorem State.clusterReset_steps : ∃ f : Core → Core → Core, s.clusterReset c false =
    ((List.range 12).foldl (fun t i => t.modCore (c * 12 + i) (f (t.core (c * 12 + i)))) (s.modCluster c Cluster.beginReset)).queueWake c :=
  ⟨fun x k => { k.stop with seq := if (x.seq != .unserved) = true then .noTurn else .unserved }, rfl⟩

theorem State.queueWake_onRegions : s.OnRegions (s.queueWake c) := by
  unfold State.queueWake
  dsimp only
  split <;> rfl

theorem State.clusterReset_onRegions : s.OnRegions (s.clusterReset c false) := by
  obtain ⟨f, steps⟩ := s.clusterReset_steps c
  have begun : s.OnRegions (s.modCluster c Cluster.beginReset) := rfl
  rw [steps]
  refine State.OnRegions.trans ?_ (State.queueWake_onRegions _ c)
  refine State.OnRegions.trans begun ?_
  exact State.OnRegions.foldl (fun t i => t.modCore_onRegions _ _) _ _

theorem State.clusterReset_clusters : (s.clusterReset c false).clusters = (s.modCluster c Cluster.beginReset).clusters := by
  obtain ⟨f, steps⟩ := s.clusterReset_steps c
  rw [steps, State.queueWake_clusters]
  exact foldl_keeps State.clusters (fun t i => t.modCore_clusters _ _) _ _

theorem State.clusterReset_mem : (s.clusterReset c false).mem = s.mem := by
  obtain ⟨f, steps⟩ := s.clusterReset_steps c
  rw [steps, (State.queueWake_manages _ c).mem]
  exact foldl_keeps State.mem (fun t i => t.modCore_mem _ _) _ _

theorem State.resetClusterOf_onRegions : s.OnRegions (s.resetClusterOf c) := by
  refine (s.clusterReset_onRegions c).trans ?_
  refine State.OnRegions.trans ?_ (State.modCores_onRegions _ _ (fun _ => _) _)
  rfl

theorem State.resetClusterOf_clusters : (s.resetClusterOf c).clusters = (s.modCluster c Cluster.beginReset).clusters :=
  (foldl_modCore_clusters _ _ _ _).trans (s.clusterReset_clusters c)

theorem State.resetClusterOf_resets : ((s.resetClusterOf c).cluster c).resetting = true := by
  rw [State.cluster_of_clusters (s.resetClusterOf_clusters c), State.cluster_modCluster]
  rfl

theorem State.resetClusterOf_other {d : Nat} (other : d ≠ c) : (s.resetClusterOf c).cluster d = s.cluster d := by
  rw [State.cluster_of_clusters (s.resetClusterOf_clusters c), State.cluster_modCluster_other s _ other]

/-- The cluster's lagoon quarter reads zero, every other byte as before. -/
theorem State.resetClusterOf_readByte (a : Nat) : (s.resetClusterOf c).readByte a =
    if quarterBase c ≤ a ∧ a < quarterBase c + 2 ^ 26 then 0 else s.readByte a := by
  have kept : (s.resetClusterOf c).mem = ((s.clusterReset c false).zero (quarterBase c) (2 ^ 26)).mem :=
    foldl_keeps State.mem (fun t k => t.modCore_mem _ _) _ _
  rw [State.readByte, kept]
  refine (State.readByte_store _ _ _ _ a).trans ?_
  rw [State.readByte, s.clusterReset_mem]
  rfl

end

/-- Clusters that are reset one after the other: each listed one resets, and its quarter reads zero. -/
theorem State.resetClusters {l : List Nat} {c : Nat} (listed : c ∈ l) (s : State) :
    ((l.foldl State.resetClusterOf s).cluster c).resetting = true ∧
      ∀ a, quarterBase c ≤ a → a < quarterBase c + 2 ^ 26 → (l.foldl State.resetClusterOf s).readByte a = 0 := by
  refine ⟨foldl_establishes (P := fun t => (t.cluster c).resetting = true) listed (fun t => t.resetClusterOf_resets c)
    (fun d _ other t h => (congrArg Cluster.resetting (t.resetClusterOf_other d other.symm)).trans h) s, fun a low high => ?_⟩
  refine foldl_establishes (P := fun t => t.readByte a = 0) listed (fun t => ?_) (fun d _ _ t h => ?_) s
  · exact (t.resetClusterOf_readByte c a).trans (if_pos ⟨low, high⟩)
  · rw [t.resetClusterOf_readByte d a, h, ite_self]

/-! ### A new layout (08 R209) -/

/-- Partitions under reset from a change of layout. -/
def State.markParts (s : State) (l : List Nat) : State :=
  l.foldl (fun t p => t.setPart p { clearing := some ⟨false, false, none, 0, 0⟩ }) s

section
variable (s : State) (layout : Nat)

theorem State.markParts_keeps {γ : Type} (g : State → γ) (kept : ∀ (t : State) p x, g (t.setPart p x) = g t) (l : List Nat) :
    g (s.markParts l) = g s := foldl_keeps g (fun t p => kept t p _) l s

/-- The new layout stands, the clusters of `moved` are reset, and the partitions that took one stand under reset. -/
theorem State.changeLayout_steps : ∃ l, s.changeLayout layout =
    (((List.range 48).filter fun c => (s.sched.layouts.getD s.sched.active []).getD c 0xFF != (s.sched.layouts.getD layout []).getD c 0xFF).foldl
      State.resetClusterOf { s with sched := { s.sched with active := layout } }).markParts l := ⟨_, rfl⟩

theorem State.resetAll_onRegions (l : List Nat) : s.OnRegions (l.foldl State.resetClusterOf s) :=
  State.OnRegions.foldl (fun t c => t.resetClusterOf_onRegions c) l s

theorem State.changeLayout_session? (sid : W64) : (s.changeLayout layout).session? sid = s.session? sid := by
  obtain ⟨l, steps⟩ := s.changeLayout_steps layout
  rw [steps, State.markParts_keeps _ (State.session? · sid) fun _ _ _ => rfl, (State.resetAll_onRegions _ _).session?]
  rfl

theorem State.changeLayout_active : (s.changeLayout layout).sched.active = layout := by
  obtain ⟨l, steps⟩ := s.changeLayout_steps layout
  rw [steps, State.markParts_keeps _ (fun t => t.sched.active) fun _ _ _ => rfl, (State.resetAll_onRegions _ _).sched]

/-- A cluster whose partition changes is reset. -/
theorem State.changeLayout_resets {c : Nat} (inside : c < 48)
    (moves : (s.sched.layouts.getD s.sched.active []).getD c 0xFF ≠ (s.sched.layouts.getD layout []).getD c 0xFF) :
    ((s.changeLayout layout).cluster c).resetting = true := by
  obtain ⟨l, steps⟩ := s.changeLayout_steps layout
  rw [steps, State.markParts_keeps _ (fun t => t.cluster c) fun _ _ _ => rfl]
  exact (State.resetClusters (List.mem_filter.2 ⟨List.mem_range.2 inside, by simpa using moves⟩) _).1

end

/-! ### BIND_PARTITION (08 R208, R209, 10 R280) -/

/-- A partition bound to a session at a GiB-aligned base. -/
def Part.bind (y : Part) (sid : W64) (tenant : W16) (base gib : Nat) : Part :=
  { y with session := some sid, tenant := tenant, baseGib := base, sizeGib := gib }

section
variable {s : State} {r : HostReq} {x : Session} {pw : W16} {layout : Byte} {gib : W32} {b : Nat} {P : State → Prop}

/-- A binding that no check refuses: `held` where the session has it already, and `v` is what its ACCEPTED entry leaves. -/
theorem completes_bind {held : Bool} (serves : s.Serves r x [1] false) (isHeld : ((s.part pw.toNat).session == some r.sid) = held)
    (clear : (s.part pw.toNat).clearing = none) (may : s.mayBind x r.sid layout.toNat pw.toNat = true) (pos : 0 < gib.toNat)
    (fits : gib.toNat ≤ if s.hbm.mode then 2028 else 1900)
    (unused : (!held && layout.toNat != s.sched.active &&
      (s.changed (s.sched.layouts.getD layout.toNat [])).any fun q => (s.part q).session.isSome) = false)
    (room : (!held && (s.bindingBase gib.toNat).isNone) = false) (size : (held && (s.part pw.toNat).sizeGib != gib.toNat) = false)
    (does : ∀ m (v : State × Nat), (s.withSessions m).Notifies v.1 →
      let change := !held && layout.toNat != s.sched.active
      let w := (if change = true then v.1.changeLayout layout.toNat else v.1).modPart pw.toNat
        fun z => z.bind r.sid x.tenant ((s.bindingBase gib.toNat).getD 0) gib.toNat
      Gives r 0x0010 (s.withSessions m) P (if held = true then (v.1, some { jseq := v.2, body := v.1.bindingBody pw.toNat })
        else (w, some { jseq := v.2, body := w.bindingBody pw.toNat }))) :
    Completes (.bindPartition r layout pw gib) s P := by
  subst isHeld
  refine completes_served serves rfl fun m => checked_gives ?_ (does m _ ((s.withSessions m).accepted_notifies _ _ _ _ _ _))
  have range : ¬(gib.toNat = 0 ∨ (if s.hbm.mode then 2028 else 1900) < gib.toNat) := by omega
  refine List.forall_mem_cons.2 ⟨congrArg (!·) may, ?_⟩
  refine List.forall_mem_cons.2 ⟨decide_eq_false range, ?_⟩
  refine List.forall_mem_cons.2 ⟨unused, List.forall_mem_cons.2 ⟨room, List.forall_mem_cons.2 ⟨size, ?_⟩⟩⟩
  exact List.forall_mem_cons.2 ⟨congrArg Option.isSome clear, fun _ none' => nomatch none'⟩

/-- A free range that fits is bound, after the change of layout where another one is asked for. -/
theorem completes_bindFree (serves : s.Serves r x [1] false) (free : (s.part pw.toNat).session = none)
    (clear : (s.part pw.toNat).clearing = none) (may : s.mayBind x r.sid layout.toNat pw.toNat = true) (pos : 0 < gib.toNat)
    (fits : gib.toNat ≤ if s.hbm.mode then 2028 else 1900) (room : s.bindingBase gib.toNat = some b)
    (unused : layout.toNat ≠ s.sched.active → ∀ q ∈ s.changed (s.sched.layouts.getD layout.toNat []), (s.part q).session = none)
    (holds : ∀ v w u : State, v.sched = s.sched → v.mem = s.mem → v.cores = s.cores →
      w = (if layout.toNat = s.sched.active then v else v.changeLayout layout.toNat).modPart pw.toNat
        (fun z => z.bind r.sid x.tenant b gib.toNat) →
      w.OnHost u → u.Answered r 0x0010 0 0 (w.bindingBody pw.toNat) → P u) :
    Completes (.bindPartition r layout pw gib) s P := by
  refine completes_bind (held := false) serves (by rw [free]; rfl) clear may pos fits ?_ (by rw [room]; rfl) rfl fun m v told => ?_
  · by_cases other : layout.toNat = s.sched.active
    · simp [other]
    · simpa [other] using unused other
  · rw [room]
    refine fun u onHost answered => holds v.1 _ u told.sched told.manages.mem told.cores ?_ onHost (answered ?_)
    · by_cases same : layout.toNat = s.sched.active <;> simp [same]
    · refine Eq.trans ?_ (told.session? r.sid)
      show State.session? (if _ then _ else _) _ = _
      split
      · exact v.1.changeLayout_session? _ _
      · rfl

/-- A binding that the session holds already changes nothing. -/
theorem completes_bindHeld (serves : s.Serves r x [1] false) (held : (s.part pw.toNat).session = some r.sid)
    (clear : (s.part pw.toNat).clearing = none) (may : s.mayBind x r.sid layout.toNat pw.toNat = true) (pos : 0 < gib.toNat)
    (fits : gib.toNat ≤ if s.hbm.mode then 2028 else 1900) (size : (s.part pw.toNat).sizeGib = gib.toNat)
    (holds : ∀ v u : State, v.sched = s.sched → v.mem = s.mem → v.cores = s.cores → v.OnHost u →
      u.Answered r 0x0010 0 0 (v.bindingBody pw.toNat) → P u) :
    Completes (.bindPartition r layout pw gib) s P := by
  refine completes_bind (held := true) serves (by simp [held]) clear may pos fits rfl rfl (by simp [size]) fun m v told => ?_
  exact fun u onHost answered => holds v.1 u told.sched told.manages.mem told.cores onHost (answered (told.session? r.sid))

end

theorem State.clustersOf_of_layout {s t : State} (active : t.sched.active = s.sched.active) (layouts : t.sched.layouts = s.sched.layouts) (p : Nat) :
    t.clustersOf p = s.clustersOf p := by
  have same : t.partOf = s.partOf := by funext c; simp only [State.partOf, active, layouts]
  rw [State.clustersOf, same, State.clustersOf]

theorem State.bindingBody_of_sched {s t : State} (same : t.sched = s.sched) (p : Nat) : t.bindingBody p = s.bindingBody p := by
  simp only [State.bindingBody, State.part_of_sched same, State.clustersOf_of_layout (congrArg _ same) (congrArg _ same)]

/-! ### What a partition keeps while jobs, snapshots and restores end -/

/-- `t` keeps the layout of `s` and what `g` reads of each partition. -/
def State.KeepsParts {α : Type} (g : Part → α) (s t : State) : Prop :=
  t.sched.active = s.sched.active ∧ t.sched.layouts = s.sched.layouts ∧ ∀ q, g (t.part q) = g (s.part q)

section
variable {α : Type} {g : Part → α} {s t u : State}

theorem State.KeepsParts.refl (s : State) : s.KeepsParts g s := ⟨rfl, rfl, fun _ => rfl⟩

theorem State.KeepsParts.trans (h : s.KeepsParts g t) (k : t.KeepsParts g u) : s.KeepsParts g u := by
  obtain ⟨active, layouts, parts⟩ := h
  obtain ⟨active', layouts', parts'⟩ := k
  exact ⟨active'.trans active, layouts'.trans layouts, fun q => (parts' q).trans (parts q)⟩

theorem State.KeepsParts.foldl {β : Type} {f : State → β → State} (hf : ∀ (t : State) x, t.KeepsParts g (f t x)) (l : List β) (s : State) :
    s.KeepsParts g (l.foldl f s) := foldl_related State.KeepsParts.refl State.KeepsParts.trans (fun x _ t => hf t x) s

theorem State.KeepsParts.of_sched (same : t.sched = s.sched) : s.KeepsParts g t :=
  ⟨congrArg _ same, congrArg _ same, fun q => congrArg g (State.part_of_sched same q)⟩

theorem State.KeepsParts.clustersOf (h : s.KeepsParts g t) (p : Nat) : t.clustersOf p = s.clustersOf p :=
  State.clustersOf_of_layout h.1 h.2.1 p

theorem State.KeepsParts.part (h : s.KeepsParts g t) (p : Nat) : g (t.part p) = g (s.part p) := h.2.2 p

end

section
variable {α : Type} {g : Part → α} (s : State)

theorem State.part_modPart_other {p q : Nat} (f : Part → Part) (other : q ≠ p) : (s.modPart p f).part q = s.part q :=
  SMap.getD_put_other _ _ _ other

theorem State.modPart_keepsParts (p : Nat) {f : Part → Part} (keeps : ∀ y, g (f y) = g y) : s.KeepsParts g (s.modPart p f) := by
  refine ⟨rfl, rfl, fun q => ?_⟩
  by_cases same : q = p
  · rw [same, State.part_modPart, keeps]
  · rw [State.part_modPart_other _ _ same]

theorem State.modCores_keepsParts (l : List Nat) (f : Core → Core) : s.KeepsParts g (l.foldl (fun t L => t.modCore L f) s) :=
  State.KeepsParts.foldl (fun t L => .of_sched (t.modCore_sched L f)) l s

variable (job : ∀ (y : Part) (o : Option Job), g { y with job := o } = g y)
include job

theorem State.modJob_keepsParts (p : Nat) (f : Job → Job) : s.KeepsParts g (s.modJob p f) := s.modPart_keepsParts p fun y => job y _

theorem State.abandonParts_keepsParts (p : Nat) : s.KeepsParts g (s.abandonParts p) := by
  unfold State.abandonParts
  split
  · exact .refl s
  next j _ =>
    have withdrawn := State.KeepsParts.foldl (g := g) (fun t L => State.KeepsParts.of_sched (t.withdrawPart_onCoresAndMesh p L).sched) j.cores s
    have unlisted : ∀ u : State, u.KeepsParts g { u with sched := { u.sched with durable := u.sched.durable.filter (· != p) } } :=
      fun _ => ⟨rfl, rfl, fun _ => rfl⟩
    exact ((withdrawn.trans (State.modCores_keepsParts _ _ _)).trans (State.modJob_keepsParts _ job p _)).trans (unlisted _)

theorem State.discardJob_keepsParts (p cause : Nat) : s.KeepsParts g (s.discardJob p cause) := by
  unfold State.discardJob
  split
  · exact .refl s
  · split
    · exact .refl s
    · dsimp only
      refine State.KeepsParts.trans ?_ (.of_sched (State.tellGroup_sched _ p true))
      refine State.KeepsParts.trans ?_ (.of_sched (State.journalWrite_notifies _ _ _ _ _ _).sched)
      refine State.KeepsParts.trans ?_ (.of_sched (State.countEvent_notifies _ _).sched)
      refine State.KeepsParts.trans ?_ (State.modCores_keepsParts _ _ _)
      exact ((s.abandonParts_keepsParts job p).trans (State.modJob_keepsParts _ job p _)).trans (.of_sched rfl)

omit job in
theorem State.endSnapshot_keepsParts (snap : ∀ y o, g { y with snap := o } = g y) (p : Nat) (code : W16) (turn : Nat) :
    s.KeepsParts g (s.endSnapshot p code turn) := by
  unfold State.endSnapshot
  split
  · exact .refl s
  · exact (s.modPart_keepsParts p fun y => snap y _).trans (.of_sched (State.journalWrite_notifies _ _ _ _ _ _).sched)

omit job in
theorem State.discardQueue_keepsParts (queue : ∀ y q, g { y with queue := q } = g y) (p cause : Nat) : s.KeepsParts g (s.discardQueue p cause) := by
  unfold State.discardQueue
  refine State.KeepsParts.trans (State.KeepsParts.foldl (fun t q => ?_) _ s) (State.modPart_keepsParts _ p fun y => queue y _)
  exact .of_sched ((t.countEvent_notifies _).trans (State.journalWrite_notifies _ _ _ _ _ _)).sched

theorem State.endRestore_keepsParts (restore : ∀ y o, g { y with restore := o } = g y) (p : Nat) (code : W16) (bytes : Nat) :
    s.KeepsParts g (s.endRestore p code bytes) := by
  unfold State.endRestore
  split
  · exact .refl s
  · dsimp only
    refine State.KeepsParts.trans ?_ (.of_sched (State.journalWrite_notifies _ _ _ _ _ _).sched)
    refine (s.modPart_keepsParts p fun y => restore y none).trans ?_
    split
    · exact .refl _
    · exact State.modPart_keepsParts _ p fun y => job y _

omit job in
theorem State.dropLoad_keepsParts (load : ∀ y o, g { y with load := o } = g y) (p : Nat) : s.KeepsParts g (s.dropLoad p) := by
  unfold State.dropLoad
  split
  · exact .refl s
  · exact (s.modPart_keepsParts p fun y => load y _).trans (.of_sched (State.respond_onHost _ _ _ _ _).sched)

end

/-! ### A partition reset (15 R428) -/

section
variable (s : State) (p cause : Nat) (k : Clearing)

theorem State.clearBlocks_sched (a n : Nat) : (s.clearBlocks a n).sched = s.sched := by
  unfold State.clearBlocks
  dsimp only
  split <;> rfl

/-- What a partition's reset sets of its partition: the mark, and whether its HBM is still being cleared. -/
def Part.mark (y : Part) : Option Clearing × Bool := (y.clearing, y.hbmClearing)

/-- A reset ends the partition's snapshot; one that is kept has ended. -/
def State.dropKept (s : State) (p : Nat) : State :=
  match (s.part p).snap with
  | some n => if n.phase = SnapPhase.kept then s.modPart p (fun x => { x with snap := none }) else s.endSnapshot p stResetting n.td
  | none => s

theorem State.dropKept_keepsParts : s.KeepsParts Part.mark (s.dropKept p) := by
  unfold State.dropKept
  split
  · split
    · exact s.modPart_keepsParts p fun _ => rfl
    · exact s.endSnapshot_keepsParts (fun _ _ => rfl) p _ _
  · exact .refl _

/-- A partition as its reset begins: nothing queued, and its present job without a committed turn. -/
def Part.restarted (y : Part) : Part :=
  let release := fun (im : Image) => { im with backed := im.backed.map (fun (b : Backed) => { b with filled := false }) }
  { y with
    image := y.image.map release, queue := []
    turnData := 0, turnStream := 0, replayedParts := 0, rankMoves := 0, lastStatus := 0
    job := y.job.map fun j => { j with shadow := [], pendingShadow := [], keys := [], td := 0, ts := 0 } }

/-- A reset marks the partition, ends what it does, and resets its clusters. -/
theorem State.startReset_steps : ∃ t : State, (s.modPart p fun x => { x with clearing := some k, hbmClearing := k.hbm }).KeepsParts Part.mark t ∧
    s.startReset p cause k = ((t.clustersOf p).foldl State.resetClusterOf t).modPart p Part.restarted := by
  have withdrawn : ∀ t : State, t.KeepsParts Part.mark (t.withdrawHeld p none) := fun _ => .of_sched rfl
  refine ⟨_, ?_, rfl⟩
  refine State.KeepsParts.trans ?_ (State.dropLoad_keepsParts _ (fun _ _ => rfl) p)
  refine State.KeepsParts.trans ?_ (withdrawn _)
  refine State.KeepsParts.trans ?_ (State.endRestore_keepsParts _ (fun _ _ => rfl) (fun _ _ => rfl) p _ _)
  refine State.KeepsParts.trans ?_ (State.dropKept_keepsParts _ p)
  refine State.KeepsParts.trans ?_ (State.discardQueue_keepsParts _ (fun _ _ => rfl) p cause)
  refine State.KeepsParts.trans ?_ (State.discardJob_keepsParts _ (fun _ _ => rfl) p cause)
  refine .of_sched ?_
  split
  · exact State.clearBlocks_sched _ _ _
  · rfl

/-- A reset resets each of the partition's clusters with its quarter, takes the queue and leaves the mark. -/
theorem State.startReset_starts :
    ((s.startReset p cause k).part p).clearing = some k ∧ ((s.startReset p cause k).part p).hbmClearing = k.hbm ∧
      ((s.startReset p cause k).part p).queue = [] ∧ ∀ c ∈ s.clustersOf p, ((s.startReset p cause k).cluster c).resetting = true ∧
        ∀ a, quarterBase c ≤ a → a < quarterBase c + 2 ^ 26 → (s.startReset p cause k).readByte a = 0 := by
  obtain ⟨t, begun, steps⟩ := s.startReset_steps p cause k
  have clusters : t.clustersOf p = s.clustersOf p := begun.clustersOf p
  have resets := t.resetAll_onRegions (t.clustersOf p)
  have mark : Part.mark (((t.clustersOf p).foldl State.resetClusterOf t).part p) = (some k, k.hbm) := by
    rw [State.part_of_sched resets.sched, begun.part, State.part_modPart]
    rfl
  rw [steps, State.part_modPart]
  exact ⟨congrArg Prod.fst mark, congrArg Prod.snd mark, rfl, fun c listed => State.resetClusters (clusters.symm ▸ listed) t⟩

end

section
variable {s : State} {r : HostReq} {x : Session} {pw : W16} {p : Nat} {k : Clearing} {P : State → Prop}

/-- The checks of a command on a partition that its session owns and that is not under reset. -/
theorem ownedChecks_pass (number : pw.toNat = p) (inside : p < 48) (bound : (s.part p).session = some r.sid) (clear : (s.part p).clearing = none)
    (a b : Answer) : ∀ e ∈ [(!s.owns r.sid pw.toNat, a), ((s.part pw.toNat).clearing.isSome, b)], e.1 = false := by
  subst number
  simp [State.owns_bound inside bound, clear]

/-- The state in which a reset of a partition has begun (15 R428). -/
def State.ResetBegun (s : State) (p : Nat) (k : Clearing) (t : State) : Prop :=
  (t.part p).clearing = some k ∧ (t.part p).hbmClearing = k.hbm ∧ (t.part p).queue = [] ∧ ∀ c ∈ s.clustersOf p, (t.cluster c).resetting = true ∧
    ∀ a, quarterBase c ≤ a → a < quarterBase c + 2 ^ 26 → t.readByte a = 0

/-- A reset that a command begins: its answer changes the host side alone. -/
theorem gives_startReset {m : SMap Session} {v : State × Nat} {opcode cause : Nat} (told : (s.withSessions m).Notifies v.1)
    (holds : ∀ u, s.ResetBegun p k u → P u) (a : Answer) :
    Gives r opcode (s.withSessions m) P (v.1.startReset p cause k, some a) := fun u onHost _ => by
  obtain ⟨clearing, hbm, queue, clusters⟩ := v.1.startReset_starts p cause k
  have same : v.1.clustersOf p = s.clustersOf p := State.clustersOf_of_layout (congrArg _ told.sched) (congrArg _ told.sched) p
  refine holds u ⟨?_, ?_, ?_, fun c listed => ?_⟩
  · rw [onHost.part, clearing]
  · rw [onHost.part, hbm]
  · rw [onHost.part, queue]
  · rw [State.cluster_of_clusters onHost.clusters]
    refine ⟨(clusters c (same.symm ▸ listed)).1, fun a low high => ?_⟩
    rw [onHost.readByte, (clusters c (same.symm ▸ listed)).2 a low high]

variable (serves : s.Serves r x [1] false) (number : pw.toNat = p) (inside : p < 48) (bound : (s.part p).session = some r.sid)
  (clear : (s.part p).clearing = none)
include serves number inside bound clear

theorem completes_unbindPartition (holds : ∀ u, s.ResetBegun p ⟨true, true, none, r.sid, x.tenant⟩ u → P u) :
    Completes (.unbindPartition r pw) s P :=
  completes_served serves rfl fun m => checked_gives (ownedChecks_pass number inside bound clear _ _) <| by
    rw [number]
    exact gives_startReset ((s.withSessions m).accepted_notifies _ _ _ _ _ _) holds _

theorem completes_partitionReset {clearHbm : Bool} (holds : ∀ u, s.ResetBegun p ⟨clearHbm, false, none, r.sid, x.tenant⟩ u → P u) :
    Completes (.partitionReset r pw clearHbm) s P :=
  completes_served serves rfl fun m => checked_gives (ownedChecks_pass number inside bound clear _ _) <| by
    rw [number]
    exact gives_startReset ((s.withSessions m).accepted_notifies _ _ _ _ _ _) holds _

/-- JOB_STATUS reads and changes nothing but the host side. -/
theorem completes_jobStatus : Completes (.jobStatus r pw) s fun t => t.mem = s.mem ∧ t.sched = s.sched ∧ t.Answered r 0x0016 0 0
    (([0, 8, 16, 24, 32].flatMap fun o => leBytes 8 (s.partReg p o).toNat) ++
      (((s.part p).job.toList.map fun j => j.req.id) ++ (s.part p).queue.map fun q => q.id).flatMap fun i => leBytes 8 i.toNat) :=
  completes_served serves rfl fun m => checked_gives (ownedChecks_pass number inside bound clear _ _) <| by
    subst number
    exact fun u onHost answered => ⟨onHost.mem, onHost.sched, answered rfl⟩

omit serves number inside bound clear in
theorem State.sessionEnded_notifies (s : State) (sid : W64) (tenant : W16) (cause : Nat) : s.Notifies (s.sessionEnded sid tenant cause) := by
  unfold State.sessionEnded
  split
  · exact s.journalWrite_notifies _ _ _ _ _
  · exact .refl s

end

/-- The end of a partition's reset frees what was unbound, and changes nothing outside the partition and the journal (15 R428 step 8). -/
theorem partitionResetDone_ends {s : State} {p : Nat} {k : Clearing} (mark : (s.part p).clearing = some k) (cleared : (s.part p).hbmClearing = false)
    (reset : ∀ c ∈ s.clustersOf p, (s.cluster c).resetting = false) : (partitionResetDone p s).mem = s.mem ∧ (partitionResetDone p s).cores = s.cores ∧
      (partitionResetDone p s).part p = if k.unbind then {} else { s.part p with clearing := none, job := none } := by
  have done : ((s.part p).hbmClearing || (s.clustersOf p).any fun c => (s.cluster c).resetting) = false := by
    simpa [cleared] using reset
  have scrubbed : ∀ (s1 : State) (who : Concern) (body : List Byte),
      s1.Notifies ((s1.countEvent evMemoryScrubbed).journalWrite 0x26 evMemoryScrubbed 0 who body) := fun s1 _ _ =>
    (s1.countEvent_notifies _).trans (State.journalWrite_notifies _ _ _ _ _ _)
  have ended : ∀ u : State, u.Notifies (match k.ended with | some cause => u.sessionEnded k.session k.tenant cause | none => u) := fun u => by
    split
    · exact u.sessionEnded_notifies _ _ _
    · exact .refl u
  unfold partitionResetDone
  simp only [mark, done, Bool.false_eq_true, if_false]
  refine ⟨(ended _).manages.mem.trans ?_, (ended _).cores.trans ?_, ((ended _).part p).trans ?_⟩
  · split
    · exact (scrubbed _ _ _).manages.mem
    · exact (scrubbed _ _ _).manages.mem
  · split
    · exact (scrubbed _ _ _).cores
    · exact (scrubbed _ _ _).cores
  · split
    · exact State.part_setPart _ _ _
    · exact ((scrubbed _ _ _).part p).trans (State.part_modPart _ _ _)

/-- Settles O42: a binding runs through the checks of BIND_PARTITION, a reset through the clusters one by one. -/
theorem partitionsBindAndReset : Obligations.PartitionsBindAndReset := by
  unfold Obligations.PartitionsBindAndReset
  intro s r x p pw number
  refine ⟨?_, ?_, ?_, ?_, ?_⟩
  · intro layout gib b serves active free clear may pos fits room
    rw [← number] at free clear may ⊢
    refine completes_bindFree serves free clear may pos fits room (fun other => absurd active other) fun v w u sched mem cores bound onHost answered => ?_
    rw [if_pos active] at bound
    have part : w.part pw.toNat = (s.part pw.toNat).bind r.sid x.tenant b gib.toNat := by
      rw [bound, State.part_modPart, State.part_of_sched sched]
    have clusters : w.clustersOf pw.toNat = s.clustersOf pw.toNat := by
      rw [bound]
      exact State.clustersOf_of_layout (congrArg _ sched) (congrArg _ sched) _
    refine ⟨onHost.mem.trans ?_, onHost.cores.trans ?_, (onHost.part _).trans part, ?_⟩
    · rw [bound]; exact mem
    · rw [bound]; exact cores
    · rw [State.bindingBody, part, clusters] at answered
      exact answered
  · intro layout gib b serves other free clear may pos fits room new empty
    rw [← number] at free clear may ⊢
    refine completes_bindFree serves free clear may pos fits room (fun _ => empty) fun v w u sched mem cores bound onHost answered => ?_
    rw [if_neg other] at bound
    have part : u.part pw.toNat = ((v.changeLayout layout.toNat).part pw.toNat).bind r.sid x.tenant b gib.toNat := by
      rw [onHost.part, bound, State.part_modPart]
    have resets : ∀ c, u.cluster c = (v.changeLayout layout.toNat).cluster c := fun c => by
      rw [State.cluster_of_clusters onHost.clusters, bound]
      rfl
    refine ⟨?_, by rw [part]; rfl, by rw [part]; rfl, by rw [part]; rfl, by rw [part]; rfl, fun c inside moves => ?_⟩
    · rw [onHost.sched, bound]
      exact v.changeLayout_active _
    · rw [resets]
      exact v.changeLayout_resets _ inside (by rw [sched]; exact moves)
  · intro layout serves held clear may pos fits
    rw [← number] at held clear may pos fits ⊢
    have size : (BitVec.ofNat 32 (s.part pw.toNat).sizeGib).toNat = (s.part pw.toNat).sizeGib := by
      rw [BitVec.toNat_ofNat]
      split at fits <;> omega
    refine completes_bindHeld serves held clear may (by omega) (by rw [size]; exact fits) size.symm fun v u sched mem cores onHost answered => ?_
    refine ⟨onHost.mem.trans mem, onHost.cores.trans cores, ?_, ?_⟩
    · rw [onHost.part, State.part_of_sched sched]
    · rw [State.bindingBody_of_sched sched] at answered
      exact answered
  · intro serves bound clear
    refine ⟨?_, fun clearHbm => ?_, completes_jobStatus serves number p.isLt bound clear⟩
    · exact completes_unbindPartition serves number p.isLt bound clear fun u ⟨mark, _, queue, clusters⟩ =>
        ⟨⟨_, mark, rfl⟩, queue, fun c listed => (clusters c listed).1, fun c listed => (clusters c listed).2⟩
    · exact completes_partitionReset serves number p.isLt bound clear fun u ⟨mark, hbm, queue, clusters⟩ =>
        ⟨⟨⟨_, mark, rfl⟩, queue, fun c listed => (clusters c listed).1, fun c listed => (clusters c listed).2⟩, hbm⟩
  · intro k running mark cleared reset
    refine ⟨_, rfl, ?_⟩
    rw [State.scheduled, running]
    exact partitionResetDone_ends mark cleared reset

end Sys2Proof.Machine

/-! SUPPORT. Images and jobs of a partition (08 R210, R211, 10 R280) and the host's phase hints (12 R357). -/

namespace Sys2Proof.Machine

/-! ### LOAD_IMAGE and its pull (10 R277 to R280) -/

section
variable {s : State} {r : HostReq} {x : Session} {pw : W16} {p : Nat}

/-- LOAD_IMAGE keeps its request and starts the pull. -/
theorem completes_loadImage {qp : W32} {addr : W64} {rkey : W32} {len : W64} (serves : s.Serves r x [1, 2] false) (number : pw.toNat = p)
    (inside : p < 48) (bound : (s.part p).session = some r.sid) (pair : s.ownsQp r.sid qp = true) (some' : len ≠ 0)
    (fits : len.toNat ≤ (s.part p).bytes) (idle : (s.part p).busy = false) (load : (s.part p).load = none)
    (restore : (s.part p).restore = none) (clear : (s.part p).clearing = none) :
    Completes (.loadImage r pw qp addr rkey len) s fun t => t.mem = s.mem ∧ t.cores = s.cores ∧ .rdmaRead qp addr len ∈ t.out ∧
      ∃ l, (t.part p).load = some l ∧ l.sid = r.sid ∧ l.cmdSeq = r.seq ∧ l.length = len.toNat := by
  subst number
  refine completes_served serves rfl fun m => ?_
  have load' : ((s.withSessions m).part pw.toNat).load = none := load
  dsimp only
  rw [load']
  dsimp only
  rw [if_neg Bool.false_ne_true]
  refine checked_gives ?_ ?_
  · have length : ¬(len.toNat = 0 ∨ (s.part pw.toNat).bytes < len.toNat) := by
      have := mt (toNat_eq_zero_iff len).1 some'
      omega
    have mine : (!s.owns r.sid pw.toNat || !s.ownsQp r.sid qp) = false := by rw [State.owns_bound inside bound, pair]; rfl
    have still : ((s.part pw.toNat).busy || false || (s.part pw.toNat).restore.isSome) = false := by rw [idle, restore]; rfl
    refine List.forall_mem_cons.2 ⟨mine, List.forall_mem_cons.2 ⟨decide_eq_false length, List.forall_mem_cons.2 ⟨still, ?_⟩⟩⟩
    exact List.forall_mem_cons.2 ⟨congrArg Option.isSome clear, fun _ none' => nomatch none'⟩
  · have part : ∀ (t : State) (k : Pull) (f : Part → Part), ((t.modPart pw.toNat f).emitPull k).part pw.toNat = f (t.part pw.toNat) :=
      fun t _ f => t.part_modPart _ f
    refine ⟨rfl, rfl, List.mem_append_right _ ?_, _, congrArg Part.load (part _ _ _), rfl, rfl, rfl⟩
    rw [BitVec.ofNat_toNat, BitVec.setWidth_eq]
    exact List.mem_singleton.2 rfl

end

section
variable (s : State)

theorem State.hostTraffic_onMesh (port a n : Nat) (toMemory : Bool) : s.OnMesh (s.hostTraffic port a n toMemory) := by
  refine foldl_related State.OnMesh.refl State.OnMesh.trans (fun g _ t => ?_) s
  dsimp only
  split <;> exact (State.OnMesh.refl t).traffic _ _ _ _

theorem State.countRdma_notifies (q : W32) (rx tx : Nat) : s.Notifies (s.countRdma q rx tx) := by
  unfold State.countRdma
  split <;> rfl

/-- The counts of bytes that a pull brought, and its answer, leave memory, cores and partitions. -/
theorem State.pullAnswered (port a n : Nat) (q : W32) (sid : W64) (opcode : Nat) (seq : W64) (answer : Answer) :
    let t := ((s.hostTraffic port a n true).countRdma q n 0).respond sid opcode seq answer
    t.mem = s.mem ∧ t.sched = s.sched ∧ t.cores = s.cores := by
  have told := (s.hostTraffic_onMesh port a n true).notifies.trans (State.countRdma_notifies _ q n 0)
  have answered := ((s.hostTraffic port a n true).countRdma q n 0).respond_onHost sid opcode seq answer
  exact ⟨answered.mem.trans told.manages.mem, answered.sched.trans told.sched, answered.cores.trans told.cores⟩

variable {s} {p : Nat} {l : PendingLoad}

/-- The checks of a pulled image do not depend on the pull that stands. -/
theorem State.imageRefusal_unloaded (got : Option (List Byte)) :
    (s.modPart p fun y => { y with load := none }).imageRefusal p l.length got = s.imageRefusal p l.length got := by
  unfold State.imageRefusal
  rw [State.part_modPart]
  rfl

variable (load : (s.part p).load = some l)
include load

/-- An image that passes stands at the binding's base and is the loaded one. -/
theorem loadImagePullDone_passes {x : Session} {bs : List Byte} (known : s.session? l.sid = some x)
    (passes : s.imageRefusal p l.length (some bs) = none) :
    let t := loadImagePullDone p (some bs) s
    (∀ a, t.readByte a = if (s.part p).base ≤ a ∧ a < (s.part p).base + bs.length then bs.getD (a - (s.part p).base) 0 else s.readByte a) ∧
      t.part p = { s.part p with load := none, image := some (readImage bs) } ∧ t.cores = s.cores := by
  have known' : (s.modPart p fun y => { y with load := none }).session? l.sid = some x := known
  have passes' := (State.imageRefusal_unloaded (some bs)).trans passes
  dsimp only
  unfold loadImagePullDone
  rw [load]
  dsimp only
  rw [known', passes']
  dsimp only
  rw [State.part_modPart]
  generalize accepted : State.accepted _ _ _ _ _ _ _ = u
  have told : (s.modPart p fun y => { y with load := none }).Notifies u.1 := accepted ▸ State.accepted_notifies _ _ _ _ _ _ _
  obtain ⟨mem, sched, cores⟩ := State.pullAnswered ((u.1.firmwareWrite (s.part p).base bs.length (SMap.ofList bs 0 0)).modPart p fun y =>
    { y with image := some (readImage bs) }) _ (s.part p).base bs.length l.pull.qp l.sid 0x0012 l.cmdSeq _
  obtain ⟨h, written⟩ := u.1.firmwareWrite_frame (s.part p).base bs.length (SMap.ofList bs 0 0)
  refine ⟨fun a => ?_, (State.part_of_sched sched p).trans ?_, cores.trans ?_⟩
  · refine (congrArg (SMap.getD · a 0) mem).trans ?_
    rw [written]
    refine (u.1.readByte_store _ _ _ a).trans ?_
    rw [told.readByte, ← SMap.getD_ofList bs 0 (a - (s.part p).base) 0, Nat.zero_add]
    rfl
  · have kept : (u.1.firmwareWrite (s.part p).base bs.length (SMap.ofList bs 0 0)).sched = u.1.sched := by rw [written]; rfl
    rw [State.part_modPart, State.part_of_sched kept, told.part, State.part_modPart]
  · rw [written]
    exact told.cores

/-- One that does not changes the pull alone. -/
theorem loadImagePullDone_refused {got : Option (List Byte)} (refused : s.imageRefusal p l.length got ≠ none) :
    let t := loadImagePullDone p got s
    t.mem = s.mem ∧ t.cores = s.cores ∧ t.part p = { s.part p with load := none } := by
  obtain ⟨a, answer⟩ := Option.ne_none_iff_exists'.1 ((State.imageRefusal_unloaded got).symm ▸ refused)
  have pulled : ∀ t : State, (s.modPart p fun y => { y with load := none }).OnHost t →
      t.mem = s.mem ∧ t.cores = s.cores ∧ t.part p = { s.part p with load := none } := fun t h =>
    ⟨h.mem, h.cores, (h.part p).trans (State.part_modPart _ _ _)⟩
  dsimp only
  unfold loadImagePullDone
  rw [load]
  dsimp only
  rw [answer]
  split
  next h => cases h
  · exact pulled _ (State.respond_onHost _ _ _ _ _)
  · exact pulled _ (.refl _)

end

/-! ### PHASE_HINT (12 R357) -/

section
variable {s : State} {c d : Nat} {h : Hint}

theorem State.OnRegions.power {t : State} (k : s.OnRegions t) : t.power = s.power := by rw [k]

theorem State.endHint_onRegions (s : State) (c : Nat) : s.OnRegions (s.endHint c) := by
  unfold State.endHint
  split
  · exact .refl s
  · exact (State.OnRegions.foldl (fun t L => t.modCore_onRegions L _) _ s).trans rfl

theorem State.takeHint_onRegions (s : State) (c : Nat) (h : Hint) : s.OnRegions (s.takeHint c h) := by
  have counted : ∀ f : Cluster → Cluster, s.OnRegions (s.modCluster c f) := fun _ => rfl
  unfold State.takeHint
  dsimp only
  split
  · exact counted _
  · split
    · exact (counted _).trans (State.endHint_onRegions _ c)
    · exact (counted _).trans rfl

theorem State.endHint_cluster (s : State) (c d : Nat) : (s.endHint c).cluster d = if d = c then (s.cluster c).dropHint else s.cluster d := by
  cases stands : (s.cluster c).hint with
  | none =>
    rw [State.endHint_none stands]
    split
    next same => rw [same, Cluster.dropHint, ← stands]
    · rfl
  | some h =>
    have ramped := foldl_keeps (fun t : State => t.cluster d) (fun t L => t.cluster_modCore L Core.rampDown d) (s.hintCores c h) s
    have rampedHere := foldl_keeps (fun t : State => t.cluster c) (fun t L => t.cluster_modCore L Core.rampDown c) (s.hintCores c h) s
    unfold State.endHint
    rw [stands]
    dsimp only
    split
    next same => rw [same, State.cluster_modCluster, rampedHere]; rfl
    next other => rw [State.cluster_modCluster_other _ _ other, ramped]

theorem State.takeHint_mem (s : State) (c : Nat) (h : Hint) : (s.takeHint c h).mem = s.mem := by
  have ended : ∀ t : State, (t.endHint c).mem = t.mem := fun t => by
    unfold State.endHint
    split
    · rfl
    · exact foldl_keeps State.mem (fun t L => t.modCore_mem L _) _ _
  unfold State.takeHint
  dsimp only
  split
  · rfl
  · split
    · exact ended _
    · rfl

/-- A hint that a phase opens with leaves the cores as they are. -/
theorem State.takeHint_cores (s : State) (c : Nat) {h : Hint} (real : h.load ≠ 0) : (s.takeHint c h).cores = s.cores := by
  unfold State.takeHint
  dsimp only
  rw [if_neg real]
  split <;> rfl

/-- A hint that a running region takes stands, or ends the one that stands; the region runs on. -/
theorem State.takeHint_same (answers : s.power.safeFloor = false) (runs : (s.cluster c).region = .running) :
    ((s.takeHint c h).cluster c).region = .running ∧ ((s.takeHint c h).cluster c).hint = if h.load = 0 then none else some h := by
  rw [State.takeHint_honoured answers runs]
  split
  · rw [State.endHint_cluster, if_pos rfl, State.cluster_modCluster]
    exact ⟨runs, rfl⟩
  · simp [State.cluster_modCluster, runs, Cluster.honour]

theorem State.takeHint_other (other : c ≠ d) : (s.takeHint d h).cluster c = s.cluster c := by
  unfold State.takeHint
  dsimp only
  split
  · exact State.cluster_modCluster_other _ _ other
  · split
    · rw [State.endHint_cluster, if_neg other, State.cluster_modCluster_other _ _ other]
    · rw [State.cluster_modCluster_other _ _ other, State.cluster_modCluster_other _ _ other]

/-- A hint that the clusters of `l` take one after the other stands in each listed region that runs. -/
theorem State.takeHints {l : List Nat} (answers : s.power.safeFloor = false) (runs : (s.cluster c).region = .running)
    (reached : c ∈ l ∨ (s.cluster c).hint = if h.load = 0 then none else some h) :
    ((l.foldl (fun t d => t.takeHint d h) s).cluster c).hint = if h.load = 0 then none else some h := by
  induction l generalizing s with
  | nil => exact reached.resolve_left List.not_mem_nil
  | cons d l ih =>
    have kept : (s.takeHint d h).power.safeFloor = false := by rw [(s.takeHint_onRegions d h).power, answers]
    by_cases same : c = d
    · subst same
      obtain ⟨still, stands⟩ := State.takeHint_same (h := h) answers runs
      exact ih kept still (.inr stands)
    · refine ih kept (by rw [State.takeHint_other same, runs]) ?_
      rw [State.takeHint_other same]
      exact reached.imp_left fun listed => (List.mem_cons.1 listed).resolve_left same

end

section
variable {s : State} {r : HostReq} {x : Session} {pw lead : W16} {dur : W32} {load : Byte} {p : Nat}
  (serves : s.Serves r x [8] false) (number : pw.toNat = p) (inside : p < 48) (bound : (s.part p).session = some r.sid)
  (clear : (s.part p).clearing = none)
include serves number inside bound clear

/-- A hint within its ranges reaches the partition's regions and is answered. -/
theorem completes_phaseHint {P : State → Prop} (small : load.toNat ≤ 15) (agree : load = 0 ↔ dur = 0)
    (holds : ∀ m u, ((s.clustersOf p).foldl (fun t c => t.takeHint c ⟨load.toNat, lead.toNat, dur.toNat, none, false⟩) (s.withSessions m)).OnHost u →
      u.Answered r 0x0080 0 0 [] → P u) : Completes (.phaseHint r pw lead dur load) s P := by
  subst number
  refine completes_served serves rfl fun m => checked_gives ?_ fun u onHost answered => holds m u onHost (answered ?_)
  · have range : ¬(15 < load.toNat ∨ (load.toNat = 0 ∧ dur.toNat ≠ 0) ∨ (load.toNat ≠ 0 ∧ dur.toNat = 0)) := by
      simp only [ne_eq, toNat_eq_zero_iff]
      have : ¬ 15 < load.toNat := by omega
      tauto
    refine List.forall_mem_cons.2 ⟨State.owns_bound inside bound, List.forall_mem_cons.2 ⟨decide_eq_false range, ?_⟩⟩
    exact List.forall_mem_cons.2 ⟨congrArg Option.isSome clear, fun _ none' => nomatch none'⟩
  · exact (State.OnRegions.foldl (fun t c => t.takeHint_onRegions c _) _ _).session? _

end

/-! ### Jobs that load and are discarded (08 R210, R227) -/

section
variable {s : State} {p : Nat}

theorem State.tryAdmit_sched (s : State) (g : W32) : (s.tryAdmit g).sched = s.sched := by
  unfold State.tryAdmit
  dsimp only
  rw [apply_ite State.sched]
  refine ite_eq_iff'.2 ⟨fun _ => rfl, fun _ => ?_⟩
  exact foldl_keeps State.sched (fun t k => (t.sendMember_notifies k _).sched) _ _

theorem State.reportGroup_sched (s : State) (p : Nat) : (s.reportGroup p).sched = s.sched := by
  unfold State.reportGroup
  split
  · rfl
  · split
    · rfl
    · dsimp only
      split
      · exact State.tryAdmit_sched _ _
      · split
        · exact (State.sendMember_notifies _ _ _).sched
        · rfl

theorem State.queueWake_sched (s : State) (c : Nat) : (s.queueWake c).sched = s.sched := (s.queueWake_onRegions c).sched

theorem State.wakeHosts_sched (s : State) (j : Job) : (s.wakeHosts j).sched = s.sched :=
  foldl_keeps State.sched (fun t L => by
    split
    · exact t.queueWake_sched _
    · rfl) _ s

theorem State.loadNext_idle (idle : (s.part p).queue = []) : s.loadNext p = s := by
  unfold State.loadNext
  dsimp only
  rw [idle]

/-- A queued job that its image and the clusters allow loads. -/
theorem State.loadNext_loads {q : JobReq} {im : Image} (queue : (s.part p).queue = [q]) (image : (s.part p).image = some im)
    (room : clustersNeeded im.ranks q.body.doubles ≤ (s.clusterOrder p im.relay).length) (turns : q.body.turns.toNat ≤ im.turns) :
    ∃ j, ((s.loadNext p).part p).job = some j ∧ j.req = q ∧ j.state = .loading ∧ j.td = 0 ∧ j.ts = 0 ∧ ((s.loadNext p).part p).queue = [] := by
  have few : decide ((s.clusterOrder p im.relay).length < clustersNeeded im.ranks q.body.doubles) = false := decide_eq_false (by omega)
  have long : decide (im.turns < if q.body.turns = 0 then im.turns else q.body.turns.toNat) = false := by
    refine decide_eq_false ?_
    split <;> omega
  unfold State.loadNext
  dsimp only
  rw [queue, image]
  dsimp only [Option.map_some, Option.getD_some]
  have fits : ¬(decide ((s.clusterOrder p im.relay).length < clustersNeeded im.ranks q.body.doubles) ||
      decide (im.turns < if q.body.turns = 0 then im.turns else q.body.turns.toNat)) = true := by rw [few, long]; exact Bool.false_ne_true
  simp only [if_neg fits]
  have part : ∀ (u : State) (j : Job) (L : List Nat) (f : Core → Core),
      (L.foldl (fun t L => t.modCore L f) ((u.reportGroup p).wakeHosts j)).part p = u.part p := fun u j L f =>
    State.part_of_sched ((foldl_keeps State.sched (fun t L => t.modCore_sched L f) _ _).trans ((State.wakeHosts_sched _ j).trans (u.reportGroup_sched p))) p
  rw [part, State.part_setPart]
  exact ⟨_, rfl, rfl, rfl, rfl, rfl, rfl⟩

/-- A present job is discarded, with its cores outside the turn. -/
theorem State.discardJob_present {j : Job} (job : (s.part p).job = some j) (busy : (s.part p).busy = true) (cause : Nat) :
    (∃ k, ((s.discardJob p cause).part p) = { s.part p with job := some k } ∧ k.state = .discarded) ∧
      ∀ L ∈ j.cores, ((s.discardJob p cause).core L).inTurn = false := by
  obtain ⟨k, abandoned⟩ := State.abandonParts_part job
  have live : ¬(j.state = .completed ∨ j.state = .discarded ∨ j.state = .none) := by
    rw [Part.busy, job] at busy
    rintro (e | e | e) <;> simp [e] at busy
  unfold State.discardJob
  rw [job]
  dsimp only
  rw [if_neg live]
  have told : ∀ (u : State) (body : List Byte), u.Notifies (((u.countEvent evJobDiscarded).journalWrite 0x25 evJobDiscarded j.td
      (s.concernOf (some p)) body).tellGroup p true) := fun u body =>
    ((u.countEvent_notifies _).trans (State.journalWrite_notifies _ _ _ _ _ _)).trans (State.tellGroup_notifies _ p true)
  refine ⟨⟨{ k with state := .discarded, waiting := false }, ((told _ _).part p).trans ?_, rfl⟩, fun L served => ?_⟩
  · refine (State.part_of_sched (foldl_keeps State.sched (fun t L => t.modCore_sched L _) _ _) p).trans ?_
    refine (State.part_modJob _ p _).trans ?_
    rw [abandoned]
    rfl
  · rw [State.core_of_cores (told _ _).cores]
    refine foldl_establishes (P := fun t : State => (t.core L).inTurn = false) served (fun t => ?_) (fun M _ other t still => ?_) _
    · rw [State.core_modCore]
      rfl
    · rw [State.core_modCore_other _ _ other.symm]
      exact still

end

section
variable (s : State)

theorem State.dropRequested_keepsParts {α : Type} {g : Part → α} (snap : ∀ y o, g { y with snap := o } = g y) (p : Nat) :
    s.KeepsParts g (s.dropRequested p) := by
  unfold State.dropRequested
  split
  · split
    · exact s.endSnapshot_keepsParts snap p _ _
    · exact .refl s
  · exact .refl s

theorem State.endSnapshot_cores (p : Nat) (code : W16) (turn : Nat) : (s.endSnapshot p code turn).cores = s.cores := by
  unfold State.endSnapshot
  split
  · rfl
  · exact (State.journalWrite_notifies _ _ _ _ _ _).cores

theorem State.dropRequested_cores (p : Nat) : (s.dropRequested p).cores = s.cores := by
  unfold State.dropRequested
  split
  · split
    · exact s.endSnapshot_cores p _ _
    · rfl
  · rfl

variable {s}

theorem State.clusterOrder_of_sched {t : State} (active : t.sched.active = s.sched.active) (layouts : t.sched.layouts = s.sched.layouts)
    (clusters : t.clusters = s.clusters) (p : Nat) (relay : Bool) : t.clusterOrder p relay = s.clusterOrder p relay := by
  have same : t.partOf = s.partOf := by funext c; simp only [State.partOf, active, layouts]
  have serving : t.inService = s.inService := by funext c; rw [State.inService, State.cluster_of_clusters clusters, State.inService]
  rw [State.clusterOrder, same, serving, State.clusterOrder]

theorem startJobRange_turns {y : Part} {b : StartJobBody} {im : Image} (image : y.image = some im) (range : startJobRange y b = false) :
    b.turns.toNat ≤ im.turns := by
  unfold startJobRange at range
  dsimp only at range
  rw [image] at range
  obtain ⟨first, -⟩ := Bool.or_eq_false_iff.1 range
  obtain ⟨-, turns⟩ := Bool.or_eq_false_iff.1 first
  exact Nat.le_of_not_lt (of_decide_eq_false turns)

end

/-! ### START_JOB and END_JOB (10 R279, R280) -/

/-- A partition with one more job in its queue. -/
def Part.enqueue (y : Part) (q : JobReq) : Part := { y with queue := y.queue ++ [q] }

section
variable {s : State} {r : HostReq} {x : Session} {p : Nat}

/-- A job that its checks allow joins the queue, and loads at once where no job is present. -/
theorem completes_startJob {b : StartJobBody} {im : Image} {P : State → Prop}
    (serves : s.Serves r x ([1] ++ (if b.doubles then [10] else []) ++ if b.group then [9] else []) false) (number : b.partition.toNat = p)
    (inside : p < 48) (bound : (s.part p).session = some r.sid) (range : startJobRange (s.part p) b = false) (image : (s.part p).image = some im)
    (load : (s.part p).load = none) (restore : (s.part p).restore = none) (clear : (s.part p).clearing = none)
    (room : clustersNeeded im.ranks b.doubles ≤ (s.clusterOrder p false).length) (count : (s.part p).jobCount < 16)
    (holds : ∀ id (v w u : State), v.mem = s.mem → v.cores = s.cores → v.clusters = s.clusters → v.sched = s.sched →
      w = v.modPart p (Part.enqueue · ⟨id, r.sid, x.tenant, b⟩) → (if (s.part p).busy then w else w.loadNext p).OnHost u →
      u.Answered r 0x0013 0 0 (leBytes 8 id.toNat ++ [BitVec.ofNat 8 (s.part p).jobCount]) → P u) : Completes (.startJob r b) s P := by
  subst number
  refine completes_served serves rfl fun m => checked_gives ?_ ?_
  · have need : decide ((s.clusterOrder b.partition.toNat false).length < match (s.part b.partition.toNat).image with
        | some i => clustersNeeded i.ranks b.doubles
        | none => 0) = false := by
      rw [image]
      exact decide_eq_false (by dsimp only; omega)
    have ready : ((s.part b.partition.toNat).image.isNone || (s.part b.partition.toNat).load.isSome ||
        (s.part b.partition.toNat).restore.isSome) = false := by rw [image, load, restore]; rfl
    refine List.forall_mem_cons.2 ⟨State.owns_bound inside bound, List.forall_mem_cons.2 ⟨range, List.forall_mem_cons.2 ⟨need, ?_⟩⟩⟩
    refine List.forall_mem_cons.2 ⟨decide_eq_false (Nat.not_le_of_lt count), List.forall_mem_cons.2 ⟨ready, ?_⟩⟩
    exact List.forall_mem_cons.2 ⟨congrArg Option.isSome clear, fun _ none' => nomatch none'⟩
  · have told := (s.withSessions m).accepted_notifies x r 0x0013 (Config.idBase + BitVec.ofNat 64 s.journal.next) (some b.partition.toNat)
      (startJobBytes b)
    refine fun u onHost answered => holds _ _ _ u told.manages.mem told.cores told.clusters told.sched rfl onHost (answered ?_)
    refine Eq.trans ?_ (told.session? r.sid)
    show State.session? (if _ then _ else _) _ = _
    split
    · rfl
    · exact (State.loadNext_manages _ _).session? _

/-- A job that END_JOB finds as the present one of a partition is busy there. -/
theorem State.findJob_busy {sid id : W64} (found : s.findJob sid id = some (p, true)) : (s.part p).busy = true := by
  obtain ⟨q, _, here⟩ := List.exists_of_findSome?_eq_some found
  dsimp only at here
  split at here
  · split at here
    next busy =>
      obtain ⟨rfl, -⟩ := Prod.mk.inj (Option.some.inj here)
      exact busy.2
    · split at here <;> simp at here
  · split at here <;> simp at here

variable {id : W64} {present : Bool} {P : State → Prop} (serves : s.Serves r x [1] false) (restore : (s.part p).restore = none)
  (clear : (s.part p).clearing = none) (found : s.findJob r.sid id = some (p, present))
include serves restore clear found

/-- END_JOB of a job that stands in a partition without a restore or a reset. -/
theorem completes_endJob (does : ∀ m (u : State × Nat), (s.withSessions m).Notifies u.1 → Gives r 0x0014 (s.withSessions m) P
      (if present = true then (u.1.discardJob p 1).nextJob p
        else ((u.1.modPart p fun y => { y with queue := y.queue.filter fun q => q.id != id }).countEvent evJobDiscarded).journalWrite
          0x25 evJobDiscarded 0 { sid := r.sid, job := id, part := BitVec.ofNat 16 p, tenant := x.tenant } [1], some { jseq := u.2 })) :
    Completes (.endJob r id) s P := by
  refine completes_served serves rfl fun m => ?_
  rw [show (s.withSessions m).findJob r.sid id = some (p, present) from found]
  refine checked_gives ?_ (does m _ (State.accepted_notifies _ _ _ _ _ _ _))
  exact List.forall_mem_cons.2 ⟨congrArg Option.isSome restore, List.forall_mem_cons.2 ⟨congrArg Option.isSome clear, fun _ none' => nomatch none'⟩⟩

end

/-- Settles O43: each command through its checks; the pull, the load and the discard of a job by what each leaves. -/
theorem imagesLoadAndJobsQueue : Obligations.ImagesLoadAndJobsQueue := by
  unfold Obligations.ImagesLoadAndJobsQueue
  intro s r x p pw number
  refine ⟨?_, ?_, ?_, ?_, ?_, ?_, ?_, ?_⟩
  · intro qp addr rkey len serves bound pair some' fits idle load restore clear
    exact completes_loadImage serves number p.isLt bound pair some' fits idle load restore clear
  · intro l bs running load known passes
    refine ⟨_, rfl, ?_⟩
    rw [State.scheduled, running]
    exact loadImagePullDone_passes load known passes
  · intro l got running load refused
    refine ⟨_, rfl, ?_⟩
    rw [State.scheduled, running]
    exact loadImagePullDone_refused load refused
  · intro b im serves part bound range image load restore clear room count
    refine completes_startJob serves (by rw [part, number]) p.isLt bound range image load restore clear room count
      fun id v w u mem cores clusters sched queued onHost answered => ?_
    have wpart : w.part p.val = (s.part p.val).enqueue ⟨id, r.sid, x.tenant, b⟩ := by rw [queued, State.part_modPart, State.part_of_sched sched]
    refine ⟨onHost.mem.trans ?_, id, answered, fun busy => ?_, fun idle empty room' => ?_⟩
    · split
      · rw [queued]; exact mem
      · rw [(State.loadNext_manages _ _).mem, queued]; exact mem
    · rw [if_pos busy] at onHost
      refine ⟨onHost.cores.trans ?_, (onHost.part _).trans wpart⟩
      rw [queued]; exact cores
    · rw [if_neg (by rw [idle]; exact Bool.false_ne_true)] at onHost
      have order : w.clusterOrder p.val im.relay = s.clusterOrder p.val im.relay :=
        State.clusterOrder_of_sched (by rw [queued]; exact (congrArg Sched.active sched :)) (by rw [queued]; exact (congrArg Sched.layouts sched :))
          (by rw [queued]; exact clusters) _ _
      have turns := startJobRange_turns image range
      rw [onHost.part]
      refine State.loadNext_loads (q := ⟨id, r.sid, x.tenant, b⟩) ?_ (by rw [wpart]; exact image) (by rw [order]; exact room') turns
      rw [wpart, Part.enqueue, empty]
      rfl
  · intro j serves job restore clear found
    have busy := State.findJob_busy found
    refine completes_endJob serves restore clear found fun m v told u onHost answered => ?_
    rw [if_pos rfl] at onHost answered
    have vjob : (v.1.part p.val).job = some j := by rw [told.part]; exact job
    have vbusy : (v.1.part p.val).busy = true := by rw [told.part]; exact busy
    have managed := (v.1.discardJob_manages p.val 1).trans (State.nextJob_manages _ p.val)
    refine ⟨(onHost.mem.trans managed.mem).trans told.manages.mem, answered ((managed.session? _).trans (told.session? _)), fun empty => ?_⟩
    obtain ⟨⟨k, part, discarded⟩, stopped⟩ := State.discardJob_present vjob vbusy 1
    have jobs := (v.1.discardJob p.val 1).dropRequested_keepsParts (g := fun y => (y.job, y.queue)) (fun _ _ => rfl) p.val
    obtain ⟨sameJob, sameQueue⟩ := Prod.mk.inj (jobs.part p.val)
    have idle : ((v.1.discardJob p.val 1).dropRequested p.val).loadNext p.val = (v.1.discardJob p.val 1).dropRequested p.val := by
      refine State.loadNext_idle (sameQueue.trans ?_)
      rw [part, told.part]
      exact empty
    rw [State.nextJob, idle] at onHost
    refine ⟨⟨k, ?_, discarded⟩, fun L served => ?_⟩
    · rw [onHost.part, sameJob, part]
    · rw [State.core_of_cores onHost.cores, State.core_of_cores (State.dropRequested_cores _ _)]
      exact stopped L served
  · intro id serves restore clear found
    refine completes_endJob serves restore clear found fun m v told u onHost answered => ?_
    rw [if_neg Bool.false_ne_true] at onHost answered
    have noted := ((v.1.modPart p.val fun y => { y with queue := y.queue.filter fun q => q.id != id }).countEvent_notifies evJobDiscarded).trans
      (State.journalWrite_notifies _ 0x25 evJobDiscarded 0 { sid := r.sid, job := id, part := BitVec.ofNat 16 p, tenant := x.tenant } [1])
    refine ⟨(onHost.mem.trans noted.manages.mem).trans told.manages.mem, (onHost.cores.trans noted.cores).trans told.cores,
      answered ((noted.session? _).trans (told.session? _)), ((onHost.part _).trans (noted.part _)).trans ?_⟩
    rw [State.part_modPart, told.part]
    rfl
  · intro lead dur load serves bound clear some' some'' small answers
    refine completes_phaseHint serves number p.isLt bound clear small (iff_of_false some' some'') fun m u onHost answered => ?_
    have real : load.toNat ≠ 0 := mt (toNat_eq_zero_iff load).1 some'
    refine ⟨onHost.mem.trans ?_, onHost.cores.trans ?_, answered, fun c listed runs => ?_⟩
    · exact foldl_keeps State.mem (fun t d => t.takeHint_mem d _) _ _
    · exact foldl_keeps State.cores (fun t d => t.takeHint_cores d real) _ _
    · rw [State.cluster_of_clusters onHost.clusters]
      exact (State.takeHints (s := s.withSessions m) answers runs (.inl listed)).trans (if_neg real)
  · intro lead serves bound clear answers
    refine completes_phaseHint serves number p.isLt bound clear (by decide) (by simp) fun m u onHost answered => ?_
    refine ⟨onHost.mem.trans ?_, answered, fun c listed runs => ?_⟩
    · exact foldl_keeps State.mem (fun t d => t.takeHint_mem d _) _ _
    · rw [State.cluster_of_clusters onHost.clusters]
      exact State.takeHints (s := s.withSessions m) answers runs (.inl listed)

end Sys2Proof.Machine

/-! SUPPORT. A rank that is rebuilt from sound memory (08 R220, R226), and the turn that goes on or begins (08 R224 step 4). -/

namespace Sys2Proof.Machine

/-! ### Copies in a memory where every word gives its data -/

/-- `t` differs from `s` by memory alone, and no word of either is in error. -/
def State.OnSound (s t : State) : Prop := t = { s with mem := t.mem, wordErr := [], writeBack := t.writeBack } ∧ s.wordErr = []

/-- No word of memory is in error, and every stack answers for every channel. -/
def State.Clean (s : State) : Prop := s.wordErr = [] ∧ s.allAnswer = true

section
variable {s t u : State}

theorem State.OnSound.refl (h : s.wordErr = []) : s.OnSound s := ⟨by rw [← h], h⟩

theorem State.OnSound.trans (h : s.OnSound t) (k : t.OnSound u) : s.OnSound u := by
  obtain ⟨ht, hs⟩ := h
  refine ⟨?_, hs⟩
  rw [k.1, ht]

theorem State.OnSound.wordErr (h : s.OnSound t) : t.wordErr = [] := by rw [h.1]
theorem State.OnSound.cores (h : s.OnSound t) : t.cores = s.cores := by rw [h.1]
theorem State.OnSound.sched (h : s.OnSound t) : t.sched = s.sched := by rw [h.1]
theorem State.OnSound.clusters (h : s.OnSound t) : t.clusters = s.clusters := by rw [h.1]
theorem State.OnSound.host (h : s.OnSound t) : t.host = s.host := by rw [h.1]

theorem State.OnSound.clean (h : s.OnSound t) (clean : s.Clean) : t.Clean := by
  refine ⟨h.wordErr, ?_⟩
  rw [h.1]
  exact clean.2

theorem State.Clean.readable (clean : s.Clean) (a n : Nat) : s.Readable a n :=
  ⟨fun _ listed => absurd (clean.1 ▸ listed) List.not_mem_nil, fun _ => clean.2⟩

theorem State.store_onSound (h : s.wordErr = []) (a n : Nat) (es : SMap Byte) : s.OnSound (s.store a n es) := by
  refine ⟨?_, h⟩
  unfold State.store
  rw [h]
  rfl

/-- A task that lists what it could not read lists nothing in a sound memory, and changes memory alone. -/
def Copies {γ : Type} (s : State) (r : State × List γ) : Prop := s.OnSound r.1 ∧ r.2 = []

theorem State.copyRead_copies (clean : s.Clean) (src dst n : Nat) : Copies s (s.copyRead src dst n) := by
  unfold State.copyRead
  rw [s.readRange_readable _ _ _ _ (clean.readable src n)]
  exact ⟨State.store_onSound clean.1 _ _ _, rfl⟩

/-- Such tasks one after another. -/
theorem copies_foldl {β γ : Type} {f : State → β → State × List γ} (l : List β) (one : ∀ t : State, t.Clean → ∀ x, Copies t (f t x))
    (clean : s.Clean) : Copies s (l.foldl (fun (acc : State × List γ) x => ((f acc.1 x).1, acc.2 ++ (f acc.1 x).2)) (s, [])) := by
  refine List.foldlRecOn l _ (motive := Copies s) ⟨.refl clean.1, rfl⟩ fun acc begun x _ => ?_
  obtain ⟨here, none'⟩ := one acc.1 (begun.1.clean clean) x
  refine ⟨begun.1.trans here, ?_⟩
  dsimp only
  rw [begun.2, none', List.append_nil]

theorem State.copyAll_copies (clean : s.Clean) (cs : List (Nat × Nat × Nat)) : Copies s (s.copyAll cs) :=
  copies_foldl cs (fun _ ht c => State.copyRead_copies ht c.1 c.2.1 c.2.2) clean

theorem State.loadResident_copies (clean : s.Clean) (p rank L : Nat) : Copies s (s.loadResident p rank L) := by
  unfold State.loadResident
  split
  · exact ⟨.refl clean.1, rfl⟩
  · exact State.copyAll_copies clean _

theorem State.loadCarried_copies (clean : s.Clean) (im : Image) (p rank L : Nat) (sh : RankShadow) : Copies s (s.loadCarried im p rank L sh) :=
  State.copyAll_copies clean _

theorem State.writeJobBlock_onSound (h : s.wordErr = []) (p rank L : Nat) : s.OnSound (s.writeJobBlock p rank L) := by
  unfold State.writeJobBlock
  split
  · exact State.store_onSound h _ _ _
  · exact .refl h

theorem State.resendRows_copies (clean : s.Clean) (snd at' : Nat) (rows : List (Nat × Nat)) : Copies s (s.resendRows snd at' rows) := by
  unfold State.resendRows
  dsimp only
  refine List.foldlRecOn rows _ (motive := fun acc : State × List (Nat × Nat) × Nat => Copies s (acc.1, acc.2.1)) ⟨.refl clean.1, rfl⟩
    fun acc begun q _ => ?_
  obtain ⟨sofar, none'⟩ := begun
  rw [acc.1.readRange_readable _ _ _ _ ((sofar.clean clean).readable _ _)]
  refine ⟨sofar.trans (State.store_onSound sofar.wordErr _ _ _), ?_⟩
  exact (List.append_nil _).trans none'

theorem State.resendSlots_copies (clean : s.Clean) (L : Nat) (boxes : SMap Inbox) : Copies s (s.resendSlots L boxes) := by
  unfold State.resendSlots
  refine List.foldlRecOn boxes _ (motive := Copies s) ⟨.refl clean.1, rfl⟩ fun acc begun b _ => ?_
  refine List.foldlRecOn (List.range b.2.slots.length) _ (motive := Copies s) begun fun acc begun i _ => ?_
  have slot : ∀ at' rows snd, Copies s ((acc.1.resendRows snd at' rows).1, acc.2 ++ (acc.1.resendRows snd at' rows).2) := fun at' rows snd => by
    obtain ⟨here, none'⟩ := State.resendRows_copies (begun.1.clean clean) snd at' rows
    exact ⟨begun.1.trans here, by dsimp only; rw [begun.2, none', List.append_nil]⟩
  split
  · exact slot _ _ _
  · exact slot _ _ _
  · exact begun

end

/-! ### A rebuilt core (08 R220) -/

/-- A core that takes its rank's committed state, with its inboxes, and stands at the part's entry where the turn runs. -/
def Core.restored (c : Core) (sh : RankShadow) (boxes : SMap Inbox) (enters : Bool) : Core :=
  let d := { c with
    regs := sh.regs, inboxes := boxes, ledgers := sh.ledgers, live := sh.live, carry := sh.carry
    entry := sh.entry
    attempt := { c.attempt with rebuild := false, cleared := false, again := false, issued := 0 } }
  if enters then d.enterTurn else { d.clear with seq := .heldBoundary }

/-- A rank is rebuilt from a sound memory: its core alone changes, and memory. -/
theorem State.rebuildCore_clean {s : State} {L : Nat} {pl : Stand} {im : Image} {j : Job} (stand : s.standOf L = some pl)
    (image : (s.part pl.part).image = some im) (job : (s.part pl.part).job = some j) (clean : s.Clean) :
    ∃ u boxes, s.OnSound u ∧
      s.rebuildCore L = u.modCore L (Core.restored · (SMap.getD j.shadow pl.rank {}) boxes (j.runs && s.turnBegun j)) := by
  unfold State.rebuildCore
  rw [stand]
  dsimp only
  rw [image, job]
  dsimp only
  generalize mergeInboxes _ _ = boxes
  have loaded : Copies s (if (s.core L).attempt.cleared then (s.zero (csBase L) (2 ^ 24)).loadResident pl.part pl.rank L else (s, [])) := by
    split
    · have zeroed := State.store_onSound clean.1 (csBase L) (2 ^ 24) []
      obtain ⟨here, none'⟩ := State.loadResident_copies (zeroed.clean clean) pl.part pl.rank L
      exact ⟨zeroed.trans here, none'⟩
    · exact ⟨.refl clean.1, rfl⟩
  revert loaded
  generalize (if (s.core L).attempt.cleared then (s.zero (csBase L) (2 ^ 24)).loadResident pl.part pl.rank L else (s, [])) = a
  rintro ⟨resident, none'⟩
  obtain ⟨carried, none''⟩ := State.loadCarried_copies (resident.clean clean) im pl.part pl.rank L (SMap.getD j.shadow pl.rank {})
  rw [none', none'']
  have resent : Copies s (if (s.core L).attempt.cleared then (a.1.loadCarried im pl.part pl.rank L (SMap.getD j.shadow pl.rank {})).1.resendSlots L boxes
      else ((a.1.loadCarried im pl.part pl.rank L (SMap.getD j.shadow pl.rank {})).1, [])) := by
    split
    · obtain ⟨here, none3⟩ := State.resendSlots_copies ((resident.trans carried).clean clean) L boxes
      exact ⟨(resident.trans carried).trans here, none3⟩
    · exact ⟨resident.trans carried, rfl⟩
  revert resent
  generalize (if (s.core L).attempt.cleared then (a.1.loadCarried im pl.part pl.rank L (SMap.getD j.shadow pl.rank {})).1.resendSlots L boxes
      else ((a.1.loadCarried im pl.part pl.rank L (SMap.getD j.shadow pl.rank {})).1, [])) = r
  rintro ⟨resent, none3⟩
  rw [none3]
  exact ⟨_, boxes, resent.trans (State.writeJobBlock_onSound resent.wordErr _ _ _), rfl⟩

/-! ### A turn goes on or begins (08 R224 step 4) -/

/-- Core M is in `t` as in `s`, or a core of the job that stood at the boundary and has entered the turn. -/
def State.Enters (s : State) (j : Job) (M : Nat) (t : State) : Prop :=
  t.core M = s.core M ∨ M ∈ j.cores ∧ (s.core M).seq = .heldBoundary ∧ t.core M = (s.core M).enterTurn

section
variable {s t : State} {p : Nat} {j : Job}

theorem State.enterParts_sched (s : State) (j : Job) : (s.enterParts j).sched = s.sched :=
  foldl_keeps State.sched (fun t L => t.modCore_sched L _) _ _

theorem State.enterParts_enters (s : State) (j : Job) (M : Nat) : s.Enters j M (s.enterParts j) := by
  refine List.foldlRecOn j.cores _ (motive := s.Enters j M) (.inl rfl) fun t sofar L listed => ?_
  by_cases same : M = L
  · subst same
    unfold State.Enters
    rw [State.core_modCore]
    obtain still | ⟨_, boundary, entered⟩ := sofar
    · rw [still]
      split
      · exact .inl rfl
      next waits =>
        refine .inr ⟨listed, ?_, rfl⟩
        simp only [Bool.or_eq_true, bne_iff_ne, not_or, not_not] at waits
        exact waits.2
    · refine .inr ⟨listed, boundary, ?_⟩
      rw [entered, if_pos]
      simp [Core.enterTurn]
  · unfold State.Enters
    rw [State.core_modCore_other _ _ same]
    exact sofar

theorem State.Enters.of_cores {u : State} {M : Nat} (same : u.cores = s.cores) (h : u.Enters j M t) : s.Enters j M t := by
  unfold State.Enters at h ⊢
  rw [State.core_of_cores same] at h
  exact h

theorem State.wakeHosts_cores (s : State) (j : Job) : (s.wakeHosts j).cores = s.cores :=
  foldl_keeps State.cores (fun t L => by
    split
    · unfold State.queueWake
      dsimp only
      split <;> rfl
    · rfl) _ s

/-- No rank moves where every hosting cluster serves the job. -/
theorem State.moveDue_ready (job : (s.part p).job = some j) (ready : ∀ L ∈ j.cores, s.inService (L / 12) = true ∧ (s.cluster (L / 12)).usable = true) :
    s.moveDue p = s := by
  have none' : ((List.range 48).filter fun c => j.hosts c && (!s.inService c || !(s.cluster c).usable)) = [] := by
    refine List.filter_eq_nil_iff.2 fun c _ moves => ?_
    obtain ⟨hosts, unusable⟩ := Bool.and_eq_true_iff.1 moves
    obtain ⟨L, listed, here⟩ := List.any_eq_true.1 hosts
    have served := ready L listed
    rw [beq_iff_eq.1 here] at served
    simp [served] at unusable
  unfold State.moveDue
  rw [job]
  dsimp only
  rw [none']
  rfl

theorem State.rewriteBlocks_part (job : (s.part p).job = some j) :
    ∃ m, (s.rewriteBlocks p).part p = { s.part p with job := some { j with moved := m } } ∧ (s.rewriteBlocks p).cores = s.cores := by
  have block : ∀ (t : State) (e : Nat × Nat), (t.writeJobBlock p e.1 e.2).sched = t.sched ∧ (t.writeJobBlock p e.1 e.2).cores = t.cores := fun t e => by
    unfold State.writeJobBlock
    split <;> exact ⟨rfl, rfl⟩
  unfold State.rewriteBlocks
  rw [job]
  dsimp only
  split
  · refine ⟨false, (State.part_modJob _ p _).trans ?_, foldl_keeps State.cores (fun t e => (block t e).2) _ s⟩
    rw [State.part_of_sched (foldl_keeps State.sched (fun t e => (block t e).1) _ s), job]
    rfl
  · exact ⟨j.moved, congrArg (fun o => { s.part p with job := o }) job, rfl⟩

/-- A turn that starts, or waits, leaves everything of its job's partition but the job's marks, and on the cores it only enters. -/
theorem State.startTurns_part (job : (s.part p).job = some j) (stays : s.turnBegun j = true ∨ s.moveDue p = s) :
    (∃ w m, (s.startTurns p).part p = { s.part p with job := some { j with waiting := w, moved := m } }) ∧ ∀ M, s.Enters j M (s.startTurns p) := by
  have same : s.part p = { s.part p with job := some { j with waiting := j.waiting, moved := j.moved } } :=
    congrArg (fun o => { s.part p with job := o }) job
  have unmoved : (if s.turnBegun j then s else s.moveDue p) = s := by
    split
    · rfl
    next begins => exact stays.resolve_left begins
  unfold State.startTurns
  rw [job]
  dsimp only
  split
  · exact ⟨⟨_, _, same⟩, fun M => .inl rfl⟩
  · rw [unmoved, job]
    dsimp only
    split
    · exact ⟨⟨_, _, same⟩, fun M => .inl rfl⟩
    · split
      · refine ⟨⟨true, j.moved, (State.part_modJob _ p _).trans ?_⟩, fun M => .inl rfl⟩
        rw [job]
        rfl
      · have woken : (s.wakeHosts j).part p = s.part p := State.part_of_sched (s.wakeHosts_sched j) p
        have wokenJob : ((s.wakeHosts j).part p).job = some j := by rw [woken]; exact job
        split
        · refine ⟨⟨_, _, (State.part_of_sched (State.enterParts_sched _ j) p).trans (woken.trans same)⟩, fun M => ?_⟩
          exact (State.enterParts_enters _ j M).of_cores (s.wakeHosts_cores j)
        · split
          · exact ⟨⟨_, _, woken.trans same⟩, fun M => .inl (State.core_of_cores (s.wakeHosts_cores j) M)⟩
          · obtain ⟨m, part, cores⟩ := State.rewriteBlocks_part wokenJob
            refine ⟨⟨j.waiting, m, (State.part_of_sched (State.enterParts_sched _ j) p).trans (part.trans ?_)⟩, fun M => ?_⟩
            · rw [woken]
            · exact (State.enterParts_enters _ j M).of_cores (cores.trans (s.wakeHosts_cores j))

end

end Sys2Proof.Machine

/-! SUPPORT. PART_REBUILD_DONE (08 R220, R226, R235) and TURN_OVERRUN (08 R223). -/

namespace Sys2Proof.Machine

section
variable {s : State} {L : Nat} {pl : Stand} {im : Image} {j : Job}

/-- A core that stands for a rank is one of its job's cores. -/
theorem State.mem_cores_of_standOf (stand : s.standOf L = some pl) (job : (s.part pl.part).job = some j) : L ∈ j.cores := by
  have listed : ∀ {l : List Nat} {r : Nat}, l.idxOf? L = some r → L ∈ l := fun {l r} h => by
    by_contra absent
    rw [List.idxOf?_eq_none_iff.2 absent] at h
    cases h
  unfold State.standOf at stand
  split at stand
  · cases stand
  · split at stand
    · cases stand
    next j' job' =>
      split at stand
      next r place =>
        obtain rfl := Option.some.inj stand
        obtain rfl := Option.some.inj (job'.symm.trans job)
        exact List.mem_append_left _ (listed place)
      · split at stand
        next r place =>
          obtain rfl := Option.some.inj stand
          obtain rfl := Option.some.inj (job'.symm.trans job)
          exact List.mem_append_right _ (listed place)
        · cases stand

end

section
variable (c : Core) (sh : RankShadow) (boxes : SMap Inbox) (enters : Bool)

/-- The committed state that a rebuilt core holds, at the boundary or in the turn. -/
def Core.HoldsShadow (c : Core) (sh : RankShadow) : Prop :=
  c.regs = sh.regs ∧ c.entry = sh.entry ∧ c.attempt.rebuild = false ∧ c.live = sh.live ∧ c.ledgers = sh.ledgers ∧ c.carry = sh.carry

theorem Core.restored_holdsShadow : (c.restored sh boxes enters).HoldsShadow sh := by
  cases enters <;> exact ⟨rfl, rfl, rfl, rfl, rfl, rfl⟩

theorem Core.enterTurn_holdsShadow {c : Core} {sh : RankShadow} (h : c.HoldsShadow sh) : c.enterTurn.HoldsShadow sh := h

end

/-- A job that counts a replayed part (08 R235). -/
def Job.replays (j : Job) : Job := { j with replayedParts := j.replayedParts + 1, turnReplays := j.turnReplays + 1 }

section
variable {s : State} {L : Nat} {pl : Stand} {im : Image} {j : Job} (stand : s.standOf L = some pl)
  (image : (s.part pl.part).image = some im) (job : (s.part pl.part).job = some j) (clean : s.Clean)
  (rebuild : (s.core L).attempt.rebuild = true) (early : (s.core L).attempt.durable = false)
  (runs : (s.cluster (L / 12)).region = .running) (up : (s.cluster (L / 12)).resetting = false)
  (sound : (s.cluster (L / 12)).failing = []) (untested : s.testing (L / 12) = false)
include stand image job clean rebuild early runs up sound untested

/-- A part whose core's region runs and is not tested is rebuilt, counted where it had begun, and its turn goes on. -/
theorem partRebuildDone_steps : ∃ u boxes, s.OnSound u ∧
    let s1 := u.modCore L (Core.restored · (SMap.getD j.shadow pl.rank {}) boxes (j.runs && s.turnBegun j))
    partRebuildDone L s = (if pl.copyB || !(s.core L).attempt.again then s1
      else (s1.modPart pl.part fun x => { x with replayedParts := x.replayedParts + 1 }).modJob pl.part Job.replays).startTurns pl.part := by
  obtain ⟨u, boxes, onSound, rebuilt⟩ := State.rebuildCore_clean stand image job clean
  have blocked : (!(s.core L).attempt.rebuild || (s.core L).attempt.durable || (s.cluster (L / 12)).region != .running ||
      (s.cluster (L / 12)).resetting || s.testing (L / 12)) = false := by
    rw [rebuild, early, runs, up, untested]
    rfl
  have done : ((s.rebuildCore L).core L).attempt.rebuild = false := by
    rw [rebuilt, State.core_modCore]
    exact ((u.core L).restored_holdsShadow _ _ _).2.2.1
  refine ⟨u, boxes, onSound, ?_⟩
  unfold partRebuildDone
  rw [stand]
  dsimp only
  rw [sound, blocked, done, rebuilt, Bool.or_false]
  rfl

/-- The state that the rebuild hands to its turn: the rank's core restored, every other core as before, and the replay counted. -/
theorem partRebuildDone_hands : ∃ (v : State) (boxes : SMap Inbox) (k : Job), partRebuildDone L s = v.startTurns pl.part ∧ (v.part pl.part).job = some k ∧
    k = (if pl.copyB || !(s.core L).attempt.again then j else j.replays) ∧
    v.core L = (s.core L).restored (SMap.getD j.shadow pl.rank {}) boxes (j.runs && s.turnBegun j) ∧
    (∀ M, M ≠ L → v.core M = s.core M) ∧ v.clusters = s.clusters := by
  obtain ⟨u, boxes, onSound, steps⟩ := partRebuildDone_steps stand image job clean rebuild early runs up sound untested
  dsimp only at steps
  have job' : (u.part pl.part).job = some j := by rw [State.part_of_sched onSound.sched]; exact job
  have here : (u.modCore L (Core.restored · (SMap.getD j.shadow pl.rank {}) boxes (j.runs && s.turnBegun j))).core L =
      (s.core L).restored (SMap.getD j.shadow pl.rank {}) boxes (j.runs && s.turnBegun j) := by
    rw [State.core_modCore, State.core_of_cores onSound.cores]
  have there : ∀ M, M ≠ L → (u.modCore L (Core.restored · (SMap.getD j.shadow pl.rank {}) boxes (j.runs && s.turnBegun j))).core M = s.core M :=
    fun M other => by rw [State.core_modCore_other _ _ other, State.core_of_cores onSound.cores]
  by_cases counted : (pl.copyB || !(s.core L).attempt.again) = true
  · rw [if_pos counted] at steps
    exact ⟨_, boxes, j, steps, job', (if_pos counted).symm, here, there, onSound.clusters⟩
  · rw [if_neg counted] at steps
    refine ⟨_, boxes, j.replays, steps, ?_, (if_neg counted).symm, here, there, onSound.clusters⟩
    rw [State.part_modJob, State.part_modPart]
    exact congrArg (Option.map Job.replays) job'

/-- A rebuilt part between turns: the rank's core holds its committed state, at the boundary or in the next turn. -/
theorem partRebuildDone_between (ready : ∀ M ∈ j.cores, s.inService (M / 12) = true ∧ (s.cluster (M / 12)).usable = true) :
    ((partRebuildDone L s).core L).HoldsShadow (SMap.getD j.shadow pl.rank {}) ∧ ∀ M, M ∉ j.cores → (partRebuildDone L s).core M = s.core M := by
  obtain ⟨v, boxes, k, steps, kjob, counted, here, there, clusters⟩ :=
    partRebuildDone_hands stand image job clean rebuild early runs up sound untested
  have kcores : k.cores = j.cores := by rw [counted]; split <;> rfl
  have unmoved : v.moveDue pl.part = v := State.moveDue_ready kjob fun M listed => by
    rw [State.inService, State.cluster_of_clusters clusters]
    exact ready M (kcores ▸ listed)
  obtain ⟨-, enters⟩ := State.startTurns_part kjob (.inr unmoved)
  rw [steps]
  refine ⟨?_, fun M outside => ?_⟩
  · have restored := (s.core L).restored_holdsShadow (SMap.getD j.shadow pl.rank {}) boxes (j.runs && s.turnBegun j)
    rw [← here] at restored
    obtain same | ⟨_, _, entered⟩ := enters L
    · rw [same]; exact restored
    · rw [entered]; exact Core.enterTurn_holdsShadow restored
  · obtain same | ⟨listed, _⟩ := enters M
    · exact same.trans (there M fun e => outside (e ▸ State.mem_cores_of_standOf stand job))
    · exact absurd (kcores ▸ listed) outside

/-- A rebuilt part of a turn under way starts again from the part's entry. -/
theorem partRebuildDone_within (running : j.runs = true) (begun : s.turnBegun j = true) :
    (∃ boxes, (partRebuildDone L s).core L = (s.core L).restored (SMap.getD j.shadow pl.rank {}) boxes true) ∧
      (∀ M, M ∉ j.cores → (partRebuildDone L s).core M = s.core M) ∧
      ∃ w m, ((partRebuildDone L s).part pl.part).job =
        some { (if pl.copyB || !(s.core L).attempt.again then j else j.replays) with waiting := w, moved := m } := by
  obtain ⟨v, boxes, k, steps, kjob, counted, here, there, -⟩ :=
    partRebuildDone_hands stand image job clean rebuild early runs up sound untested
  have kcores : k.cores = j.cores := by rw [counted]; split <;> rfl
  rw [running, begun] at here
  have still : v.turnBegun k = true :=
    List.any_eq_true.2 ⟨L, kcores.symm ▸ State.mem_cores_of_standOf stand job, by
      simp [here, Core.restored, Core.enterTurn, Core.begun]⟩
  obtain ⟨⟨w, m, part⟩, enters⟩ := State.startTurns_part kjob (.inl still)
  rw [steps]
  refine ⟨⟨boxes, ?_⟩, fun M outside => ?_, w, m, ?_⟩
  · obtain same | ⟨_, boundary, _⟩ := enters L
    · rw [same, here]; rfl
    · rw [here] at boundary
      cases boundary
  · obtain same | ⟨listed, _⟩ := enters M
    · exact same.trans (there M fun e => outside (e ▸ State.mem_cores_of_standOf stand job))
    · exact absurd (kcores ▸ listed) outside
  · rw [part, counted]

end

end Sys2Proof.Machine

/-! SUPPORT. RANK_DURABLE (08 R220, R224 step 1): what the end of a part writes, and where. -/

namespace Sys2Proof.Machine

/-! ### Writes to memory -/

/-- `t` differs from `s` by memory, HBM's bookkeeping and the mesh alone. -/
def State.OnStore (s t : State) : Prop := t = { s with
  mem := t.mem, wordErr := t.wordErr, writeBack := t.writeBack, hbm := t.hbm, mesh := t.mesh, links := t.links, out := t.out, freeCtr := t.freeCtr }

section
variable {s t u : State}

theorem State.OnStore.refl (s : State) : s.OnStore s := rfl

theorem State.OnStore.trans (h : s.OnStore t) (k : t.OnStore u) : s.OnStore u := by
  unfold State.OnStore at *
  rw [k, h]

theorem State.OnStore.foldl {β : Type} {f : State → β → State} (hf : ∀ (t : State) x, t.OnStore (f t x)) (l : List β) (s : State) :
    s.OnStore (l.foldl f s) := foldl_related State.OnStore.refl State.OnStore.trans (fun x _ t => hf t x) s

theorem State.OnMesh.onStore (h : s.OnMesh t) : s.OnStore t := by
  unfold State.OnMesh at h
  unfold State.OnStore
  rw [h]

theorem State.sendDelta_onStore (s : State) (g : Nat) (ds : List (Nat × W64)) : s.OnStore (s.sendDelta g ds) := by
  unfold State.sendDelta
  dsimp only
  split
  · exact .refl s
  · split
    · rfl
    · have noted : s.OnStore { s with hbm := { s.hbm with deltas := s.hbm.deltas ++ ds.map (fun (d : Nat × W64) => (s.parityKey d.1, d.2)) } } := rfl
      exact noted.trans ((State.OnMesh.refl _).sendPacket _).onStore

theorem State.rowWrite_onStore (s : State) (a n : Nat) (es : SMap Byte) (row : Nat × Nat) : s.OnStore (s.rowWrite a n es row) := by
  unfold State.rowWrite
  dsimp only
  split
  · split
    · rfl
    · refine State.OnStore.trans ?_ (State.OnStore.foldl (fun t g => t.sendDelta_onStore g _) _ _)
      rfl
  · rfl

theorem State.settleDeltas_mem (s : State) : s.settleDeltas.mem = s.mem := by
  rw [s.settleDeltas_onMesh.mem]

theorem State.settleDeltas_onStore (s : State) : s.OnStore s.settleDeltas := by
  have applied : s.OnStore { s with hbm := s.settleDeltas.hbm } := rfl
  exact applied.trans s.settleDeltas_onMesh.onStore

end

/-- A partition without its snapshot, which a write may change (13 R390, R395). -/
def Part.unsnapped (y : Part) : Part := { y with snap := none }

/-- `t` keeps the cores, the regions and all but the snapshots of the partitions of `s`. -/
def State.Keeps (s t : State) : Prop := t.cores = s.cores ∧ t.clusters = s.clusters ∧ s.KeepsParts Part.unsnapped t

section
variable {s t u : State}

theorem State.Keeps.refl (s : State) : s.Keeps s := ⟨rfl, rfl, .refl s⟩

theorem State.Keeps.trans (h : s.Keeps t) (k : t.Keeps u) : s.Keeps u := by
  obtain ⟨cores, clusters, parts⟩ := h
  obtain ⟨cores', clusters', parts'⟩ := k
  exact ⟨cores'.trans cores, clusters'.trans clusters, parts.trans parts'⟩

theorem State.Keeps.foldl {β : Type} {f : State → β → State} (hf : ∀ (t : State) x, t.Keeps (f t x)) (l : List β) (s : State) :
    s.Keeps (l.foldl f s) := foldl_related State.Keeps.refl State.Keeps.trans (fun x _ t => hf t x) s

theorem State.OnStore.keeps (h : s.OnStore t) : s.Keeps t :=
  ⟨by rw [h], by rw [h], .of_sched (by rw [h])⟩

theorem State.Notifies.keeps (h : s.Notifies t) : s.Keeps t := ⟨h.cores, h.clusters, .of_sched h.sched⟩

theorem State.Keeps.job (h : s.Keeps t) (p : Nat) : (t.part p).job = (s.part p).job :=
  (congrArg Part.job (h.2.2.part p) :)

theorem State.cowPage_keeps (s : State) (p page : Nat) : s.Keeps (s.cowPage p page) := by
  have marked : ∀ f : Part → Part, (∀ y, (f y).unsnapped = y.unsnapped) → s.Keeps (s.modPart p f) := fun f keeps =>
    ⟨rfl, rfl, s.modPart_keepsParts p keeps⟩
  unfold State.cowPage
  split
  · exact .refl s
  · split
    · exact .refl s
    · split
      · exact marked _ fun _ => rfl
      · split
        · exact (marked (fun y => { y with snap := none }) fun _ => rfl).trans (State.journalWrite_notifies _ _ _ _ _ _).keeps
        · exact marked _ fun _ => rfl

theorem State.partWrite_keeps (s : State) (p a n : Nat) (es : SMap Byte) : s.Keeps (s.partWrite p a n es) :=
  (State.Keeps.foldl (fun t g => t.cowPage_keeps p g) _ s).trans (State.rowWrite_onStore _ _ _ _ _).keeps

theorem State.writePage_keeps (s : State) (p L word at' : Nat) : s.Keeps (s.writePage p L word at') :=
  (s.partWrite_keeps p at' 4096 _).trans ((State.OnMesh.refl _).traffic _ _ _ _).onStore.keeps

end

/-! ### The bytes that a write leaves -/

section
variable (s : State)

theorem State.rowWrite_readByte (a n : Nat) (es : SMap Byte) (row : Nat × Nat) (k : Nat) :
    (s.rowWrite a n es row).readByte k = if a ≤ k ∧ k < a + n then SMap.getD es (k - a) 0 else s.readByte k := by
  have stored : ∀ u : State, u.mem = s.mem → (u.store a n es).readByte k = if a ≤ k ∧ k < a + n then SMap.getD es (k - a) 0 else s.readByte k :=
    fun u same => by rw [State.readByte_store, State.readByte, same, State.readByte]
  unfold State.rowWrite
  dsimp only
  split
  · split
    · exact stored _ rfl
    · exact (congrArg (SMap.getD · k 0) (State.SameData.foldl (fun t g => t.sendDelta_sameData g _) _ _).1).trans (stored _ rfl)
  · exact stored _ rfl

theorem State.writePage_readByte (p L word at' k : Nat) : (s.writePage p L word at').readByte k =
    if at' ≤ k ∧ k < at' + 4096 then s.readByte (csBase L + word * 8 + (k - at')) else s.readByte k := by
  have written : ∀ u : State, s.SameData u → (u.rowWrite at' 4096 (s.slice (csBase L + word * 8) 4096) (at', at' + 4096)).readByte k =
      if at' ≤ k ∧ k < at' + 4096 then s.readByte (csBase L + word * 8 + (k - at')) else s.readByte k := fun u same => by
    rw [State.rowWrite_readByte, State.readByte, same.1]
    split
    next inside => exact SMap.getD_slice s.mem (by omega) 0
    · rfl
  exact (((State.OnMesh.refl _).traffic _ _ _ _).readByte k).trans (written _ (State.SameData.foldl (fun t g => t.cowPage_sameData p g) _ s))

end

/-! ### Pages written one after another to places of their own -/

section
variable {β : Type} {l : List β} {word at' : β → Nat} {s : State} {p L : Nat}

/-- The pages of a core, each written to its place. -/
def State.putPages (s : State) (p L : Nat) (word at' : β → Nat) (l : List β) : State := l.foldl (fun t e => t.writePage p L (word e) (at' e)) s

theorem State.writeChanged_eq (s : State) (p : Nat) (im : Image) (rank L : Nat) (sh : RankShadow) (pages : List (Nat × Nat × Nat)) :
    s.writeChanged p im rank L sh pages =
      s.putPages p L (fun e => e.2.1) (fun e => (s.part p).pageAt im.ranks rank (!SMap.getD sh.gens e.1 false) e.1) pages := rfl

theorem State.putPages_keeps (s : State) (p L : Nat) (word at' : β → Nat) (l : List β) : s.Keeps (s.putPages p L word at' l) :=
  State.Keeps.foldl (fun t e => t.writePage_keeps p L (word e) (at' e)) l s

/-- A byte outside every place stays. -/
theorem State.putPages_outside {k : Nat} (outside : ∀ e ∈ l, ¬(at' e ≤ k ∧ k < at' e + 4096)) :
    (s.putPages p L word at' l).readByte k = s.readByte k := by
  refine List.foldlRecOn l _ (motive := fun t => State.readByte t k = s.readByte k) rfl fun t same e listed => ?_
  rw [State.writePage_readByte, if_neg (outside e listed), same]

/-- The place of a page holds it where the places are apart from each other and below every core store. -/
theorem State.putPages_place (below : ∀ e ∈ l, at' e + 4096 ≤ 2 ^ 41) {e : β} (listed : e ∈ l)
    (apart : ∀ f ∈ l, f ≠ e → at' f + 4096 ≤ at' e ∨ at' e + 4096 ≤ at' f) {b : Nat} (inside : b < 4096) :
    (s.putPages p L word at' l).readByte (at' e + b) = s.readByte (csBase L + word e * 8 + b) := by
  have source : ∀ f ∈ l, ¬(at' f ≤ csBase L + word e * 8 + b ∧ csBase L + word e * 8 + b < at' f + 4096) := fun f here => by
    have := below f here
    simp only [csBase]
    omega
  rw [← State.putPages_outside (s := s) (p := p) (L := L) (word := word) source]
  refine foldl_establishes (P := fun t : State => t.readByte (at' e + b) = t.readByte (csBase L + word e * 8 + b)) listed (fun t => ?_)
    (fun f here other t same => ?_) s
  · rw [State.writePage_readByte, if_pos (by omega), State.writePage_readByte, if_neg (source e listed), Nat.add_sub_cancel_left]
  · have := apart f here other
    rw [State.writePage_readByte, if_neg (by omega), State.writePage_readByte, if_neg (source f here), same]

end

/-! ### The turn shadow of a rank (08 R220) -/

section
variable {x : Part} {ranks rank k l : Nat} {g h : Bool}

/-- Places of different carried pages, or of a page's two generations, are apart. -/
theorem Part.pageAt_apart (hk : k < 512) (hl : l < 512) (differ : k ≠ l ∨ g ≠ h) :
    x.pageAt ranks rank g k + 4096 ≤ x.pageAt ranks rank h l ∨ x.pageAt ranks rank h l + 4096 ≤ x.pageAt ranks rank g k := by
  unfold Part.pageAt
  cases g <;> cases h <;> simp only [Bool.false_eq_true, if_true, if_false, ne_eq, not_true_eq_false, or_false] at differ ⊢ <;> omega

theorem Part.pageAt_below (hk : k < 512) (served : rank < ranks) (room : shadowBytes ranks ≤ x.bytes) (top : x.base + x.bytes ≤ 2 ^ 41) :
    x.pageAt ranks rank g k + 4096 ≤ 2 ^ 41 := by
  unfold Part.pageAt
  unfold shadowBytes at room ⊢
  split <;> omega

end

section
variable {s : State} {x : Part} {im : Image} {rank L : Nat} {sh : RankShadow}

/-- The changed pages are the carried pages that differ from their committed copies. -/
theorem State.mem_changedPages {e : Nat × Nat × Nat} : e ∈ s.changedPages x im rank L sh ↔ ∃ n word, (im.carriedPages rank)[n]? = some word ∧
    e = (n, word, x.pageAt im.ranks rank (SMap.getD sh.gens n false) n) ∧ s.slice (csBase L + e.2.1 * 8) 4096 ≠ s.slice e.2.2 4096 := by
  unfold State.changedPages Part.committed
  rw [List.mem_filter, bne_iff_ne, List.mem_map]
  constructor
  · rintro ⟨⟨⟨q, n⟩, listed, rfl⟩, differs⟩
    rw [List.mem_zipIdx_iff_getElem?, List.getElem?_map, List.getElem?_zipIdx] at listed
    cases page : (im.carriedPages rank)[n]? with
    | none => simp [page] at listed
    | some word =>
      simp only [page, Option.map_some, Nat.zero_add, Option.some.injEq] at listed
      subst listed
      exact ⟨n, word, page, by simp [Part.pageAt], differs⟩
  · rintro ⟨n, word, listed, rfl, differs⟩
    refine ⟨⟨((word, _), n), ?_, rfl⟩, differs⟩
    rw [List.mem_zipIdx_iff_getElem?, List.getElem?_map, List.getElem?_zipIdx, listed]
    simp [Part.pageAt]

/-- The new page map gives a changed page the generation that its committed copy is not in, and every other page the one it had. -/
theorem flipped_gens {l : List (Nat × Nat × Nat)} {m : SMap Bool} {g : Nat → Bool} (n : Nat) :
    ((∃ e ∈ l, e.1 = n) → SMap.getD (l.foldl (fun m e => SMap.set m e.1 (g e.1) false) m) n false = g n) ∧
      ((∀ e ∈ l, e.1 ≠ n) → SMap.getD (l.foldl (fun m e => SMap.set m e.1 (g e.1) false) m) n false = SMap.getD m n false) := by
  constructor
  · rintro ⟨e, listed, rfl⟩
    refine foldl_establishes (P := fun m : SMap Bool => SMap.getD m e.1 false = g e.1) listed (fun m => SMap.getD_set_same m _ _ _)
      (fun f _ _ m same => ?_) m
    rw [SMap.getD_set]
    split
    next here => rw [here]
    · exact same
  · intro absent
    refine List.foldlRecOn l _ (motive := fun m' : SMap Bool => SMap.getD m' n false = SMap.getD m n false) rfl fun m' same e listed => ?_
    rw [SMap.getD_set_other _ _ _ (absent e listed).symm, same]

/-- Once its changed pages are written, every carried page stands in the generation that the new page map names. -/
theorem State.takeShadow_page {p : Nat} {n word b : Nat} (served : rank < im.ranks) (room : shadowBytes im.ranks ≤ (s.part p).bytes)
    (top : (s.part p).base + (s.part p).bytes ≤ 2 ^ 41) (few : (im.carriedPages rank).length ≤ 512)
    (page : (im.carriedPages rank)[n]? = some word) (inside : b < 4096) :
    (s.takeShadow p im rank L sh).1.readByte ((s.part p).pageAt im.ranks rank (SMap.getD (s.takeShadow p im rank L sh).2.gens n false) n + b) =
      s.readByte (csBase L + word * 8 + b) := by
  let place := fun e : Nat × Nat × Nat => (s.part p).pageAt im.ranks rank (!SMap.getD sh.gens e.1 false) e.1
  let pages := s.changedPages (s.part p) im rank L sh
  have small : ∀ {m w}, (im.carriedPages rank)[m]? = some w → m < 512 := fun here =>
    (List.getElem?_eq_some_iff.1 here).1.trans_le few
  have below : ∀ e ∈ pages, place e + 4096 ≤ 2 ^ 41 := fun e listed => by
    obtain ⟨m, w, here, rfl, -⟩ := State.mem_changedPages.1 listed
    exact Part.pageAt_below (small here) served room top
  have written : ∀ k, (s.takeShadow p im rank L sh).1.readByte k = (s.putPages p L (fun e => e.2.1) place pages).readByte k := fun k =>
    congrArg (SMap.getD · k 0) (State.settleDeltas_mem _)
  obtain ⟨flipped, kept⟩ := flipped_gens (l := pages) (m := sh.gens) (g := fun k => !SMap.getD sh.gens k false) n
  rw [written]
  by_cases changed : ∃ e ∈ pages, e.1 = n
  · obtain ⟨e, listed, here⟩ := changed
    obtain ⟨m, w, there, rfl, differs⟩ := State.mem_changedPages.1 listed
    obtain rfl : m = n := here
    obtain rfl : w = word := Option.some.inj (there.symm.trans page)
    have gen : SMap.getD (s.takeShadow p im rank L sh).2.gens m false = !SMap.getD sh.gens m false := flipped ⟨_, listed, rfl⟩
    rw [gen]
    refine State.putPages_place below listed (fun f listed' other => ?_) inside
    obtain ⟨m', w', there', rfl, -⟩ := State.mem_changedPages.1 listed'
    refine Part.pageAt_apart (small there') (small page) (.inl fun same => other ?_)
    obtain rfl : m' = m := same
    obtain rfl : w' = w := Option.some.inj (there'.symm.trans page)
    rfl
  · have unlisted : ∀ e ∈ pages, e.1 ≠ n := fun e listed here => changed ⟨e, listed, here⟩
    have gen : SMap.getD (s.takeShadow p im rank L sh).2.gens n false = SMap.getD sh.gens n false := kept unlisted
    have same : s.slice (csBase L + word * 8) 4096 = s.slice ((s.part p).pageAt im.ranks rank (SMap.getD sh.gens n false) n) 4096 :=
      not_not.1 fun differs => unlisted _ (State.mem_changedPages.2 ⟨n, word, page, rfl, differs⟩) rfl
    rw [gen, State.putPages_outside]
    · refine (SMap.getD_slice s.mem inside 0).symm.trans (Eq.trans ?_ (SMap.getD_slice s.mem inside 0))
      exact congrArg (SMap.getD · b 0) same.symm
    · rintro e listed ⟨low, high⟩
      obtain ⟨m, w, there, rfl, -⟩ := State.mem_changedPages.1 listed
      have apart := Part.pageAt_apart (x := s.part p) (ranks := im.ranks) (rank := rank) (g := !SMap.getD sh.gens m false)
        (h := SMap.getD sh.gens n false) (small there) (small page) (.inl (unlisted _ listed))
      dsimp only [place] at low high
      omega

end

/-! ### The end of a part (08 R224 step 1) -/

/-- `t` keeps the cores and the regions of `s`. -/
def State.SameUnits (s t : State) : Prop := t.cores = s.cores ∧ t.clusters = s.clusters

section
variable {s t u : State}

theorem State.SameUnits.refl (s : State) : s.SameUnits s := ⟨rfl, rfl⟩

theorem State.SameUnits.trans (h : s.SameUnits t) (k : t.SameUnits u) : s.SameUnits u := ⟨k.1.trans h.1, k.2.trans h.2⟩

theorem State.SameUnits.foldl {β : Type} {f : State → β → State} (hf : ∀ (t : State) x, t.SameUnits (f t x)) (l : List β) (s : State) :
    s.SameUnits (l.foldl f s) := foldl_related State.SameUnits.refl State.SameUnits.trans (fun x _ t => hf t x) s

theorem State.Notifies.sameUnits (h : s.Notifies t) : s.SameUnits t := ⟨h.cores, h.clusters⟩

theorem State.modPart_sameUnits (s : State) (p : Nat) (f : Part → Part) : s.SameUnits (s.modPart p f) := ⟨rfl, rfl⟩

theorem State.modJob_sameUnits (s : State) (p : Nat) (f : Job → Job) : s.SameUnits (s.modJob p f) := ⟨rfl, rfl⟩

theorem State.SameUnits.ite {b : Prop} [Decidable b] (h : s.SameUnits t) (k : s.SameUnits u) : s.SameUnits (if b then t else u) := by
  split
  · exact h
  · exact k

theorem State.setGroup_sameUnits (s : State) (g : W32) (x : Group) : s.SameUnits (s.setGroup g x) := ⟨rfl, rfl⟩

end

section
variable (s : State)

theorem State.sendCommit_notifies (seat : Nat) (g : W32) (n : CommitNote) : s.Notifies (s.sendCommit seat g n) :=
  (s.sendStrait_notifies _ _ _ _ _ _ _ _ _).trans rfl

theorem State.decideTurn_sameUnits (g : W32) (turn : Nat) : s.SameUnits (s.decideTurn g turn) := by
  have sent : ∀ (l : List Nat) (n : CommitNote) (t : State), t.SameUnits (l.foldl (fun t k => t.sendCommit k g n) t) := fun l n t =>
    State.SameUnits.foldl (fun t k => (t.sendCommit_notifies k g n).sameUnits) l t
  have told : ∀ (x : Group) (m : List Nat) (snap : Bool) (decision point note : CommitNote),
      let s1 := if s.arch.deputy ≠ s.arch.seat then (s.setGroup g x).sendCommit s.arch.deputy g decision else s.setGroup g x
      s.SameUnits (m.foldl (fun t k => t.sendCommit k g note) (if snap then m.foldl (fun t k => t.sendCommit k g point) s1 else s1)) := by
    intro x m snap decision point note s1
    have first : s.SameUnits s1 := by
      show s.SameUnits (if _ then _ else _)
      split
      · exact (s.setGroup_sameUnits g x).trans (State.sendCommit_notifies _ _ _ _).sameUnits
      · exact s.setGroup_sameUnits g x
    refine State.SameUnits.trans ?_ (sent m note _)
    split
    · exact first.trans (sent m point _)
    · exact first
  unfold State.decideTurn
  dsimp only
  split
  · exact .refl s
  · split
    · exact told _ _ _ _ _ _
    · refine .ite (.trans (.trans ?_ (State.modJob_sameUnits _ _ _)) (State.modPart_sameUnits _ _ _)) (.trans ?_ (State.modJob_sameUnits _ _ _))
      · exact told _ _ _ _ _ _
      · exact told _ _ _ _ _ _

theorem State.noteDurable_sameUnits (seat : Nat) (g : W32) (map : W64) (turn : Nat) (d : BitVec 128) :
    s.SameUnits (s.noteDurable seat g map turn d) := by
  unfold State.noteDurable
  dsimp only
  split
  · split
    · exact (s.sendCommit_notifies _ _ _).sameUnits
    · exact (s.setGroup_sameUnits _ _).trans (State.decideTurn_sameUnits _ _ _)
  · exact (s.setGroup_sameUnits _ _).trans (State.decideTurn_sameUnits _ _ _)

theorem State.reportDurable_sameUnits (p : Nat) : s.SameUnits (s.reportDurable p) := by
  unfold State.reportDurable
  split
  · exact .refl s
  · split
    · exact .refl s
    · dsimp only
      split
      · exact (s.modPart_sameUnits p _).trans (State.noteDurable_sameUnits _ _ _ _ _ _)
      · exact (s.modPart_sameUnits p _).trans (State.sendCommit_notifies _ _ _ _).sameUnits

end

/-- A core whose part is durable. -/
def Core.markDurable (c : Core) : Core := { c with attempt := { c.attempt with durable := true } }

/-- The ledgers' update and the digests of a doubles part, before its core is marked durable. -/
def State.closePart (s : State) (pl : Stand) (im : Image) (j : Job) (L : Nat) : State :=
  let s0 := (s.core L).ledgers.foldl (fun t e => t.ledgerCommit L e.1 e.2 j.td) s
  if j.req.body.doubles then s0.absorbEnd pl.part im pl.rank L (SMap.getD j.shadow pl.rank {}) else s0

/-- A rank's generation goes to the turn shadow and to the job's record of it. -/
def State.leaveShadow (s : State) (pl : Stand) (im : Image) (L : Nat) (sh : RankShadow) : State :=
  (s.takeShadow pl.part im pl.rank L sh).1.modJob pl.part fun j =>
    { j with pendingShadow := SMap.put j.pendingShadow pl.rank (s.takeShadow pl.part im pl.rank L sh).2 }

/-- What the end of a part leaves of it; copy B leaves no generation. -/
def State.endPart (s : State) (pl : Stand) (im : Image) (j : Job) (L : Nat) : State :=
  let s2 := (s.closePart pl im j L).modCore L Core.markDurable
  if pl.copyB then s2 else s2.leaveShadow pl im L (SMap.getD j.shadow pl.rank {})

/-- The scheduler core notes a turn whose every rank is durable. -/
def State.noteEnd (s : State) (j : Job) (p : Nat) : State :=
  if s.allDurable j then { s with sched := { s.sched with durable := s.sched.durable ++ [p] } }.reportDurable p else s

section
variable {s : State} {L : Nat} {pl : Stand} {im : Image} {j : Job}

/-- The words that the end of a part reads stand in core stores. -/
theorem State.endRanges_read (sound : s.wordErr = []) (x : Part) (rank : Nat) :
    (s.endRanges x im j rank L).foldl (fun (acc : State × List Nat) q =>
      let m := acc.1.readRange q.1 q.2 0 L
      (m.1, acc.2 ++ m.2)) (s, []) = (s, []) := by
  have above : ∀ q ∈ s.endRanges x im j rank L, 2 ^ 41 ≤ q.1 := fun q listed => by
    have store : ∀ k, 2 ^ 41 ≤ csBase L + k := fun k => by
      unfold csBase
      omega
    unfold State.endRanges at listed
    obtain (changed | record) | tiles := (List.mem_append.1 listed).imp_left List.mem_append.1
    · obtain ⟨e, _, rfl⟩ := List.mem_map.1 changed
      exact store _
    · obtain ⟨e, _, rfl⟩ := List.mem_map.1 record
      rw [recordAddr_eq, Nat.add_assoc]
      exact store _
    · split at tiles
      · rw [List.mem_singleton.1 tiles]
        exact store _
      · cases tiles
  refine List.foldlRecOn (s.endRanges x im j rank L) _ (motive := fun acc => acc = (s, [])) rfl fun acc same q listed => ?_
  have high := above q listed
  have readable : s.Readable q.1 q.2 := ⟨fun e here => absurd (sound ▸ here) List.not_mem_nil, fun low => absurd low (by omega)⟩
  subst same
  dsimp only
  rw [s.readRange_readable _ _ _ _ readable]
  rfl

theorem rankDurable_ends (stand : s.standOf L = some pl) (image : (s.part pl.part).image = some im) (job : (s.part pl.part).job = some j)
    (running : j.state = .running) (ended : (s.core L).attempt.ended = true) (early : (s.core L).attempt.durable = false) (sound : s.wordErr = [])
    (waits : s.shadowWaits (s.part pl.part) im j pl.rank L = false) : rankDurable L s = (s.endPart pl im j L).noteEnd j pl.part := by
  have goes : (!(s.core L).attempt.ended || (s.core L).attempt.durable || j.state != .running || s.shadowWaits (s.part pl.part) im j pl.rank L) = false := by
    rw [ended, early, running, waits]
    rfl
  unfold rankDurable
  rw [stand]
  dsimp only
  rw [image, job]
  dsimp only
  rw [goes, State.endRanges_read sound]
  rfl

end

section
variable (s : State)

theorem State.takeShadow_keeps (p : Nat) (im : Image) (rank L : Nat) (sh : RankShadow) : s.Keeps (s.takeShadow p im rank L sh).1 := by
  unfold State.takeShadow
  dsimp only
  rw [State.writeChanged_eq]
  exact (State.putPages_keeps _ _ _ _ _ _).trans (State.settleDeltas_onStore _).keeps

theorem State.ledgerCommit_clusters (L slot : Nat) (f : Fmt) (td : Nat) : (s.ledgerCommit L slot f td).clusters = s.clusters := by
  unfold State.ledgerCommit
  extract_lets a flags len pos margin amax s1 s2 top s3 s4 s5 s6
  have written : ∀ (t : State) (a : Nat) (bs : List Byte), (t.writeBytes a bs).clusters = t.clusters := fun _ _ _ => rfl
  have scaled : s3.clusters = s.clusters := by
    unfold s3
    split
    · rfl
    · rfl
  have shown : s4.clusters = s.clusters := by
    unfold s4
    split
    · exact (written _ _ _).trans scaled
    · exact scaled
  rw [written, written, written, shown]

theorem State.absorbEnd_clusters (p : Nat) (im : Image) (rank L : Nat) (sh : RankShadow) : (s.absorbEnd p im rank L sh).clusters = s.clusters := by
  have absorbed : ∀ (t : State) (dest len kind : Nat) (data : List Byte), (t.absorbEffect L dest len kind data).clusters = t.clusters :=
    fun t dest len kind data => by
      unfold State.absorbEffect
      split
      · rfl
      · split <;> rfl
  unfold State.absorbEnd
  refine (State.modCore_clusters _ _ _).trans ?_
  exact foldl_keeps State.clusters (fun t e => absorbed t _ _ _ _) _ s

theorem State.noteEnd_sameUnits (j : Job) (p : Nat) : s.SameUnits (s.noteEnd j p) := by
  have listed : s.SameUnits { s with sched := { s.sched with durable := s.sched.durable ++ [p] } } := ⟨rfl, rfl⟩
  exact .ite (listed.trans (State.reportDurable_sameUnits _ p)) (.refl s)

theorem State.closePart_clusters (pl : Stand) (im : Image) (j : Job) (L : Nat) : (s.closePart pl im j L).clusters = s.clusters := by
  have ended := foldl_keeps (f := fun (t : State) (e : Nat × Fmt) => t.ledgerCommit L e.1 e.2 j.td) State.clusters
    (fun t e => t.ledgerCommit_clusters L e.1 e.2 j.td) (s.core L).ledgers s
  unfold State.closePart
  dsimp only
  split
  · rw [State.absorbEnd_clusters, ended]
  · exact ended

theorem State.leaveShadow_units (pl : Stand) (im : Image) (L : Nat) (sh : RankShadow) : s.SameUnits (s.leaveShadow pl im L sh) := by
  obtain ⟨cores, clusters, -⟩ := s.takeShadow_keeps pl.part im pl.rank L sh
  have taken : s.SameUnits (s.takeShadow pl.part im pl.rank L sh).1 := ⟨cores, clusters⟩
  exact taken.trans (State.modJob_sameUnits _ _ _)

/-- A part's end marks it durable and leaves every region as it is. -/
theorem State.endPart_durable (pl : Stand) (im : Image) (j : Job) (L : Nat) :
    ((s.endPart pl im j L).core L).attempt.durable = true ∧ (s.endPart pl im j L).clusters = s.clusters := by
  have closed := s.closePart_clusters pl im j L
  have marked : (((s.closePart pl im j L).modCore L Core.markDurable).core L).attempt.durable = true := by
    rw [State.core_modCore]
    rfl
  unfold State.endPart
  dsimp only
  split
  · exact ⟨marked, closed⟩
  · obtain ⟨cores, clusters⟩ := State.leaveShadow_units ((s.closePart pl im j L).modCore L Core.markDurable) pl im L (SMap.getD j.shadow pl.rank {})
    exact ⟨by rw [State.core_of_cores cores]; exact marked, clusters.trans closed⟩

end

/-- An attempt that has begun and not ended raises TURN_OVERRUN at its limit (08 R223). -/
theorem turnOverrun_raises {s : State} {L : Nat} {pl : Stand} (stand : s.standOf L = some pl)
    (begun : (s.core L).inTurn = true ∨ (s.core L).hold ≠ .none) (standing : (s.core L).attempt.rebuild = false) :
    turnOverrun L s = s.raise L 0x0503 := by
  have goes : ((s.standOf L).isSome && ((s.core L).inTurn || (s.core L).hold != .none) && !(s.core L).attempt.rebuild) = true := by
    rw [stand, standing]
    simpa using begun
  unfold turnOverrun
  dsimp only
  rw [goes]
  rfl

/-- A plain part of copy A, without open ledger records, leaves its generation in the turn shadow. -/
theorem State.endPart_plain {s : State} {L : Nat} {pl : Stand} {im : Image} {j : Job} (copyA : pl.copyB = false)
    (single : j.req.body.doubles = false) (closed : (s.core L).ledgers = []) :
    s.endPart pl im j L = (s.modCore L Core.markDurable).leaveShadow pl im L (SMap.getD j.shadow pl.rank {}) := by
  have same : s.closePart pl im j L = s := by
    unfold State.closePart
    rw [closed, single]
    rfl
  unfold State.endPart
  rw [same, copyA]
  rfl

theorem State.leaveShadow_job {s : State} {L : Nat} {pl : Stand} {im : Image} {j : Job} (job : (s.part pl.part).job = some j) (sh : RankShadow) :
    ((s.leaveShadow pl im L sh).part pl.part).job =
      some { j with pendingShadow := SMap.put j.pendingShadow pl.rank (s.takeShadow pl.part im pl.rank L sh).2 } := by
  unfold State.leaveShadow
  rw [State.part_modJob, (s.takeShadow_keeps pl.part im pl.rank L sh).job, job]
  rfl

theorem State.leaveShadow_mem (s : State) (pl : Stand) (im : Image) (L : Nat) (sh : RankShadow) :
    (s.leaveShadow pl im L sh).mem = (s.takeShadow pl.part im pl.rank L sh).1.mem := (State.modJob_manages _ _ _).mem

/-- The record of a rank's generation holds what its core leaves. -/
theorem State.takeShadow_record {s : State} {p rank L : Nat} {im : Image} {sh : RankShadow} : ∃ gens, (s.takeShadow p im rank L sh).2 =
    { regs := (s.core L).regs, entry := (s.core L).nextEntry, inboxes := (s.core L).inboxes, ledgers := (s.core L).ledgers
      live := (s.core L).live, carry := (s.core L).carry, gen := !sh.gen, gens := gens } := ⟨_, rfl⟩

/-- A turn of a job outside a group is noted in the scheduler core's list of durable turns alone. -/
theorem State.noteEnd_alone {s : State} {j k : Job} {p : Nat} (job : (s.part p).job = some k) (alone : k.req.body.group = false) :
    (s.noteEnd j p).mem = s.mem ∧ ((s.noteEnd j p).part p).job = some k := by
  unfold State.noteEnd
  split
  · have listed : (({ s with sched := { s.sched with durable := s.sched.durable ++ [p] } } : State).part p).job = some k := job
    unfold State.reportDurable
    rw [listed]
    dsimp only
    rw [alone]
    exact ⟨rfl, listed⟩
  · exact ⟨rfl, job⟩

/-- Settles O26: what the end of a part writes, and the rebuild of a rank with the turn that it goes back to. -/
theorem partsEndOverrunAndReplay : Obligations.PartsEndOverrunAndReplay := by
  unfold Obligations.PartsEndOverrunAndReplay
  refine ⟨fun s core pl im j stand image job running => ⟨?_, ?_⟩, fun s core pl im j stand copyA image job running present => ⟨?_, ?_, ?_⟩⟩
  · intro ended early sound waits
    refine ⟨_, rfl, ?_⟩
    obtain ⟨durable, clusters⟩ := s.endPart_durable pl im j core.val
    obtain ⟨sameCores, sameClusters⟩ := (s.endPart pl im j core.val).noteEnd_sameUnits j pl.part
    rw [rankDurable_ends stand image job running ended early sound waits, State.core_of_cores sameCores]
    exact ⟨durable, sameClusters.trans clusters⟩
  · intro rebuild early runs up sound untested between clean answers ready
    obtain ⟨⟨regs, entry, done, live, ledgers, -⟩, others⟩ := partRebuildDone_between stand image job ⟨clean, answers⟩ rebuild early runs up sound
      untested fun L listed => ⟨(ready L listed).1, (ready L listed).2.1⟩
    exact ⟨_, rfl, regs, entry, done, live, ledgers, others⟩
  · intro ended early single alone closed sound waits
    refine ⟨_, rfl, ?_⟩
    have left := State.endPart_plain (im := im) copyA single closed
    have kjob := State.leaveShadow_job (s := s.modCore core.val Core.markDurable) (L := core.val) (im := im) job (SMap.getD j.shadow pl.rank {})
    obtain ⟨sameMem, sameJob⟩ := State.noteEnd_alone (j := j) kjob alone
    obtain ⟨gens, record⟩ := State.takeShadow_record (s := s.modCore core.val Core.markDurable) (p := pl.part) (rank := pl.rank) (L := core.val)
      (im := im) (sh := SMap.getD j.shadow pl.rank {})
    rw [rankDurable_ends stand image job running ended early sound waits, left]
    refine ⟨((State.noteEnd_sameUnits _ j pl.part).1).trans (State.leaveShadow_units _ _ _ _ _).1, _, _, sameJob, rfl, rfl, ?_, ?_, ?_, ?_, ?_, ?_, ?_, ?_⟩
    iterate 6 rw [record, State.core_modCore]; rfl
    · rw [record]
    intro served room top few n word page _ b inside
    have stands := State.takeShadow_page (s := s.modCore core.val Core.markDurable) (sh := SMap.getD j.shadow pl.rank {}) (L := core.val)
      (p := pl.part) served room top few page inside
    have mem := sameMem.trans (State.leaveShadow_mem _ _ _ _ _)
    rw [State.readByte, mem]
    exact stands
  · intro begun standing
    exact congrArg Host.Outcome.next (turnOverrun_raises stand begun standing)
  · intro rebuild early runs up sound untested begun clean answers
    have goes : j.runs = true := by rw [Job.runs, running, present]; rfl
    obtain ⟨⟨boxes, restored⟩, others, w, m, kjob⟩ :=
      partRebuildDone_within stand image job ⟨clean, answers⟩ rebuild early runs up sound untested goes begun
    refine ⟨_, rfl, ?_⟩
    dsimp only
    rw [restored]
    refine ⟨rfl, rfl, rfl, rfl, rfl, rfl, rfl, rfl, rfl, others, _, kjob, ?_, ?_⟩
    · rw [copyA]; cases (s.core core.val).attempt.again <;> rfl
    · rw [copyA]; cases (s.core core.val).attempt.again <;> rfl

end Sys2Proof.Machine

/-! SUPPORT. What the effects of a committed turn leave of the job, the regions and the roll tests (08 R224 steps 2 and 3). -/

namespace Sys2Proof.Machine

/-- A job without the fingerprints of its reductions, which grow as contributions combine (03 R96). -/
def Job.plain (j : Job) : Job := { j with absorbers := [] }

/-- A partition without its snapshot and those fingerprints. -/
def Part.plain (y : Part) : Part := { y with snap := none, job := y.job.map Job.plain }

/-- `t` keeps the regions, the roll tests, and the partitions of `s` up to snapshots and fingerprints. -/
def State.KeepsPlan (s t : State) : Prop :=
  t.clusters = s.clusters ∧ t.host.rollTests = s.host.rollTests ∧ s.KeepsParts Part.plain t

section
variable {s t u : State}

theorem State.KeepsPlan.refl (s : State) : s.KeepsPlan s := ⟨rfl, rfl, .refl s⟩

theorem State.KeepsPlan.trans (h : s.KeepsPlan t) (k : t.KeepsPlan u) : s.KeepsPlan u := by
  obtain ⟨clusters, tests, parts⟩ := h
  obtain ⟨clusters', tests', parts'⟩ := k
  exact ⟨clusters'.trans clusters, tests'.trans tests, parts.trans parts'⟩

theorem State.KeepsPlan.foldl {β : Type} {f : State → β → State} (hf : ∀ (t : State) x, t.KeepsPlan (f t x)) (l : List β) (s : State) :
    s.KeepsPlan (l.foldl f s) := foldl_related State.KeepsPlan.refl State.KeepsPlan.trans (fun x _ t => hf t x) s

theorem State.KeepsPlan.ite {b : Prop} [Decidable b] (h : s.KeepsPlan t) (k : s.KeepsPlan u) : s.KeepsPlan (if b then t else u) := by
  split
  · exact h
  · exact k

theorem State.KeepsPlan.of_sched (sched : t.sched = s.sched) (clusters : t.clusters = s.clusters) (tests : t.host.rollTests = s.host.rollTests) :
    s.KeepsPlan t := ⟨clusters, tests, .of_sched sched⟩

theorem State.Notifies.plan (h : s.Notifies t) : s.KeepsPlan t := .of_sched h.sched h.clusters (by rw [h])
theorem State.OnMesh.plan (h : s.OnMesh t) : s.KeepsPlan t := h.notifies.plan
theorem State.OnStore.plan (h : s.OnStore t) : s.KeepsPlan t := .of_sched (by rw [h]) (by rw [h]) (by rw [h])
theorem State.OnCoresAndMesh.plan (h : s.OnCoresAndMesh t) : s.KeepsPlan t := .of_sched (by rw [h]) (by rw [h]) (by rw [h])

/-- A fold that carries a list along. -/
theorem State.KeepsPlan.foldl_fst {β γ : Type} {f : State × γ → β → State × γ} (hf : ∀ (acc : State × γ) x, acc.1.KeepsPlan (f acc x).1) (l : List β)
    (acc : State × γ) : acc.1.KeepsPlan (l.foldl f acc).1 :=
  foldl_related (R := fun a b : State × γ => a.1.KeepsPlan b.1) (fun a => .refl a.1) (fun h k => h.trans k) (fun x _ acc => hf acc x) acc

end

section
variable (s : State)

theorem State.modCore_plan (L : Nat) (f : Core → Core) : s.KeepsPlan (s.modCore L f) := .of_sched rfl rfl rfl
theorem State.modIsland_plan (i : Nat) (f : Island → Island) : s.KeepsPlan (s.modIsland i f) := .of_sched rfl rfl rfl
theorem State.modStack_plan (k : Nat) (f : Stack → Stack) : s.KeepsPlan (s.modStack k f) := .of_sched rfl rfl rfl
theorem State.store_plan (a n : Nat) (es : SMap Byte) : s.KeepsPlan (s.store a n es) := .of_sched rfl rfl rfl

theorem State.modPart_plan (p : Nat) {f : Part → Part} (keeps : ∀ y, (f y).plain = y.plain) : s.KeepsPlan (s.modPart p f) :=
  ⟨rfl, rfl, s.modPart_keepsParts p keeps⟩

theorem State.modJob_plan (p : Nat) {f : Job → Job} (keeps : ∀ j, (f j).plain = j.plain) : s.KeepsPlan (s.modJob p f) := by
  refine s.modPart_plan p fun y => ?_
  unfold Part.plain
  cases y.job with
  | none => rfl
  | some j => rw [Option.map_some, Option.map_some, Option.map_some, keeps]

/-! ### A read of memory (05 R142, 06 R162) -/

theorem State.countCore_plan (L : Nat) (f : CoreCounters → CoreCounters) : s.KeepsPlan (s.countCore L f) :=
  .ite (s.modCore_plan L _) (.refl s)

theorem State.correctWord_plan (w : Nat) : s.KeepsPlan (s.correctWord w) := by
  have listed : ∀ l, s.KeepsPlan { s with writeBack := l } := fun _ => .of_sched rfl rfl rfl
  unfold State.correctWord
  split
  · exact (State.KeepsPlan.of_sched (t := { s with wordErr := SMap.erase s.wordErr w }) rfl rfl rfl).trans (State.modStack_plan _ _ _)
  · exact .ite (.refl s) ((listed _).trans (State.countCore_plan _ _ _))
  · exact .ite (.refl s) ((listed _).trans (State.modIsland_plan _ _ _))
  · exact .refl s

theorem State.countLost_plan (w : Nat) : s.KeepsPlan (s.countLost w) := by
  unfold State.countLost
  split
  · exact s.modStack_plan _ _
  · exact s.countCore_plan _ _
  · exact s.modIsland_plan _ _
  · exact .refl s

theorem State.uncorrectable_plan (w : Nat) (fold : Bool) : s.KeepsPlan (s.uncorrectable w fold).1 := by
  unfold State.uncorrectable
  split
  next a _ =>
    have counted : ∀ k, s.KeepsPlan (if fold then s.modStack k fun x => { x with foldErrors := x.foldErrors + 1 } else s) := fun k =>
      .ite (s.modStack_plan _ _) (.refl s)
    dsimp only
    split
    · exact ((counted _).trans (State.store_plan _ _ _ _)).trans (State.modStack_plan _ _ _)
    · exact (counted _).trans (State.countLost_plan _ _)
  · split
    · exact s.countLost_plan w
    · exact s.countLost_plan w
  · exact s.countLost_plan w

theorem State.meetWord_plan (w : Nat) : s.KeepsPlan (s.meetWord w).1 := by
  have drawn : s.KeepsPlan { s with freeCtr := s.freeCtr + 1 } := .of_sched rfl rfl rfl
  unfold State.meetWord
  dsimp only
  split
  · exact .refl s
  · split
    · exact s.uncorrectable_plan w true
    · split
      · exact .refl s
      · split
        · exact s.correctWord_plan w
        · split
          · exact s.uncorrectable_plan w false
          · split
            · exact drawn.trans (State.uncorrectable_plan _ w false)
            · have written : ∀ e, s.KeepsPlan { ({ s with freeCtr := s.freeCtr + 1 } : State).writeWord (w * 8) (Config.manyBitData s.freeCtr) with
                  wordErr := e } := fun _ => .of_sched rfl rfl rfl
              split
              · exact (written _).trans (State.correctWord_plan _ w)
              · exact written _

theorem State.serveAbsent_plan (a n : Nat) : s.KeepsPlan (s.serveAbsent a n).1 := by
  unfold State.serveAbsent
  split
  · exact .refl s
  · refine State.KeepsPlan.foldl_fst (fun acc w => ?_) _ (s, [])
    dsimp only
    split
    · exact acc.1.modStack_plan _ _
    · exact acc.1.countLost_plan w

theorem State.meetRange_plan (a n : Nat) : s.KeepsPlan (s.meetRange a n).1 := by
  unfold State.meetRange
  refine State.KeepsPlan.trans (s.serveAbsent_plan a n) (State.KeepsPlan.foldl_fst (fun acc w => ?_) _ (_, _))
  exact acc.1.meetWord_plan w

theorem State.wordEvent_plan (a path found core : Nat) (p : Option Nat) : s.KeepsPlan (s.wordEvent a path found core p) :=
  (s.event_notifies _ _ _).plan

theorem State.refill_plan (src g n : Nat) : s.KeepsPlan (s.refill src g n) := by
  have copied : s.KeepsPlan (s.copy src g n) := s.store_plan _ _ _
  exact (copied.trans ((State.OnMesh.refl _).traffic _ _ _ _).plan).trans (State.modIsland_plan _ _ _)

theorem State.reloadGranule_plan (a found core : Nat) : s.KeepsPlan (s.reloadGranule a found core).1 := by
  unfold State.reloadGranule
  split
  · exact .refl s
  · dsimp only
    split
    · exact s.meetRange_plan _ _
    · exact ((s.meetRange_plan _ _).trans (State.refill_plan _ _ _ _)).trans (State.wordEvent_plan _ _ _ _ _ _)

theorem State.readRange_plan (a n found core : Nat) : s.KeepsPlan (s.readRange a n found core).1 := by
  unfold State.readRange
  refine State.KeepsPlan.trans (State.KeepsPlan.foldl_fst (fun acc w => ?_) _ (s, [])) (State.serveAbsent_plan _ a n)
  dsimp only
  split
  · exact acc.1.meetWord_plan w
  · exact acc.1.meetWord_plan w
  · exact (acc.1.meetWord_plan w).trans (State.reloadGranule_plan _ _ _ _)

/-! ### Contributions that combine (03 R96, 04 R115) -/

theorem State.cowPage_plan (p page : Nat) : s.KeepsPlan (s.cowPage p page) := by
  unfold State.cowPage
  split
  · exact .refl s
  · split
    · exact .refl s
    · split
      · exact s.modPart_plan p fun _ => rfl
      · split
        · exact (s.modPart_plan p (f := fun y => { y with snap := none }) fun _ => rfl).trans (State.journalWrite_notifies _ _ _ _ _ _).plan
        · exact s.modPart_plan p fun _ => rfl

theorem State.partWrite_plan (p a n : Nat) (es : SMap Byte) : s.KeepsPlan (s.partWrite p a n es) :=
  (State.KeepsPlan.foldl (fun t g => t.cowPage_plan p g) _ s).trans (State.rowWrite_onStore _ _ _ _ _).plan

theorem State.combine_plan (c : Contribution) : s.KeepsPlan (s.combine c) := by
  refine State.KeepsPlan.foldl (fun t d => ?_) _ s
  unfold State.combineRun
  refine State.KeepsPlan.trans ?_ (State.KeepsPlan.foldl (fun t i => t.partWrite_plan _ _ _ _) _ _)
  exact (t.readRange_plan _ _ _ _).trans (State.KeepsPlan.foldl (fun t w => t.wordEvent_plan _ _ _ _ _) _ _)

theorem State.combineTurn_plan (p td : Nat) : s.KeepsPlan (s.combineTurn p td) := by
  unfold State.combineTurn
  dsimp only
  refine State.KeepsPlan.trans (State.KeepsPlan.foldl_fst (fun acc c => ?_) _ (s, [])) (.of_sched rfl rfl rfl)
  exact (acc.1.combine_plan c).trans (State.modJob_plan _ p fun _ => rfl)

/-! ### What a commit releases (02 R67, 04 R114, R117) -/

theorem State.sendPacket_plan (q : MeshPkt) : s.KeepsPlan (s.sendPacket q) := ((State.OnMesh.refl s).sendPacket q).plan

theorem State.releaseSignals_plan (p : Nat) (j : Job) (L : Nat) : s.KeepsPlan (s.releaseSignals p j L) := by
  refine State.KeepsPlan.trans (State.KeepsPlan.foldl (fun t g => ?_) _ s) (State.modCore_plan _ L _)
  exact .ite (t.sendPacket_plan _) (.refl t)

theorem State.freeSlot_plan (p L inbox slot sender : Nat) : s.KeepsPlan (s.freeSlot p L inbox slot sender) := by
  unfold State.freeSlot
  exact (s.sendPacket_plan _).trans (State.modCore_plan _ _ _)

theorem State.releaseClosed_plan (p L : Nat) : s.KeepsPlan (s.releaseClosed p L) := by
  refine State.KeepsPlan.trans (State.KeepsPlan.foldl (fun t f => ?_) _ s) (State.modCore_plan _ L _)
  exact t.freeSlot_plan p L f.1 f.2.1 f.2.2

theorem State.releaseSlots_plan (p : Nat) (j : Job) (L : Nat) : s.KeepsPlan (s.releaseSlots p j L) := by
  unfold State.releaseSlots
  refine State.KeepsPlan.trans (s.releaseClosed_plan p L) (State.KeepsPlan.foldl (fun t b => ?_) _ _)
  dsimp only
  refine State.KeepsPlan.trans (State.KeepsPlan.trans (t.modCore_plan L _) (State.KeepsPlan.foldl (fun u _ => ?_) _ _))
    (State.KeepsPlan.foldl (fun u f => ?_) _ _)
  rotate_left
  · exact u.freeSlot_plan p L b.1 f.1 f.2
  split
  · exact .ite (u.sendPacket_plan _) (.refl u)
  · exact .refl u

/-! ### Collectives that start, and the boundary (09 R258, 08 R224 step 4) -/

theorem State.sendRange_plan (typ dest : Nat) (g : W32) (turn src place n : Nat) : s.KeepsPlan (s.sendRange typ dest g turn src place n) :=
  State.KeepsPlan.foldl (fun t _ => (t.sendStrait_notifies _ _ _ _ _ _ _ _ _).plan) _ s

theorem State.startCollective_plan (base : Nat) (g : W32) (map : W64) (td : Nat) (d : Descriptor) :
    s.KeepsPlan (s.startCollective base g map td d) := by
  unfold State.startCollective
  split
  · refine State.KeepsPlan.foldl (fun t k => ?_) _ s
    split
    · exact .refl t
    · exact t.sendRange_plan _ _ _ _ _ _ _
  · refine State.KeepsPlan.foldl (fun t c => ?_) _ s
    split
    · exact .refl t
    · split
      · exact t.sendRange_plan _ _ _ _ _ _ _
      · exact t.store_plan _ _ _

theorem State.startCollectives_plan (p td : Nat) (mismatch : Bool) : s.KeepsPlan (s.startCollectives p td mismatch).1 := by
  have told : ∀ (g : W32) (st : W16) (l : List Nat), s.KeepsPlan (l.foldl (fun t k => t.sendMember k (.refused g (BitVec.ofNat 64 td) st)) s) :=
    fun g st l => State.KeepsPlan.foldl (fun t k => (t.sendMember_notifies k _).plan) l s
  unfold State.startCollectives
  split
  · exact .refl s
  · split
    · exact .refl s
    · dsimp only
      split
      · exact told _ _ _
      · split
        · exact told _ _ _
        · refine State.KeepsPlan.trans ?_ (State.KeepsPlan.foldl (fun t x => t.startCollective_plan _ _ _ _ _) _ _)
          exact .of_sched rfl rfl rfl

theorem State.boundary_plan (p : Nat) : s.KeepsPlan (s.boundary p) := by
  unfold State.boundary
  split
  · exact .refl s
  · exact State.KeepsPlan.foldl (fun t L => t.modCore_plan L _) _ s

theorem State.snapshotPoint_plan (p : Nat) : s.KeepsPlan (s.snapshotPoint p) := by
  have taken : ∀ k, s.KeepsPlan (s.modPart p fun y => { y with snap := k }) := fun _ => s.modPart_plan p fun _ => rfl
  unfold State.snapshotPoint
  dsimp only
  split
  · exact taken _
  · exact .refl s

end

end Sys2Proof.Machine

/-! SUPPORT. TURN_COMMIT (08 R224, R229): the commit itself, and what the job goes on to. -/

namespace Sys2Proof.Machine

/-- What stays of a commit in its partition, whatever the job goes on to: the counts of turns, the queue, and a job whose shadow holds
the ranks of `keys` with no generation pending. -/
def Part.Turned (td ts : Nat) (keys : List Nat) (queue : List JobReq) (y : Part) : Prop :=
  y.turnData = td ∧ y.turnStream = ts ∧ y.queue = queue ∧
    ∃ k, y.job = some k ∧ k.td = td ∧ k.ts = ts ∧ k.pendingShadow = [] ∧ k.shadow.map Prod.fst = keys

/-- What follows a commit in which the collectives of the turn gave status `st` (08 R224 step 4, R228, R229, 09 R258). -/
def State.afterCommit (s : State) (p : Nat) (j : Job) (st : W16) : State :=
  if st ≠ stOk then s.holdStatus p st
  else if j.td + 1 = j.turns then s.completeJob p
  else
    let s8 := (if (s.part p).snapDue (j.td + 1) then s.snapshotPoint p else s).startTests
    if j.lost then (s8.modJob p fun j => { j with lost := false }).holdCapacity p
    else if j.leaseDue then
      (j.cores.foldl (fun t L => t.modCore L fun c => { c with seq := .heldBoundary })
        (s8.modJob p fun j => { j with holdLease := true, leaseDue := false })).enterHold p
    else if (s8.part p).snapCopying then s8
    else s8.startTurns p

/-- A job whose turn has committed, with the inboxes that its cores hold. -/
def Job.turnOver (j : Job) (td replays : Nat) (inboxes : Nat → SMap Inbox) : Job := { j with
  td := td + 1, ts := j.ts + 1, compared := false, vote := none, turnReplays := 0, turnMoves := 0
  reported := false, go := none
  replayedTurns := if replays = 0 then j.replayedTurns else j.replayedTurns + 1
  shadow := j.shadow.map fun e => (e.1, { e.2 with inboxes := inboxes (j.placement.getD e.1 0) }) }

/-- The commit takes the pending generation, and combines and releases what the turn held (08 R224 steps 2 and 3). -/
def State.takeTurn (s : State) (p : Nat) (j : Job) : State :=
  let s0 := { s with sched := { s.sched with durable := s.sched.durable.filter (· != p) } }
  let s1 := s0.modJob p fun j => { j with shadow := j.pendingShadow, pendingShadow := [] }
  let s3 := j.cores.foldl (fun t L => t.releaseSignals p j L) (s1.combineTurn p j.td)
  j.cores.foldl (fun t L => t.releaseSlots p j L) s3

/-- The turn is counted in the job and in its partition. -/
def State.countTurn (s : State) (p : Nat) (j : Job) : State :=
  (s.modJob p fun k => k.turnOver j.td j.turnReplays fun L => (s.core L).inboxes).modPart p fun x =>
    { x with turnData := j.td + 1, turnStream := j.ts + 1 }

/-- A group's collectives start. -/
def State.startGroup (s : State) (p : Nat) (j : Job) : State × W16 :=
  if j.req.body.group then s.startCollectives p j.td (j.go.getD false) else (s, stOk)

/-- TURN_COMMITTED where one is due, and the boundary. -/
def State.noteCommit (s : State) (p : Nat) (j : Job) : State :=
  let every := if j.req.body.commitInterval = 0 then 1000 else j.req.body.commitInterval.toNat
  (if (j.td + 1 - j.firstTurn) % every = 0 ∨ j.turnReplays ≠ 0 ∨ j.turnMoves ≠ 0 then
    s.journalWrite 0x21 0 (j.td + 1) (s.concernOf (some p)) (leBytes 8 (j.ts + 1) ++ leBytes 4 j.turnReplays ++ leBytes 4 j.turnMoves)
  else s).boundary p

theorem State.commitTurn_eq {s : State} {p : Nat} {j : Job} (job : (s.part p).job = some j) : s.commitTurn p =
    ((((s.takeTurn p j).countTurn p j).startGroup p j).1.noteCommit p j).afterCommit p j (((s.takeTurn p j).countTurn p j).startGroup p j).2 := by
  unfold State.commitTurn
  rw [job]
  rfl

theorem Part.plain_job {y z : Part} {j : Job} (same : z.plain = y.plain) (job : y.job = some j) : ∃ k, z.job = some k ∧ k.plain = j.plain := by
  have jobs : z.job.map Job.plain = y.job.map Job.plain := (congrArg Part.job same :)
  rw [job] at jobs
  exact Option.map_eq_some_iff.1 jobs

section
variable {s : State} {p : Nat} {j : Job}

theorem State.takeTurn_plan (job : (s.part p).job = some j) : (s.takeTurn p j).clusters = s.clusters ∧
    (s.takeTurn p j).host.rollTests = s.host.rollTests ∧ ((s.takeTurn p j).part p).queue = (s.part p).queue ∧
    ∃ k, ((s.takeTurn p j).part p).job = some k ∧ k.plain = { j with shadow := j.pendingShadow, pendingShadow := [] }.plain := by
  let s0 : State := { s with sched := { s.sched with durable := s.sched.durable.filter (· != p) } }
  let s1 := s0.modJob p fun j => { j with shadow := j.pendingShadow, pendingShadow := [] }
  have part1 : s1.part p = { s.part p with job := some { j with shadow := j.pendingShadow, pendingShadow := [] } } := by
    refine (State.part_modJob s0 p _).trans ?_
    rw [show s0.part p = s.part p from rfl, job]
    rfl
  have released : s1.KeepsPlan (s.takeTurn p j) :=
    ((s1.combineTurn_plan p j.td).trans (State.KeepsPlan.foldl (fun t L => t.releaseSignals_plan p j L) _ _)).trans
      (State.KeepsPlan.foldl (fun t L => t.releaseSlots_plan p j L) _ _)
  obtain ⟨clusters, tests, -, -, parts⟩ := released
  have queue : ((s.takeTurn p j).part p).queue = (s1.part p).queue := (congrArg Part.queue (parts p) :)
  exact ⟨clusters, tests, queue.trans (by rw [part1]), Part.plain_job (parts p) (congrArg Part.job part1)⟩

theorem State.countTurn_part {k : Job} (job : (s.part p).job = some k) : ((s.countTurn p j).part p) = { s.part p with
    job := some (k.turnOver j.td j.turnReplays fun L => (s.core L).inboxes), turnData := j.td + 1, turnStream := j.ts + 1 } := by
  unfold State.countTurn
  rw [State.part_modPart, State.part_modJob, job]
  rfl

theorem State.startGroup_plan : s.KeepsPlan (s.startGroup p j).1 := by
  unfold State.startGroup
  split
  · exact s.startCollectives_plan p _ _
  · exact .refl s

theorem State.noteCommit_plan : s.KeepsPlan (s.noteCommit p j) :=
  (State.KeepsPlan.ite (State.journalWrite_notifies _ _ _ _ _ _).plan (.refl s)).trans (State.boundary_plan _ p)

/-- A commit leaves its counts, a job without a pending generation, and the regions and roll tests as they were. -/
theorem State.commitTurn_steps (job : (s.part p).job = some j) : ∃ (u : State) (st : W16),
    s.commitTurn p = u.afterCommit p j st ∧ (j.req.body.group = false → st = stOk) ∧ u.clusters = s.clusters ∧
      u.host.rollTests = s.host.rollTests ∧ (u.part p).Turned (j.td + 1) (j.ts + 1) (j.pendingShadow.map Prod.fst) (s.part p).queue ∧
      ∃ k, (u.part p).job = some k ∧ k.state = j.state ∧ k.cores = j.cores := by
  obtain ⟨clusters4, tests4, queue4, j4, job4, plain4⟩ := State.takeTurn_plan job
  have part6 := State.countTurn_part (j := j) job4
  obtain ⟨clusters7, tests7, -, -, parts7⟩ := (State.startGroup_plan (p := p) (j := j)).trans (State.noteCommit_plan (p := p) (j := j))
  obtain ⟨k, kjob, kplain⟩ := Part.plain_job (parts7 p) (congrArg Part.job part6)
  have counts := parts7 p
  rw [part6] at counts
  have td4 : j4.ts = j.ts := (congrArg Job.ts plain4 :)
  have shadow4 : j4.shadow = j.pendingShadow := (congrArg Job.shadow plain4 :)
  refine ⟨_, _, State.commitTurn_eq job, fun single => ?_, clusters7.trans clusters4, tests7.trans tests4, ⟨?_, ?_, ?_, k, kjob, ?_, ?_, ?_, ?_⟩,
    k, kjob, ?_, ?_⟩
  · rw [State.startGroup, single]
    rfl
  · exact (congrArg Part.turnData counts :)
  · exact (congrArg Part.turnStream counts :)
  · exact (congrArg Part.queue counts :).trans queue4
  · exact (congrArg Job.td kplain :)
  · rw [← td4]
    exact (congrArg Job.ts kplain :)
  · exact (congrArg Job.pendingShadow kplain :).trans (congrArg Job.pendingShadow plain4 :)
  · rw [← shadow4]
    refine (congrArg (fun k : Job => k.shadow.map Prod.fst) kplain :).trans ?_
    exact List.map_map
  · exact (congrArg Job.state kplain :).trans (congrArg Job.state plain4 :)
  · exact (congrArg Job.cores kplain :).trans (congrArg Job.cores plain4 :)

end

end Sys2Proof.Machine

/-! SUPPORT. What a job goes on to after a commit keeps the commit (08 R217, R218, R224 step 4, R228, R229). -/

namespace Sys2Proof.Machine

/-- Whatever a commit has left of partition p in `s`, it leaves in `t`. -/
def State.KeepsTurned (p : Nat) (s t : State) : Prop :=
  ∀ td ts keys queue, (s.part p).Turned td ts keys queue → (t.part p).Turned td ts keys queue

section
variable {p : Nat} {s t u : State}

theorem State.KeepsTurned.refl (s : State) : s.KeepsTurned p s := fun _ _ _ _ h => h

theorem State.KeepsTurned.trans (h : s.KeepsTurned p t) (k : t.KeepsTurned p u) : s.KeepsTurned p u :=
  fun td ts keys queue stands => k td ts keys queue (h td ts keys queue stands)

theorem State.KeepsTurned.foldl {β : Type} {f : State → β → State} (hf : ∀ (t : State) x, t.KeepsTurned p (f t x)) (l : List β) (s : State) :
    s.KeepsTurned p (l.foldl f s) := foldl_related State.KeepsTurned.refl State.KeepsTurned.trans (fun x _ t => hf t x) s

theorem State.KeepsTurned.ite {b : Prop} [Decidable b] (h : s.KeepsTurned p t) (k : s.KeepsTurned p u) :
    s.KeepsTurned p (if b then t else u) := by
  split
  · exact h
  · exact k

theorem State.KeepsTurned.of_sched (same : t.sched = s.sched) : s.KeepsTurned p t := fun td ts keys queue stands => by
  rw [State.part_of_sched same]
  exact stands

theorem Part.Turned.of_plain {y z : Part} {td ts : Nat} {keys : List Nat} {queue : List JobReq} (same : z.plain = y.plain)
    (stands : y.Turned td ts keys queue) : z.Turned td ts keys queue := by
  obtain ⟨data, stream, queued, k, job, ktd, kts, pending, shadow⟩ := stands
  obtain ⟨k', job', plain⟩ := Part.plain_job same job
  exact ⟨(congrArg Part.turnData same :).trans data, (congrArg Part.turnStream same :).trans stream, (congrArg Part.queue same :).trans queued,
    k', job', (congrArg Job.td plain :).trans ktd, (congrArg Job.ts plain :).trans kts, (congrArg Job.pendingShadow plain :).trans pending,
    (congrArg (fun k : Job => k.shadow.map Prod.fst) plain :).trans shadow⟩

theorem State.KeepsPlan.turned (h : s.KeepsPlan t) : s.KeepsTurned p t := fun _ _ _ _ => Part.Turned.of_plain (h.2.2.part p)

end

/-- A change of a job that keeps its turns and the ranks of its shadow, and begins no generation. -/
def Job.KeepsTurn (f : Job → Job) : Prop :=
  ∀ j, (f j).td = j.td ∧ (f j).ts = j.ts ∧ (j.pendingShadow = [] → (f j).pendingShadow = []) ∧
    (f j).shadow.map Prod.fst = j.shadow.map Prod.fst

section
variable {p : Nat} (s : State)

theorem State.modPart_keepsTurned (q : Nat) {f : Part → Part}
    (keeps : ∀ y td ts keys queue, y.Turned td ts keys queue → (f y).Turned td ts keys queue) : s.KeepsTurned p (s.modPart q f) := by
  intro td ts keys queue stands
  by_cases same : p = q
  · subst same
    rw [State.part_modPart]
    exact keeps _ _ _ _ _ stands
  · rw [State.part_modPart_other _ _ same]
    exact stands

theorem State.modJob_keepsTurned (q : Nat) {f : Job → Job} (keeps : Job.KeepsTurn f) : s.KeepsTurned p (s.modJob q f) := by
  refine s.modPart_keepsTurned q fun y td ts keys queue ⟨data, stream, queued, k, job, ktd, kts, pending, shadow⟩ => ?_
  obtain ⟨ftd, fts, fpending, fshadow⟩ := keeps k
  exact ⟨data, stream, queued, f k, congrArg (Option.map f) job, ftd.trans ktd, fts.trans kts, fpending pending, fshadow.trans shadow⟩

/-! ### Holds (08 R228) -/

theorem State.abandonParts_keepsTurned (q : Nat) : s.KeepsTurned p (s.abandonParts q) := by
  unfold State.abandonParts
  split
  · exact .refl s
  next j _ =>
    have withdrawn : s.KeepsTurned p (j.cores.foldl (fun t L => t.withdrawPart q L) s) :=
      State.KeepsTurned.foldl (fun t L => .of_sched (t.withdrawPart_onCoresAndMesh q L).sched) _ s
    have stopped : ∀ (t : State) (f : Core → Core), t.KeepsTurned p (j.cores.foldl (fun t L => t.modCore L f) t) := fun t f =>
      State.KeepsTurned.foldl (fun t L => .of_sched (t.modCore_sched L f)) _ t
    have unlisted : ∀ t : State, t.KeepsTurned p { t with sched := { t.sched with durable := t.sched.durable.filter (· != q) } } :=
      fun _ _ _ _ _ h => h
    refine ((withdrawn.trans (stopped _ _)).trans (State.modJob_keepsTurned _ q ?_)).trans (unlisted _)
    exact fun _ => ⟨rfl, rfl, fun _ => rfl, rfl⟩

theorem State.enterHold_keepsTurned (q : Nat) : s.KeepsTurned p (s.enterHold q) := by
  unfold State.enterHold
  split
  · exact .refl s
  · dsimp only
    split
    · exact .refl s
    · refine State.KeepsTurned.trans ?_ (.of_sched (State.tellGroup_sched _ q false))
      refine State.KeepsTurned.trans ?_ (.of_sched (State.journalWrite_notifies _ _ _ _ _ _).sched)
      exact s.modJob_keepsTurned q fun _ => ⟨rfl, rfl, id, rfl⟩

theorem State.holdCapacity_keepsTurned (q : Nat) : s.KeepsTurned p (s.holdCapacity q) := by
  refine ((s.abandonParts_keepsTurned q).trans (State.modJob_keepsTurned _ q ?_)).trans (State.enterHold_keepsTurned _ q)
  exact fun _ => ⟨rfl, rfl, id, rfl⟩

theorem State.holdStatus_keepsTurned (q : Nat) (st : W16) : s.KeepsTurned p (s.holdStatus q st) := by
  refine State.KeepsTurned.trans (State.KeepsTurned.trans ?_ (State.modJob_keepsTurned _ q ?_)) (State.enterHold_keepsTurned _ q)
  · refine .ite (s.abandonParts_keepsTurned q) ((s.abandonParts_keepsTurned q).trans (State.modPart_keepsTurned _ q ?_))
    exact fun _ _ _ _ _ h => h
  · exact fun _ => ⟨rfl, rfl, id, rfl⟩

/-! ### Moves (08 R217, R218) -/

theorem State.landTokens_sched (L : Nat) : (s.landTokens L).sched = s.sched := by
  refine foldl_keeps State.sched (fun t q => ?_) _ s
  exact (((State.OnMesh.refl t).receive q).acknowledged _ _ _ _).notifies.sched

theorem State.renameCores_keepsTurned (q : Nat) (moved : List Nat) (mv : Nat → Nat) : s.KeepsTurned p (s.renameCores q moved mv) := by
  unfold State.renameCores
  split
  · exact .refl s
  next j _ =>
    have renamed : ∀ f : Core → Core, s.KeepsTurned p (j.cores.foldl (fun t L => t.modCore L f) s) := fun f =>
      State.KeepsTurned.foldl (fun t L => .of_sched (t.modCore_sched L f)) _ s
    have credited : ∀ (t : State) (m : SMap Nat), t.KeepsTurned p { t with mesh := { t.mesh with credits := m } } := fun _ _ => .of_sched rfl
    refine ((renamed _).trans (State.modJob_keepsTurned _ q ?_)).trans (credited _ _)
    exact fun k => ⟨rfl, rfl, congrArg (List.map _), List.map_map⟩

theorem State.moveRanks_keepsTurned (q c d : Nat) : s.KeepsTurned p (s.moveRanks q c d) := by
  unfold State.moveRanks
  split
  · exact .refl s
  next j _ =>
    dsimp only
    have landed : ∀ (t : State) L, t.KeepsTurned p (t.landTokens L) := fun t L => .of_sched (t.landTokens_sched L)
    have withdrawn : ∀ (t : State) L, t.KeepsTurned p (t.withdrawPart q L) := fun t L => .of_sched (t.withdrawPart_onCoresAndMesh q L).sched
    have kept : ∀ t : State, t.KeepsTurned p (if (t.cluster d).wakeable then t.queueWake d else t) := fun t =>
      .ite (.of_sched (t.queueWake_sched d)) (.refl t)
    refine State.KeepsTurned.trans ?_ (kept _)
    refine State.KeepsTurned.trans ?_ (State.renameCores_keepsTurned _ q _ _)
    refine State.KeepsTurned.trans ?_ (State.KeepsTurned.foldl (fun t L => ?_) _ _)
    · refine State.KeepsTurned.trans (s.modJob_keepsTurned q ?_) (State.modPart_keepsTurned _ q ?_)
      · exact fun _ => ⟨rfl, rfl, id, rfl⟩
      · exact fun _ _ _ _ _ h => h
    · refine State.KeepsTurned.trans ?_ (.of_sched (State.modCore_sched _ _ _))
      refine State.KeepsTurned.trans ?_ (.of_sched (State.awaitRebuild_onCoresAndMesh _ _ true).sched)
      refine State.KeepsTurned.trans ?_ (.of_sched (State.setCore_sched _ _ _))
      exact (landed t L).trans (.ite (.refl _) (withdrawn _ L))

theorem State.clusterUnusable_keepsTurned (c : Nat) (shed : Bool) : s.KeepsTurned p (s.clusterUnusable c shed) := by
  unfold State.clusterUnusable
  split
  · exact .refl s
  next q _ =>
    split
    · exact .refl s
    next j _ =>
      split
      · exact .refl s
      · dsimp only
        split
        · exact .ite (.refl s) (s.moveRanks_keepsTurned q c _)
        · split
          · refine State.KeepsTurned.trans (s.modJob_keepsTurned q ?_) (State.KeepsTurned.foldl (fun t L => ?_) _ _)
            · exact fun _ => ⟨rfl, rfl, id, rfl⟩
            exact .ite (.refl t) (.of_sched (t.awaitRebuild_onCoresAndMesh L false).sched)
          · exact s.holdCapacity_keepsTurned q

/-! ### Roll tests and the next turn (13 R384, 08 R224 step 4) -/

theorem State.startTests_keepsTurned : s.KeepsTurned p s.startTests := by
  refine State.KeepsTurned.foldl (fun t r => ?_) _ s
  dsimp only
  split
  · exact .of_sched (t.queueWake_sched _)
  · split
    · refine State.KeepsTurned.trans ?_ (State.clusterUnusable_keepsTurned _ _ true)
      exact .of_sched rfl
    · exact .refl t

theorem State.moveDue_keepsTurned (q : Nat) : s.KeepsTurned p (s.moveDue q) := by
  unfold State.moveDue
  split
  · exact .refl s
  · exact State.KeepsTurned.foldl (fun t c => t.clusterUnusable_keepsTurned c _) _ s

theorem State.writeJobBlock_sched (q rank L : Nat) : (s.writeJobBlock q rank L).sched = s.sched := by
  unfold State.writeJobBlock
  split <;> rfl

theorem State.rewriteBlocks_keepsTurned (q : Nat) : s.KeepsTurned p (s.rewriteBlocks q) := by
  unfold State.rewriteBlocks
  split
  · exact .refl s
  · split
    · refine State.KeepsTurned.trans (State.KeepsTurned.foldl (fun t e => ?_) _ s) (State.modJob_keepsTurned _ q ?_)
      · exact .of_sched (t.writeJobBlock_sched q _ _)
      · exact fun _ => ⟨rfl, rfl, id, rfl⟩
    · exact .refl s

theorem State.startTurns_keepsTurned (q : Nat) : s.KeepsTurned p (s.startTurns q) := by
  have entered : ∀ (t : State) (j : Job), t.KeepsTurned p (t.enterParts j) := fun t j => .of_sched (t.enterParts_sched j)
  unfold State.startTurns
  split
  · exact .refl s
  next j0 _ =>
    split
    · exact .refl s
    · have due : s.KeepsTurned p (if s.turnBegun j0 then s else s.moveDue q) := .ite (.refl s) (s.moveDue_keepsTurned q)
      revert due
      dsimp only
      generalize (if s.turnBegun j0 then s else s.moveDue q) = s0
      intro due
      split
      · exact due
      next j _ =>
        split
        · exact due
        · split
          · refine due.trans (State.modJob_keepsTurned _ q ?_)
            exact fun _ => ⟨rfl, rfl, id, rfl⟩
          · have woken := due.trans (.of_sched (State.wakeHosts_sched _ j))
            split
            · exact woken.trans (entered _ j)
            · split
              · exact woken
              · exact (woken.trans (State.rewriteBlocks_keepsTurned _ q)).trans (entered _ j)

/-- A job that completes with nothing queued behind it stays with its record (08 R229, 10 R294). -/
theorem State.completeJob_turned {td ts : Nat} {keys : List Nat} (stands : (s.part p).Turned td ts keys []) :
    ((s.completeJob p).part p).Turned td ts keys [] ∧ ∃ k, ((s.completeJob p).part p).job = some k ∧ k.state = .completed := by
  obtain ⟨data, stream, queued, j, job, jtd, jts, pending, shadow⟩ := stands
  let done : Job := { j with state := .completed, waiting := false }
  unfold State.completeJob
  rw [job]
  dsimp only
  have noted : ∀ (t : State) (f : Core → Core) (body : List Byte), ((j.cores.foldl (fun t L => t.modCore L f) (t.dropJob j)).journalWrite 0x24 0 j.td
      (s.concernOf (some p)) body).sched = t.sched := fun t f body =>
    (State.journalWrite_notifies _ _ _ _ _ _).sched.trans (foldl_keeps State.sched (fun t L => t.modCore_sched L f) _ _)
  have completed : ∀ t : State, t.sched = (s.modJob p fun j => { j with state := .completed, waiting := false }).sched →
      ((t.nextJob p).part p).Turned td ts keys [] ∧ ∃ k, ((t.nextJob p).part p).job = some k ∧ k.state = .completed := fun t same => by
    have part : t.part p = { s.part p with job := some done } := by
      rw [State.part_of_sched same, State.part_modJob, job]
      rfl
    have kept : ((t.dropRequested p).part p).unsnapped = { s.part p with job := some done }.unsnapped := by
      rw [← part]
      exact (t.dropRequested_keepsParts (fun _ _ => rfl) p).part p
    have idle : ((t.dropRequested p).part p).queue = [] := (congrArg Part.queue kept :).trans queued
    rw [State.nextJob, State.loadNext_idle idle]
    exact ⟨⟨(congrArg Part.turnData kept :).trans data, (congrArg Part.turnStream kept :).trans stream, idle, done, (congrArg Part.job kept :),
      jtd, jts, pending, shadow⟩, done, (congrArg Part.job kept :), rfl⟩
  exact completed _ (noted _ _ _)

/-- Whatever a job goes on to keeps its commit; a last turn needs a queue with nothing in it, as the next job takes the partition. -/
theorem State.afterCommit_turned {td ts : Nat} {keys : List Nat} {queue : List JobReq} {j : Job} (st : W16)
    (last : j.td + 1 = j.turns → queue = []) (stands : (s.part p).Turned td ts keys queue) :
    ((s.afterCommit p j st).part p).Turned td ts keys queue := by
  unfold State.afterCommit
  split
  · exact s.holdStatus_keepsTurned p st _ _ _ _ stands
  · split
    next ends =>
      obtain rfl := last ends
      exact (s.completeJob_turned stands).1
    · have tested : s.KeepsTurned p (if (s.part p).snapDue (j.td + 1) then s.snapshotPoint p else s).startTests :=
        State.KeepsTurned.trans (.ite (s.snapshotPoint_plan p).turned (.refl s)) (State.startTests_keepsTurned _)
      refine (?_ : s.KeepsTurned p _) _ _ _ _ stands
      dsimp only
      refine .ite ?_ (.ite ?_ (.ite tested (tested.trans (State.startTurns_keepsTurned _ p))))
      · refine (tested.trans (State.modJob_keepsTurned _ p ?_)).trans (State.holdCapacity_keepsTurned _ p)
        exact fun _ => ⟨rfl, rfl, id, rfl⟩
      · refine State.KeepsTurned.trans ?_ (State.enterHold_keepsTurned _ p)
        refine State.KeepsTurned.trans ?_ (State.KeepsTurned.foldl (fun t L => .of_sched (t.modCore_sched L _)) _ _)
        refine tested.trans (State.modJob_keepsTurned _ p ?_)
        exact fun _ => ⟨rfl, rfl, id, rfl⟩

end

end Sys2Proof.Machine

/-! SUPPORT. A job that loads (05 R149, 08 R211, R213, R214, R227), and the obligation of loads and commits. -/

namespace Sys2Proof.Machine

/-! ### The turn after a commit -/

section
variable {s : State} {p : Nat} {j k : Job}

theorem State.startTests_none (none' : s.host.rollTests = []) : s.startTests = s := by
  unfold State.startTests
  rw [none']
  rfl

/-- The clusters of a job serve it: in service, with their regions running and not shed, and without a roll test. -/
def State.Serving (s : State) (j : Job) : Prop :=
  ∀ L ∈ j.cores, s.inService (L / 12) = true ∧ (s.cluster (L / 12)).region = .running ∧ (s.cluster (L / 12)).shed = false ∧
    s.testing (L / 12) = false

theorem State.Serving.unmoved (serving : s.Serving j) {t : State} (clusters : t.clusters = s.clusters) (job : (t.part p).job = some k)
    (same : k.cores = j.cores) : t.moveDue p = t := State.moveDue_ready job fun L listed => by
  obtain ⟨serves, runs, on, -⟩ := serving L (same ▸ listed)
  rw [State.inService, State.cluster_of_clusters clusters, Cluster.usable, runs, on]
  exact ⟨serves, rfl⟩

theorem State.Serving.of_same (serving : s.Serving j) {t : State} (clusters : t.clusters = s.clusters) (tests : t.host.rollTests = s.host.rollTests)
    (same : k.cores = j.cores) : t.Serving k := fun L listed => by
  rw [State.inService, State.testing, State.cluster_of_clusters clusters, tests]
  exact serving L (same ▸ listed)

/-- A job outside a group, with further turns, nothing due and its clusters serving, runs on. -/
theorem State.afterCommit_runs (more : j.td + 1 ≠ j.turns) (lease : j.leaseDue = false) (whole : j.lost = false)
    (tests : s.host.rollTests = []) (serving : s.Serving j)
    (job : (s.part p).job = some k) (cores : k.cores = j.cores) (running : k.state = .running) :
    ∃ k', ((s.afterCommit p j stOk).part p).job = some k' ∧ k'.state = .running := by
  have planned : s.KeepsPlan (if (s.part p).snapDue (j.td + 1) then s.snapshotPoint p else s) := .ite (s.snapshotPoint_plan p) (.refl s)
  have untested : (if (s.part p).snapDue (j.td + 1) then s.snapshotPoint p else s).startTests =
      if (s.part p).snapDue (j.td + 1) then s.snapshotPoint p else s := State.startTests_none (planned.2.1.trans tests)
  unfold State.afterCommit
  rw [if_neg (not_not.2 rfl), if_neg more, untested, whole, lease]
  obtain ⟨clusters', -, -, -, parts⟩ := planned
  revert clusters' parts
  dsimp only
  generalize (if (s.part p).snapDue (j.td + 1) then s.snapshotPoint p else s) = t
  intro clusters' parts
  obtain ⟨k', job', plain⟩ := Part.plain_job (parts p) job
  have runs : k'.state = .running := (congrArg Job.state plain :).trans running
  rw [if_neg Bool.false_ne_true, if_neg Bool.false_ne_true]
  split
  · exact ⟨k', job', runs⟩
  · have unmoved := serving.unmoved clusters' job' ((congrArg Job.cores plain :).trans cores)
    obtain ⟨⟨w, m, part⟩, -⟩ := State.startTurns_part job' (.inr unmoved)
    exact ⟨_, congrArg Part.job part, runs⟩

end

/-! ### Backed regions (05 R149) -/

theorem backedFillDone_fills {s : State} {p region : Nat} {im : Image} {j : Job} {b : Backed} (image : (s.part p).image = some im)
    (job : (s.part p).job = some j) (loading : j.state = .loading) (listed : im.backed[region]? = some b)
    (readable : s.Readable ((s.part p).base + b.master) b.length) (reads : s.accessWaits ((s.part p).base + b.master) b.length false = false)
    (writes : s.accessWaits b.addr b.length true = false) :
    let t := backedFillDone p region s
    (∀ a, t.readByte a = if b.addr ≤ a ∧ a < b.addr + b.length then s.readByte ((s.part p).base + b.master + (a - b.addr)) else s.readByte a) ∧
      t.part p = { s.part p with image := some { im with backed := im.backed.set region { b with filled := true } } } ∧
      t.cores = s.cores ∧ t.clusters = s.clusters := by
  have copied : s.copyRead ((s.part p).base + b.master) b.addr b.length = (s.copy ((s.part p).base + b.master) b.addr b.length, []) := by
    unfold State.copyRead
    rw [s.readRange_readable _ _ _ _ readable]
    rfl
  have sent := (State.OnMesh.refl (s.copy ((s.part p).base + b.master) b.addr b.length)).traffic false
    (nodeAt (s.ownerOf ((s.part p).base + b.master))) (nodeAt (s.ownerOf b.addr)) b.length
  intro t
  have filled : t = ((s.copy ((s.part p).base + b.master) b.addr b.length).traffic false (nodeAt (s.ownerOf ((s.part p).base + b.master)))
      (nodeAt (s.ownerOf b.addr)) b.length).modPart p fun y =>
        { y with image := y.image.map fun i => { i with backed := i.backed.set region { b with filled := true } } } := by
    show backedFillDone p region s = _
    unfold backedFillDone
    dsimp only
    rw [image, job]
    dsimp only
    rw [if_pos loading, listed]
    dsimp only
    rw [reads, writes, copied]
    rfl
  rw [filled]
  refine ⟨fun a => (sent.readByte a).trans (s.readByte_copy _ _ _ a), ?_, sent.notifies.cores, sent.notifies.clusters⟩
  have same : (s.copy ((s.part p).base + b.master) b.addr b.length).part p = s.part p := State.part_of_sched rfl p
  rw [State.part_modPart, State.part_of_sched sent.notifies.sched, same, image]
  rfl

/-! ### A job that is loaded (08 R213, R214, R227) -/

/-- `t` differs from `s` by memory, its parity and the cores, and no word of either is in error. -/
def State.Loads (s t : State) : Prop :=
  t = { s with mem := t.mem, wordErr := [], writeBack := t.writeBack, hbm := t.hbm, cores := t.cores } ∧ s.wordErr = []

/-- A core that stands at word `w`. -/
def Core.enterAt (c : Core) (w : Nat) : Core := { c with entry := w, nextEntry := w }

/-- Of all cores those of `l` alone changed: they stand at word `w`. -/
def State.EntersAt (w : Nat) (l : List Nat) (s t : State) : Prop :=
  s.Loads t ∧ ∀ M, t.core M = if M ∈ l then (s.core M).enterAt w else s.core M

section
variable {s t u : State} {w : Nat} {l m : List Nat}

theorem State.Loads.refl (h : s.wordErr = []) : s.Loads s := ⟨by rw [← h], h⟩

theorem State.Loads.trans (h : s.Loads t) (k : t.Loads u) : s.Loads u := by
  obtain ⟨ht, hs⟩ := h
  refine ⟨?_, hs⟩
  rw [k.1, ht]

theorem State.Loads.wordErr (h : s.Loads t) : t.wordErr = [] := by rw [h.1]
theorem State.Loads.sched (h : s.Loads t) : t.sched = s.sched := by rw [h.1]
theorem State.Loads.clusters (h : s.Loads t) : t.clusters = s.clusters := by rw [h.1]
theorem State.Loads.host (h : s.Loads t) : t.host = s.host := by rw [h.1]
theorem State.Loads.arch (h : s.Loads t) : t.arch = s.arch := by rw [h.1]

theorem State.Loads.clean (h : s.Loads t) (clean : s.Clean) : t.Clean := by
  refine ⟨h.wordErr, ?_⟩
  rw [h.1]
  exact clean.2

theorem State.OnSound.loads (h : s.OnSound t) : s.Loads t := by
  refine ⟨?_, h.2⟩
  rw [h.1]

theorem State.Loads.entersNone (h : s.Loads t) (cores : t.cores = s.cores) : s.EntersAt w [] t := by
  refine ⟨h, fun M => ?_⟩
  rw [if_neg List.not_mem_nil, State.core_of_cores cores]

theorem State.EntersAt.trans (h : s.EntersAt w l t) (k : t.EntersAt w m u) : s.EntersAt w (l ++ m) u := by
  refine ⟨h.1.trans k.1, fun M => ?_⟩
  rw [k.2, h.2]
  by_cases first : M ∈ l <;> by_cases second : M ∈ m <;> simp [first, second, Core.enterAt]

theorem State.modCore_entersAt (h : s.wordErr = []) (L : Nat) : s.EntersAt w [L] (s.modCore L (Core.enterAt · w)) := by
  refine ⟨⟨?_, h⟩, fun M => ?_⟩
  · rw [← h]
    rfl
  · by_cases same : M = L
    · subst same
      rw [State.core_modCore, if_pos (List.mem_singleton.2 rfl)]
    · rw [State.core_modCore_other _ _ same, if_neg (same ∘ List.mem_singleton.1)]

/-! #### The shadow is cleared (06 R171) -/

theorem State.store_hbm_loads (h : s.wordErr = []) (a n : Nat) (es : SMap Byte) (x : Hbm) : s.Loads { s.store a n es with hbm := x } := by
  refine ⟨?_, h⟩
  unfold State.store
  rw [h]
  rfl

theorem State.clearBlocks_loads (h : s.wordErr = []) (a n : Nat) : s.Loads (s.clearBlocks a n) ∧ (s.clearBlocks a n).cores = s.cores := by
  unfold State.clearBlocks
  dsimp only
  split
  · exact ⟨State.store_hbm_loads h _ _ _ _, rfl⟩
  · exact ⟨State.store_hbm_loads h _ _ _ _, rfl⟩

theorem State.clearEnds_loads (h : s.wordErr = []) (a n : Nat) : s.Loads (s.clearEnds a n) ∧ (s.clearEnds a n).cores = s.cores := by
  refine List.foldlRecOn (s.rangeEnds a n) _ (motive := fun t => s.Loads t ∧ t.cores = s.cores) ⟨.refl h, rfl⟩ fun t sofar e _ => ?_
  obtain ⟨loads, cores⟩ := sofar
  split
  · exact ⟨loads, cores⟩
  · obtain ⟨x, frame⟩ := t.firmwareWrite_frame e.1 e.2 []
    rw [frame]
    exact ⟨loads.trans (State.store_hbm_loads loads.wordErr _ _ _ _), cores⟩

theorem State.clearShadow_entersNone (h : s.wordErr = []) (p : Nat) (im : Image) : s.EntersAt w [] (s.clearShadow p im) := by
  obtain ⟨blocks, cores⟩ := State.clearBlocks_loads h ((s.part p).base + (s.part p).bytes - shadowBytes im.ranks) (shadowBytes im.ranks)
  obtain ⟨ends, cores'⟩ := State.clearEnds_loads blocks.wordErr ((s.part p).base + (s.part p).bytes - shadowBytes im.ranks) (shadowBytes im.ranks)
  exact (blocks.trans ends).entersNone (cores'.trans cores)

/-! #### The ranks are loaded -/

theorem State.zeros_onSound {β : Type} (place len : β → Nat) (h : s.wordErr = []) (l : List β) :
    s.OnSound (l.foldl (fun t d => t.zero (place d) (len d)) s) :=
  List.foldlRecOn l _ (motive := s.OnSound) (.refl h) fun _ sofar _ _ => sofar.trans (State.store_onSound sofar.wordErr _ _ _)

/-- A rank that is loaded from a sound memory: nothing is lost, and its core stands at the code's entry. -/
theorem State.loadRank_entersAt (clean : s.Clean) (p : Nat) (im : Image) (rank L : Nat) :
    s.EntersAt im.codeWord [L] (s.loadRank p im rank L).1 ∧ (s.loadRank p im rank L).2 = [] := by
  obtain ⟨resident, none'⟩ := State.loadResident_copies clean p rank L
  have block := State.writeJobBlock_onSound resident.wordErr p rank L
  have zeroed := State.zeros_onSound (fun d : Nat × Nat => csBase L + d.1 * 8) (fun d => d.2 * 8) block.wordErr (im.carried rank)
  have loaded := (resident.trans block).trans zeroed
  exact ⟨(loaded.loads.entersNone loaded.cores).trans (State.modCore_entersAt loaded.wordErr L), none'⟩

/-- Ranks loaded one after another, with the words of their masters that give no data. -/
def State.loadRanks (s : State) (p : Nat) (im : Image) (l : List (Nat × Nat)) : State × List Nat :=
  l.foldl (fun (acc : State × List Nat) e => ((acc.1.loadRank p im e.1 e.2).1, acc.2 ++ (acc.1.loadRank p im e.1 e.2).2)) (s, [])

theorem State.loadRanks_cons {e : Nat × Nat} {l : List (Nat × Nat)} {p : Nat} {im : Image} (none' : (s.loadRank p im e.1 e.2).2 = []) :
    s.loadRanks p im (e :: l) = (s.loadRank p im e.1 e.2).1.loadRanks p im l := by
  unfold State.loadRanks
  rw [List.foldl_cons, none']
  rfl

theorem State.loadRanks_entersAt (clean : s.Clean) (p : Nat) (im : Image) (l : List (Nat × Nat)) :
    s.EntersAt im.codeWord (l.map Prod.snd) (s.loadRanks p im l).1 ∧ (s.loadRanks p im l).2 = [] := by
  induction l generalizing s with
  | nil => exact ⟨(State.Loads.refl clean.1).entersNone rfl, rfl⟩
  | cons e l ih =>
    obtain ⟨here, none'⟩ := State.loadRank_entersAt clean p im e.1 e.2
    obtain ⟨rest, none''⟩ := ih (here.1.clean clean)
    rw [State.loadRanks_cons none']
    exact ⟨here.trans rest, none''⟩

/-- The ranks of a job with their cores. -/
def Job.ranked (j : Job) : List (Nat × Nat) :=
  (List.range j.placement.length).zip j.placement ++ (List.range j.placementB.length).zip j.placementB

theorem Job.ranked_cores (j : Job) : j.ranked.map Prod.snd = j.cores := by
  unfold Job.ranked
  rw [List.map_append, List.map_snd_zip (by rw [List.length_range]), List.map_snd_zip (by rw [List.length_range])]
  rfl

end

/-! #### The loaded job (08 R227, R228, 09 R253) -/

/-- A job whose ranks stand loaded at word `w`, with empty committed state. -/
def Job.loadedAt (j : Job) (w : Nat) : Job :=
  { j with loaded := true, shadow := (List.range j.placement.length).map fun r => (r, ({ entry := w } : RankShadow)) }

section
variable {s : State} {p : Nat} {im : Image} {j : Job}

/-- From a sound memory, with every fill complete and the hosting clusters serving, every rank is loaded; the job runs unless it is of a
group that is not admitted. -/
theorem jobLoadDone_steps (image : (s.part p).image = some im) (job : (s.part p).job = some j) (loading : j.state = .loading)
    (unloaded : j.loaded = false) (filled : ∀ b ∈ im.backed, b.filled = true) (clean : s.Clean) (serving : s.Serving j) :
    ∃ u, s.EntersAt im.codeWord j.cores u ∧ jobLoadDone p s =
      if j.req.body.group && !(s.group j.req.body.groupId).admitted then u.modJob p (Job.loadedAt · im.codeWord)
      else (u.modJob p (Job.loadedAt · im.codeWord)).runLoaded p := by
  have cleared : s.EntersAt im.codeWord [] (s.clearShadow p im) := State.clearShadow_entersNone clean.1 p im
  obtain ⟨loaded, none'⟩ := State.loadRanks_entersAt (cleared.1.clean clean) p im j.ranked
  have done := cleared.trans loaded
  rw [List.nil_append, j.ranked_cores] at done
  have due : j.state = .loading ∧ (!j.loaded) = true ∧ im.backed.all (fun b => b.filled) = true ∧
      j.cores.all (fun L => (s.cluster (L / 12)).region == .running && !s.testing (L / 12)) = true := by
    refine ⟨loading, by rw [unloaded]; rfl, List.all_eq_true.2 filled, List.all_eq_true.2 fun L listed => ?_⟩
    obtain ⟨-, runs, -, untested⟩ := serving L listed
    rw [runs, untested]
    rfl
  refine ⟨_, done, ?_⟩
  have admitted : ∀ u : State, s.Loads u → (u.modJob p (Job.loadedAt · im.codeWord)).group j.req.body.groupId = s.group j.req.body.groupId :=
    fun u loads => congrArg (fun a : Arch => SMap.getD a.groups j.req.body.groupId.toNat {}) loads.arch
  rw [← admitted _ done.1]
  unfold jobLoadDone
  dsimp only
  rw [image, job]
  dsimp only
  rw [if_pos due]
  unfold State.loadRanks Job.ranked at none' ⊢
  rw [none']
  rfl

end

section
variable {s : State} {p : Nat} {j : Job}

/-- JOB_STARTED, or JOB_RESUMED (08 R227, 13 R397). -/
def State.noteStart (s : State) (p : Nat) (j : Job) : State :=
  if j.resumed then s.journalWrite 0x23 0 j.td (s.concernOf (some p)) []
  else s.journalWrite 0x20 0 j.td (s.concernOf (some p)) (leBytes 4 j.epoch ++ leBytes 2 j.placement.length)

theorem State.noteStart_notifies (s : State) (p : Nat) (j : Job) : s.Notifies (s.noteStart p j) := by
  unfold State.noteStart
  split
  · exact State.journalWrite_notifies _ _ _ _ _ _
  · exact State.journalWrite_notifies _ _ _ _ _ _

/-- A loaded job that has been started. -/
def Job.started (j : Job) : Job := { j with state := .running, loaded := false }

/-- The job is running, and its start noted. -/
def State.startJob (s : State) (p : Nat) (j : Job) : State := (s.modJob p Job.started).noteStart p j

theorem State.startJob_starts (job : (s.part p).job = some j) : ((s.startJob p j).part p).job = some j.started ∧
    (s.startJob p j).cores = s.cores ∧ (s.startJob p j).clusters = s.clusters := by
  have noted := (s.modJob p Job.started).noteStart_notifies p j
  refine ⟨?_, noted.cores, noted.clusters⟩
  unfold State.startJob
  rw [State.part_of_sched noted.sched, State.part_modJob, job]
  rfl

theorem State.runLoaded_eq (job : (s.part p).job = some j) : s.runLoaded p =
    if j.leaseDue then ((s.startJob p j).modJob p fun j => { j with holdLease := true, leaseDue := false }).enterHold p
    else (s.startJob p j).startTurns p := by
  unfold State.runLoaded
  rw [job]
  rfl

/-- A job that does not hold enters the hold; no core changes. -/
theorem State.enterHold_enters (job : (s.part p).job = some j) (fresh : j.state ≠ .holding) :
    (∃ r, ((s.enterHold p).part p).job = some { j with state := .holding, reason := r }) ∧ (s.enterHold p).cores = s.cores := by
  unfold State.enterHold
  rw [job]
  dsimp only
  rw [if_neg fun shown => fresh shown.1]
  have told := (State.journalWrite_notifies (s.modJob p fun k => { k with state := .holding, reason := j.topReason }) 0x22
    (BitVec.ofNat 16 j.topReason) j.td (s.concernOf (some p)) (leBytes 2 (s.part p).lastStatus.toNat)).trans (State.tellGroup_notifies _ p false)
  refine ⟨⟨j.topReason, ?_⟩, told.cores⟩
  rw [State.part_of_sched told.sched, State.part_modJob, job]
  rfl

/-- A loaded job runs, or holds for its lease, with its committed state and its cores' entries as they stand. -/
theorem State.runLoaded_runs (job : (s.part p).job = some j) (serving : s.Serving j) :
    (∃ k, ((s.runLoaded p).part p).job = some k ∧ k.td = j.td ∧ k.shadow = j.shadow ∧ (j.leaseDue = false → k.state = .running) ∧
      (j.leaseDue = true → k.state = .holding ∧ k.holdLease = true)) ∧
    (∀ M, ((s.runLoaded p).core M).entry = (s.core M).entry) ∧
      (j.leaseDue = false → ∀ M, M ∉ j.cores → (s.runLoaded p).core M = s.core M) := by
  obtain ⟨job', cores, clusters⟩ := State.startJob_starts job
  rw [State.runLoaded_eq job]
  split
  next lease =>
    have due : (((s.startJob p j).modJob p fun j => { j with holdLease := true, leaseDue := false }).part p).job =
        some { j.started with holdLease := true, leaseDue := false } := by
      rw [State.part_modJob, job']
      rfl
    obtain ⟨⟨r, holds⟩, same⟩ := State.enterHold_enters due (show JobState.running ≠ .holding by decide)
    have leased : j.leaseDue ≠ false := by rw [lease]; decide
    refine ⟨⟨_, holds, rfl, rfl, fun free => absurd free leased, fun _ => ⟨rfl, rfl⟩⟩, fun M => ?_, fun free => absurd free leased⟩
    exact congrArg Core.entry (State.core_of_cores (same.trans cores) M)
  next free =>
    obtain ⟨⟨w, m, part⟩, enters⟩ := State.startTurns_part job' (.inr (serving.unmoved clusters job' rfl))
    refine ⟨⟨_, congrArg Part.job part, rfl, rfl, fun _ => rfl, fun lease => absurd lease free⟩, fun M => ?_, fun _ M outside => ?_⟩
    · obtain same | ⟨-, -, entered⟩ := enters M
      · rw [same, State.core_of_cores cores]
      · rw [entered, State.core_of_cores cores]
        rfl
    · obtain same | ⟨listed, -⟩ := enters M
      · exact same.trans (State.core_of_cores cores M)
      · exact absurd listed outside

end

/-- A job of partition p whose ranks stand loaded on their cores at word `w`, with nothing else of the cores changed unless a lease is due. -/
def State.StandsLoaded (s : State) (p : Nat) (j : Job) (w : Nat) (t : State) (k : Job) : Prop :=
  (t.part p).job = some k ∧ k.td = j.td ∧
    k.shadow = (List.range j.placement.length).map (fun r => (r, ({ entry := w } : RankShadow))) ∧
    (∀ L ∈ j.cores, (t.core L).entry = w) ∧ (j.leaseDue = false → ∀ L, L ∉ j.cores → t.core L = s.core L)

section
variable {s u : State} {p w : Nat} {j : Job}

/-- The state in which every rank is loaded, and the job marked so. -/
theorem State.EntersAt.loadedJob (entered : s.EntersAt w j.cores u) (job : (s.part p).job = some j) (serving : s.Serving j) :
    ((u.modJob p (Job.loadedAt · w)).part p).job = some (j.loadedAt w) ∧
      (u.modJob p (Job.loadedAt · w)).Serving (j.loadedAt w) ∧ s.StandsLoaded p j w (u.modJob p (Job.loadedAt · w)) (j.loadedAt w) := by
  have job' : ((u.modJob p (Job.loadedAt · w)).part p).job = some (j.loadedAt w) := by
    rw [State.part_modJob, State.part_of_sched entered.1.sched, job]
    rfl
  refine ⟨job', serving.of_same (t := u.modJob p _) entered.1.clusters (congrArg HostSide.rollTests entered.1.host) rfl, job', rfl, rfl,
    fun L listed => ?_, fun _ L outside => (entered.2 L).trans (if_neg outside)⟩
  exact (congrArg Core.entry ((entered.2 L).trans (if_pos listed)) :)

end

section
variable {s : State} {p : Nat} {im : Image} {j : Job} (image : (s.part p).image = some im) (job : (s.part p).job = some j)
  (loading : j.state = .loading) (unloaded : j.loaded = false) (filled : ∀ b ∈ im.backed, b.filled = true) (clean : s.Clean)
  (serving : s.Serving j)
include image job loading unloaded filled clean serving

theorem jobLoadDone_runs (admitted : j.req.body.group = true → (s.group j.req.body.groupId).admitted = true) :
    ∃ k, s.StandsLoaded p j im.codeWord (jobLoadDone p s) k ∧ (j.leaseDue = false → k.state = .running) ∧
      (j.leaseDue = true → k.state = .holding ∧ k.holdLease = true) := by
  obtain ⟨u, entered, steps⟩ := jobLoadDone_steps image job loading unloaded filled clean serving
  obtain ⟨job', serving', -, -, -, entries, others⟩ := entered.loadedJob job serving
  obtain ⟨⟨k, kjob, ktd, kshadow, runs, holds⟩, same, outside⟩ := State.runLoaded_runs job' serving'
  have goes : ¬(j.req.body.group && !(s.group j.req.body.groupId).admitted) = true := fun waits => by
    obtain ⟨grouped, refused⟩ := Bool.and_eq_true_iff.1 waits
    rw [admitted grouped] at refused
    cases refused
  rw [steps, if_neg goes]
  exact ⟨k, ⟨kjob, ktd, kshadow, fun L listed => (same L).trans (entries L listed),
    fun free L out => (outside free L out).trans (others free L out)⟩, runs, holds⟩

theorem jobLoadDone_waits (grouped : j.req.body.group = true) (refused : (s.group j.req.body.groupId).admitted = false) :
    ∃ k, s.StandsLoaded p j im.codeWord (jobLoadDone p s) k ∧ k.state = .loading ∧ k.loaded = true := by
  obtain ⟨u, entered, steps⟩ := jobLoadDone_steps image job loading unloaded filled clean serving
  obtain ⟨-, -, stands⟩ := entered.loadedJob job serving
  have waits : (j.req.body.group && !(s.group j.req.body.groupId).admitted) = true := by
    rw [grouped, refused]
    rfl
  rw [steps, if_pos waits]
  exact ⟨_, stands, loading, rfl⟩

end

/-! ### The obligation -/

section
variable {s : State} {p : Nat} {j : Job} (job : (s.part p).job = some j)
include job

/-- A turn that lacks a rank stays. -/
theorem turnCommit_stays (lacks : s.allDurable j = false) : turnCommit p s = s := by
  unfold turnCommit
  rw [job]
  refine if_neg fun ⟨_, durable, _⟩ => ?_
  rw [lacks] at durable
  cases durable

theorem turnCommit_commits (running : j.state = .running) (durable : s.allDurable j = true) (up : s.sched.restarting = false)
    (compared : j.req.body.doubles = true → j.compared = true) (go : j.req.body.group = true → j.go.isSome = true)
    (combined : s.combineWaits p j.td = false) : turnCommit p s = (s.commitTurn p).releaseHeld := by
  unfold turnCommit
  rw [job]
  refine if_pos ⟨running, durable, up, ?_, ?_, combined⟩
  · cases doubles : j.req.body.doubles with
    | false => exact .inl rfl
    | true => exact .inr (compared doubles)
  · cases group : j.req.body.group with
    | false => exact .inl rfl
    | true => exact .inr (go group)

/-- A committed turn: the job's counts and shadow, and whether it completes or runs on. -/
theorem State.commitTurn_commits (running : j.state = .running) (last : j.td + 1 = j.turns → (s.part p).queue = []) :
    ((s.commitTurn p).part p).Turned (j.td + 1) (j.ts + 1) (j.pendingShadow.map Prod.fst) (s.part p).queue ∧
    (j.req.body.group = false → j.td + 1 = j.turns → ∃ k, ((s.commitTurn p).part p).job = some k ∧ k.state = .completed) ∧
    (j.req.body.group = false → j.td + 1 ≠ j.turns → j.leaseDue = false → j.lost = false → s.host.rollTests = [] → s.Serving j →
      ∃ k, ((s.commitTurn p).part p).job = some k ∧ k.state = .running) := by
  obtain ⟨u, st, committed, single, clusters, tests, turned, k, kjob, kstate, kcores⟩ := State.commitTurn_steps job
  rw [committed]
  refine ⟨u.afterCommit_turned st last turned, fun alone ends => ?_, fun alone more lease whole none' serving => ?_⟩
  · obtain rfl := single alone
    unfold State.afterCommit
    rw [if_neg (not_not.2 rfl), if_pos ends]
    rw [last ends] at turned
    exact (u.completeJob_turned turned).2
  · obtain rfl := single alone
    exact State.afterCommit_runs more lease whole (tests.trans none') (serving.of_same clusters tests rfl) kjob kcores (kstate.trans running)

end

/-- Settles O27: a turn commits through the release of its state and goes on as the last turn, a hold or the next turn; a loaded job's ranks
stand on their cores once every master has been read, and the job starts. -/
theorem jobsLoadAndCommit : Obligations.JobsLoadAndCommit := by
  unfold Obligations.JobsLoadAndCommit
  refine ⟨fun s p j job => ⟨fun lacks => congrArg Host.Outcome.next (turnCommit_stays job lacks),
    fun running durable up compared go combined => ?_⟩, fun s p im j image job loading => ⟨fun region b listed => ?_,
    fun up unloaded filled noErr answer serving => ?_⟩⟩
  · refine ⟨s.commitTurn p.val, congrArg Host.Outcome.next (turnCommit_commits job running durable up compared go combined), fun last => ?_⟩
    obtain ⟨⟨data, stream, -, k, kjob, ktd, kts, pending, shadow⟩, completes, runs⟩ := State.commitTurn_commits job running last
    have one : ∀ {st : JobState}, (∃ k', ((s.commitTurn p.val).part p.val).job = some k' ∧ k'.state = st) → k.state = st := fun ⟨k', job', state⟩ => by
      rw [kjob] at job'
      exact Option.some.inj job' ▸ state
    exact ⟨k, kjob, ktd, kts, pending, shadow, data, stream, fun alone ends => one (completes alone ends),
      fun alone more lease whole none' serving => one (runs alone more lease whole none' serving)⟩
  · exact fun readable reads writes => ⟨_, rfl, backedFillDone_fills image job loading listed readable reads writes⟩
  · have exec' : exec (.jobLoadDone p) s = .next (jobLoadDone p.val s) := by
      refine congrArg Host.Outcome.next ?_
      unfold State.scheduled
      rw [up]
      rfl
    exact ⟨fun admitted => ⟨_, exec', jobLoadDone_runs image job loading unloaded filled ⟨noErr, answer⟩ serving admitted⟩,
      fun grouped refused => ⟨_, exec', jobLoadDone_waits image job loading unloaded filled ⟨noErr, answer⟩ serving grouped refused⟩⟩

end Sys2Proof.Machine

/-! SUPPORT. What leaves the block (09 R238, R243 to R245, R260, 10 R291): what a packet, a notice and a journal entry leave of the strait
engines and of what has left before. -/

namespace Sys2Proof.Machine

/-! ### What leaves adds to what has left (09 R238, R243 to R245) -/

/-- An engine without what its traffic changes: the flits that it keeps, its counters, and the packets that a pause holds. -/
def Engine.wired (x : Engine) : Engine := { x with next := 0, store := [], bulk := 0, assured := 0, waiting := [] }

/-- What has left the block in `s` has left it in `t`, and the engines differ by their traffic alone. -/
def State.Told (s t : State) : Prop := s.out <+: t.out ∧ ∀ e, (t.engine e).wired = (s.engine e).wired

section
variable {s t u : State}

theorem State.Told.refl (s : State) : s.Told s := ⟨List.prefix_refl _, fun _ => rfl⟩

theorem State.Told.trans (h : s.Told t) (k : t.Told u) : s.Told u := ⟨h.1.trans k.1, fun e => (k.2 e).trans (h.2 e)⟩

theorem State.Told.foldl {β : Type} {f : State → β → State} (hf : ∀ (t : State) x, t.Told (f t x)) (l : List β) (s : State) :
    s.Told (l.foldl f s) := foldl_related State.Told.refl State.Told.trans (fun x _ t => hf t x) s

theorem State.Told.ite {b : Prop} [Decidable b] (h : s.Told t) (k : s.Told u) : s.Told (if b then t else u) := by
  split
  · exact h
  · exact k

theorem State.Told.of_same (out : t.out = s.out) (engines : t.arch.engines = s.arch.engines) : s.Told t :=
  ⟨by rw [out], fun e => by rw [State.engine, engines, State.engine]⟩

theorem State.Told.mem (h : s.Told t) {o : Output} (left : o ∈ s.out) : o ∈ t.out := h.1.subset left

theorem State.emit_told (s : State) (o : Output) : s.Told (s.emit o) := ⟨List.prefix_append _ _, fun _ => rfl⟩

theorem State.mem_out_emit (s : State) (o : Output) : o ∈ (s.emit o).out := List.mem_append_right _ (List.mem_singleton.2 rfl)

theorem State.engine_modEngine_other {e k : Nat} (f : Engine → Engine) (other : k ≠ e) : (s.modEngine e f).engine k = s.engine k :=
  SMap.getD_put_other _ _ _ other

theorem State.modEngine_told (s : State) (e : Nat) {f : Engine → Engine} (traffic : ∀ x, (f x).wired = x.wired) : s.Told (s.modEngine e f) := by
  refine ⟨List.prefix_refl _, fun k => ?_⟩
  by_cases same : k = e
  · rw [same, State.engine_modEngine, traffic]
  · rw [State.engine_modEngine_other f same]

end

/-- `t` is `s` after something has left on the strait or crossed the mesh: links, counters and engines, and what leaves the block. -/
structure State.Leaves (s t : State) : Prop where
  frame : t = { s with
    mesh := t.mesh, links := t.links, out := t.out, freeCtr := t.freeCtr, arch := { s.arch with engines := t.arch.engines } }
  told : s.Told t

section
variable {s t u : State}

theorem State.Leaves.refl (s : State) : s.Leaves s := ⟨rfl, .refl s⟩

theorem State.Leaves.trans (h : s.Leaves t) (k : t.Leaves u) : s.Leaves u :=
  ⟨by rw [k.frame, h.frame], h.told.trans k.told⟩

theorem State.Leaves.notifies (h : s.Leaves t) : s.Notifies t := by
  unfold State.Notifies
  rw [h.frame]

theorem State.Leaves.sent (h : s.Leaves t) : t.arch.sent = s.arch.sent := by rw [h.frame]
theorem State.Leaves.collectives (h : s.Leaves t) : t.arch.collectives = s.arch.collectives := by rw [h.frame]
theorem State.Leaves.journal (h : s.Leaves t) : t.journal = s.journal := by rw [h.frame]

end

section
variable (s : State)

theorem State.bulkHalf_out (src dst : Nat) : (s.bulkHalf src dst).1.out = s.out := by
  unfold State.bulkHalf
  split
  · rfl
  · dsimp only
    split
    · rfl
    · split <;> rfl

theorem State.countWay_out (assured : Bool) (n : Nat) (way : List (Nat × Nat × Bool × Nat)) : (s.countWay assured n way).out = s.out := by
  refine foldl_keeps State.out (fun _ _ => ?_) way s
  rfl

/-- Traffic over the mesh is counted at its ports, and nothing leaves the block. -/
theorem State.traffic_out (assured : Bool) (src dst bytes : Nat) : (s.traffic assured src dst bytes).out = s.out := by
  unfold State.traffic
  dsimp only
  split
  · rfl
  · split
    · rw [State.countWay_out, State.countWay_out]
    · rw [State.countWay_out, State.bulkHalf_out]

theorem State.traffic_leaves (assured : Bool) (src dst bytes : Nat) : s.Leaves (s.traffic assured src dst bytes) := by
  have onMesh : s.OnMesh (s.traffic assured src dst bytes) := (State.OnMesh.refl s).traffic _ _ _ _
  refine ⟨?_, .of_same (s.traffic_out _ _ _ _) (by rw [onMesh])⟩
  unfold State.OnMesh at onMesh
  rw [onMesh]

theorem State.sendFlits_leaves (e : Nat) (p : StraitPkt) : s.Leaves (s.sendFlits e p) := by
  refine ⟨rfl, (s.modEngine_told e fun x => ?_).trans (State.emit_told _ _)⟩
  dsimp only
  split <;> rfl

theorem State.leaveEngine_leaves (src e : Nat) (p : StraitPkt) : s.Leaves (s.leaveEngine src e p) := by
  have crossed := s.traffic_leaves (StraitPkt.assuredClass p) src (engineNode e) (32 + p.data.length)
  unfold State.leaveEngine
  dsimp only
  split
  · exact crossed.trans (State.sendFlits_leaves _ _ _)
  · exact crossed.trans ⟨rfl, State.modEngine_told _ _ fun _ => rfl⟩

theorem State.leaveAny_leaves (src : Nat) (es : List Nat) (p : StraitPkt) : s.Leaves (s.leaveAny src es p) := by
  unfold State.leaveAny
  split
  · exact .refl s
  · exact s.leaveEngine_leaves _ _ _
  · exact State.Leaves.trans (t := s.fresh.2) ⟨rfl, .of_same rfl rfl⟩ (State.leaveEngine_leaves _ _ _ _)

theorem State.leaveStrait_leaves (src : Nat) (p : StraitPkt) : s.Leaves (s.leaveStrait src p) := by
  unfold State.leaveStrait
  dsimp only
  split
  · exact (s.leaveAny_leaves _ _ _).trans (State.leaveAny_leaves _ _ _ _)
  · exact s.leaveAny_leaves _ _ _

theorem State.straitAnswer_leaves (src : Nat) (p : StraitPkt) (typ : Nat) (st : W16) : s.Leaves (s.straitAnswer src p typ st) :=
  s.leaveStrait_leaves _ _

/-- A packet that takes a SEQ is listed, and then leaves. -/
theorem State.sendStrait_listed (src typ : Nat) (assured : Bool) (dest : Nat) (group : W32) (turn addr : Nat) (st : W16) (data : List Byte) :
    ∃ seqs p, ({ s with arch := { s.arch with seqs := seqs, sent := s.arch.sent ++ [(src, p)] } } : State).Leaves
        (s.sendStrait src typ assured dest group turn addr st data) ∧
      p.typ = BitVec.ofNat 8 typ ∧ p.destSeat = BitVec.ofNat 8 dest ∧ p.addr = BitVec.ofNat 64 addr ∧ p.data = data :=
  ⟨_, _, State.leaveStrait_leaves _ _ _, rfl, rfl, rfl, rfl⟩

theorem State.sendStrait_told (src typ : Nat) (assured : Bool) (dest : Nat) (group : W32) (turn addr : Nat) (st : W16) (data : List Byte) :
    s.Told (s.sendStrait src typ assured dest group turn addr st data) := by
  obtain ⟨_, _, left, -⟩ := s.sendStrait_listed src typ assured dest group turn addr st data
  exact (State.Told.of_same rfl rfl).trans left.told

theorem State.sendMember_told (seat : Nat) (n : MemberNote) : s.Told (s.sendMember seat n) :=
  (s.sendStrait_told _ _ _ _ _ _ _ _ _).trans (State.emit_told _ _)

theorem State.sendCommit_told (seat : Nat) (g : W32) (n : CommitNote) : s.Told (s.sendCommit seat g n) :=
  (s.sendStrait_told _ _ _ _ _ _ _ _ _).trans (State.emit_told _ _)

/-! ### Journal entries (09 R260, 10 R291 to R297) -/

theorem State.mirrorOut_told (e : JEntry) : s.Told (s.mirrorOut e) := by
  unfold State.mirrorOut
  split
  · exact .refl s
  · exact (s.sendStrait_told _ _ _ _ _ _ _ _ _).trans (.of_same rfl rfl)

theorem State.countTx_told (sid : W64) (bytes : Nat) : s.Told (s.countTx sid bytes) := by
  unfold State.countTx
  split
  · exact .refl s
  · exact .ite (.of_same rfl rfl) (.of_same rfl rfl)

theorem State.journalPut_told (e : JEntry) : s.Told (s.journalPut e) := by
  have entered : ∀ (j : Journal) (b : Bool) (e : JEntry),
      s.Told (if b then ({ s with journal := j } : State).mirrorOut e else { s with journal := j }) := fun j b e =>
    .ite (State.Told.trans (t := { s with journal := j }) (.of_same rfl rfl) (State.mirrorOut_told _ e)) (.of_same rfl rfl)
  unfold State.journalPut
  dsimp only
  exact .ite (((entered _ _ _).trans (State.emit_told _ _)).trans (State.countTx_told _ _ _)) (entered _ _ _)

theorem State.journalWrite_told (kind : Nat) (code : W16) (turn : Nat) (who : Concern) (detail : List Byte) :
    s.Told (s.journalWrite kind code turn who detail) := by
  unfold State.journalWrite
  exact .ite (s.journalPut_told _) (.of_same rfl rfl)

theorem State.event_told (code : W16) (p : Option Nat) (detail : List Byte) : s.Told (s.event code p detail) :=
  State.Told.trans (t := s.countEvent code) (.of_same rfl rfl) (State.journalWrite_told _ _ _ _ _ _)

end
end Sys2Proof.Machine

/-! SUPPORT. Strait links (09 R236 to R242, R247, R252): the lanes and the training of an engine, and the obligation of links and lanes. -/

namespace Sys2Proof.Machine

/-! ### Flits and lanes (09 R237 to R239, R252) -/

theorem State.laneEvent_told (s : State) (e lane outcome : Nat) : s.Told (s.laneEvent e lane outcome) := s.event_told _ _ _

theorem State.laneEvent_sameData (s : State) (e lane outcome : Nat) : s.SameData (s.laneEvent e lane outcome) := s.event_sameData _ _ _

theorem State.modEngine_sameData (s : State) (e : Nat) (f : Engine → Engine) : s.SameData (s.modEngine e f) := ⟨rfl, rfl⟩

theorem State.engine_emit (s : State) (o : Output) (e : Nat) : (s.emit o).engine e = s.engine e := rfl

theorem State.logRequest_engine (s : State) (u : W64) (source : Byte) (ev : W16) (e : Nat) : (s.logRequest u source ev).engine e = s.engine e := by
  rw [State.logRequest_onLog]
  rfl

section
variable {s : State} {e lane : Nat}

theorem flitCrcError_reports {f : Flit} (serves : (s.engine e).state = 2) (inOrder : (s.engine e).missing = none)
    (bad : Flit.bad f (s.engine e).expect = true) : flitCrcError e f s =
      (s.modEngine e fun y => { y with retries := y.retries + 1, missing := some (s.engine e).expect }).emit
        (.linkReplay (unitCode 0x0B e 0 0 ||| ((s.engine e).expect.zeroExtend 64 <<< 32))) := by
  unfold flitCrcError
  dsimp only
  rw [if_pos ⟨serves, inOrder, bad⟩]
  rfl

theorem flitCrcError_discards {f : Flit} (waits : (s.engine e).missing ≠ none) : flitCrcError e f s = s :=
  if_neg fun h => waits h.2.1

theorem laneFailure_pauses (serves : (s.engine e).state = 2) (used : (s.engine e).laneUse.getLsbD lane = true)
    (fresh : lane ∉ (s.engine e).paused) : laneFailure e lane s = s.modEngine e fun y => { y with
      paused := y.paused ++ [lane], good := y.good &&& ~~~(BitVec.ofNat 9 (2 ^ lane)) } :=
  if_pos ⟨serves, used, by simpa using fresh⟩

/-- A lane that fails changes its own engine, and the journal and the field defect log. -/
theorem State.laneOut_sameData (s : State) (e lane : Nat) : s.SameData (s.laneOut e lane) := by
  have logged := s.logRequest_sameData (unitCode 0x0A e lane 0) 4 evLaneSpared
  unfold State.laneOut
  dsimp only
  split
  · exact logged
  · split
    · exact (logged.trans (State.modEngine_sameData _ e _)).trans (State.laneEvent_sameData _ _ _ _)
    · have narrowed := logged.trans (State.modEngine_sameData _ e fun y =>
        { y with laneUse := (s.engine e).laneUse &&& ~~~(BitVec.ofNat 9 (2 ^ lane)) })
      split
      · exact narrowed.trans (State.laneEvent_sameData _ _ _ _)
      · exact (narrowed.trans (State.modEngine_sameData _ e _)).trans (State.laneEvent_sameData _ _ _ _)

theorem lanePauseEnd_sameData (s : State) (e : Nat) : s.SameData (lanePauseEnd e s) := by
  have ended : s.SameData ((s.engine e).paused.foldl (fun t lane => t.laneOut e lane) s) :=
    State.SameData.foldl (fun (t : State) lane => t.laneOut_sameData e lane) _ s
  exact (ended.trans (State.modEngine_sameData _ e _)).trans
    (State.SameData.foldl (fun t p => (t.sendFlits_notifies e p).sameData) _ _)

/-- The pause ends with what the failed lanes left of the engine; the held flits go out, and none is held any more. -/
theorem lanePauseEnd_engine (s : State) (e : Nat) :
    ((lanePauseEnd e s).engine e).waiting = [] ∧ ((lanePauseEnd e s).engine e).wired =
      { ((s.engine e).paused.foldl (fun (t : State) lane => t.laneOut e lane) s).engine e with paused := [] }.wired := by
  unfold lanePauseEnd
  dsimp only
  refine ⟨(foldl_keeps (fun t : State => (t.engine e).waiting) (fun t p => ?_) _ _).trans ?_, ?_⟩
  · unfold State.sendFlits
    dsimp only
    rw [State.engine_emit, State.engine_modEngine]
    split <;> rfl
  · rw [State.engine_modEngine]
  · refine ((State.Told.foldl (fun t p => (t.sendFlits_leaves e p).told) _ _).2 e).trans ?_
    rw [State.engine_modEngine]
    rfl

section
variable (serves : (s.engine e).state = 2)
include serves

/-- The spare lane takes the place of the failed one. -/
theorem State.laneOut_spares {l : Nat} (full : (s.engine e).width = 8)
    (spare : ((List.range 9).find? fun l => !(s.engine e).laneUse.getLsbD l && (s.engine e).good.getLsbD l) = some l) :
    ((s.laneOut e lane).engine e).wired = { s.engine e with
      laneUse := (s.engine e).laneUse &&& ~~~(BitVec.ofNat 9 (2 ^ lane)) ||| BitVec.ofNat 9 (2 ^ l) }.wired := by
  unfold State.laneOut
  dsimp only
  rw [if_neg (not_not.2 serves), if_pos full, spare]
  dsimp only
  rw [(State.laneEvent_told _ _ _ _).2, State.engine_modEngine, State.logRequest_engine]

/-- Without a spare lane the engine narrows, down to four lanes. -/
theorem State.laneOut_narrows (none' : (s.engine e).width ≠ 8 ∨
    ((List.range 9).find? fun l => !(s.engine e).laneUse.getLsbD l && (s.engine e).good.getLsbD l) = none) :
    ((s.laneOut e lane).engine e).wired =
      if 4 ≤ ({ s.engine e with laneUse := (s.engine e).laneUse &&& ~~~(BitVec.ofNat 9 (2 ^ lane)) } : Engine).width
      then { s.engine e with laneUse := (s.engine e).laneUse &&& ~~~(BitVec.ofNat 9 (2 ^ lane)) }.wired
      else { s.engine e with state := 3, laneUse := 0 }.wired := by
  have unspared : (if (s.engine e).width = 8 then
      (List.range 9).find? fun l => !(s.engine e).laneUse.getLsbD l && (s.engine e).good.getLsbD l else none) = none := by
    split
    next full => exact none'.resolve_left (not_not.2 full)
    · rfl
  unfold State.laneOut
  dsimp only
  rw [if_neg (not_not.2 serves), unspared]
  dsimp only
  rw [State.engine_modEngine, State.logRequest_engine]
  split
  next wide => rw [(State.laneEvent_told _ _ _ _).2, State.engine_modEngine, State.logRequest_engine]
  next narrow =>
    rw [(State.laneEvent_told _ _ _ _).2, State.engine_modEngine, State.engine_modEngine, State.logRequest_engine]
    rfl

end
end


/-! ### Training (09 R241, R242, R247, R250) -/

/-- An engine that has found its far end, before it enters service (09 R247). -/
def State.faces (s : State) (e peerSeat peerEngine trunk : Nat) : State := s.modEngine e fun x => { x with
  peerSeat := peerSeat, peerEngine := peerEngine, trunk := trunk, good := s.lanesLogged e, paused := [], waiting := []
  next := 0, expect := 0, missing := none, store := [] }

/-- The lanes with which an engine enters service, or stays out of it (09 R236, R239). -/
def Engine.onLanes (x : Engine) : Engine :=
  if 4 ≤ ({ x with laneUse := firstEight x.good } : Engine).width then { x with state := 2, laneUse := firstEight x.good }
  else { x with state := 3, laneUse := 0 }

theorem State.useLanes_engine (s : State) (e : Nat) : (s.useLanes e).engine e = (s.engine e).onLanes := s.engine_modEngine e _

theorem State.useLanes_other (s : State) {e k : Nat} (other : k ≠ e) : (s.useLanes e).engine k = s.engine k :=
  State.engine_modEngine_other _ other

/-- The seats that this module has told that it joins. -/
def State.withAnnounced (s : State) (m : W64) : State := { s with arch := { s.arch with announced := m } }

theorem State.withAnnounced_told (s : State) (m : W64) : s.Told (s.withAnnounced m) := .of_same rfl rfl

theorem State.announce_told (s : State) : s.Told s.announce :=
  State.Told.foldl (fun t k => (t.withAnnounced_told (t.arch.announced ||| seatBit k)).trans (State.sendMember_told _ _ _)) _ s

theorem State.announce_sameData (s : State) : s.SameData s.announce := by
  refine State.SameData.foldl (fun t k => ?_) _ s
  have sent := (State.sendMember_notifies (t.withAnnounced (t.arch.announced ||| seatBit k)) k (.join (Fin.ofNat 64 s.arch.seat))).sameData
  exact sent

section
variable {s : State} {e a b trunk ps pe : Nat} {serial : BitVec 128} {signed : Bool}
  (cabled : s.arch.trunkOf e = some (trunk, ps, pe)) (down : (s.engine e).state ≠ 2)
include cabled down

/-- Another far end than the trunk's: the engine is miscabled. -/
theorem engineLinkUp_miscabled (wrong : ps ≠ a ∨ pe ≠ b) : engineLinkUp e a b serial signed s =
    ((s.faces e a b trunk).modEngine e fun x => { x with state := 3, laneUse := 0 }).laneEvent e 0 3 := by
  unfold engineLinkUp
  rw [cabled]
  dsimp only
  rw [if_neg down, if_pos wrong]
  rfl

/-- The whole trunk of a peer that fails the check of its identity stays out. -/
theorem engineLinkUp_unknown (seat : ps = a) (engine : pe = b) (unknown : ¬ (signed = true ∧ s.knownPeer a serial = true)) :
    engineLinkUp e a b serial signed s =
      ((List.range 24).filter fun k => (s.arch.trunkOf k).map Prod.fst == some trunk).foldl (fun t k =>
        t.modEngine k fun x => { x with state := 3, laneUse := 0, paused := [], waiting := [] }) (s.faces e a b trunk) := by
  have refused : (!signed || !s.knownPeer a serial) = true := by
    cases signed <;> simp_all
  unfold engineLinkUp
  rw [cabled]
  dsimp only
  rw [if_neg down, if_neg (by simp [seat, engine]), if_pos refused]
  rfl

/-- A known peer: the engine takes its lanes, and a module that joins or was isolated may announce itself. -/
theorem engineLinkUp_known (seat : ps = a) (engine : pe = b) (known : signed = true ∧ s.knownPeer a serial = true) :
    ∃ u, (u = (s.faces e a b trunk).useLanes e ∨ (s.arch.state = 1 ∨ s.arch.state = 3) ∧ ((s.faces e a b trunk).useLanes e).Told u) ∧
      s.SameData u ∧ engineLinkUp e a b serial signed s = u := by
  let s2 := (s.faces e a b trunk).useLanes e
  have trained : s.SameData s2 := ⟨rfl, rfl⟩
  unfold engineLinkUp
  rw [cabled]
  dsimp only
  rw [if_neg down, if_neg (by simp [seat, engine]), if_neg (by simp [known])]
  show ∃ u, _ ∧ _ ∧ (if (s2.engine e).state ≠ 2 then s2 else
    if s.arch.state = 3 then (s2.withAnnounced 0).announce
    else if s.arch.state = 1 then s2.announce else s2) = u
  split
  · exact ⟨_, .inl rfl, trained, rfl⟩
  · split
    next isolated =>
      refine ⟨_, .inr ⟨.inr isolated, ?_⟩, ?_, rfl⟩
      · exact (s2.withAnnounced_told 0).trans (State.announce_told _)
      · exact trained.trans (s2.withAnnounced 0).announce_sameData
    · split
      next joins => exact ⟨_, .inr ⟨.inl joins, s2.announce_told⟩, trained.trans s2.announce_sameData, rfl⟩
      · exact ⟨_, .inl rfl, trained, rfl⟩

end


/-! ### The obligation -/

section
variable {s : State} {e : Nat}

/-- What the end of a pause leaves of an engine in service whose one lane has failed. -/
theorem lanePauseEnd_lane {lane : Nat} (serves : (s.engine e).state = 2) (failed : (s.engine e).paused = [lane]) :
    let left := (s.engine e).laneUse &&& ~~~(BitVec.ofNat 9 (2 ^ lane))
    let spare := (List.range 9).find? fun l => !(s.engine e).laneUse.getLsbD l && (s.engine e).good.getLsbD l
    let y := (lanePauseEnd e s).engine e
    (∀ l, (s.engine e).width = 8 → spare = some l → y.laneUse = left ||| BitVec.ofNat 9 (2 ^ l) ∧ y.state = 2) ∧
    ((s.engine e).width ≠ 8 ∨ spare = none →
      (4 ≤ ({ s.engine e with laneUse := left } : Engine).width → y.laneUse = left ∧ y.state = 2) ∧
      (({ s.engine e with laneUse := left } : Engine).width < 4 → y.laneUse = 0 ∧ y.state = 3)) := by
  obtain ⟨-, ended⟩ := lanePauseEnd_engine s e
  rw [failed, List.foldl_cons, List.foldl_nil] at ended
  have use : ((lanePauseEnd e s).engine e).laneUse = ((s.laneOut e lane).engine e).wired.laneUse := (congrArg Engine.laneUse ended :)
  have state : ((lanePauseEnd e s).engine e).state = ((s.laneOut e lane).engine e).wired.state := (congrArg Engine.state ended :)
  dsimp only
  rw [use, state]
  refine ⟨fun l full spare => ?_, fun none' => ⟨fun wide => ?_, fun narrow => ?_⟩⟩
  · rw [State.laneOut_spares serves full spare]
    exact ⟨rfl, serves⟩
  · rw [State.laneOut_narrows serves none', if_pos wide]
    exact ⟨rfl, serves⟩
  · rw [State.laneOut_narrows serves none', if_neg (Nat.not_le.2 narrow)]
    exact ⟨rfl, rfl⟩

theorem Engine.width_of_laneUse {x y : Engine} (same : x.laneUse = y.laneUse) : x.width = y.width := by
  unfold Engine.width
  rw [same]

/-- Whether an engine enters service turns on its good lanes alone. -/
theorem Engine.onLanes_of_good {x : Engine} {good : BitVec 9} (found : x.good = good) (y : Engine) :
    x.onLanes = if 4 ≤ ({ y with laneUse := firstEight good } : Engine).width then { x with state := 2, laneUse := firstEight good }
      else { x with state := 3, laneUse := 0 } := by
  subst found
  unfold Engine.onLanes
  rw [Engine.width_of_laneUse (x := { x with laneUse := firstEight x.good }) (y := { y with laneUse := firstEight x.good }) rfl]

/-- What an engine has found of its far end and its lanes. -/
theorem State.faces_found (s : State) (e a b trunk : Nat) :
    let x := (s.faces e a b trunk).engine e
    x.good = s.lanesLogged e ∧ x.trunk = trunk ∧ x.peerSeat = a ∧ x.peerEngine = b := by
  dsimp only
  unfold State.faces
  rw [State.engine_modEngine]
  exact ⟨rfl, rfl, rfl, rfl⟩

/-- Every engine of a list is out of service once each has left it. -/
theorem State.foldl_engines_out {l : List Nat} {k : Nat} (listed : k ∈ l) (s : State) :
    let t := l.foldl (fun t k => t.modEngine k fun x => { x with state := 3, laneUse := 0, paused := [], waiting := [] }) s
    (t.engine k).state = 3 ∧ (t.engine k).laneUse = 0 := by
  refine foldl_establishes (P := fun t : State => (t.engine k).state = 3 ∧ (t.engine k).laneUse = 0) listed (fun t => ?_)
    (fun m _ other t stands => ?_) s
  · rw [State.engine_modEngine]
    exact ⟨rfl, rfl⟩
  · rw [State.engine_modEngine_other _ (Ne.symm other)]
    exact stands

variable {a b trunk ps pe : Nat} {serial : BitVec 128} {signed : Bool}
  (cabled : s.arch.trunkOf e = some (trunk, ps, pe)) (down : (s.engine e).state ≠ 2)
include cabled down

theorem engineLinkUp_known_engine (seat : ps = a) (engine : pe = b) (known : signed = true ∧ s.knownPeer a serial = true) :
    let u := engineLinkUp e a b serial signed s
    s.SameData u ∧ (u.engine e).wired = ((s.faces e a b trunk).engine e).onLanes.wired ∧
      (s.arch.state ≠ 1 → s.arch.state ≠ 3 → ∀ i, i ≠ e → u.engine i = s.engine i) := by
  obtain ⟨u, cases, same, eq⟩ := engineLinkUp_known cabled down seat engine known
  dsimp only
  rw [eq]
  refine ⟨same, ?_, fun not1 not3 i other => ?_⟩
  · rcases cases with rfl | ⟨-, told⟩
    · rw [State.useLanes_engine]
    · rw [told.2, State.useLanes_engine]
  · rcases cases with rfl | ⟨joins, -⟩
    · rw [State.useLanes_other _ other]
      exact State.engine_modEngine_other _ other
    · exact absurd joins (by simp [not1, not3])

end

/-- Settles O36: flits and lanes by what each command sets in its engine, the pause by what its one failed lane leaves, and training by the
check that stops it, or by the lanes of the engine that it brings up. -/
theorem straitLinksAndLanes : Obligations.StraitLinksAndLanes := by
  unfold Obligations.StraitLinksAndLanes
  intro s e
  refine ⟨fun serves => ⟨fun f inOrder bad => ?_, fun f waits => ?_, fun missing => ?_, fun tenths => ?_, fun lane used fresh => ?_⟩,
    ⟨_, rfl, lanePauseEnd_sameData s e.val, ?_, (lanePauseEnd_engine s e.val).1, fun lane serves failed => lanePauseEnd_lane serves failed⟩,
    fun peerSeat peerEngine serial signed trunk ps pe cabled down => ⟨fun seat engine known => ?_, fun seat engine unknown => ?_, fun wrong => ?_⟩⟩
  · exact congrArg Host.Outcome.next (flitCrcError_reports serves inOrder bad)
  · exact congrArg Host.Outcome.next (flitCrcError_discards waits)
  · exact congrArg Host.Outcome.next (if_pos serves)
  · exact congrArg Host.Outcome.next (if_pos serves)
  · exact congrArg Host.Outcome.next (laneFailure_pauses serves used fresh)
  · exact (congrArg Engine.paused (lanePauseEnd_engine s e.val).2 :)
  · obtain ⟨same, entered, others⟩ := engineLinkUp_known_engine cabled down seat engine known
    obtain ⟨good, ofTrunk, peer, far⟩ := s.faces_found e.val peerSeat.val peerEngine.val trunk
    rw [Engine.onLanes_of_good good (s.engine e.val)] at entered
    refine ⟨fun wide => ⟨_, rfl, same, ?_⟩, fun narrow => ⟨_, rfl, same, ?_⟩⟩
    · rw [if_pos wide] at entered
      exact ⟨(congrArg Engine.state entered :), (congrArg Engine.laneUse entered :), (congrArg Engine.good entered :).trans good,
        (congrArg Engine.trunk entered :).trans ofTrunk, ((congrArg Engine.peerSeat entered :).trans peer).trans seat.symm,
        ((congrArg Engine.peerEngine entered :).trans far).trans engine.symm, others⟩
    · rw [if_neg narrow] at entered
      exact ⟨(congrArg Engine.state entered :), (congrArg Engine.laneUse entered :)⟩
  · refine ⟨_, congrArg Host.Outcome.next (engineLinkUp_unknown cabled down seat engine unknown), ?_, fun k inside ofTrunk => ?_⟩
    · exact State.SameData.trans (t := s.faces e.val peerSeat.val peerEngine.val trunk) ⟨rfl, rfl⟩
        (State.SameData.foldl (fun t k => t.modEngine_sameData k _) _ _)
    · exact State.foldl_engines_out (List.mem_filter.2 ⟨List.mem_range.2 inside, by rw [ofTrunk]; exact beq_self_eq_true _⟩) _
  · refine ⟨_, congrArg Host.Outcome.next (engineLinkUp_miscabled cabled down wrong), ?_, ?_⟩
    · exact State.SameData.trans (t := (s.faces e.val peerSeat.val peerEngine.val trunk).modEngine e.val _) ⟨rfl, rfl⟩
        (State.laneEvent_sameData _ _ _ _)
    · have out := (State.laneEvent_told ((s.faces e.val peerSeat.val peerEngine.val trunk).modEngine e.val fun x =>
        { x with state := 3, laneUse := 0 }) e.val 0 3).2 e.val
      rw [State.engine_modEngine] at out
      exact ⟨(congrArg Engine.state out :), (congrArg Engine.laneUse out :)⟩

end Sys2Proof.Machine

/-! SUPPORT. Strait packets that reach their seat (09 R243 to R245, R257 to R259, R265), and the obligation of packets and blocks. -/

namespace Sys2Proof.Machine

/-! ### What the arrival of a packet changes -/

/-- `t` is `s` after a packet has reached its endpoint: traffic, and the receive window that has taken it. -/
structure State.Receives (s t : State) : Prop where
  frame : t = { s with
    mesh := t.mesh, links := t.links, out := t.out, freeCtr := t.freeCtr
    arch := { s.arch with engines := t.arch.engines, windows := t.arch.windows } }
  delay : ∀ e, (t.engine e).delay = (s.engine e).delay

section
variable {s t u : State}

theorem State.Receives.trans (h : s.Receives t) (k : t.Receives u) : s.Receives u :=
  ⟨by rw [k.frame, h.frame], fun e => (k.delay e).trans (h.delay e)⟩

theorem State.Leaves.receives (h : s.Leaves t) : s.Receives t :=
  ⟨by rw [h.frame], fun e => (congrArg Engine.delay (h.told.2 e) :)⟩

theorem State.straitArrive_receives (s : State) (e : Nat) (p : StraitPkt) : s.Receives (s.straitArrive e p) := by
  refine ⟨rfl, fun k => ?_⟩
  unfold State.straitArrive
  by_cases same : k = e
  · rw [same, State.engine_modEngine]
  · rw [State.engine_modEngine_other _ same]

theorem State.straitFresh_receives (s : State) (p : StraitPkt) : s.Receives (s.straitFresh p).1 := by
  unfold State.straitFresh
  dsimp only
  split <;> exact ⟨rfl, fun _ => rfl⟩

/-- Traffic over the mesh leaves the window as it is. -/
theorem State.Leaves.straitFresh (h : s.Leaves t) (p : StraitPkt) : (t.straitFresh p).2 = (s.straitFresh p).2 := by
  have windows : t.arch.windows = s.arch.windows := by rw [h.frame]
  unfold State.straitFresh
  dsimp only
  rw [windows]
  split <;> rfl

theorem State.Receives.sameData (h : s.Receives t) : s.SameData t := ⟨by rw [h.frame], by rw [h.frame]⟩
theorem State.Receives.sched (h : s.Receives t) : t.sched = s.sched := by rw [h.frame]
theorem State.Receives.part (h : s.Receives t) (k : Nat) : t.part k = s.part k := State.part_of_sched h.sched k
theorem State.Receives.groupMapOf (h : s.Receives t) (k : Nat) : t.groupMapOf k = s.groupMapOf k := by
  rw [State.groupMapOf, h.part, State.groupMapOf]

theorem State.groupHome_of_sched (same : t.sched = s.sched) (g : W32) : t.groupHome g = s.groupHome g := by
  rw [State.groupHome, same, State.groupHome]

theorem State.groupPart_of_sched (same : t.sched = s.sched) (g : W32) : t.groupPart g = s.groupPart g := by
  rw [State.groupPart, same, State.groupPart]

end

/-! ### A packet by its TYPE and its seat (09 R243) -/

section
variable {s : State} {e : Nat} {p : StraitPkt} {typ : Nat} {act : State → State}
  (up : s.arch.topology ≠ 0) (serves : (s.engine e).state = 2)
include up serves

theorem State.straitPacket_cases : s.straitPacket e p typ act =
    if p.typ.toNat ≠ typ then s.straitArrive e p
    else if p.destSeat.toNat ≠ s.arch.seat then (s.straitArrive e p).forward e p else act (s.straitArrive e p) :=
  if_neg fun h => h.elim up fun down => down serves

theorem State.straitPacket_otherType (other : p.typ.toNat ≠ typ) : s.straitPacket e p typ act = s.straitArrive e p := by
  rw [State.straitPacket_cases up serves, if_pos other]

variable (same : p.typ.toNat = typ)
include same

theorem State.straitPacket_forwards (elsewhere : p.destSeat.toNat ≠ s.arch.seat) :
    s.straitPacket e p typ act = (s.straitArrive e p).forward e p := by
  rw [State.straitPacket_cases up serves, if_neg (not_not.2 same), if_pos elsewhere]

variable (mine : p.destSeat.toNat = s.arch.seat)
include mine

theorem State.straitPacket_acts : s.straitPacket e p typ act = act (s.straitArrive e p) := by
  rw [State.straitPacket_cases up serves, if_neg (not_not.2 same), if_neg (not_not.2 mine)]

/-- A new message is taken once it has crossed the mesh, and acknowledged. -/
theorem State.straitTake_takes (fresh : ((s.straitArrive e p).straitFresh p).2 = true) (f : State → State) :
    ∃ u, s.Receives u ∧ s.straitTake e p typ f = (f u).straitAnswer Attached.firmwarePairs.node p 0x02 stOk := by
  have crossed := (s.straitArrive e p).traffic_leaves (StraitPkt.assuredClass p) (engineNode e) Attached.firmwarePairs.node (32 + p.data.length)
  refine ⟨_, ((s.straitArrive_receives e p).trans crossed.receives).trans (State.straitFresh_receives _ p), ?_⟩
  unfold State.straitTake
  rw [State.straitPacket_acts up serves same mine]
  dsimp only
  rw [if_pos ((crossed.straitFresh p).trans fresh)]

/-! ### Packets of a collective (09 R244, R258, R265) -/

theorem State.collectivePacket_early {take : Nat → State → State} (early : s.tooEarly p.groupId p.turn.toNat = true) :
    s.collectivePacket e p typ take = s.straitArrive e p := by
  unfold State.collectivePacket
  rw [State.straitPacket_acts up serves same mine]
  exact if_pos early

variable (due : s.tooEarly p.groupId p.turn.toNat = false) (fresh : ((s.straitArrive e p).straitFresh p).2 = true)
include due fresh

theorem State.collectivePacket_refused {take : Nat → State → State}
    (refused : s.straitStatusOf p.groupId p.addr.toNat p.data.length ≠ stOk) : ∃ node, s.collectivePacket e p typ take =
      ((s.straitArrive e p).straitFresh p).1.straitAnswer node p 0x09 (s.straitStatusOf p.groupId p.addr.toNat p.data.length) := by
  have status : (s.straitArrive e p).straitStatusOf p.groupId p.addr.toNat p.data.length =
      s.straitStatusOf p.groupId p.addr.toNat p.data.length := rfl
  have due' : (s.straitArrive e p).tooEarly p.groupId p.turn.toNat = false := due
  unfold State.collectivePacket
  rw [State.straitPacket_acts up serves same mine, due', if_neg Bool.false_ne_true]
  dsimp only
  rw [fresh, status, if_neg (by simp), if_neg refused]
  split
  · exact ⟨_, if_neg refused⟩
  · exact ⟨_, rfl⟩

/-- A good packet has its effect in the group's partition, and is acknowledged. -/
theorem State.collectivePacket_taken {k : Nat} {take : Nat → State → State} (home : s.groupHome p.groupId = some k)
    (ok : s.straitStatusOf p.groupId p.addr.toNat p.data.length = stOk) :
    ∃ u node, s.Receives u ∧ s.collectivePacket e p typ take = (take k u).straitAnswer node p 0x02 stOk := by
  have ok' : (s.straitArrive e p).straitStatusOf p.groupId p.addr.toNat p.data.length = stOk := ok
  have due' : (s.straitArrive e p).tooEarly p.groupId p.turn.toNat = false := due
  have taken := (s.straitArrive_receives e p).trans (State.straitFresh_receives _ p)
  unfold State.collectivePacket
  rw [State.straitPacket_acts up serves same mine, due', if_neg Bool.false_ne_true]
  dsimp only
  rw [fresh, ok', if_neg (by simp), State.groupHome_of_sched taken.sched, home]
  dsimp only
  rw [if_pos rfl, if_pos rfl]
  exact ⟨_, _, taken.trans (State.traffic_leaves _ _ _ _ _).receives, rfl⟩

end

/-! ### Blocks that land, wait and go on (09 R257 to R259) -/

theorem State.passOn_notifies (s : State) (k : Nat) (p : StraitPkt) : s.Notifies (s.passOn k p) := by
  unfold State.passOn
  split
  · exact .refl s
  · exact State.Notifies.foldl (fun t d => t.sendStrait_notifies _ _ _ _ _ _ _ _ _) _ s

/-- A block that lands in a partition, after the packet has come and before its acknowledgement. -/
theorem State.Receives.lands {s u v t : State} {a : Nat} {data : List Byte} (received : s.Receives u) (lands : u.Lands a data v) (left : v.Leaves t) :
    s.Lands a data t := (received.sameData.lands lands).sameData left.notifies.sameData

section
variable (s : State) (k : Nat) (c : Collective) (h : Chunk) (b : PartialBlock)

/-- The block is kept until the member's other partial blocks have come. -/
theorem State.takeBlock_waits (waits : ∃ f ∈ s.arch.feeders (s.groupMapOf k) h s.arch.seat, f ≠ b.seat ∧ ∀ y ∈ c.arrived, y.addr = b.addr → y.seat ≠ f) :
    s.takeBlock k c h b = s.setCollective c { c with arrived := c.arrived ++ [b] } := by
  obtain ⟨f, feeds, other, missing⟩ := waits
  unfold State.takeBlock
  dsimp only
  refine if_pos ?_
  rw [Bool.not_eq_true', List.all_eq_false]
  refine ⟨f, feeds, ?_⟩
  rw [List.any_eq_true]
  rintro ⟨y, there, seat⟩
  obtain ⟨listed, addr⟩ := List.mem_filter.1 there
  have seat' : y.seat = f := beq_iff_eq.1 seat
  rcases List.mem_append.1 listed with arrived | last
  · exact missing y arrived (beq_iff_eq.1 addr) seat'
  · rw [List.mem_singleton.1 last] at seat'
    exact other seat'.symm

/-- The member's own block combined with a single partial block. -/
def State.combinedWith : List Byte := combineBlock c.desc.red (s.readBytes ((s.part k).base + b.addr) b.data.length) b.data

/-- The only partial block that a member waits for is combined with its own at once. -/
theorem State.takeBlock_combines (only : s.arch.feeders (s.groupMapOf k) h s.arch.seat = [b.seat]) (first : ∀ y ∈ c.arrived, y.addr ≠ b.addr) :
    ∃ step d, s.takeBlock k c h b = ((s.straitRecord k b.engine b.seat c.turn step).setCollective c d).combined k b.engine c h b.addr
      (s.combinedWith k c b) := by
  have here : (c.arrived ++ [b]).filter (fun x => x.addr == b.addr) = [b] := by
    rw [List.filter_append, List.filter_eq_nil_iff.2 fun y listed => by simpa using first y listed, List.nil_append]
    exact List.filter_eq_self.2 fun y last => by rw [List.mem_singleton.1 last]; exact beq_self_eq_true _
  unfold State.takeBlock
  dsimp only
  rw [only, here]
  have blocks : (if s.arch.topology = 3 then [b] else [b.seat].filterMap fun f => [b].find? fun x => x.seat == f) = [b] := by
    split
    · rfl
    · simp
  rw [blocks, if_neg (by simp)]
  exact ⟨_, _, rfl⟩

/-- The combined block goes on to the next seat. -/
theorem State.combined_goesOn {e addr d : Nat} {data : List Byte} (next : s.arch.onward (s.groupMapOf k) h s.arch.seat = some d) :
    s.Notifies (s.combined k e c h addr data) ∧ ∃ q ∈ (s.combined k e c h addr data).arch.sent,
      q.2.typ = 0x03 ∧ q.2.destSeat = BitVec.ofNat 8 d ∧ q.2.addr = BitVec.ofNat 64 addr ∧ q.2.data = data := by
  unfold State.combined
  dsimp only
  rw [next]
  obtain ⟨seqs, q, left, typ, dest, place, holds⟩ := s.sendStrait_listed (engineNode e) 0x03 false d c.group c.turn addr 0 data
  refine ⟨s.sendStrait_notifies _ _ _ _ _ _ _ _ _, (engineNode e, q), ?_, typ, dest, place, holds⟩
  rw [left.sent]
  exact List.mem_append_right _ (List.mem_singleton.2 rfl)

/-- At the share's owner it lands at its place. -/
theorem State.combined_lands {e addr : Nat} {data : List Byte} (last : s.arch.onward (s.groupMapOf k) h s.arch.seat = none) :
    s.Lands ((s.part k).base + (c.desc.placeOf s.arch.size h + (addr - (c.desc.src + h.off)))) data (s.combined k e c h addr data) := by
  have lands := s.partWriteRow_lands k ((s.part k).base + (c.desc.placeOf s.arch.size h + (addr - (c.desc.src + h.off)))) data
  unfold State.combined
  dsimp only
  rw [last]
  dsimp only
  split
  · exact (lands _).sameData (State.Notifies.foldl (fun t d => t.sendStrait_notifies _ _ _ _ _ _ _ _ _) _ _).sameData
  · exact lands _

end

/-! ### The archipelago's shape after an arrival and a record -/

section
variable {s u : State} (received : s.Receives u)
include received

theorem State.Receives.feeders (map : W64) (h : Chunk) : u.arch.feeders map h u.arch.seat = s.arch.feeders map h s.arch.seat := by
  rw [received.frame]
  rfl

theorem State.Receives.onward (map : W64) (h : Chunk) : u.arch.onward map h u.arch.seat = s.arch.onward map h s.arch.seat := by
  rw [received.frame]
  rfl

theorem State.Receives.size : u.arch.size = s.arch.size := by rw [received.frame]

theorem State.Receives.collectives : u.arch.collectives = s.arch.collectives := by rw [received.frame]

theorem State.Receives.reductionAt (g : W32) (turn addr : Nat) (map : W64) (dst : Bool) :
    u.reductionAt g turn addr map dst = s.reductionAt g turn addr map dst := by
  rw [received.frame]
  rfl

theorem State.Receives.combinedWith (k : Nat) (c : Collective) (b : PartialBlock) : u.combinedWith k c b = s.combinedWith k c b := by
  unfold State.combinedWith State.readBytes
  rw [received.part, received.sameData.1]

end

/-- The record of a combine and its place among the collectives: memory, the partition's place and the job's map stand. -/
theorem State.recorded_keeps (s : State) (k e seat turn step : Nat) (c d : Collective) :
    let v := (s.straitRecord k e seat turn step).setCollective c d
    s.SameData v ∧ (v.part k).base = (s.part k).base ∧ v.groupMapOf k = s.groupMapOf k := by
  have part : ((s.straitRecord k e seat turn step).setCollective c d).part k = _ := State.part_modJob s k _
  dsimp only
  refine ⟨⟨rfl, rfl⟩, by rw [part]; rfl, ?_⟩
  unfold State.groupMapOf
  rw [part, Option.map_map]
  rfl

/-! ### The obligation -/

section
variable {s : State} {e : Nat} {p : StraitPkt} (up : s.arch.topology ≠ 0) (serves : (s.engine e).state = 2)
  (mine : p.destSeat.toNat = s.arch.seat) (due : s.tooEarly p.groupId p.turn.toNat = false)
  (fresh : ((s.straitArrive e p).straitFresh p).2 = true) {k : Nat} (home : s.groupHome p.groupId = some k)
  (ok : s.straitStatusOf p.groupId p.addr.toNat p.data.length = stOk)
include up serves mine due fresh home ok

theorem straitData_lands (same : p.typ.toNat = 0x01) : s.Lands ((s.part k).base + p.addr.toNat) p.data (straitData e p s) := by
  obtain ⟨u, node, received, eq⟩ := State.collectivePacket_taken up serves same mine due fresh home ok
    (take := fun k t => (t.partWrite k ((t.part k).base + p.addr.toNat) p.data.length (SMap.ofList p.data 0 0)).passOn k p)
  rw [straitData, eq, received.part]
  exact received.lands ((u.partWriteRow_lands k _ p.data _).sameData (State.passOn_notifies _ k p).sameData) (State.straitAnswer_leaves _ _ _ _ _)

/-- The block as the member's reduction engine takes it. -/
def partialBlock (e : Nat) (p : StraitPkt) : PartialBlock := ⟨p.addr.toNat, p.srcSeat.toNat, e, p.data⟩

variable (same : p.typ.toNat = 0x03) {c : Collective} {h : Chunk}
  (runs : s.reductionAt p.groupId p.turn.toNat p.addr.toNat (s.groupMapOf k) false = some (c, h))
include same runs

theorem straitReduce_takes : ∃ u node, s.Receives u ∧
    straitReduce e p s = (u.takeBlock k c h (partialBlock e p)).straitAnswer node p 0x02 stOk := by
  obtain ⟨u, node, received, eq⟩ := State.collectivePacket_taken up serves same mine due fresh home ok (take := fun k t =>
    match t.reductionAt p.groupId p.turn.toNat p.addr.toNat (t.groupMapOf k) false with
    | some (c, h) => t.takeBlock k c h ⟨p.addr.toNat, p.srcSeat.toNat, e, p.data⟩
    | none => t)
  rw [received.groupMapOf, received.reductionAt, runs] at eq
  exact ⟨u, node, received, eq⟩

theorem straitReduce_waits (waits : ∃ f ∈ s.arch.feeders (s.groupMapOf k) h s.arch.seat, f ≠ p.srcSeat.toNat ∧
      ∀ y ∈ c.arrived, y.addr = p.addr.toNat → y.seat ≠ f) :
    s.SameData (straitReduce e p s) ∧ (straitReduce e p s).arch.collectives =
      s.arch.collectives.map fun y => if y = c then { c with arrived := c.arrived ++ [partialBlock e p] } else y := by
  obtain ⟨u, node, received, eq⟩ := straitReduce_takes up serves mine due fresh home ok same runs
  rw [← received.feeders, ← received.groupMapOf] at waits
  rw [State.takeBlock_waits u k c h (partialBlock e p) waits] at eq
  have left := State.straitAnswer_leaves (u.setCollective c { c with arrived := c.arrived ++ [partialBlock e p] }) node p 0x02 stOk
  have kept : u.SameData (u.setCollective c { c with arrived := c.arrived ++ [partialBlock e p] }) := ⟨rfl, rfl⟩
  rw [eq, left.collectives, ← received.collectives]
  exact ⟨(received.sameData.trans kept).trans left.notifies.sameData, rfl⟩

variable (only : s.arch.feeders (s.groupMapOf k) h s.arch.seat = [p.srcSeat.toNat]) (first : ∀ y ∈ c.arrived, y.addr ≠ p.addr.toNat)
include only first

/-- The last block: what the member combines it with, in the state in which its result goes on or lands. -/
theorem straitReduce_combines : ∃ v node, s.SameData v ∧ (v.part k).base = (s.part k).base ∧ v.arch.size = s.arch.size ∧
    v.arch.onward (v.groupMapOf k) h v.arch.seat = s.arch.onward (s.groupMapOf k) h s.arch.seat ∧
    straitReduce e p s = (v.combined k e c h p.addr.toNat (s.combinedWith k c (partialBlock e p))).straitAnswer node p 0x02 stOk := by
  obtain ⟨u, node, received, eq⟩ := straitReduce_takes up serves mine due fresh home ok same runs
  rw [← received.feeders, ← received.groupMapOf] at only
  obtain ⟨step, d, combines⟩ := State.takeBlock_combines u k c h (partialBlock e p) only first
  obtain ⟨data, base, map⟩ := u.recorded_keeps k e p.srcSeat.toNat c.turn step c d
  rw [combines, received.combinedWith] at eq
  refine ⟨_, node, received.sameData.trans data, base.trans (by rw [received.part]), received.size, ?_, eq⟩
  rw [map, received.groupMapOf]
  exact received.onward _ _

end

section
variable {s : State} {e : Nat} {p : StraitPkt}

theorem State.collectivePacket_packet (s : State) (e : Nat) (p : StraitPkt) (typ : Nat) (take : Nat → State → State) :
    ∃ act, s.collectivePacket e p typ take = s.straitPacket e p typ act := ⟨_, rfl⟩

theorem State.straitTake_packet (s : State) (e : Nat) (p : StraitPkt) (typ : Nat) (f : State → State) :
    ∃ act, s.straitTake e p typ f = s.straitPacket e p typ act := ⟨_, rfl⟩

theorem membership_join (seat : Fin 64) : membership e p (.join seat) s = s.straitTake e p 0x04 fun t => t.joinNotice seat.val := by
  unfold membership
  exact if_neg Bool.false_ne_true

/-- Every packet's command takes the packet by its TYPE. -/
theorem exec_straitPacket {c : Instr × Nat}
    (listed : ∃ E : EngineId, E.val = e ∧ c ∈ [(Instr.straitData E p, 0x01), (.straitAck E p, 0x02), (.straitReduce E p, 0x03), (.straitStatus E p, 0x09),
      (.membership E p (.join 0), 0x04), (.paceTime E p 0 0 [], 0x05), (.paceReport E p [], 0x06), (.journalMirror E p [], 0x08),
      (.straitCommit E p (.snapshotRequest 0 0), 0x07), (.mirrorAck E p 0, 0x02)]) :
    ∃ act, exec c.1 s = .next (s.straitPacket e p c.2 act) := by
  obtain ⟨E, rfl, listed⟩ := listed
  have taken : ∀ {f : State} {typ : Nat}, (∃ act, f = s.straitPacket E.val p typ act) →
      ∃ act, (Host.Outcome.next f : Host.Outcome State Fault Refusal) = .next (s.straitPacket E.val p typ act) := fun h => h.imp fun _ => congrArg _
  simp only [List.mem_cons, List.not_mem_nil, or_false] at listed
  rcases listed with rfl | rfl | rfl | rfl | rfl | rfl | rfl | rfl | rfl | rfl
  · exact taken (s.collectivePacket_packet E.val p _ _)
  · exact ⟨_, rfl⟩
  · exact taken (s.collectivePacket_packet E.val p _ _)
  · exact ⟨_, rfl⟩
  · refine taken ?_
    rw [membership_join]
    exact s.straitTake_packet E.val p _ _
  · exact taken (s.straitTake_packet E.val p _ _)
  · exact taken (s.straitTake_packet E.val p _ _)
  · exact taken (s.straitTake_packet E.val p _ _)
  · exact taken (s.straitTake_packet E.val p _ _)
  · exact ⟨_, rfl⟩

theorem exec_collectivePacket {c : Instr × Nat} (listed : ∃ E : EngineId, E.val = e ∧ c ∈ [(Instr.straitData E p, 0x01), (.straitReduce E p, 0x03)]) :
    ∃ act, exec c.1 s = .next (s.collectivePacket e p c.2 act) := by
  obtain ⟨E, rfl, listed⟩ := listed
  simp only [List.mem_cons, List.not_mem_nil, or_false] at listed
  rcases listed with rfl | rfl <;> exact ⟨_, rfl⟩

theorem straitResend_sends {dest : Nat} {seq : W32} {assured : Bool} {mark : Byte} {q : Nat × StraitPkt}
    (sent : (s.arch.sent.find? fun q => q.2.destSeat.toNat == dest && q.2.flags.getLsbD 0 == assured && q.2.seq == seq) = some q) :
    straitResend dest seq assured mark s = s.leaveStrait q.1 { q.2 with flags := q.2.flags ||| mark } := by
  unfold straitResend StraitPkt.assuredClass
  rw [sent]

end

/-- Settles O37: a packet by its TYPE and seat, a block by the status that it meets and by the partial blocks that its member still waits
for, and a resend by the packet that is listed. -/
theorem straitPacketsMoveBlocks : Obligations.StraitPacketsMoveBlocks := by
  unfold Obligations.StraitPacketsMoveBlocks
  refine ⟨fun s e p up serves => ⟨fun c listed => ?_, fun mine c listed same => ?_, fun mine due fresh k home ok => ?_, fun mine same => ?_,
    fun q mine same sent => ?_⟩, fun s dest seq q => ⟨fun sent => ?_, fun sent => ?_⟩⟩
  · obtain ⟨act, runs⟩ := exec_straitPacket (s := s) ⟨e, rfl, listed⟩
    rw [runs]
    exact ⟨fun other => congrArg Host.Outcome.next (State.straitPacket_otherType up serves other),
      fun same elsewhere => congrArg Host.Outcome.next (State.straitPacket_forwards up serves same elsewhere)⟩
  · obtain ⟨act, runs⟩ := exec_collectivePacket (s := s) ⟨e, rfl, listed⟩
    rw [runs]
    refine ⟨fun early => congrArg Host.Outcome.next (State.collectivePacket_early up serves same mine early), fun due fresh refused => ?_⟩
    obtain ⟨node, answered⟩ := State.collectivePacket_refused up serves same mine due fresh refused (take := act)
    exact ⟨node, congrArg Host.Outcome.next answered⟩
  · refine ⟨fun same => ⟨_, rfl, straitData_lands up serves mine due fresh home ok same⟩, fun c h same runs => ⟨fun waits => ?_, fun only first => ?_⟩⟩
    · obtain ⟨⟨mem, cores⟩, collectives⟩ := straitReduce_waits up serves mine due fresh home ok same runs waits
      exact ⟨_, rfl, mem, cores, collectives⟩
    · obtain ⟨v, node, data, base, size, onward, eq⟩ := straitReduce_combines up serves mine due fresh home ok same runs only first
      have left := State.straitAnswer_leaves (v.combined k e.val c h p.addr.toNat (s.combinedWith k c (partialBlock e.val p))) node p 0x02 stOk
      refine ⟨fun d next => ⟨_, congrArg Host.Outcome.next eq, ?_⟩, fun last => ⟨_, congrArg Host.Outcome.next eq, ?_⟩⟩
      · obtain ⟨told, q, sent, block⟩ := State.combined_goesOn v k c h (onward.trans next)
        obtain ⟨mem, cores⟩ := (data.trans told.sameData).trans left.notifies.sameData
        exact ⟨mem, cores, q, by rw [left.sent]; exact sent, block⟩
      · have lands := State.combined_lands v k c h (e := e.val) (addr := p.addr.toNat) (data := s.combinedWith k c (partialBlock e.val p)) (onward.trans last)
        rw [base, size] at lands
        exact (data.lands lands).sameData left.notifies.sameData
  · exact congrArg Host.Outcome.next (State.straitPacket_acts up serves same mine)
  · have acts : straitStatus e.val p s = _ := State.straitPacket_acts up serves same mine
    have found : ((s.straitArrive e.val p).arch.sent.find? fun q => q.2.destSeat == p.srcSeat &&
        StraitPkt.assuredClass q.2 == StraitPkt.assuredClass p && q.2.seq == p.seq) = some q := sent
    rw [found] at acts
    exact ⟨fun ok => congrArg Host.Outcome.next (acts.trans (if_pos ok)), fun failed => congrArg Host.Outcome.next (acts.trans (if_neg failed))⟩
  · exact congrArg Host.Outcome.next (straitResend_sends sent)
  · refine congrArg Host.Outcome.next ((straitResend_sends sent).trans ?_)
    rw [show q.2.flags ||| 0 = q.2.flags from BitVec.or_zero]

end Sys2Proof.Machine

/-! SUPPORT. Notices between members (09 R244, R245, R255): how a new one is taken, what a master's decision sends, and what a job that goes
on after a collective keeps. -/

namespace Sys2Proof.Machine

/-! ### Notices and what is sent for them -/

/-- `t` is `s` after notices and journal entries: they change what `State.Notifies` says, and add to what has left. -/
structure State.Tells (s t : State) : Prop where
  notifies : s.Notifies t
  told : s.Told t

section
variable {s t u : State}

theorem State.Tells.refl (s : State) : s.Tells s := ⟨.refl s, .refl s⟩

theorem State.Tells.trans (h : s.Tells t) (k : t.Tells u) : s.Tells u := ⟨h.notifies.trans k.notifies, h.told.trans k.told⟩

theorem State.Tells.foldl {β : Type} {f : State → β → State} (hf : ∀ (t : State) x, t.Tells (f t x)) (l : List β) (s : State) :
    s.Tells (l.foldl f s) := foldl_related State.Tells.refl State.Tells.trans (fun x _ t => hf t x) s

theorem State.Tells.ite {b : Prop} [Decidable b] (h : s.Tells t) (k : s.Tells u) : s.Tells (if b then t else u) := by
  split
  · exact h
  · exact k

theorem State.Leaves.tells (h : s.Leaves t) : s.Tells t := ⟨h.notifies, h.told⟩

theorem State.Notifies.mem (h : s.Notifies t) : t.mem = s.mem := by rw [h]

theorem State.Notifies.groups (h : s.Notifies t) : t.arch.groups = s.arch.groups := by rw [h]

theorem State.group_of_groups (same : t.arch.groups = s.arch.groups) (g : W32) : t.group g = s.group g := by
  rw [State.group, same, State.group]

theorem State.Receives.groups (h : s.Receives t) : t.arch.groups = s.arch.groups := by rw [h.frame]

end

section
variable (s : State)

theorem State.sendMember_tells (seat : Nat) (n : MemberNote) : s.Tells (s.sendMember seat n) :=
  ⟨s.sendMember_notifies seat n, s.sendMember_told seat n⟩

theorem State.sendCommit_tells (seat : Nat) (g : W32) (n : CommitNote) : s.Tells (s.sendCommit seat g n) :=
  ⟨s.sendCommit_notifies seat g n, s.sendCommit_told seat g n⟩

theorem State.event_tells (code : W16) (p : Option Nat) (detail : List Byte) : s.Tells (s.event code p detail) :=
  ⟨s.event_notifies code p detail, s.event_told code p detail⟩

theorem State.sendMember_leaves (seat : Nat) (n : MemberNote) : .membership seat n ∈ (s.sendMember seat n).out := State.mem_out_emit _ _

theorem State.sendCommit_leaves (seat : Nat) (g : W32) (n : CommitNote) : .commit seat n ∈ (s.sendCommit seat g n).out := State.mem_out_emit _ _

theorem State.setGroup_told (g : W32) (x : Group) : s.Told (s.setGroup g x) := .of_same rfl rfl

theorem State.modJob_told (p : Nat) (f : Job → Job) : s.Told (s.modJob p f) := .of_same rfl rfl

theorem State.group_setGroup (g : W32) (x : Group) : (s.setGroup g x).group g = x := SMap.getD_put_same _ _ _ _

end

/-- What each step of a fold sends has left once the fold is done. -/
theorem State.foldl_sends {β : Type} {f : State → β → State} (tells : ∀ (t : State) x, t.Told (f t x)) {o : Output} {l : List β} {x : β} (listed : x ∈ l)
    (sends : ∀ t : State, o ∈ (f t x).out) (s : State) : o ∈ (l.foldl f s).out :=
  foldl_establishes (P := fun t : State => o ∈ t.out) listed sends (fun y _ _ t sent => (tells t y).mem sent) s

/-! ### A notice that is taken (09 R245) -/

/-- A command whose new notice the firmware takes: what the notice does is done, and the packet is acknowledged. -/
theorem completes_straitTake {s : State} {e : Nat} {p : StraitPkt} {typ : Nat} {c : Instr} {f : State → State}
    (command : exec c s = .next (s.straitTake e p typ f)) (up : s.arch.topology ≠ 0) (serves : (s.engine e).state = 2) (same : p.typ.toNat = typ)
    (mine : p.destSeat.toNat = s.arch.seat) (fresh : ((s.straitArrive e p).straitFresh p).2 = true) {P : State → Prop}
    (acts : ∀ u t, s.Receives u → (f u).Leaves t → P t) : Completes c s P := by
  obtain ⟨u, received, taken⟩ := State.straitTake_takes up serves same mine fresh f
  exact ⟨_, command.trans (congrArg _ taken), acts u _ received (State.straitAnswer_leaves _ _ _ _ _)⟩

/-! ### The master decides a turn (09 R255) -/

/-- Some members of a group report digests that differ (09 R258). -/
def digestsDiffer (x : Group) : Bool :=
  match x.durable.map fun e => e.2.2 with
  | [] => false
  | d :: r => r.any fun e => e != d

theorem digestsDiffer_iff (x : Group) : digestsDiffer x = true ↔ ∃ a ∈ x.durable, ∃ b ∈ x.durable, a.2.2 ≠ b.2.2 := by
  unfold digestsDiffer
  cases x.durable with
  | nil => simp
  | cons d r =>
    rw [List.map_cons]
    dsimp only
    rw [List.any_map, List.any_eq_true]
    refine ⟨fun ⟨b, listed, differs⟩ => ⟨b, List.mem_cons_of_mem _ listed, d, List.mem_cons_self, bne_iff_ne.1 differs⟩, fun ⟨a, la, b, lb, differs⟩ => ?_⟩
    have found : ∀ y, y ∈ d :: r → y.2.2 ≠ d.2.2 → ∃ z ∈ r, ((fun e => e != d.2.2) ∘ fun e : Nat × Nat × BitVec 128 => e.2.2) z = true :=
      fun y listed other => (List.mem_cons.1 listed).elim (fun first => absurd (congrArg (fun e => e.2.2) first) other)
        fun later => ⟨y, later, bne_iff_ne.2 other⟩
    by_cases first : a.2.2 = d.2.2
    · exact found b lb fun second => differs (first.trans second.symm)
    · exact found a la first

theorem groupComplete_iff (x : Group) (turn : Nat) : groupComplete x turn = true ↔
    seatsOf x.map ≠ [] ∧ ∀ k ∈ seatsOf x.map, (SMap.get? x.durable k).map (fun d => d.1) = some turn := by
  have reported : ∀ k, ((SMap.get? x.durable k).map fun d => d.1 == turn).getD false = true ↔ (SMap.get? x.durable k).map (fun d => d.1) = some turn :=
    fun k => by cases SMap.get? x.durable k <;> simp
  unfold groupComplete
  rw [Bool.and_eq_true, List.all_eq_true]
  simp only [reported, Bool.not_eq_true', List.isEmpty_eq_false_iff]

/-- The scheduler's own part of a decision: jobs and partitions. -/
def State.Schedules (s t : State) : Prop := t = { s with sched := t.sched }

/-- A decision goes to the deputy, and the snapshot that it takes and its commit to the other members (09 R255, 13 R398). -/
def State.tellDecision (s : State) (g : W32) (map : W64) (turn : Nat) (mismatch snap : Bool) : State :=
  let members := (seatsOf map).filter fun k => k != s.arch.seat
  let s1 := if s.arch.deputy ≠ s.arch.seat then s.sendCommit s.arch.deputy g (.decision g (BitVec.ofNat 64 turn) mismatch map) else s
  let s2 := if snap then members.foldl (fun t k => t.sendCommit k g (.snapshotPoint g (BitVec.ofNat 64 (turn + 1)))) s1 else s1
  members.foldl (fun t k => t.sendCommit k g (.commit g (BitVec.ofNat 64 turn) mismatch)) s2

section
variable (s : State) (g : W32) (turn : Nat)

theorem State.tellDecision_tells (map : W64) (mismatch snap : Bool) : s.Tells (s.tellDecision g map turn mismatch snap) := by
  have sent : ∀ (l : List Nat) (n : CommitNote) (t : State), t.Tells (l.foldl (fun t k => t.sendCommit k g n) t) := fun l n t =>
    State.Tells.foldl (fun t k => t.sendCommit_tells k g n) l t
  have first : s.Tells (if s.arch.deputy ≠ s.arch.seat then
      s.sendCommit s.arch.deputy g (.decision g (BitVec.ofNat 64 turn) mismatch map) else s) := .ite (s.sendCommit_tells _ _ _) (.refl s)
  exact (first.trans (.ite (sent _ _ _) (.refl _))).trans (sent _ _ _)

theorem State.tellDecision_leaves (map : W64) (mismatch snap : Bool) {k : Nat} (seat : k ∈ seatsOf map) (other : k ≠ s.arch.seat) :
    .commit k (.commit g (BitVec.ofNat 64 turn) mismatch) ∈ (s.tellDecision g map turn mismatch snap).out :=
  State.foldl_sends (fun t k => t.sendCommit_told k g _) (List.mem_filter.2 ⟨seat, by simpa using other⟩) (fun t => t.sendCommit_leaves k g _) _

theorem State.decideTurn_waits (lacks : groupComplete (s.group g) turn = false) : s.decideTurn g turn = s := by
  unfold State.decideTurn
  exact if_pos (by rw [lacks]; rfl)

/-- A turn that every member reports is decided, marked where the digests differ, and every other member is told. -/
theorem State.decideTurn_steps (complete : groupComplete (s.group g) turn = true) : ∃ x snap,
    x.decided = some (turn, digestsDiffer (s.group g)) ∧ x.durable = [] ∧
      ((s.setGroup g x).tellDecision g (s.group g).map turn (digestsDiffer (s.group g)) snap).Schedules (s.decideTurn g turn) := by
  let snap := !(seatsOf (s.group g).map).isEmpty && (seatsOf (s.group g).map).all fun k => (s.group g).snapAsked.contains k
  refine ⟨{ s.group g with
    decided := some (turn, digestsDiffer (s.group g)), durable := [], held := []
    snapAsked := if snap then [] else (s.group g).snapAsked }, snap, rfl, rfl, ?_⟩
  have scheduled : ∀ (u : State) (b : Bool) (f : Job → Job) (h : Part → Part), u.Schedules (match u.groupPart g with
      | none => u
      | some p => if b then (u.modJob p f).modPart p h else u.modJob p f) := fun u b f h => by
    unfold State.Schedules
    split
    · rfl
    · split <;> rfl
  have decides : ¬(!groupComplete (s.group g) turn) = true := by rw [complete]; exact Bool.false_ne_true
  unfold State.decideTurn
  dsimp only
  rw [if_neg decides]
  exact scheduled (State.tellDecision _ g _ turn _ snap) snap _ _

end

end Sys2Proof.Machine

/-! SUPPORT. Group commits, mirrors and collectives (09 R255, R258, R260, R265, 13 R398, 16 R454): what each notice leaves of its group and its
job, and the obligation of group commits. -/

namespace Sys2Proof.Machine

/-! ### A turn that starts (08 R217, R218, 09 R258) -/

section
variable (s : State)

theorem State.landTokens_manages (L : Nat) : s.Manages (s.landTokens L) :=
  State.Manages.foldl (fun t q => ((((State.OnMesh.refl t).receive q).acknowledged _ _ _ _).notifies.manages).trans (State.modCore_manages _ L _)) _ s

theorem State.renameCores_manages (p : Nat) (moved : List Nat) (mv : Nat → Nat) : s.Manages (s.renameCores p moved mv) := by
  unfold State.renameCores
  split
  · rfl
  · exact ((s.modCores_manages _ _).trans (State.modJob_manages _ p _)).trans rfl

theorem State.moveRanks_manages (p c d : Nat) : s.Manages (s.moveRanks p c d) := by
  unfold State.moveRanks
  split
  · rfl
  · dsimp only
    have woken : ∀ t : State, t.Manages (if (t.cluster d).wakeable then t.queueWake d else t) := fun t => .ite (t.queueWake_manages d) (.refl t)
    refine State.Manages.trans (State.Manages.trans ?_ (State.renameCores_manages _ p _ _)) (woken _)
    refine State.Manages.trans ?_ (State.Manages.foldl (fun t L => ?_) _ _)
    · exact (s.modJob_manages p _).trans (State.modPart_manages _ p _)
    · refine State.Manages.trans ?_ (State.modCore_manages _ _ _)
      refine State.Manages.trans ?_ (State.awaitRebuild_onCoresAndMesh _ _ true).manages
      refine State.Manages.trans (u := State.setCore _ _ _) ?_ rfl
      exact (t.landTokens_manages L).trans (.ite (.refl _) (State.withdrawPart_onCoresAndMesh _ p L).manages)

theorem State.holdCapacity_manages (p : Nat) : s.Manages (s.holdCapacity p) :=
  ((s.abandonParts_manages p).trans (State.modJob_manages _ p _)).trans (State.enterHold_manages _ p)

theorem State.holdStatus_manages (p : Nat) (st : W16) : s.Manages (s.holdStatus p st) :=
  ((State.Manages.ite (s.abandonParts_manages p) ((s.abandonParts_manages p).trans (State.modPart_manages _ p _))).trans
    (State.modJob_manages _ p _)).trans (State.enterHold_manages _ p)

theorem State.clusterUnusable_manages (c : Nat) (shed : Bool) : s.Manages (s.clusterUnusable c shed) := by
  unfold State.clusterUnusable
  split
  · rfl
  · split
    · rfl
    · split
      · rfl
      · dsimp only
        split
        · exact .ite (.refl s) (s.moveRanks_manages _ c _)
        · split
          · exact (s.modJob_manages _ _).trans (State.Manages.foldl (fun t L =>
              .ite (.refl t) (t.awaitRebuild_onCoresAndMesh L false).manages) _ _)
          · exact s.holdCapacity_manages _

theorem State.moveDue_manages (p : Nat) : s.Manages (s.moveDue p) := by
  unfold State.moveDue
  split
  · rfl
  · exact State.Manages.foldl (fun t c => t.clusterUnusable_manages c _) _ s

theorem State.rewriteBlocks_arch (p : Nat) : (s.rewriteBlocks p).arch = s.arch := by
  have written : ∀ (t : State) (rank L : Nat), (t.writeJobBlock p rank L).arch = t.arch := fun t rank L => by
    unfold State.writeJobBlock
    split <;> rfl
  unfold State.rewriteBlocks
  split
  · rfl
  · split
    · exact (State.modJob_arch _ p _).trans (foldl_keeps State.arch (fun t e => written t _ _) _ s)
    · rfl

theorem State.Manages.collectives {s t : State} (h : s.Manages t) : t.arch.collectives = s.arch.collectives := by rw [h]

/-- A turn that starts leaves the collectives that run. -/
theorem State.startTurns_collectives (p : Nat) : (s.startTurns p).arch.collectives = s.arch.collectives := by
  have due : ∀ b : Bool, s.Manages (if b then s else s.moveDue p) := fun b => .ite (.refl s) (s.moveDue_manages p)
  unfold State.startTurns
  split
  · rfl
  next j0 _ =>
    split
    · rfl
    · have moved := due (s.turnBegun j0)
      revert moved
      dsimp only
      generalize (if s.turnBegun j0 then s else s.moveDue p) = s0
      intro moved
      split
      · exact moved.collectives
      next j _ =>
        have woken := (moved.trans (s0.wakeHosts_manages j)).collectives
        split
        · exact moved.collectives
        · split
          · exact moved.collectives
          · have entered : ∀ t : State, (t.enterParts j).arch = t.arch := fun t => foldl_keeps State.arch (fun t L => t.modCore_arch L _) _ t
            split
            · rw [entered, woken]
            · split
              · exact woken
              · rw [entered, State.rewriteBlocks_arch, woken]

theorem State.endWait_collectives (p : Nat) : (s.endWait p).arch.collectives = s.arch.collectives := by
  unfold State.endWait
  split
  · rfl
  · split
    · exact State.startTurns_collectives _ p
    · rfl

/-- A write in a partition copies pages and changes parity; the collectives run on. -/
theorem State.partWrite_collectives (p a n : Nat) (es : SMap Byte) : (s.partWrite p a n es).arch.collectives = s.arch.collectives := by
  have copied : ∀ (t : State) page, (t.cowPage p page).arch.collectives = t.arch.collectives := fun t page => by
    unfold State.cowPage
    split
    · rfl
    · split
      · rfl
      · split
        · rfl
        · split
          · exact (State.journalWrite_notifies _ _ _ _ _ _).manages.collectives
          · rfl
  have written := State.rowWrite_onStore ((if a < 2 ^ 41 ∧ 0 < n then
    (List.range ((a + n - 1) / 2 ^ 21 - a / 2 ^ 21 + 1)).map (· + a / 2 ^ 21) else []).foldl (fun t g => t.cowPage p g) s) a n es (a, a + n)
  unfold State.partWrite State.partWriteRow
  rw [written]
  exact foldl_keeps (fun t : State => t.arch.collectives) copied _ s

end

/-! ### Commits and decisions (09 R255, 13 R398) -/

section
variable {s u t : State} {g : W32}

/-- A group as a notice has set it, once the notice is acknowledged. -/
theorem State.Leaves.group_setGroup {x : Group} (left : (u.setGroup g x).Leaves t) : t.group g = x :=
  (State.group_of_groups left.notifies.groups g).trans (u.group_setGroup g x)

theorem State.Receives.group (received : s.Receives u) (g : W32) : u.group g = s.group g := State.group_of_groups received.groups g

theorem State.Receives.seat (received : s.Receives u) : u.arch.seat = s.arch.seat := by rw [received.frame]

theorem State.Receives.role (received : s.Receives u) : u.arch.role = s.arch.role := by rw [received.frame]

theorem State.Receives.cores (received : s.Receives u) : u.cores = s.cores := received.sameData.2

/-- The group once a durable notice has been counted at the master. -/
def State.countedDurable (s : State) (seat : Nat) (g : W32) (map : W64) (turn : Nat) (d : BitVec 128) : Group :=
  { s.group g with map := map, durable := SMap.put (s.group g).durable seat (turn, d) }

/-- A notice of a turn that is not decided yet counts, and may be the last one. -/
theorem State.noteDurable_counts {seat : Nat} {map : W64} {turn : Nat} {d : BitVec 128}
    (open' : ∀ x, (s.group g).decided = some x → x.1 ≠ turn ∨ seat = s.arch.seat) :
    s.noteDurable seat g map turn d = (s.setGroup g (s.countedDurable seat g map turn d)).decideTurn g turn := by
  unfold State.noteDurable
  dsimp only
  split
  next t mm decided =>
    refine if_neg fun ⟨same, other⟩ => ?_
    exact (open' (t, mm) decided).elim (fun ne => ne same) other
  · rfl

/-- The commit reaches a member that has reported the turn: its job may commit it, once its ranks are durable. -/
theorem State.groupCommit_frees {turn k : Nat} {mm : Bool} {j : Job} (home : s.groupPart g = some k) (job : (s.part k).job = some j)
    (due : j.td = turn) (fresh : j.go = none) (lacks : s.allDurable j = false) : s.groupCommit g turn mm =
      (s.setGroup g { s.group g with held := [] }).modJob k fun j => { j with go := some mm, waiting := false } := by
  let s1 := s.setGroup g { s.group g with held := [] }
  have home1 : s1.groupPart g = some k := home
  have job1 : (s1.part k).job = some j := job
  have freed : ((s1.modJob k fun j => { j with go := some mm, waiting := false }).part k).job = some { j with go := some mm, waiting := false } := by
    rw [State.part_modJob, job1]
    rfl
  unfold State.groupCommit
  dsimp only
  rw [home1]
  dsimp only
  rw [job1]
  dsimp only
  rw [if_pos ⟨due, fresh⟩]
  exact turnCommit_stays freed lacks

variable {seat : Nat} {map : W64} {turn : Nat} {d : BitVec 128}

theorem State.noteDurable_waits (received : s.Receives u) (open' : ∀ x, (s.group g).decided = some x → x.1 ≠ turn ∨ seat = s.arch.seat)
    (lacks : ¬ (seatsOf map ≠ [] ∧ ∀ k ∈ seatsOf map,
      (SMap.get? (SMap.put (s.group g).durable seat (turn, d)) k).map (fun x => x.1) = some turn)) :
    u.noteDurable seat g map turn d = u.setGroup g (s.countedDurable seat g map turn d) := by
  have counted : u.countedDurable seat g map turn d = s.countedDurable seat g map turn d := by
    rw [State.countedDurable, received.group, State.countedDurable]
  rw [State.noteDurable_counts (by rw [received.group, received.seat]; exact open'), counted]
  refine State.decideTurn_waits _ g turn (Bool.eq_false_iff.2 fun complete => lacks ?_)
  rw [groupComplete_iff, State.group_setGroup] at complete
  exact complete

theorem State.noteDurable_decides (received : s.Receives u) (open' : ∀ x, (s.group g).decided = some x → x.1 ≠ turn ∨ seat = s.arch.seat)
    (last : seatsOf map ≠ [] ∧ ∀ k ∈ seatsOf map,
      (SMap.get? (SMap.put (s.group g).durable seat (turn, d)) k).map (fun x => x.1) = some turn) :
    let v := u.noteDurable seat g map turn d
    let mm := digestsDiffer (s.countedDurable seat g map turn d)
    v.mem = s.mem ∧ (v.group g).decided = some (turn, mm) ∧ (v.group g).durable = [] ∧
      ∀ k ∈ seatsOf map, k ≠ s.arch.seat → .commit k (.commit g (BitVec.ofNat 64 turn) mm) ∈ v.out := by
  let u1 := u.setGroup g (s.countedDurable seat g map turn d)
  have group : u1.group g = s.countedDurable seat g map turn d := u.group_setGroup g _
  have counted : u.countedDurable seat g map turn d = s.countedDurable seat g map turn d := by
    rw [State.countedDurable, received.group, State.countedDurable]
  have complete : groupComplete (u1.group g) turn = true := by
    rw [groupComplete_iff, group]
    exact last
  obtain ⟨x, snap, decided, none', scheduled⟩ := State.decideTurn_steps u1 g turn complete
  have told := (u1.setGroup g x).tellDecision_tells g turn (u1.group g).map (digestsDiffer (u1.group g)) snap
  have left := fun k => (u1.setGroup g x).tellDecision_leaves g turn (u1.group g).map (digestsDiffer (u1.group g)) snap (k := k)
  have final : ((u1.decideTurn g turn).group g) = x := by
    rw [scheduled]
    exact (State.group_of_groups told.notifies.groups g).trans (u1.group_setGroup g x)
  rw [group] at decided left
  dsimp only
  rw [State.noteDurable_counts (by rw [received.group, received.seat]; exact open'), counted]
  refine ⟨?_, (congrArg Group.decided final).trans decided, (congrArg Group.durable final).trans none', fun k seat other => ?_⟩
  · rw [scheduled]
    exact told.notifies.mem.trans received.sameData.1
  · rw [scheduled, group]
    refine left k seat (fun own => other (own.trans ?_))
    exact received.seat

end

/-! ### Mirrors (09 R260) -/

/-- Responses whose wait has ended leave. -/
theorem State.releaseResponses_eq (s : State) : s.releaseResponses = { s with
    host := { s.host with delayed := s.host.delayed.filter fun d => s.arch.mirrorWait.contains d.1 }, out := s.releaseResponses.out } :=
  foldl_related (R := fun a b : State => b = { a with out := b.out }) (fun _ => rfl) (fun h k => by rw [k, h]) (fun _ _ _ => rfl)
    { s with host := { s.host with delayed := s.host.delayed.filter fun d => s.arch.mirrorWait.contains d.1 } }

/-- The holder keeps an entry at the end of a seat's ring. -/
def State.keepEntry (seat : Nat) (entry : List Byte) (s : State) : State :=
  let ring := SMap.getD s.arch.mirrors seat [] ++ [entry]
  { s with arch := { s.arch with mirrors := SMap.put s.arch.mirrors seat (ring.drop (ring.length - 131072)) } }

/-! ### The obligation -/

section
variable {s : State} {e : EngineId} {p : StraitPkt} (up : s.arch.topology ≠ 0) (serves : (s.engine e.val).state = 2)
  (mine : p.destSeat.toNat = s.arch.seat)
include up serves mine

section
variable (same : p.typ.toNat = 0x07) (fresh : ((s.straitArrive e.val p).straitFresh p).2 = true)
include same fresh

/-- A durable notice at the master. -/
theorem completes_durable {seat : Fin 64} {g : W32} {map turn : W64} {d : BitVec 128} (master : s.arch.role = 3) {P : State → Prop}
    (acts : ∀ u t, s.Receives u → (u.noteDurable seat.val g map turn.toNat d).Leaves t → P t) :
    Completes (.straitCommit e p (.durable seat g map turn d)) s P :=
  completes_straitTake (f := fun u => if u.arch.role = 3 then u.noteDurable seat.val g map turn.toNat d else u) rfl up serves same mine fresh
    fun u t received left => acts u t received (by rwa [if_pos (received.role.trans master)] at left)

theorem completes_commit {g : W32} {turn : W64} {mm : Bool} {k : Nat} {j : Job} (home : s.groupPart g = some k) (job : (s.part k).job = some j)
    (due : j.td = turn.toNat) (first : j.go = none) (lacks : s.allDurable j = false) : Completes (.straitCommit e p (.commit g turn mm)) s fun t =>
      (t.part k).job = some { j with go := some mm, waiting := false } ∧ (t.group g).held = [] ∧ t.mem = s.mem := by
  refine completes_straitTake (f := fun u => u.groupCommit g turn.toNat mm) rfl up serves same mine fresh fun u t received left => ?_
  have lacks' : u.allDurable j = false := by
    rw [State.allDurable]
    simp only [State.core, received.cores]
    exact lacks
  rw [State.groupCommit_frees ((State.groupPart_of_sched received.sched g).trans home) (by rw [received.part, job]) due first lacks'] at left
  have part : t.part k = _ := (left.notifies.part k).trans (State.part_modJob _ k _)
  have job' : ((u.setGroup g { u.group g with held := [] }).part k).job = some j := (congrArg Part.job (received.part k)).trans job
  refine ⟨?_, ?_, left.notifies.mem.trans received.sameData.1⟩
  · rw [part, job']
    rfl
  · have group : t.group g = { u.group g with held := [] } := (State.group_of_groups left.notifies.groups g).trans (u.group_setGroup g _)
    rw [group]

/-- A notice that sets its group alone. -/
theorem completes_setGroup {note : CommitNote} {g : W32} {f : State → State} {x : Group}
    (command : exec (.straitCommit e p note) s = .next (s.straitTake e.val p 0x07 f)) (sets : ∀ u, s.Receives u → f u = u.setGroup g x) :
    Completes (.straitCommit e p note) s fun t => t.mem = s.mem ∧ t.sched = s.sched ∧ t.group g = x := by
  refine completes_straitTake command up serves same mine fresh fun u t received left => ?_
  rw [sets u received] at left
  exact ⟨left.notifies.mem.trans received.sameData.1, left.notifies.sched.trans received.sched, left.group_setGroup⟩

end

theorem completes_journalMirror (same : p.typ.toNat = 0x08) (fresh : ((s.straitArrive e.val p).straitFresh p).2 = true) (entry : List Byte) :
    Completes (.journalMirror e p entry) s fun t => t.mem = s.mem ∧
      let ring := SMap.getD s.arch.mirrors p.srcSeat.toNat [] ++ [entry]
      SMap.getD t.arch.mirrors p.srcSeat.toNat [] = ring.drop (ring.length - 131072) := by
  have command : exec (.journalMirror e p entry) s = .next (s.straitTake e.val p 0x08 (State.keepEntry p.srcSeat.toNat entry)) := rfl
  refine completes_straitTake command up serves same mine fresh fun u t received left => ⟨left.notifies.mem.trans received.sameData.1, ?_⟩
  have mirrors : t.arch.mirrors = (State.keepEntry p.srcSeat.toNat entry u).arch.mirrors := by rw [left.frame]
  have before : u.arch.mirrors = s.arch.mirrors := by rw [received.frame]
  rw [mirrors, ← before]
  exact SMap.getD_put_same _ _ _ _

theorem mirrorAck_ends (same : p.typ.toNat = 0x02) {n : W64} (staying : s.chassis.leaving ≠ some n.toNat) :
    mirrorAck e.val p n.toNat s = State.releaseResponses { (s.straitArrive e.val p).straitDone p with
      arch := { ((s.straitArrive e.val p).straitDone p).arch with mirrorWait := s.arch.mirrorWait.filter fun k => k != n.toNat } } := by
  unfold mirrorAck
  rw [State.straitPacket_acts up serves same mine]
  dsimp only
  refine if_neg ?_
  rw [State.releaseResponses_eq]
  exact staying

end

theorem collectiveComplete_ends {s : State} {g : W32} {c : Collective} {k turn slot : Nat} {st : W16}
    (runs : (s.arch.collectives.find? fun c => c.group == g && c.turn == turn && c.slot == slot) = some c) (home : s.groupPart g = some k) :
    let s1 : State := { s with arch := { s.arch with collectives := s.arch.collectives.filter fun x => x != c } }
    (st ≠ stOk → collectiveComplete g turn slot st s = s1.holdStatus k st) ∧
      (collectiveComplete g turn slot st s).arch.collectives = s1.arch.collectives := by
  intro s1
  have home1 : s1.groupPart g = some k := home
  unfold collectiveComplete
  rw [runs]
  dsimp only
  rw [home1]
  dsimp only
  refine ⟨fun failed => if_pos failed, ?_⟩
  split
  · exact (s1.holdStatus_manages k st).collectives
  · rw [State.endWait_collectives]
    split
    · exact State.partWrite_collectives _ _ _ _ _
    · rfl

/-- Settles O39: each notice by what it sets in its group or its job, the decision by the last durable notice, and a collective by the status
with which it completes. -/
theorem groupCommitsAndMirrors : Obligations.GroupCommitsAndMirrors := by
  unfold Obligations.GroupCommitsAndMirrors
  refine ⟨fun s e p up serves mine => ⟨fun same fresh => ⟨fun seat g map turn d master open' => ⟨fun lacks => ?_, fun last => ?_⟩,
      fun g turn mm k j home job due first lacks => completes_commit up serves mine same fresh home job due first lacks,
      fun g turn map mm => ?_, fun seat g master => ?_⟩,
      fun entry same fresh => completes_journalMirror up serves mine same fresh entry,
      fun n same staying => ⟨_, congrArg Host.Outcome.next (mirrorAck_ends up serves mine same staying), ?_⟩⟩,
    fun s g c k j slot turn st runs home job => ?_, fun s leaving => congrArg Host.Outcome.next (if_pos leaving)⟩
  · refine completes_durable up serves mine same fresh master fun u t received left => ?_
    rw [State.noteDurable_waits received open' lacks] at left
    exact ⟨left.group_setGroup, left.notifies.mem.trans received.sameData.1, left.notifies.sched.trans received.sched⟩
  · refine completes_durable up serves mine same fresh master fun u t received left => ?_
    obtain ⟨mem, decided, none', sent⟩ := State.noteDurable_decides received open' last
    refine ⟨left.notifies.mem.trans mem, digestsDiffer (s.countedDurable seat.val g map turn.toNat d), ?_, ?_, digestsDiffer_iff _, fun k listed other => ?_⟩
    · rw [State.group_of_groups left.notifies.groups, decided]
    · rw [State.group_of_groups left.notifies.groups, none']
    · have sent' := left.told.mem (sent k listed other)
      rwa [BitVec.ofNat_toNat, BitVec.setWidth_eq] at sent'
  · refine completes_setGroup up serves mine same fresh
      (f := fun u => u.setGroup g { u.group g with decided := some (turn.toNat, mm), map := map }) rfl fun u received => ?_
    rw [received.group]
  · refine completes_setGroup up serves mine same fresh
      (f := fun u => if u.arch.role = 3 then u.setGroup g { u.group g with snapAsked := (u.group g).snapAsked ++ [seat.val] } else u) rfl fun u received => ?_
    rw [if_pos (received.role.trans master), received.group]
  · rw [State.releaseResponses_eq]
    exact ⟨rfl, rfl, rfl⟩
  · obtain ⟨holds, ended⟩ := collectiveComplete_ends (st := st) runs home
    refine ⟨_, rfl, ended, fun failed => ?_⟩
    obtain ⟨shows, k', job', state, reason, -⟩ := State.holdStatus_part
      (s := { s with arch := { s.arch with collectives := s.arch.collectives.filter fun x => x != c } }) job st
    rw [holds failed]
    exact ⟨⟨k', job', state, reason⟩, fun first => shows ((congrArg (Option.map Job.holdStatus) job).trans (congrArg some first))⟩

end Sys2Proof.Machine

/-! SUPPORT. The archipelago's map (09 R247 to R251, R253 to R256, R260): what a member does when a map takes effect, when seats are gone, and
when its groups are told, and what none of it changes. -/

namespace Sys2Proof.Machine

/-- `t` differs from `s` by what a member does on a notice: what the scheduler core sets when it handles jobs and groups, collectives that end,
and responses that no longer wait for a mirror. -/
def State.Attends (s t : State) : Prop := t = { s with
  cores := t.cores, sched := t.sched, islands := t.islands, mesh := t.mesh, links := t.links, out := t.out, freeCtr := t.freeCtr
  eventCounts := t.eventCounts, journal := t.journal, start := { s.start with deferred := t.start.deferred }
  host := { s.host with ports := t.host.ports, delayed := t.host.delayed }
  arch := { s.arch with
    engines := t.arch.engines, seqs := t.arch.seqs, sent := t.arch.sent, mirrorWait := t.arch.mirrorWait, groups := t.arch.groups
    collectives := t.arch.collectives } }

section
variable {s t u : State}

theorem State.Attends.refl (s : State) : s.Attends s := rfl

theorem State.Attends.trans (h : s.Attends t) (k : t.Attends u) : s.Attends u := by
  unfold State.Attends at *
  rw [k, h]

theorem State.Attends.foldl {β : Type} {f : State → β → State} (hf : ∀ (t : State) x, t.Attends (f t x)) (l : List β) (s : State) :
    s.Attends (l.foldl f s) := foldl_related State.Attends.refl State.Attends.trans (fun x _ t => hf t x) s

theorem State.Attends.ite {b : Prop} [Decidable b] (h : s.Attends t) (k : s.Attends u) : s.Attends (if b then t else u) := by
  split
  · exact h
  · exact k

theorem State.Manages.attends (h : s.Manages t) : s.Attends t := by
  unfold State.Manages at h
  unfold State.Attends
  rw [h]

theorem State.Tells.attends (h : s.Tells t) : s.Attends t := h.notifies.manages.attends

theorem State.Attends.stays (h : s.Attends t) : t.mem = s.mem ∧ t.nv = s.nv := ⟨by rw [h], by rw [h]⟩

/-- What a member does on a notice, and what has left by then. -/
structure State.Reacts (s t : State) : Prop where
  attends : s.Attends t
  told : s.Told t

theorem State.Reacts.refl (s : State) : s.Reacts s := ⟨.refl s, .refl s⟩

theorem State.Reacts.trans (h : s.Reacts t) (k : t.Reacts u) : s.Reacts u := ⟨h.attends.trans k.attends, h.told.trans k.told⟩

theorem State.Reacts.foldl {β : Type} {f : State → β → State} (hf : ∀ (t : State) x, t.Reacts (f t x)) (l : List β) (s : State) :
    s.Reacts (l.foldl f s) := foldl_related State.Reacts.refl State.Reacts.trans (fun x _ t => hf t x) s

theorem State.Reacts.ite {b : Prop} [Decidable b] (h : s.Reacts t) (k : s.Reacts u) : s.Reacts (if b then t else u) := by
  split
  · exact h
  · exact k

theorem State.Tells.reacts (h : s.Tells t) : s.Reacts t := ⟨h.attends, h.told⟩

/-- The map and the roles that a member follows (09 R247, R248). -/
theorem State.Attends.map (h : s.Attends t) : t.arch.state = s.arch.state ∧ t.arch.members = s.arch.members ∧ t.arch.epoch = s.arch.epoch ∧
    t.arch.master = s.arch.master ∧ t.arch.deputy = s.arch.deputy ∧ t.arch.role = s.arch.role := by
  rw [h]
  exact ⟨rfl, rfl, rfl, rfl, rfl, rfl⟩

theorem State.Attends.mapNote (h : s.Attends t) (planned : Bool) : t.arch.mapNote planned = s.arch.mapNote planned := by
  rw [h]
  rfl

end

/-! ### Groups (09 R253, R255, R256) -/

section
variable (s : State)

theorem State.setGroup_reacts (g : W32) (x : Group) : s.Reacts (s.setGroup g x) := ⟨rfl, s.setGroup_told g x⟩

theorem State.modJob_reacts (p : Nat) (f : Job → Job) : s.Reacts (s.modJob p f) := ⟨rfl, s.modJob_told p f⟩

theorem State.tryAdmit_reacts (g : W32) : s.Reacts (s.tryAdmit g) := by
  unfold State.tryAdmit
  exact .ite (.refl s) ((s.setGroup_reacts g _).trans (State.Reacts.foldl (fun t k => (t.sendMember_tells k _).reacts) _ _))

theorem State.noteReport_reacts (seat : Nat) (g : W32) (map turns : W64) : s.Reacts (s.noteReport seat g map turns) :=
  (s.setGroup_reacts g _).trans (State.tryAdmit_reacts _ g)

theorem State.reportGroup_reacts (p : Nat) : s.Reacts (s.reportGroup p) := by
  unfold State.reportGroup
  split
  · exact .refl s
  · refine .ite (.refl s) (.ite ?_ (.ite ?_ ?_))
    · exact (s.setGroup_reacts _ _).trans (State.noteReport_reacts _ _ _ _ _)
    · exact (s.setGroup_reacts _ _).trans (State.sendMember_tells _ _ _).reacts
    · exact s.setGroup_reacts _ _

theorem State.Schedules.reacts {s t : State} (h : s.Schedules t) : s.Reacts t := by
  unfold State.Schedules at h
  rw [h]
  exact ⟨rfl, .of_same rfl rfl⟩

theorem State.decideTurn_reacts (g : W32) (turn : Nat) : s.Reacts (s.decideTurn g turn) := by
  cases complete : groupComplete (s.group g) turn with
  | false =>
    rw [s.decideTurn_waits g turn complete]
    exact .refl s
  | true =>
    obtain ⟨x, snap, -, -, scheduled⟩ := s.decideTurn_steps g turn complete
    have told := (s.setGroup g x).tellDecision_tells g turn (s.group g).map (digestsDiffer (s.group g)) snap
    exact ((s.setGroup_reacts g x).trans told.reacts).trans scheduled.reacts

theorem State.noteDurable_reacts (seat : Nat) (g : W32) (map : W64) (turn : Nat) (d : BitVec 128) : s.Reacts (s.noteDurable seat g map turn d) := by
  have counts : ∀ x, s.Reacts ((s.setGroup g x).decideTurn g turn) := fun x => (s.setGroup_reacts g x).trans (State.decideTurn_reacts _ g turn)
  unfold State.noteDurable
  dsimp only
  split
  · exact .ite (s.sendCommit_tells _ _ _).reacts (counts _)
  · exact counts _

theorem State.reportDurable_reacts (p : Nat) : s.Reacts (s.reportDurable p) := by
  unfold State.reportDurable
  split
  · exact .refl s
  · refine .ite (.refl s) (.ite ?_ ?_)
    · exact (s.modJob_reacts p _).trans (State.noteDurable_reacts _ _ _ _ _ _)
    · exact (s.modJob_reacts p _).trans (State.sendCommit_tells _ _ _ _).reacts

/-- What a new master is told leaves the map as it is (09 R249). -/
theorem State.reportAgain_reacts : s.Reacts s.reportAgain := by
  refine State.Reacts.foldl (fun t p => ?_) _ s
  split
  · exact .refl t
  · exact .ite (.refl t) (.ite (t.reportGroup_reacts p) (.ite ((t.modJob_reacts p _).trans (State.reportDurable_reacts _ p)) (.refl t)))

/-- A job that waited for a commit holds (09 R256). -/
theorem State.settleLost_manages : s.Manages s.settleLost := by
  refine State.Manages.foldl (fun t p => ?_) _ s
  split
  · exact .ite ((t.modJob_manages p _).trans (State.holdCapacity_manages _ p)) (.refl t)
  · exact .refl t

/-- Without a job that waits for a commit there is none to hold. -/
theorem State.settleLost_none (none : ∀ k j, (s.part k).job = some j → j.lost = false) : s.settleLost = s := by
  unfold State.settleLost
  induction s.sched.parts.map Prod.fst with
  | nil => rfl
  | cons p l ih =>
    rw [List.foldl_cons]
    refine (congrArg (List.foldl _ · l) ?_).trans ih
    cases job : (s.part p).job with
    | none => rfl
    | some j =>
      refine if_neg ?_
      rw [none p j job]
      exact Bool.false_ne_true

theorem State.groupsLose_attends (seat : Nat) : s.Attends (s.groupsLose seat) := by
  refine State.Attends.foldl (fun t e => ?_) _ s
  refine State.Attends.trans (t := { t with arch := { t.arch with collectives := t.arch.collectives.filter fun c => c.group != e.2 } }) rfl ?_
  exact .ite (State.modJob_manages _ _ _).attends (State.holdCapacity_manages _ _).attends

theorem State.completeDecided_manages : s.Manages s.completeDecided := by
  refine State.Manages.foldl (fun t e => ?_) _ s
  split
  · exact .refl t
  · dsimp only
    have sent : ∀ (m : W64) (g : W32) (n : CommitNote), t.Manages ((seatsOf m).foldl (fun u k =>
        if k = u.arch.seat || !u.arch.members.getLsbD k then u else u.sendCommit k g n) t) := fun m g n =>
      State.Manages.foldl (fun u k => .ite (.refl u) (u.sendCommit_notifies k g n).manages) _ t
    split
    · exact (sent _ _ _).trans (State.modJob_manages _ _ _)
    · exact sent _ _ _

end

/-! ### The member map (09 R247 to R249, R260) -/

section
variable (s : State)

theorem State.releaseResponses_reacts : s.Reacts s.releaseResponses :=
  State.Reacts.trans (t := { s with host := { s.host with delayed := s.host.delayed.filter fun d => s.arch.mirrorWait.contains d.1 } })
    ⟨rfl, .of_same rfl rfl⟩ (State.Reacts.foldl (fun t _ => ⟨(t.emit_notifies _).manages.attends, t.emit_told _⟩) _ _)

/-- The entries that go to a new holder of the mirror leave the map as it is (09 R260). -/
theorem State.remirror_reacts : s.Reacts s.remirror := by
  unfold State.remirror
  split
  · exact State.Reacts.trans (t := { s with arch := { s.arch with mirrorWait := [] } }) ⟨rfl, .of_same rfl rfl⟩ (State.releaseResponses_reacts _)
  · exact State.Reacts.foldl (fun t e => ⟨(t.sendStrait_notifies _ _ _ _ _ _ _ _ _).manages.attends, t.sendStrait_told _ _ _ _ _ _ _ _ _⟩) _ s

/-- A member map in effect, with this module's role in it. -/
def State.mapped (s : State) (state : Nat) (members : W64) (epoch : W16) (master deputy : Nat) : State := { s with arch := { s.arch with
  state := state, members := members, epoch := epoch, master := master, deputy := deputy
  role := if s.arch.seat = master then 3 else if s.arch.seat = deputy then 2 else 1, electing := false } }

theorem State.setMap_reacts (state : Nat) (members : W64) (epoch : W16) (master deputy : Nat) :
    (s.mapped state members epoch master deputy).Reacts (s.setMap state members epoch master deputy) :=
  .ite (.refl _) (State.remirror_reacts _)

theorem State.sendMap_tells (planned : Bool) : s.Tells (s.sendMap planned) := State.Tells.foldl (fun t k => t.sendMember_tells k _) _ s

theorem State.sendMap_leaves (planned : Bool) {k : Nat} (seat : k ∈ seatsOf s.arch.members) (other : k ≠ s.arch.seat) :
    .membership k (s.arch.mapNote planned) ∈ (s.sendMap planned).out :=
  State.foldl_sends (fun t k => t.sendMember_told k _) (List.mem_filter.2 ⟨seat, by simpa using other⟩) (fun t => t.sendMember_leaves k _) s

theorem State.takeoverEvent_tells (reason old : Nat) : s.Tells (s.takeoverEvent reason old) := s.event_tells _ _ _

theorem State.leftEvent_tells (reason seat : Nat) : s.Tells (s.leftEvent reason seat) := s.event_tells _ _ _

theorem State.leavers_attends (reason : Nat) (l : List Nat) : s.Attends (l.foldl (fun t k => (t.leftEvent reason k).groupsLose k) s) :=
  State.Attends.foldl (fun t k => (t.leftEvent_tells reason k).attends.trans (State.groupsLose_attends _ k)) l s

/-- Seats are gone: the map without them takes effect, and roles pass to the seats that are left (09 R248, R249, R251). -/
theorem State.seatsGone_attends {seats gone : W64} (reason : Nat) (found : s.arch.members &&& seats &&& ~~~(seatBit s.arch.seat) = gone)
    (some' : gone ≠ 0) :
    let members := s.arch.members &&& ~~~gone
    let roles := (s.arch.elect members).getD (s.arch.master, s.arch.master)
    (s.mapped s.arch.state members (s.arch.epoch + 1) roles.1 roles.2).Attends (s.seatsGone seats reason) := by
  intro members roles
  unfold State.seatsGone
  dsimp only
  rw [found, if_neg some']
  refine (State.Attends.trans ?_ (State.leavers_attends _ _ _)).trans (.ite (State.reportAgain_reacts _).attends (.refl _))
  refine State.Attends.trans ?_ (.ite (State.takeoverEvent_tells _ _ _).attends (.refl _))
  refine State.Attends.trans ?_ (.ite (State.sendMap_tells _ _).attends (.refl _))
  exact (s.setMap_reacts _ _ _ _ _).attends.trans (.ite (State.completeDecided_manages _).attends (.refl _))

/-- A module that is isolated keeps its side of the map and has no role (09 R250). -/
theorem State.isolate_attends (gone side : W64) :
    ({ s with arch := { s.arch with members := side, state := 3, role := 0 } } : State).Attends (s.isolate gone side) := by
  refine State.Attends.trans (State.Attends.trans ?_ (State.remirror_reacts _).attends)
    (State.Attends.foldl (fun t p => (t.holdCapacity_manages p).attends) _ _)
  exact State.Attends.foldl (fun t k => (t.leftEvent_tells 1 k).attends) _ _

/-- The master's map takes effect at a member (09 R247). -/
theorem State.mapNotice_attends {members : W64} (mine : members.getLsbD s.arch.seat = true) (epoch : W16) (master deputy : Nat) (planned : Bool) :
    (s.mapped (if s.arch.state = 1 ∧ !s.start.ready then 1 else 2) members epoch master deputy).Attends
      (s.mapNotice members epoch master deputy planned) := by
  unfold State.mapNotice
  dsimp only
  rw [if_neg (c := (!members.getLsbD s.arch.seat) = true) (by rw [mine]; exact Bool.false_ne_true)]
  refine State.Attends.trans (s.setMap_reacts _ _ _ _ _).attends (.ite (State.reportAgain_reacts _).attends ?_)
  refine State.Attends.trans (State.Attends.trans ?_ (State.leavers_attends _ _ _)) (.ite (.refl _) (State.reportAgain_reacts _).attends)
  exact .ite (.refl _) (State.takeoverEvent_tells _ _ _).attends

end

end Sys2Proof.Machine

/-! SUPPORT. Membership, elections, losses, time and pace of an archipelago (09 R247 to R254), and their obligation. -/

namespace Sys2Proof.Machine

/-! ### Seats of a map -/

theorem seatBit_getLsbD (k : Nat) {i : Nat} (h : i < 64) : (seatBit k).getLsbD i = decide (k = i) := by
  rw [seatBit, BitVec.getLsbD_ofNat, Nat.testBit_two_pow, decide_eq_true h, Bool.true_and]

section
variable {members : W64} {seat own : Nat} (present : members.getLsbD seat = true) (other : seat ≠ own)
include present other

/-- A present seat that is named is gone, where it is not the own one. -/
theorem gone_ne_zero {seats : W64} (named : seats.getLsbD seat = true) : members &&& seats &&& ~~~(seatBit own) ≠ 0 := by
  have inside : seat < 64 := BitVec.lt_of_getLsbD present
  intro zero
  have lost := congrArg (BitVec.getLsbD · seat) zero
  simp [BitVec.getLsbD_and, BitVec.getLsbD_not, -BitVec.getLsbD_eq_getElem, present, named, seatBit_getLsbD own inside, inside, other.symm] at lost

omit present in
/-- The map without a seat that leaves. -/
theorem members_without : members &&& ~~~(members &&& seatBit seat &&& ~~~(seatBit own)) = members &&& ~~~(seatBit seat) := by
  refine BitVec.eq_of_getLsbD_eq fun i hi => ?_
  simp only [BitVec.getLsbD_and, BitVec.getLsbD_not, seatBit_getLsbD _ hi, hi, decide_true, Bool.true_and]
  by_cases leaver : seat = i
  · have stays : own ≠ i := fun h => other (leaver.trans h.symm)
    simp [leaver, stays]
  · simp [leaver]

end

/-- Lost seats are present and not the own one. -/
theorem lost_again (members lost : W64) (own : Nat) :
    members &&& (lost &&& members &&& ~~~(seatBit own)) &&& ~~~(seatBit own) = lost &&& members &&& ~~~(seatBit own) := by
  refine BitVec.eq_of_getLsbD_eq fun i _ => ?_
  simp only [BitVec.getLsbD_and]
  cases members.getLsbD i <;> simp

/-! ### What a notice finds, and what it leaves -/

section
variable {s t u : State} (received : s.Receives u)
include received

theorem State.Receives.stays : u.mem = s.mem ∧ u.nv = s.nv := ⟨by rw [received.frame], by rw [received.frame]⟩

theorem State.Receives.elect (members : W64) : u.arch.elect members = s.arch.elect members := by
  rw [received.frame]
  rfl

theorem State.Receives.decides (side : W64) : u.arch.decides side = s.arch.decides side := by
  rw [received.frame]
  rfl

theorem State.Receives.map : u.arch.state = s.arch.state ∧ u.arch.members = s.arch.members ∧ u.arch.epoch = s.arch.epoch ∧
    u.arch.master = s.arch.master ∧ u.arch.deputy = s.arch.deputy := by
  rw [received.frame]
  exact ⟨rfl, rfl, rfl, rfl, rfl⟩

theorem State.Receives.mapped {state master deputy : Nat} {members : W64} {epoch : W16}
    (attends : (u.mapped state members epoch master deputy).Attends t) : t.mem = s.mem ∧ t.nv = s.nv :=
  ⟨attends.stays.1.trans received.stays.1, attends.stays.2.trans received.stays.2⟩

theorem State.Receives.attended (attends : u.Attends t) : t.mem = s.mem ∧ t.nv = s.nv :=
  ⟨attends.stays.1.trans received.stays.1, attends.stays.2.trans received.stays.2⟩

end

/-- Every other member is sent the map that has taken effect. -/
theorem State.setMap_sends {s t : State} {state master deputy : Nat} {members : W64} {epoch : W16} {planned : Bool}
    (sent : ((s.setMap state members epoch master deputy).sendMap planned).Reacts t) {k : Nat} (seat : k ∈ seatsOf members) (other : k ≠ s.arch.seat) :
    .membership k (t.arch.mapNote planned) ∈ t.out := by
  have takes := (s.setMap_reacts state members epoch master deputy).attends
  have same : (s.setMap state members epoch master deputy).arch.members = members ∧
      (s.setMap state members epoch master deputy).arch.seat = s.arch.seat := by
    rw [takes]
    exact ⟨rfl, rfl⟩
  rw [((State.sendMap_tells _ planned).attends.trans sent.attends).mapNote]
  refine sent.told.mem (State.sendMap_leaves _ planned ?_ ?_)
  · rwa [same.1]
  · rwa [same.2]

/-! ### Joining, following and leaving (09 R247, R248, R251) -/

section
variable {s : State} {seat : Nat}

/-- The master takes a new seat into the map, and the election, and sends the map. -/
theorem State.joinNotice_tells (member : s.arch.state = 2) (master : s.arch.role = 3) (new : s.arch.members.getLsbD seat = false) :
    let members := s.arch.members ||| seatBit seat
    let roles := (s.arch.elect members).getD (s.arch.master, s.arch.deputy)
    ((s.setMap s.arch.state members (s.arch.epoch + 1) roles.1 roles.2).sendMap false).Tells (s.joinNotice seat) := by
  intro members roles
  unfold State.joinNotice
  dsimp only
  rw [if_neg (by omega), if_neg (by omega), if_neg (by rw [new]; exact Bool.false_ne_true)]
  exact .ite ((State.sendMember_tells _ _ _).trans (State.takeoverEvent_tells _ _ _)) (.refl _)

end

section
variable {s : State} {e : EngineId} {p : StraitPkt}

theorem membership_map (m : W64) (ep : W16) (ma de : Fin 64) (planned : Bool) : membership e p (.map m ep ma de planned) s =
    s.straitTake e p 0x04 fun t => t.mapNotice m ep ma.val de.val planned := by
  unfold membership
  exact if_neg Bool.false_ne_true

theorem membership_leave (seat : Fin 64) : membership e p (.leave seat) s = s.straitTake e p 0x04 fun t =>
    if t.arch.decides (t.arch.members &&& ~~~(seatBit seat.val)) then t.seatsGone (seatBit seat.val) 0 else t := by
  unfold membership
  exact if_neg Bool.false_ne_true

end

section
variable {s : State} {e : EngineId} {p : StraitPkt} (up : s.arch.topology ≠ 0) (serves : (s.engine e.val).state = 2)
  (mine : p.destSeat.toNat = s.arch.seat) (fresh : ((s.straitArrive e.val p).straitFresh p).2 = true)
include up serves mine fresh

/-- The master takes a joining seat and tells every member (09 R247 step 4). -/
theorem completes_join (same : p.typ.toNat = 0x04) {seat : Nat} (bound : seat < 64) (member : s.arch.state = 2) (master : s.arch.role = 3)
    (new : s.arch.members.getLsbD seat = false) :
    let members := s.arch.members ||| seatBit seat
    Completes (.membership e p (.join ⟨seat, bound⟩)) s fun t => (t.mem = s.mem ∧ t.nv = s.nv) ∧ t.arch.members = members ∧
      t.arch.epoch = s.arch.epoch + 1 ∧ (t.arch.master, t.arch.deputy) = (s.arch.elect members).getD (s.arch.master, s.arch.deputy) ∧
      ∀ k ∈ seatsOf members, k ≠ s.arch.seat → .membership k (t.arch.mapNote false) ∈ t.out := by
  intro members
  refine completes_straitTake (f := fun t => t.joinNotice seat) (congrArg _ (membership_join ⟨seat, bound⟩)) up serves same mine fresh
    fun u t received left => ?_
  obtain ⟨states, memberships, epochs, masters, deputies⟩ := received.map
  have joins := u.joinNotice_tells (seat := seat) (states.trans member) (received.role.trans master) (by rw [memberships, new])
  simp only [states, memberships, epochs, masters, deputies, received.elect] at joins
  generalize roled : (s.arch.elect (s.arch.members ||| seatBit seat)).getD (s.arch.master, s.arch.deputy) = roles at joins ⊢
  have takes := ((u.setMap_reacts s.arch.state members (s.arch.epoch + 1) roles.1 roles.2).attends.trans (State.sendMap_tells _ false).attends).trans
    (joins.attends.trans left.tells.attends)
  obtain ⟨-, membersNow, epochNow, masterNow, deputyNow, -⟩ := takes.map
  exact ⟨received.mapped takes, membersNow, epochNow, by rw [masterNow, deputyNow]; rfl, fun k listed other =>
    State.setMap_sends (joins.trans left.tells).reacts listed (received.seat ▸ other)⟩

/-- A member follows the master's map (09 R247). -/
theorem completes_map (same : p.typ.toNat = 0x04) {m : W64} (member : m.getLsbD s.arch.seat = true) (ep : W16) (ma de : Fin 64) (planned : Bool) :
    Completes (.membership e p (.map m ep ma de planned)) s fun t => (t.mem = s.mem ∧ t.nv = s.nv) ∧
      t.arch.state = (if s.arch.state = 1 ∧ s.start.ready = false then 1 else 2) ∧ t.arch.members = m ∧ t.arch.epoch = ep ∧
      t.arch.master = ma.val ∧ t.arch.deputy = de.val ∧
      t.arch.role = (if s.arch.seat = ma.val then 3 else if s.arch.seat = de.val then 2 else 1) := by
  refine completes_straitTake (f := fun t => t.mapNotice m ep ma.val de.val planned) (congrArg _ (membership_map m ep ma de planned)) up serves same
    mine fresh fun u t received left => ?_
  have takes := (u.mapNotice_attends (by rwa [received.seat]) ep ma.val de.val planned).trans left.tells.attends
  obtain ⟨stateNow, membersNow, epochNow, masterNow, deputyNow, roleNow⟩ := takes.map
  have started : u.start.ready = s.start.ready := by rw [received.frame]
  refine ⟨received.mapped takes, stateNow.trans ?_, membersNow, epochNow, masterNow, deputyNow, roleNow.trans ?_⟩
  · unfold State.mapped
    dsimp only
    simp only [received.map.1, started, Bool.not_eq_true']
  · unfold State.mapped
    dsimp only
    rw [received.seat]

/-- A seat that leaves as planned is taken out of the map by the one that decides (09 R251). -/
theorem completes_leave (same : p.typ.toNat = 0x04) {seat : Nat} (bound : seat < 64) (member : s.arch.members.getLsbD seat = true)
    (other : seat ≠ s.arch.seat) (decides : s.arch.decides (s.arch.members &&& ~~~(seatBit seat)) = true) :
    Completes (.membership e p (.leave ⟨seat, bound⟩)) s fun t => (t.mem = s.mem ∧ t.nv = s.nv) ∧ t.arch.epoch = s.arch.epoch + 1 ∧
      t.arch.members = s.arch.members &&& ~~~(seatBit seat) := by
  refine completes_straitTake (f := fun t => if t.arch.decides (t.arch.members &&& ~~~(seatBit seat)) then t.seatsGone (seatBit seat) 0 else t)
    (congrArg _ (membership_leave ⟨seat, bound⟩)) up serves same mine fresh fun u t received left => ?_
  obtain ⟨-, memberships, epochs, -, -⟩ := received.map
  rw [if_pos (by rw [received.decides, memberships, decides])] at left
  have named : (seatBit seat).getLsbD seat = true := by rw [seatBit_getLsbD seat bound, decide_eq_true rfl]
  have gone : u.arch.members &&& seatBit seat &&& ~~~(seatBit u.arch.seat) ≠ 0 :=
    gone_ne_zero (by rwa [memberships]) (by rwa [received.seat]) named
  have takes := (u.seatsGone_attends 0 rfl gone).trans left.tells.attends
  obtain ⟨-, membersNow, epochNow, -⟩ := takes.map
  refine ⟨received.mapped takes, epochNow.trans (congrArg (· + 1) epochs), membersNow.trans ?_⟩
  refine Eq.trans (members_without ?_) (by rw [memberships])
  rwa [received.seat]

end

end Sys2Proof.Machine

/-! SUPPORT. Elections, losses, time and pace (09 R247 to R250, R252, R254). -/

namespace Sys2Proof.Machine

section
variable {s : State}

/-! ### Elections (09 R247, R248) -/

theorem joinElectionTimeout_won {d : Nat} (waits : s.arch.state = 1) (won : s.arch.elect (s.arch.members ||| seatBit s.arch.seat) = some (s.arch.seat, d)) :
    joinElectionTimeout s = ((s.setMap (if s.start.ready then 2 else 1) (s.arch.members ||| seatBit s.arch.seat) (s.arch.epoch + 1) s.arch.seat
      d).sendMap false).reportAgain := by
  unfold joinElectionTimeout
  dsimp only
  rw [if_neg (not_not.2 waits), won]
  exact if_pos rfl

theorem joinElectionTimeout_lost (waits : s.arch.state = 1)
    (lost : ∀ d, s.arch.elect (s.arch.members ||| seatBit s.arch.seat) ≠ some (s.arch.seat, d)) :
    joinElectionTimeout s = { s with arch := { s.arch with members := s.arch.members ||| seatBit s.arch.seat, electing := true } } := by
  unfold joinElectionTimeout
  dsimp only
  rw [if_neg (not_not.2 waits)]
  split
  next m d elected =>
    refine if_neg fun own => lost d ?_
    rw [elected, own]
  · rfl

theorem joinElectionTimeout_attends {d : Nat} (waits : s.arch.state = 1)
    (won : s.arch.elect (s.arch.members ||| seatBit s.arch.seat) = some (s.arch.seat, d)) :
    (s.mapped (if s.start.ready then 2 else 1) (s.arch.members ||| seatBit s.arch.seat) (s.arch.epoch + 1) s.arch.seat d).Attends
      (joinElectionTimeout s) := by
  rw [joinElectionTimeout_won waits won]
  exact ((s.setMap_reacts _ _ _ _ _).attends.trans (State.sendMap_tells _ _).attends).trans (State.reportAgain_reacts _).attends

/-! ### Losses (09 R249, R250) -/

/-- The map against which a loss is judged: that of the first of the losses within 50 ms (09 R250). -/
def State.lossJudged (s : State) : State := { s with arch :=
  if (s.arch.lossFrom.map fun t => decide (s.timeBase.toNat - t < 50000000)).getD false then s.arch else { s.arch with
    prevMembers := s.arch.members, prevMaster := s.arch.master, prevDeputy := s.arch.deputy, lossFrom := some s.timeBase.toNat } }

theorem State.lossJudged_map (s : State) : s.lossJudged.arch.members = s.arch.members ∧ s.lossJudged.arch.seat = s.arch.seat ∧
    s.lossJudged.arch.state = s.arch.state ∧ s.lossJudged.arch.epoch = s.arch.epoch := by
  unfold State.lossJudged
  dsimp only
  split
  · exact ⟨rfl, rfl, rfl, rfl⟩
  · exact ⟨rfl, rfl, rfl, rfl⟩

theorem State.lossJudged_decides (s : State) (side : W64) : s.lossJudged.arch.decides side = s.arch.decides side := by
  unfold State.lossJudged
  dsimp only
  split <;> rfl

/-- Seats that are lost with one not heard: those not heard that are present, but the own one. -/
def State.lostSeats (s : State) (seat : Nat) (unheard : W64) : W64 := (unheard ||| seatBit seat) &&& s.arch.members &&& ~~~(seatBit s.arch.seat)

section
variable {seat : Nat} (unheard : W64) (member : s.arch.state = 2) (present : s.arch.members.getLsbD seat = true) (other : seat ≠ s.arch.seat)
include member present other

/-- The side that is left goes on or is isolated, and the one that decides takes the lost seats out of the map. -/
theorem memberLossTimeout_judges : memberLossTimeout seat unheard s =
    let a := s.lossJudged.arch
    let side := s.arch.members &&& ~~~(s.lostSeats seat unheard)
    if goesOn a.prevMembers side a.prevMaster a.prevDeputy = false then s.lossJudged.isolate (s.lostSeats seat unheard) side
    else if s.arch.decides side then s.lossJudged.seatsGone (s.lostSeats seat unheard) 1 else s.lossJudged := by
  obtain ⟨memberships, seats, -⟩ := s.lossJudged_map
  have heard : ¬(s.arch.state ≠ 2 ∨ (!s.arch.members.getLsbD seat) = true ∨ seat = s.arch.seat) := by simp [member, present, other]
  have judged : memberLossTimeout seat unheard s = (fun j : State =>
      let side := j.arch.members &&& ~~~(j.lostSeats seat unheard)
      if !goesOn j.arch.prevMembers side j.arch.prevMaster j.arch.prevDeputy then j.isolate (j.lostSeats seat unheard) side
      else if j.arch.decides side then j.seatsGone (j.lostSeats seat unheard) 1 else j) s.lossJudged := if_neg heard
  have lost : s.lossJudged.lostSeats seat unheard = s.lostSeats seat unheard := by
    rw [State.lostSeats, memberships, seats, State.lostSeats]
  rw [judged]
  simp only [memberships, lost, s.lossJudged_decides, Bool.not_eq_true']

/-- A side that may not go on is isolated. -/
theorem memberLossTimeout_isolates (divided : goesOn s.lossJudged.arch.prevMembers (s.arch.members &&& ~~~(s.lostSeats seat unheard))
      s.lossJudged.arch.prevMaster s.lossJudged.arch.prevDeputy = false) :
    let t := memberLossTimeout seat unheard s
    (t.mem = s.mem ∧ t.nv = s.nv) ∧ t.arch.members = s.arch.members &&& ~~~(s.lostSeats seat unheard) ∧ t.arch.state = 3 ∧ t.arch.role = 0 ∧
      t.arch.epoch = s.arch.epoch := by
  rw [memberLossTimeout_judges unheard member present other]
  dsimp only
  rw [if_pos divided]
  have isolated := s.lossJudged.isolate_attends (s.lostSeats seat unheard) (s.arch.members &&& ~~~(s.lostSeats seat unheard))
  obtain ⟨stateNow, membersNow, epochNow, -, -, roleNow⟩ := isolated.map
  exact ⟨isolated.stays, membersNow, stateNow, roleNow, epochNow.trans s.lossJudged_map.2.2.2⟩

section
variable (goes : goesOn s.lossJudged.arch.prevMembers (s.arch.members &&& ~~~(s.lostSeats seat unheard))
      s.lossJudged.arch.prevMaster s.lossJudged.arch.prevDeputy = true)
include goes

/-- Where the side goes on, the one that decides raises the epoch with a map without the lost seats. -/
theorem memberLossTimeout_decides (decides : s.arch.decides (s.arch.members &&& ~~~(s.lostSeats seat unheard)) = true) :
    let t := memberLossTimeout seat unheard s
    (t.mem = s.mem ∧ t.nv = s.nv) ∧ t.arch.members = s.arch.members &&& ~~~(s.lostSeats seat unheard) ∧ t.arch.state = 2 ∧
      t.arch.epoch = s.arch.epoch + 1 := by
  obtain ⟨memberships, seats, states, epochs⟩ := s.lossJudged_map
  rw [memberLossTimeout_judges unheard member present other]
  dsimp only
  rw [if_neg (by rw [goes]; exact Bool.noConfusion), if_pos decides]
  have named : (unheard ||| seatBit seat).getLsbD seat = true := getLsbD_or_bit (BitVec.lt_of_getLsbD present) unheard
  have gone : s.lostSeats seat unheard ≠ 0 := fun zero => gone_ne_zero present other named (by
    rw [BitVec.and_comm s.arch.members]
    exact zero)
  have found : s.lossJudged.arch.members &&& s.lostSeats seat unheard &&& ~~~(seatBit s.lossJudged.arch.seat) = s.lostSeats seat unheard := by
    rw [memberships, seats]
    exact lost_again _ _ _
  have takes := s.lossJudged.seatsGone_attends 1 found gone
  obtain ⟨stateNow, membersNow, epochNow, -⟩ := takes.map
  exact ⟨takes.stays, membersNow.trans (congrArg (· &&& _) memberships), stateNow.trans (states.trans member), epochNow.trans (congrArg (· + 1) epochs)⟩

/-- Another member waits for the map of the one that decides. -/
theorem memberLossTimeout_waits (decides : s.arch.decides (s.arch.members &&& ~~~(s.lostSeats seat unheard)) = false) :
    memberLossTimeout seat unheard s = s.lossJudged := by
  rw [memberLossTimeout_judges unheard member present other]
  dsimp only
  rw [if_neg (by rw [goes]; exact Bool.noConfusion), if_neg (by rw [decides]; exact Bool.false_ne_true)]

end

end

/-! ### Time (09 R252) -/

/-- Messages to every other seat leave, and what one member is sent has left at the end. -/
theorem paceTimeTick_sends (master : s.arch.role = 3) : s.Manages (paceTimeTick s) ∧ ∀ k ∈ s.otherSeats,
    .paceTime k s.timeBase (s.arch.groups.filterMap fun e => e.2.setPoint.map fun x => (BitVec.ofNat 32 e.1, BitVec.ofNat 16 x)) ∈ (paceTimeTick s).out := by
  have sent : ∀ (t : State) k sets, t.Tells
      ((t.sendStrait Attached.firmwarePairs.node 0x05 true k 0 0 0 0 []).emit (.paceTime k s.timeBase sets)) := fun t k sets =>
    ⟨(t.sendStrait_notifies _ _ _ _ _ _ _ _ _).trans (State.emit_notifies _ _), (t.sendStrait_told _ _ _ _ _ _ _ _ _).trans (State.emit_told _ _)⟩
  unfold paceTimeTick
  rw [if_neg (not_not.2 master)]
  exact ⟨s.settleLost_manages.trans (State.Tells.foldl (fun t k => sent t k _) _ _).notifies.manages, fun k listed =>
    State.foldl_sends (fun t k => (sent t k _).told) listed (fun t => State.mem_out_emit _ _) _⟩

section
variable {e : EngineId} {p : StraitPkt} (up : s.arch.topology ≠ 0) (serves : (s.engine e.val).state = 2)
  (mine : p.destSeat.toNat = s.arch.seat) (fresh : ((s.straitArrive e.val p).straitFresh p).2 = true)
include up serves mine fresh

/-- The offset that a member finds in the master's message (09 R252, log 24). -/
def State.paceOffset (s : State) (e : Nat) (mt hops : W64) : W64 := (s.timeBase - mt) * 10 - (BitVec.ofNat 64 (s.engine e).delay + hops)

/-- The set points of a message from the master. -/
def State.takeSetPoints (s : State) (sets : List (W32 × W16)) : State :=
  sets.foldl (fun u r => if (u.groupPart r.1).isSome then u.setGroup r.1 { u.group r.1 with setPoint := some r.2.toNat } else u) s

/-- A member steers to its master's time and takes the set points. -/
theorem completes_paceTime (same : p.typ.toNat = 0x05) (fromMaster : p.srcSeat.toNat = s.arch.master) (mt hops : W64) (sets : List (W32 × W16))
    {P : State → Prop} (acts : ∀ u t, s.Receives u → ((u.settleLost.steer (s.paceOffset e.val mt hops)).takeSetPoints sets).Leaves t → P t) :
    Completes (.paceTime e p mt hops sets) s P := by
  refine completes_straitTake (f := fun t => if p.srcSeat.toNat ≠ t.arch.master then t
      else (t.settleLost.steer (t.paceOffset e.val mt hops)).takeSetPoints sets) rfl up serves same mine fresh fun u t received left => ?_
  have offset : u.paceOffset e.val mt hops = s.paceOffset e.val mt hops := by
    rw [State.paceOffset, received.delay, State.paceOffset, show u.timeBase = s.timeBase by rw [received.frame]]
  rw [if_neg (not_not.2 (fromMaster.trans received.map.2.2.2.1.symm)), offset] at left
  exact acts u t received left

/-- A member steers by at most 200 ns a message. -/
theorem completes_steer (same : p.typ.toNat = 0x05) (fromMaster : p.srcSeat.toNat = s.arch.master) (mt hops : W64) :
    let off := s.paceOffset e.val mt hops
    Completes (.paceTime e p mt hops []) s fun t => (t.mem = s.mem ∧ t.nv = s.nv) ∧ t.arch.timeOffset = off ∧
      t.timeBase = s.timeBase + BitVec.ofNat 64 (min 200 (if off.toInt < 0 then (-off.toInt).toNat / 10 else 0)) ∧
      t.arch.slew = min 200 (if off.toInt < 0 then 0 else off.toNat / 10) := by
  intro off
  refine completes_paceTime up serves mine fresh same fromMaster mt hops [] fun u t received left => ?_
  have settled := received.attended u.settleLost_manages.attends
  have time : u.settleLost.timeBase = s.timeBase := by rw [u.settleLost_manages, received.frame]
  have sent : (u.settleLost.steer off).Attends t := left.tells.attends
  have steered : t.timeBase = (u.settleLost.steer off).timeBase ∧ t.arch.timeOffset = off ∧ t.arch.slew = (u.settleLost.steer off).arch.slew := by
    rw [sent]
    exact ⟨rfl, rfl, rfl⟩
  refine ⟨⟨sent.stays.1.trans settled.1, sent.stays.2.trans settled.2⟩, steered.2.1, steered.1.trans ?_, steered.2.2⟩
  exact congrArg (· + _) time

/-- A member takes the set point of a group that has a job here. -/
theorem completes_setPoint (same : p.typ.toNat = 0x05) (fromMaster : p.srcSeat.toNat = s.arch.master) (mt hops : W64) {g : W32} (v : W16)
    (home : (s.groupPart g).isSome = true) (none : ∀ k j, (s.part k).job = some j → j.lost = false) :
    Completes (.paceTime e p mt hops [(g, v)]) s fun t => (t.mem = s.mem ∧ t.nv = s.nv) ∧
      t.group g = { s.group g with setPoint := some v.toNat } := by
  refine completes_paceTime up serves mine fresh same fromMaster mt hops [(g, v)] fun u t received left => ?_
  rw [u.settleLost_none fun k j job => none k j (by rwa [← received.part])] at left
  have here : ((u.steer (s.paceOffset e.val mt hops)).groupPart g).isSome = true := by
    rwa [State.groupPart_of_sched (s := s)]
    exact received.sched
  have taken : (u.steer (s.paceOffset e.val mt hops)).takeSetPoints [(g, v)] =
      (u.steer (s.paceOffset e.val mt hops)).setGroup g { u.group g with setPoint := some v.toNat } := if_pos here
  rw [taken, received.group] at left
  have stays := left.tells.attends.stays
  exact ⟨⟨stays.1.trans received.stays.1, stays.2.trans received.stays.2⟩, left.group_setGroup⟩

end

end

/-! ### Pace (09 R254) -/

theorem SMap.mem_of_get? {α : Type} {m : SMap α} {k : Nat} {v : α} (found : SMap.get? m k = some v) : (k, v) ∈ m := by
  induction m with
  | nil => cases found
  | cons q m ih =>
    rw [SMap.get?_cons] at found
    split at found
    next here =>
      rw [← here, ← Option.some.inj found]
      exact List.mem_cons_self
    · exact List.mem_cons_of_mem _ (ih found)

/-- The lowest of some values is at most each of them, and one of them or the first. -/
theorem foldl_min_lowest (l : SMap Nat) (m : Nat) : (∀ q ∈ l, l.foldl (fun m f => min m f.2) m ≤ q.2) ∧ l.foldl (fun m f => min m f.2) m ≤ m ∧
    (l.foldl (fun m f => min m f.2) m = m ∨ ∃ q ∈ l, l.foldl (fun m f => min m f.2) m = q.2) := by
  induction l generalizing m with
  | nil => exact ⟨fun _ h => (List.not_mem_nil h).elim, le_rfl, .inl rfl⟩
  | cons a l ih =>
    obtain ⟨each, first, one⟩ := ih (min m a.2)
    rw [List.foldl_cons]
    refine ⟨fun q listed => ?_, first.trans (min_le_left _ _), ?_⟩
    · rcases List.mem_cons.1 listed with rfl | listed
      · exact first.trans (min_le_right _ _)
      · exact each q listed
    · rcases one with one | ⟨q, listed, one⟩
      · rcases min_choice m a.2 with low | low
        · exact .inl (one.trans low)
        · exact .inr ⟨a, List.mem_cons_self, one.trans low⟩
      · exact .inr ⟨q, List.mem_cons_of_mem _ listed, one⟩

/-- The lowest pace of a group with a member's report in its table. -/
def lowestPace (table : SMap Nat) (pace : Nat) : Nat := table.foldl (fun m f => min m f.2) pace

/-- Every member of a group's map has reported its pace. -/
def allReported (map : W64) (table : SMap Nat) : Bool := !(seatsOf map).isEmpty && (seatsOf map).all fun k => (SMap.get? table k).isSome

/-- The set point after a report: the lowest pace once all have reported, and until then it only falls (09 R254, R265). -/
def paceSetPoint (x : Group) (table : SMap Nat) (pace : Nat) : Nat :=
  if allReported x.map table then lowestPace table pace else min (lowestPace table pace) (x.setPoint.getD (lowestPace table pace))

theorem State.notePace_eq (s : State) (seat : Nat) (g : W32) (pace : Nat) : s.notePace seat g pace = s.setGroup g { s.group g with
    pace := SMap.put (s.group g).pace seat pace, setPoint := some (paceSetPoint (s.group g) (SMap.put (s.group g).pace seat pace) pace) } := rfl

theorem paceSetPoint_lowest (x : Group) (seat pace : Nat) :
    let table := SMap.put x.pace seat pace
    let v := paceSetPoint x table pace
    ∃ low, (∀ q ∈ table, low ≤ q.2) ∧ (∃ q ∈ table, low = q.2) ∧ v ≤ low ∧ (v = low ∨ x.setPoint = some v) ∧
      (seatsOf x.map ≠ [] → (∀ k ∈ seatsOf x.map, (SMap.get? table k).isSome = true) → v = low) := by
  intro table v
  obtain ⟨each, -, one⟩ := foldl_min_lowest table pace
  have listed : (seat, pace) ∈ table := SMap.mem_of_get? (SMap.get?_put_same _ _ _)
  have value : v = if allReported x.map table then lowestPace table pace else min (lowestPace table pace) (x.setPoint.getD (lowestPace table pace)) := rfl
  refine ⟨lowestPace table pace, each, one.elim (fun first => ⟨_, listed, first⟩) id, ?_, ?_, fun some' reported => ?_⟩
  · rw [value]
    split
    · exact le_rfl
    · exact min_le_left _ _
  · rw [value]
    split
    · exact .inl rfl
    · cases x.setPoint with
      | none => exact .inl (min_self _)
      | some w =>
        rcases min_choice (lowestPace table pace) w with low | low
        · exact .inl low
        · exact .inr (congrArg some low.symm)
  · have all : allReported x.map table = true := by
      rw [allReported, Bool.and_eq_true, List.all_eq_true]
      exact ⟨by simpa using some', reported⟩
    rw [value, if_pos all]

/-- A member reports each of its groups' pace to the master. -/
theorem paceReportTick_sends {s : State} (member : s.arch.state = 2) (follows : s.arch.role ≠ 3) : s.Manages (paceReportTick s) ∧
    .paceReport s.arch.master (s.homeGroups.map fun e => (e.1, BitVec.ofNat 16 (s.sustained e.2))) ∈ (paceReportTick s).out := by
  have noted : ∀ rs : List (W32 × Nat), s.Manages (rs.foldl (fun t r => t.setGroup r.1 { t.group r.1 with lastReport := r.2 }) s) := fun rs =>
    State.Manages.foldl (fun t r => t.setGroup_manages r.1 _) rs s
  unfold paceReportTick
  dsimp only
  rw [if_neg (not_not.2 member), if_neg follows, List.map_map]
  exact ⟨(noted _).trans ((State.sendStrait_notifies _ _ _ _ _ _ _ _ _ _).trans (State.emit_notifies _ _)).manages, State.mem_out_emit _ _⟩

section
variable {s : State} {e : EngineId} {p : StraitPkt} (up : s.arch.topology ≠ 0) (serves : (s.engine e.val).state = 2)
  (mine : p.destSeat.toNat = s.arch.seat) (fresh : ((s.straitArrive e.val p).straitFresh p).2 = true)
include up serves mine fresh

/-- A report at the master. -/
theorem completes_paceReport (same : p.typ.toNat = 0x06) (master : s.arch.role = 3) (g : W32) (pace : W16) :
    Completes (.paceReport e p [(g, pace)]) s fun t => (t.mem = s.mem ∧ t.nv = s.nv) ∧
      (t.group g).pace = SMap.put (s.group g).pace p.srcSeat.toNat pace.toNat ∧
      (t.group g).setPoint = some (paceSetPoint (s.group g) (SMap.put (s.group g).pace p.srcSeat.toNat pace.toNat) pace.toNat) := by
  refine completes_straitTake (f := fun t => if t.arch.role = 3 then t.notePace p.srcSeat.toNat g pace.toNat else t) rfl up serves same mine fresh
    fun u t received left => ?_
  rw [if_pos (received.role.trans master), State.notePace_eq, received.group] at left
  have stays := left.tells.attends.stays
  rw [left.group_setGroup]
  exact ⟨⟨stays.1.trans received.stays.1, stays.2.trans received.stays.2⟩, rfl, rfl⟩

end

/-! ### The obligation -/

/-- Settles O38. Each notice and tick is what its own lemma says: a map takes effect (`State.mapped`) and what follows it leaves the map,
memory and the registers that survive (`State.Attends`). -/
theorem membershipTimeAndPace : Obligations.MembershipTimeAndPace := by
  unfold Obligations.MembershipTimeAndPace
  intro s still own
  refine ⟨fun e p up serves mine fresh => ⟨fun same => ⟨fun seat member master new => ?_, fun m ep ma de planned member => ?_,
    fun seat member other decides => ?_⟩, fun mt hops same fromMaster => ⟨?_, fun g v home none => ?_⟩, fun g pace same master => ?_⟩,
    fun waits => ⟨fun d won => ?_, fun lost => ?_⟩, fun seat unheard member present other => ⟨fun divided => ?_, fun goes decides => ?_,
    fun goes decides => ?_⟩, fun member follows => ?_, fun master => ?_⟩
  · exact completes_join up serves mine fresh same seat.isLt member master new
  · exact completes_map up serves mine fresh same member ep ma de planned
  · exact completes_leave up serves mine fresh same seat.isLt member other decides
  · exact completes_steer up serves mine fresh same fromMaster mt hops
  · exact completes_setPoint up serves mine fresh same fromMaster mt hops v home none
  · obtain ⟨t, completed, stays, table, point⟩ := completes_paceReport up serves mine fresh same master g pace
    obtain ⟨low, lowest⟩ := paceSetPoint_lowest (s.group g) p.srcSeat.toNat pace.toNat
    refine ⟨t, completed, stays, table, low, _, point, ?_⟩
    rw [table]
    exact lowest
  · have takes := joinElectionTimeout_attends waits won
    obtain ⟨stateNow, membersNow, epochNow, masterNow, deputyNow, roleNow⟩ := takes.map
    exact ⟨_, rfl, takes.stays, membersNow, masterNow, deputyNow, roleNow.trans (if_pos rfl), epochNow, stateNow⟩
  · exact congrArg _ (joinElectionTimeout_lost waits lost)
  · exact ⟨_, rfl, memberLossTimeout_isolates unheard member present other divided⟩
  · exact ⟨_, rfl, memberLossTimeout_decides unheard member present other goes decides⟩
  · exact congrArg _ (memberLossTimeout_waits unheard member present other goes decides)
  · obtain ⟨manages, sends⟩ := paceReportTick_sends member follows
    exact ⟨_, rfl, manages.attends.stays, sends⟩
  · obtain ⟨manages, sends⟩ := paceTimeTick_sends master
    exact ⟨_, rfl, manages.attends.stays, sends⟩

end Sys2Proof.Machine

/-! SUPPORT. Stages 5 to 7 of a start (09 R247, R252, 11 R301, R303, 14 R409): host links, the join and ready, and their obligation. -/

namespace Sys2Proof.Machine

/-! ### Stages 5 and 6 (11 R301, R303) -/

section
variable {s : State}

theorem State.trainEngines_keeps (s : State) : s.trainEngines.start = s.start ∧ s.trainEngines.host = s.host ∧
    s.trainEngines.arch.state = s.arch.state := by
  unfold State.trainEngines
  refine foldl_related (R := fun a b : State => b.start = a.start ∧ b.host = a.host ∧ b.arch.state = a.arch.state) (fun _ => ⟨rfl, rfl, rfl⟩)
    (fun h k => ⟨k.1.trans h.1, k.2.1.trans h.2.1, k.2.2.trans h.2.2⟩) (fun _ _ t => ?_) s
  split
  · exact ⟨rfl, rfl, rfl⟩
  · exact ⟨rfl, rfl, rfl⟩

/-- A stage that ends keeps the archipelago and the hosts. -/
theorem State.endStage_keeps (s : State) (e : StageEnd) : (s.endStage e).arch = s.arch ∧ (s.endStage e).host = s.host ∧
    (s.endStage e).timeBase = s.timeBase := by
  rw [s.endStage_onlyStart e]
  exact ⟨rfl, rfl, rfl⟩

/-- After stage 5 the join begins, or without an archipelago stage 6 ends as well. -/
theorem State.endStage5_ends (stage : s.start.stage = 5) (lanes : Nat) : (s.endStage5 lanes).host = s.host ∧
    if s.arch.topology = 0 then (s.endStage5 lanes).start.stage = 7
    else (s.endStage5 lanes).start.stage = 6 ∧ (s.endStage5 lanes).arch.state = 1 := by
  have either : ∀ full : Bool, (if full then 1 else 2) ≠ 3 := by decide
  unfold State.endStage5
  dsimp only
  generalize ended : s.endStage _ = t
  have kept : t.arch = s.arch ∧ t.host = s.host ∧ t.timeBase = s.timeBase := ended ▸ s.endStage_keeps _
  have next : t.start.stage = 6 := by
    rw [← ended, (State.endStage_passed (either _)).2, stage]
  rw [← kept.1]
  by_cases alone : t.arch.topology = 0
  · rw [if_pos alone, if_pos alone]
    exact ⟨(t.endStage_keeps _).2.1.trans kept.2.1, (State.endStage_passed (by decide)).2.trans (congrArg (· + 1) next)⟩
  · rw [if_neg alone, if_neg alone]
    obtain ⟨start, host, joins⟩ := State.trainEngines_keeps { t with arch := { t.arch with state := 1, announced := 0 } }
    refine ⟨host.trans kept.2.1, ?_, ?_⟩
    · rw [start, next]
    · rw [joins]

theorem State.endStage6_ends (stage : s.start.stage = 6) : s.endStage6.start.stage = 7 := by
  have either : ∀ whole : Bool, (if whole then 1 else 2) ≠ 3 := by decide
  exact (State.endStage_passed (either _)).2.trans (congrArg (· + 1) stage)

theorem State.hostPort_modHostPort_other (s : State) {i k : Nat} (f : HostPort → HostPort) (other : k ≠ i) :
    (s.modHostPort i f).hostPort k = s.hostPort k := SMap.getD_put_other _ _ _ other

/-- The sub-ports that trained, of those that the image's modes use. -/
theorem State.portsUp_up (s : State) (up : Nat) (byte : up < 256) :
    ((s.portsUp up).hostPort 0).up.toNat = up % 16 % 2 ^ subPortsOf (s.hostPort 0).mode ∧
    ((s.portsUp up).hostPort 1).up.toNat = up / 16 % 2 ^ subPortsOf (s.hostPort 1).mode := by
  have nibble : ∀ a b : Nat, (BitVec.ofNat 4 (a % 16 % b)).toNat = a % 16 % b := fun a b => by
    rw [BitVec.toNat_ofNat]
    exact Nat.mod_eq_of_lt ((Nat.mod_le _ _).trans_lt (Nat.mod_lt _ (by decide)))
  unfold State.portsUp
  dsimp only
  constructor
  · rw [State.hostPort_modHostPort_other _ _ (by decide), State.hostPort_modHostPort, nibble, pow_zero, Nat.div_one]
  · rw [State.hostPort_modHostPort, nibble, State.hostPort_modHostPort_other _ _ (by decide), pow_one, Nat.mod_eq_of_lt (by omega : up / 16 < 16)]

end

/-! ### The join (09 R247, R252) -/

/-- `t` differs from `s` by its engines. -/
def State.OnEngines (s t : State) : Prop := t = { s with arch := { s.arch with engines := t.arch.engines } }

section
variable {s : State}

theorem State.engineTrained_onEngines (s : State) (e : Nat) (up : Bool) : s.OnEngines (s.engineTrained e up) := by
  unfold State.engineTrained
  split
  · rfl
  · split <;> rfl

theorem State.engineTrained_other (s : State) {e k : Nat} (up : Bool) (other : k ≠ e) : (s.engineTrained e up).engine k = s.engine k := by
  unfold State.engineTrained
  split
  · rfl
  · split
    · exact s.useLanes_other other
    · exact State.engine_modEngine_other _ other

/-- An engine of a trunk that was training is in service on its good lanes, or out of it. -/
theorem State.engineTrained_state {e : Nat} (up : Bool) (linked : (s.arch.trunkOf e).isSome) (trains : (s.engine e).state = 1) :
    ((s.engineTrained e up).engine e).state =
      if up ∧ 4 ≤ ({ s.engine e with laneUse := firstEight (s.engine e).good } : Engine).width then 2 else 3 := by
  unfold State.engineTrained
  rw [if_neg (by simp [trains, Option.isSome_iff_ne_none.1 linked])]
  cases up with
  | false =>
    rw [if_neg (by simp), State.engine_modEngine, if_neg (by simp)]
  | true =>
    rw [if_pos ⟨rfl, trains⟩, State.useLanes_engine, Engine.onLanes]
    split
    next wide => exact (if_pos ⟨rfl, wide⟩).symm
    next narrow => exact (if_neg fun h => narrow h.2).symm

/-- The engines that trained, each by its own. -/
def State.enginesTrained (s : State) (engines : Nat) : State :=
  (List.range 24).foldl (fun t e => t.engineTrained e (engines / 2 ^ e % 2 == 1)) s

theorem State.OnEngines.foldl (f : Nat → Bool) (l : List Nat) (s : State) : s.OnEngines (l.foldl (fun t e => t.engineTrained e (f e)) s) :=
  foldl_related (R := State.OnEngines) (fun _ => rfl) (fun h k => by
    unfold State.OnEngines at *
    rw [k, h]) (fun x _ t => t.engineTrained_onEngines x (f x)) s

theorem State.foldl_engineTrained_other (f : Nat → Bool) {l : List Nat} {k : Nat} (absent : k ∉ l) (s : State) :
    (l.foldl (fun t e => t.engineTrained e (f e)) s).engine k = s.engine k :=
  foldl_related (R := fun a b : State => b.engine k = a.engine k) (fun _ => rfl) (fun h k => k.trans h)
    (fun x listed t => t.engineTrained_other (f x) fun same => absent (same ▸ listed)) s

theorem State.enginesTrained_state (engines : BitVec 24) {e : Nat} (inside : e < 24) (linked : (s.arch.trunkOf e).isSome)
    (trains : (s.engine e).state = 1) : ((s.enginesTrained engines.toNat).engine e).state =
      if engines.getLsbD e ∧ 4 ≤ ({ s.engine e with laneUse := firstEight (s.engine e).good } : Engine).width then 2 else 3 := by
  have bit : (engines.toNat / 2 ^ e % 2 == 1) = engines.getLsbD e := by
    rw [BitVec.getLsbD, Nat.testBit_eq_decide_div_mod_eq]
    rfl
  obtain ⟨a, b, split⟩ := List.append_of_mem (List.mem_range.2 inside)
  have once : (a ++ e :: b).Nodup := split ▸ List.nodup_range
  have alone := (List.nodup_cons.1 (List.nodup_middle.1 once)).1
  rw [List.mem_append, not_or] at alone
  unfold State.enginesTrained
  rw [split, List.foldl_append, List.foldl_cons, State.foldl_engineTrained_other _ alone.2]
  generalize before : a.foldl _ s = t
  have same : t.engine e = s.engine e := before ▸ State.foldl_engineTrained_other _ alone.1 s
  have frame : s.OnEngines t := before ▸ State.OnEngines.foldl _ a s
  rw [bit, t.engineTrained_state _ (by rw [frame]; exact linked) (by rw [same]; exact trains), same]

/-- A join that is done: the map is in effect with the engines that trained, and its time base stands. -/
theorem joinDone_joins {members : W64} {epoch : W16} {master deputy : Nat} {time : W64} {engines : Nat} (waits : s.arch.state = 1)
    (begun : s.inStage 6 = true ∨ s.start.ready = true) :
    ∃ v u : State, (v.arch.seat = s.arch.seat ∧ v.start = s.start ∧ v.arch.engines = (s.enginesTrained engines).arch.engines) ∧
      (v.mapped 2 members epoch master deputy).Reacts u ∧
      joinDone members epoch master deputy time engines s = if s.start.ready then u.stepTime time else (u.stepTime time).endStage6 := by
  have trained : s.OnEngines (s.enginesTrained engines) := State.OnEngines.foldl _ _ s
  have once : (List.range 24).foldl (fun t e => t.engineTrained e (engines / 2 ^ e % 2 == 1)) s = s.enginesTrained engines := rfl
  have goes : ¬(s.arch.state ≠ 1 ∨ (!(s.inStage 6 || s.start.ready)) = true) := by
    simpa [waits, or_iff_not_imp_left] using begun
  unfold joinDone
  rw [if_neg goes, once]
  generalize s.enginesTrained engines = v at trained ⊢
  unfold State.OnEngines at trained
  refine ⟨{ v with arch := { v.arch with timeOffset := 0 } }, _, ⟨?_, ?_, rfl⟩,
    (State.setMap_reacts _ 2 members epoch master deputy).trans (State.reportAgain_reacts _), rfl⟩
  · rw [trained]
  · rw [trained]

/-- The end of stage 6, where the start is still under way, keeps the archipelago and the time base. -/
theorem State.joinEnd_keeps (u : State) (ready : Bool) : (if ready then u else u.endStage6).arch = u.arch ∧
    (if ready then u else u.endStage6).timeBase = u.timeBase := by
  cases ready with
  | true => exact ⟨rfl, rfl⟩
  | false => exact ⟨(u.endStage_keeps _).1, (u.endStage_keeps _).2.2⟩

end

/-! ### Ready (11 R301, R330, 14 R409, R410) -/

/-- `t` is `s` after notices and entries of one journal. -/
structure State.Logs (s t : State) : Prop where
  notifies : s.Notifies t
  journal : t.journal.id = s.journal.id

section
variable {s t u : State}

theorem State.Logs.refl (s : State) : s.Logs s := ⟨.refl s, rfl⟩

theorem State.Logs.trans (h : s.Logs t) (k : t.Logs u) : s.Logs u := ⟨h.notifies.trans k.notifies, k.journal.trans h.journal⟩

theorem State.mirrorOut_logs (s : State) (e : JEntry) : s.Logs (s.mirrorOut e) := by
  refine ⟨s.mirrorOut_notifies e, ?_⟩
  unfold State.mirrorOut
  split
  · rfl
  · exact congrArg Journal.id (State.leaveStrait_leaves _ _ _).journal

theorem State.countTx_logs (s : State) (sid : W64) (bytes : Nat) : s.Logs (s.countTx sid bytes) := by
  refine ⟨s.countTx_notifies sid bytes, ?_⟩
  unfold State.countTx
  split
  · rfl
  · dsimp only
    split <;> rfl

theorem State.journalPut_logs (s : State) (e : JEntry) : s.Logs (s.journalPut e) := by
  have entered : ∀ (j : Journal) (b : Bool) (e : JEntry), j.id = s.journal.id →
      s.Logs (if b then ({ s with journal := j } : State).mirrorOut e else { s with journal := j }) := fun j b e same => by
    split
    · exact State.Logs.trans (t := { s with journal := j }) ⟨rfl, same⟩ (State.mirrorOut_logs _ e)
    · exact ⟨rfl, same⟩
  unfold State.journalPut
  dsimp only
  split
  · exact ((entered _ _ _ (by rfl)).trans ⟨State.emit_notifies _ _, rfl⟩).trans (State.countTx_logs _ _ _)
  · exact entered _ _ _ (by rfl)

theorem State.journalWrite_logs (s : State) (kind : Nat) (code : W16) (turn : Nat) (who : Concern) (detail : List Byte) :
    s.Logs (s.journalWrite kind code turn who detail) := by
  unfold State.journalWrite
  dsimp only
  split
  · exact s.journalPut_logs _
  · exact ⟨rfl, rfl⟩

/-- The entries that the start kept enter the journal. -/
theorem State.flushDeferred_logs (s : State) : s.Logs s.flushDeferred :=
  State.Logs.trans (t := { s with start := { s.start with deferred := [] } }) ⟨rfl, rfl⟩
    (foldl_related State.Logs.refl State.Logs.trans (fun e _ t => t.journalPut_logs e) _)

theorem State.coolingEvent_logs (s : State) : s.Logs s.coolingEvent := by
  unfold State.coolingEvent
  split
  · exact State.Logs.trans (t := s.countEvent evCoolingFallback) ⟨s.countEvent_notifies _, rfl⟩ (State.journalWrite_logs _ _ _ _ _ _)
  · exact .refl s

theorem State.firmwareStarted_logs (s : State) (kind outcome : Nat) (version refused : W64) :
    s.Logs (s.firmwareStarted kind outcome version refused) := by
  unfold State.firmwareStarted
  split
  · exact .refl s
  · exact s.journalWrite_logs _ _ _ _ _

/-- The module is ready: a new journal is open, and the running firmware is committed (11 R301, 14 R409). -/
def State.madeReady (s t : State) : State := ({ t with
  freeCtr := t.freeCtr + 1, nv := t.nv.commitFirmware s.start, journal := { t.journal with id := Config.free64 t.freeCtr }
  start := { t.start with ready := true, active := false, stage := 7, tfTrial := false, opfwTrial := false } } : State).alert 0

/-- Stage 7 ends with its report, and what follows is entries of the new journal. -/
theorem readyStage_logs (ms : Nat) (stage : s.inStage 7 = true) : ∃ e : StageEnd, e.outcome ≠ 3 ∧
    (s.madeReady (s.endStage e)).Logs (readyStage ms s) := by
  refine ⟨{ outcome := 1, detail := s.detail7 ms }, show 1 ≠ 3 by decide, ?_⟩
  unfold readyStage
  rw [if_neg (by rw [stage]; exact Bool.false_ne_true)]
  exact (((State.flushDeferred_logs _).trans (State.coolingEvent_logs _)).trans (State.firmwareStarted_logs _ _ _ _ _)).trans
    (State.firmwareStarted_logs _ _ _ _ _)

theorem getLsbD_or_one (x : BitVec 3) : (x ||| 1).getLsbD 0 = true := by
  rw [BitVec.getLsbD_or, show (1 : BitVec 3).getLsbD 0 = true by decide, Bool.or_true]

theorem getLsbD_or_two (x : BitVec 3) : (x ||| 2).getLsbD 1 = true := by
  rw [BitVec.getLsbD_or, show (2 : BitVec 3).getLsbD 1 = true by decide, Bool.or_true]

/-- A trial that has come up is proven (14 R409). -/
theorem Nv.commitFirmware_proves (n : Nv) (st : Start) : (st.tfTrial = true → (n.commitFirmware st).proven.getLsbD 0 = true) ∧
    (st.opfwTrial = true → (n.commitFirmware st).proven.getLsbD 1 = true) := by
  unfold Nv.commitFirmware
  dsimp only
  refine ⟨fun trial => ?_, fun trial => ?_⟩
  · rw [if_pos trial]
    split
    · rw [BitVec.getLsbD_or, getLsbD_or_one, Bool.true_or]
    · split
      · rw [BitVec.getLsbD_and, getLsbD_or_one]
        rfl
      · exact getLsbD_or_one _
  · rw [if_pos trial]
    exact getLsbD_or_two _

/-! ### The obligation -/

theorem stageLimitExpiry_links (stage : s.inStage 5 = true) :
    stageLimitExpiry s = (s.portsUp ((s.hostPort 0).up.toNat + (s.hostPort 1).up.toNat * 16)).endStage5 0 := by
  obtain ⟨active, five⟩ := State.inStage_start stage
  unfold stageLimitExpiry
  rw [if_neg (by simp [active]), if_neg (by omega), if_pos stage]

theorem stageLimitExpiry_join (stage : s.inStage 6 = true) : stageLimitExpiry s = s.endStage6 := by
  obtain ⟨active, six⟩ := State.inStage_start stage
  have later : s.inStage 5 = false := by simp [State.inStage, six]
  unfold stageLimitExpiry
  rw [if_neg (by simp [active]), if_neg (by omega), if_neg (by simp [later]), if_pos stage]

/-- Host links end stage 5 with the sub-ports that trained. -/
theorem hostLinkUpDone_ends (stage : s.inStage 5 = true) (up : Byte) (lanes : Nat) : let t := hostLinkUpDone up.toNat lanes s
    (if s.arch.topology = 0 then t.start.stage = 7 else t.start.stage = 6 ∧ t.arch.state = 1) ∧
    (t.hostPort 0).up.toNat = up.toNat % 16 % 2 ^ subPortsOf (s.hostPort 0).mode ∧
    (t.hostPort 1).up.toNat = up.toNat / 16 % 2 ^ subPortsOf (s.hostPort 1).mode := by
  obtain ⟨hosts, ends⟩ := State.endStage5_ends (s := s.portsUp up.toNat) (State.inStage_start stage).2 lanes
  have ports : ∀ k, ((s.portsUp up.toNat).endStage5 lanes).hostPort k = (s.portsUp up.toNat).hostPort k := fun k => by
    rw [State.hostPort, hosts, State.hostPort]
  unfold hostLinkUpDone
  rw [if_pos stage]
  dsimp only
  rw [ports, ports]
  exact ⟨ends, s.portsUp_up up.toNat up.isLt⟩

/-- A join sets the map, the role and the time base, ends stage 6, and leaves its engines as they trained. -/
theorem joinDone_sets (members : W64) (epoch : W16) (master deputy : Nat) (time : W64) (engines : BitVec 24) (waits : s.arch.state = 1)
    (begun : s.inStage 6 = true ∨ s.start.ready = true) : let t := joinDone members epoch master deputy time engines.toNat s
    t.arch.state = 2 ∧ t.arch.members = members ∧ t.arch.epoch = epoch ∧ t.arch.master = master ∧ t.arch.deputy = deputy ∧
      t.arch.role = (if s.arch.seat = master then 3 else if s.arch.seat = deputy then 2 else 1) ∧ t.timeBase = time ∧
      t.start.stage = (if s.start.ready then s.start.stage else 7) ∧
      ∀ e, (t.engine e).state = ((s.enginesTrained engines.toNat).engine e).state := by
  obtain ⟨v, u, ⟨seat, start, trained⟩, mapped, joins⟩ := joinDone_joins (members := members) (epoch := epoch) (master := master) (deputy := deputy)
    (time := time) (engines := engines.toNat) waits begun
  dsimp only
  rw [joins]
  obtain ⟨arch, base⟩ := (u.stepTime time).joinEnd_keeps s.start.ready
  obtain ⟨stateNow, membersNow, epochNow, masterNow, deputyNow, roleNow⟩ := mapped.attends.map
  have stage : u.start.stage = s.start.stage := by
    rw [mapped.attends, ← start]
    rfl
  have engine : ∀ e, (u.engine e).state = ((s.enginesTrained engines.toNat).engine e).state := fun e => by
    have wired : (u.engine e).state = (v.engine e).state := (congrArg Engine.state (mapped.told.2 e) :)
    rw [wired, State.engine, trained, State.engine]
  rw [arch, base]
  refine ⟨stateNow, membersNow, epochNow, masterNow, deputyNow, roleNow.trans ?_, rfl, ?_, fun e => ?_⟩
  · rw [← seat]
    rfl
  · cases ready : s.start.ready with
    | true => exact stage
    | false =>
      have six : s.start.stage = 6 := (State.inStage_start (begun.resolve_right (by simp [ready]))).2
      exact State.endStage6_ends (s := u.stepTime time) (stage.trans six)
  · rw [← engine e, State.engine, arch]
    rfl

/-- Ready opens a journal under a new ID and makes the running firmware active, a trial's proven. -/
theorem readyStage_sets (ms : Nat) (stage : s.inStage 7 = true) : let t := readyStage ms s
    t.start.ready = true ∧ t.start.active = false ∧ t.start.stage = 7 ∧ t.start.tfTrial = false ∧ t.start.opfwTrial = false ∧
      t.journal.id = Config.free64 s.freeCtr ∧ t.chassis.alerts = s.chassis.alerts ||| 1 ∧ t.nv = s.nv.commitFirmware s.start := by
  obtain ⟨e, passed, logs⟩ := readyStage_logs ms stage
  have only : (s.endStage e).freeCtr = s.freeCtr ∧ (s.endStage e).nv = s.nv := by
    rw [s.endStage_onlyStart e]
    exact ⟨rfl, rfl⟩
  have start : (readyStage ms s).start = { (s.madeReady (s.endStage e)).start with deferred := (readyStage ms s).start.deferred } :=
    congrArg State.start logs.notifies
  have rest : (readyStage ms s).chassis = (s.madeReady (s.endStage e)).chassis ∧ (readyStage ms s).nv = (s.madeReady (s.endStage e)).nv := by
    rw [logs.notifies]
    exact ⟨rfl, rfl⟩
  dsimp only
  rw [start, rest.1, rest.2, logs.journal]
  refine ⟨rfl, rfl, rfl, rfl, rfl, congrArg Config.free64 only.1, ?_, congrArg (Nv.commitFirmware · s.start) only.2⟩
  exact congrArg (fun x : Chassis => x.alerts ||| 1) (State.endStage_quiet passed).1

end

/-- Settles O52: stage 5 by the ports that come up and the stages that end, the join by its map and the engines that trained, and ready by
its commit and the entries that follow it. -/
theorem linksJoinAndReady : Obligations.LinksJoinAndReady := by
  unfold Obligations.LinksJoinAndReady
  intro s ended
  refine ⟨fun stage => ⟨fun up lanes => ⟨_, rfl, hostLinkUpDone_ends stage up lanes.toNat⟩, _, rfl, ?_⟩, fun stage => ⟨_, rfl, ?_⟩,
    fun members epoch master deputy time engines waits begun => ?_, fun ms stage => ?_⟩
  · rw [stageLimitExpiry_links stage]
    exact (State.endStage5_ends (s := s.portsUp _) (State.inStage_start stage).2 0).2
  · rw [stageLimitExpiry_join stage]
    exact ⟨State.endStage6_ends (State.inStage_start stage).2, (s.endStage_keeps _).1⟩
  · obtain ⟨state, map, ep, ma, de, role, base, stage, trained⟩ := joinDone_sets members epoch master.val deputy.val time engines waits begun
    refine ⟨_, rfl, state, map, ep, ma, de, role, base, stage, fun e inside linked trains => ?_⟩
    rw [trained, State.enginesTrained_state engines inside linked trains]
  · obtain ⟨ready, active, stage, tf, opfw, journal, alerts, nv⟩ := readyStage_sets ms.toNat stage
    obtain ⟨provenTf, provenOpfw⟩ := s.nv.commitFirmware_proves s.start
    refine ⟨_, rfl, ready, active, stage, tf, opfw, journal, alerts, ?_⟩
    rw [nv]
    exact ⟨rfl, rfl, rfl, provenTf, provenOpfw⟩

end Sys2Proof.Machine
